-- ==== Sys2Proof/Word.lean ====
section
/-! DEFINITION. The word types of the Halyn model and the shape of a sparse table.
R8 and R9: register data and Dadin words are 32-bit words, and wire formats are bytes. -/
namespace Sys2Proof

/-- A 32-bit register or Dadin word (R9). -/
abbrev Word := BitVec 32

/-- A byte of a frame or of buffer memory (R9). -/
abbrev Byte := BitVec 8

/-- A sparse table: pairs of a key and an entry, keys strictly rising. -/
abbrev Table (α : Type) := List (Nat × α)

/-- The word that holds the number `n`, modulo 2^32. -/
def w32 (n : Nat) : Word := BitVec.ofNat 32 n

/-- Bit `i` of a word, as a truth value (R8). -/
def bitOf (w : Word) (i : Nat) : Bool := w.getLsbD i

/-- The number in bits [hi:lo] of a word (R8). -/
def fieldOf (w : Word) (hi lo : Nat) : Nat := (w.toNat >>> lo) % 2 ^ (hi + 1 - lo)

/-- 1 for true, 0 for false. -/
def b2n (b : Bool) : Nat := if b then 1 else 0

end Sys2Proof
end

