-- ==== Sys2Proof/Syntax.lean ====
section
/-! DEFINITION. The commands of the Halyn: one constructor for each row of the table of operations and events.
A Dadin command carries its packet; a register access carries its path, address and data; an event carries what happened
outside the part: the bytes received, the levels and values measured, the time that passed. -/
namespace Sys2Proof

/-- The two paths on which registers are accessed and commands arrive (R135, R191). -/
inductive Path where
  | host | mgmt
  deriving DecidableEq, Repr

/-- What a request on PCIe reaches: a register of BAR0 in a request of 8 bytes or less, the register windows in a longer
one, BAR2, or configuration space (R155, R177, R178). On every other path it is `bar0`. -/
inductive PcieReq where
  | bar0 | wide | bar2 | config
  deriving DecidableEq, Repr

/-- A request to the register space: its path, and what it reaches on PCIe. -/
structure BusReq where
  path : Path
  pcie : PcieReq := .bar0
  deriving DecidableEq, Repr

/-- The command byte that opens a management port write, and the address that follows it (R184). -/
structure MsHead where
  cmd : Byte
  addr : BitVec 24
  deriving DecidableEq, Repr

/-- MSI-X vectors that the host unmasks in the table; with `function` it also writes the message control, with MSI-X Enable
set and Function Mask clear (R201, R203). -/
structure Unmask where
  vectors : BitVec 32
  function : Bool
  deriving DecidableEq, Repr

/-- What is measured of a reference: its average frequency error against the oscillator, in the unit of MCK_FREQ, and its
peak-to-peak phase over the last second, in ns (R392, R393). -/
structure RefSeen where
  freq : Int
  pp : Nat
  deriving DecidableEq, Repr

/-- The operating modes (R79). -/
inductive Mode where
  | moored | watch | boot | quiet | service | island | safe | test
  deriving DecidableEq, Repr

/-- The straps latched at POR_N rising (R49, R167). -/
structure Straps where
  hostSel : Bool := false
  bootSrc : BitVec 2 := 0
  cascRole : BitVec 2 := 0
  msAddr : BitVec 2 := 0
  deriving DecidableEq, Repr

/-- A Dadin command packet as it is taken in, without its opcode (R210 to R216). -/
structure Pkt where
  path : Path := .host
  tag : BitVec 7 := 0
  /-- The expert form. -/
  x : Bool := false
  s : Bool := false
  c : Bool := false
  seq : Byte := 0
  params : List Word := []
  /-- The check word of a packet with C is right (R215). -/
  checkOk : Bool := true
  deriving DecidableEq, Repr

/-- Error flags of a received frame (R297). -/
structure FrameErrs where
  fcs : Bool := false
  align : Bool := false
  sym : Bool := false
  deriving DecidableEq, Repr

/-- A source or sink stroke that an upset changed since its CRC was formed, so that its check fails (R42, R43). -/
structure Upset where
  /-- Source or sink ID of R17 and R20. -/
  id : Nat
  /-- Where a double-bit error of buffer memory caused it: physical bank and word (R253). -/
  ded : Option (Nat × Nat) := none
  deriving DecidableEq, Repr

/-- An error that detection finds in a word that is read from buffer memory (R253). -/
structure Ecc where
  /-- Physical bank and word. -/
  bank : Nat
  word : Nat
  /-- A double-bit error, which is not corrected. -/
  ded : Bool := false
  /-- The bits that a double-bit error changed in the 32 bits read, and the payload byte of the item where those begin. -/
  flips : Word := 0
  off : Nat := 0
  deriving DecidableEq, Repr

/-- An access of the buffer-memory view: the word written, or a read, which may meet an error (R253, R284). -/
inductive ViewAct where
  | write (w : Word)
  | read (ecc : Option Ecc)
  deriving DecidableEq, Repr

/-- What the reads since the last Catch met: the source strokes that have changed since their CRC was formed, and the
single-bit errors corrected, by physical bank and word (R43, R253). -/
structure CatchErrs where
  upset : List Upset := []
  ce : List (Nat × Nat) := []
  deriving DecidableEq, Repr

/-- A queue that a port or CMD reads, and the error that the read meets, if any (R253). -/
structure QueueRead where
  q : Nat
  ecc : Option Ecc := none
  deriving DecidableEq, Repr

/-- A read after an interval, and the error that it meets, if any (R253). -/
structure TimedRead where
  dt : Nat
  ecc : Option Ecc := none
  deriving DecidableEq, Repr

/-- The timers of a PTP instance (R356). -/
inductive PtpTimer where
  | announce | sync | delay | receipt
  deriving DecidableEq, Repr

/-- The commands of the Halyn, in the order of the table. -/
inductive Instr where
  /-- Checks the transport and, in the expert form, holds its tag until the end of a set delay. (R241) -/
  | nop (p : Pkt)
  /-- The delay of an expert NOP runs out, and the command reaches its commit point and completes. (R231) -/
  | nopDelayEnd
  /-- Returns a consistent snapshot of the whole device state, or one of its bitmap pages, and changes nothing. (R243) -/
  | weighIn (p : Pkt)
  /-- Aborts a target tag that has not committed, or reports that there is nothing to abort. (R233) -/
  | abort (p : Pkt)
  /-- Requests QUIET, SERVICE, ISLAND, SAFE or TEST, through the power handshake except for SAFE. (R128) -/
  | modeSet (p : Pkt)
  /-- Requests MOORED or WATCH through the power handshake. (R130) -/
  | powerRequest (p : Pkt)
  /-- Defines, replaces or removes one receive stream and its allocation and bindings. (R481) -/
  | srxDefine (p : Pkt)
  /-- Enables receive streams, which become WAITING and start presenting at a stroke boundary. (R483) -/
  | srxEnable (p : Pkt)
  /-- Stops receive streams accepting frames and drains them through a fade stroke. (R484) -/
  | srxDisable (p : Pkt)
  /-- Returns a snapshot of one receive stream and optionally clears its counters. (R485) -/
  | srxQuery (p : Pkt)
  /-- Changes the bindings, and optionally the SSRC, of an enabled receive stream at a stroke boundary. (R486) -/
  | srxRetarget (p : Pkt)
  /-- Defines, replaces or removes one transmit stream and its templates, allocation and bindings. (R516) -/
  | stxDefine (p : Pkt)
  /-- Enables transmit streams at a stroke boundary. (R518) -/
  | stxEnable (p : Pkt)
  /-- Disables transmit streams after their last packet, optionally dropping the Re-row store. (R519) -/
  | stxDisable (p : Pkt)
  /-- Returns a snapshot of one transmit stream and optionally clears its counters. (R520) -/
  | stxQuery (p : Pkt)
  /-- Writes or removes one header template slot. (R521) -/
  | stxTemplate (p : Pkt)
  /-- Defines or removes one conference bus in a Drive bank. (R568) -/
  | busDefine (p : Pkt)
  /-- Sets or removes up to 62 members of one bus with their gains and a ramp. (R569) -/
  | memberSet (p : Pkt)
  /-- Defines, replaces or removes one listener mix with its subscriptions and self list. (R570) -/
  | listenSet (p : Pkt)
  /-- Sets or removes direct crosspoints of a listener, or writes sink feeds. (R571) -/
  | xpointSet (p : Pkt)
  /-- Changes the gains of up to 31 existing terms from the same sample. (R572) -/
  | gainSet (p : Pkt)
  /-- Sets the automatic gating of one bus. (R573) -/
  | gateConfig (p : Pkt)
  /-- Replaces the whole duck target list of one ducker bus. (R574) -/
  | duckSet (p : Pkt)
  /-- Swaps the Drive banks at a stroke boundary, optionally at a named stroke. (R575) -/
  | drvBankSwap (p : Pkt)
  /-- Returns a snapshot of the Drive summary, a bus, a listener, sink feeds or levels. (R576) -/
  | drvQuery (p : Pkt)
  /-- Configures one reference, or the core rate and stroke size in its core form. (R421) -/
  | refConfig (p : Pkt)
  /-- Sets the ranks of all six references and the selection policy in one cycle. (R423) -/
  | refRank (p : Pkt)
  /-- Sets the holdover limit and error model and returns the expiry time. (R424) -/
  | holdoverConfig (p : Pkt)
  /-- Moves the stroke grid and clock outputs onto the alignment target at one boundary. (R425) -/
  | alignOutputs (p : Pkt)
  /-- Returns a snapshot of the media clock or of one reference. (R426) -/
  | mckQuery (p : Pkt)
  /-- Sets the PTP control, profile, domain and servo parameters. (R382) -/
  | ptpConfig (p : Pkt)
  /-- Configures and enables one port's PTP instance under basic control. (R383) -/
  | ptpPort (p : Pkt)
  /-- Sets, steps, slews or rate-adjusts Network Time when basic control is off. (R384) -/
  | timeSet (p : Pkt)
  /-- Writes one Start List entry and optionally arms it. (R385) -/
  | startlistLoad (p : Pkt)
  /-- Arms the LOADED Start List entries in a range. (R386) -/
  | startlistArm (p : Pkt)
  /-- Cancels or clears Start List entries in a range. (R387) -/
  | startlistCancel (p : Pkt)
  /-- Writes instructions into one Rudder bank of the named engines and seals it on request. (R344) -/
  | rudLoad (p : Pkt)
  /-- Makes a sealed Rudder bank active at a packet boundary. (R345) -/
  | rudSwap (p : Pkt)
  /-- Sets or removes flow-table entries. (R346) -/
  | flowSet (p : Pkt)
  /-- Replaces the whole configuration of one Slip queue and discards its contents. (R285) -/
  | queueConfig (p : Pkt)
  /-- Returns a snapshot of one Slip queue. (R287) -/
  | queueQuery (p : Pkt)
  /-- Replaces the configuration of one network port and enables or disables it. (R318) -/
  | portConfig (p : Pkt)
  /-- Restarts the PCS, and optionally the SerDes, of an enabled port without changing its configuration. (R320) -/
  | portRestart (p : Pkt)
  /-- Returns one port's counters or extensions as one snapshot and optionally clears them. (R321) -/
  | portStats (p : Pkt)
  /-- Replaces the configuration of one TDM port and sets its enable. (R597) -/
  | tdmConfig (p : Pkt)
  /-- Restarts one enabled TDM port, which resumes at a later stroke boundary. (R598) -/
  | tdmRestart (p : Pkt)
  /-- Sets the Rate Aligner settings of one receive stream. (R539) -/
  | ralConfig (p : Pkt)
  /-- Returns the Rate Aligner load or one stream's conversion state. (R540) -/
  | ralQuery (p : Pkt)
  /-- Sets up the Obien link, tunnels a command to a Seat, sets lane owners or sends the wake pattern. (R632) -/
  | cascadeConfig (p : Pkt)
  /-- Returns a snapshot of the cascade link or of one Seat. (R634) -/
  | cascadeStatus (p : Pkt)
  /-- Writes one chunk of a patch image into the inactive patch bank and verifies it on the last chunk. (R655) -/
  | patchLoad (p : Pkt)
  /-- Makes the staged patch active, or reverts to ROM, by a Command Processor restart. (R656) -/
  | patchSwap (p : Pkt)
  /-- Starts a migration of a logical memory bank to a spare, or clears the retired mask. (R288) -/
  | bankRepair (p : Pkt)
  /-- Returns the state of every buffer memory bank and optionally clears the error counts. (R289) -/
  | bankStatus (p : Pkt)
  /-- Sets a loopback point on a network or Obien port in TEST. (R663) -/
  | loopback (p : Pkt)
  /-- Runs a march test of the spare banks and PRBS tests of looped-back ports in TEST. (R664) -/
  | bist (p : Pkt)
  /-- Raises an Umpire fault as if its unit had detected it, in TEST. (R665) -/
  | faultInject (p : Pkt)
  /-- A command that waited under S or for a shared object starts and proceeds to its commit point. (R228) -/
  | commandStartAfterWait
  /-- On PCIe the Halyn fetches a command slot from the command ring and takes the packet in. (R189) -/
  | commandFetch (slot : List Word)
  /-- A word written to the command port builds a packet, which enters the command queue whole. (R191) -/
  | commandPortWrite (path : Path) (w : Word)
  /-- A read of the reply port removes and returns the next reply word for the path, or zero. (R183) -/
  | replyPortRead (path : Path)
  /-- A held reply is posted once the reply ring has room and the transport is enabled. (R190) -/
  | replyPost
  /-- MSI-X vector 1 is sent for ring index advances, at most once per 2 µs. (R201) -/
  | vector1Message
  /-- Writing GO submits a basic WEIGH_IN on the reserved path without a tag. (R192) -/
  | hifWeighGo (path : Path)
  /-- The host writes the command doorbell, making new command slots available. (R189) -/
  | hifCqTailWrite (path : Path) (v : Word)
  /-- The host advances the reply ring head as it consumes replies. (R189) -/
  | hifRqHeadWrite (path : Path) (v : Word)
  /-- Setting or clearing the command transport enable, which zeroes the indices or is refused. (R189) -/
  | hifQCfgEnWrite (path : Path) (v : Word)
  /-- Setting or clearing an audio ring enable, which takes effect at a stroke boundary or is refused. (R193) -/
  | hifRingEnWrite (path : Path) (ring : Nat) (v : Word)
  /-- PCIe reset asserted: the host path is lost and configuration space resets. (R180) -/
  | pePerstNLow
  /-- The PCIe link goes down or takes a hot reset, and the host path is lost. (R180) -/
  | pcieLinkDown
  /-- The PCIe link comes up after training. (R204) -/
  | pcieLinkUp (width : BitVec 2) (speed : BitVec 2)
  /-- Bus Master Enable is cleared after being set, and the host path is lost. (R180) -/
  | bmeCleared
  /-- The function enters D3hot, and the host path is lost. (R180) -/
  | d3hotEntered
  /-- A management port transaction writes one word at an address. (R184) -/
  | msWriteOne (head : MsHead) (w : Word) (complete : Bool)
  /-- A management port transaction writes two words in consecutive cycles, forming a keyed write. (R184) -/
  | msWriteTwo (addr : BitVec 24) (w0 : Word) (w1 : Word) (complete : Bool)
  /-- A management port transaction reads one to four words with a status byte. (R184) -/
  | msRead (cmd : Byte) (addr : BitVec 24) (complete : Bool)
  /-- A management port transaction reads the status of the last write. (R184) -/
  | msReadStatus
  /-- The management address matches and is acknowledged, starting a wake if enabled. (R108) -/
  | msAddressMatch (address : BitVec 7)
  /-- A write in any view to a register field without a row of its own, applied under its field type. (R139) -/
  | registerWrite (req : BusReq) (addr : Nat) (be : BitVec 4) (v : Word)
  /-- A normal-view read of an RC register returns and clears the bits read. (R139) -/
  | rcRead (req : BusReq) (addr : Nat) (be : BitVec 4)
  /-- A normal-view read of PMU_WAKE_REASON clears it and releases WAKE_OUT_N. (R109) -/
  | pmuWakeReasonRead (path : Path)
  /-- A normal-view read of TDM_TS latches TDM_PHASE for the same frame. (R590) -/
  | tdmTsRead (path : Path) (port : Nat)
  /-- A value word written to a keyed register opens a keyed sequence. (R147) -/
  | keyValueWrite (path : Path) (addr : Nat) (v : Word)
  /-- No complement arrives within 64 cycles, and the keyed sequence is discarded with KEY set. (R148) -/
  | keySequenceTimeout (window : Nat)
  /-- A keyed write of PMU_MODE_FORCE forces QUIET without a handshake. (R118) -/
  | modeForceQuiet (path : Path)
  /-- A keyed write of PMU_MODE_FORCE forces SAFE without a handshake. (R118) -/
  | modeForceSafe (path : Path)
  /-- A keyed write of PMU_MODE_FORCE forces MOORED without a handshake. (R118) -/
  | modeForceMoored (path : Path)
  /-- A keyed write of CYCLE to PMU_RAIL lowers every enable, waits T_OFF and returns to BOOT. (R119) -/
  | railCycle (path : Path)
  /-- A keyed write of GLB_RESET.CMD restarts the Command Processor. (R172) -/
  | cmdReset (path : Path)
  /-- A keyed write opens the raw factory-record read path. (R173) -/
  | otpOpen (path : Path)
  /-- A keyed write closes the raw factory-record read path. (R173) -/
  | otpClose (path : Path)
  /-- A keyed write of NPx_SERDES_RESET performs a port restart with the SerDes. (R317) -/
  | serdesReset (path : Path) (port : Nat)
  /-- A keyed write of CMD_PATCH_SWAP swaps in the staged patch without a tag. (R657) -/
  | patchSwapKeyed (path : Path)
  /-- A keyed write of CMD_PATCH_SWAP with REVERT returns to ROM level 3.1.0. (R657) -/
  | patchRevertKeyed (path : Path)
  /-- A keyed write of BUF_BANK_MAP action 1 starts a bank migration. (R292) -/
  | bankMapMigrate (path : Path) (bank : Nat)
  /-- A keyed write of BUF_BANK_MAP action 2 clears the retired mask. (R292) -/
  | bankMapUnretire (path : Path)
  /-- A write to the core rate or stroke size is tested and, if accepted, restarts the grid. (R422) -/
  | mckCoreCfgWrite (path : Path) (v : Word)
  /-- Setting or clearing a network port enable starts the SerDes or begins a disable. (R296) -/
  | npxCfgEnWrite (path : Path) (port : Nat) (v : Word)
  /-- Writing GO sends one PAUSE or PFC frame ahead of every queue. (R311) -/
  | pauseTxGo (path : Path) (port : Nat) (v : Word)
  /-- Setting or clearing the Rudder enable, refused when the bank is unsealed. (R342) -/
  | rudCtrlEnWrite (path : Path) (v : Word)
  /-- Writing RELEARN clears the latched cascade position for learning again. (R603) -/
  | oblRelearn (path : Path)
  /-- Writing ACK acknowledges every active fault whose condition has cleared. (R645) -/
  | umpireAck (path : Path)
  /-- The host opens a transmit item with a reserved size. (R271) -/
  | qOpen (path : Path) (q : Nat) (v : Word)
  /-- The host writes the next payload word of the open item. (R271) -/
  | qWdata (path : Path) (q : Nat) (v : Word)
  /-- The host commits the open item with its length. (R271) -/
  | qCommit (path : Path) (q : Nat) (v : Word)
  /-- The host reads the next word of the item at RP and advances it. (R272) -/
  | qRdata (path : Path) (q : Nat) (ecc : Option Ecc)
  /-- Moves RP to the start of the next item, or is held inside an open item. (R273) -/
  | qOpNext (path : Path) (q : Nat)
  /-- Frees every item that ends at or before RP. (R273) -/
  | qOpRelease (path : Path) (q : Nat)
  /-- Saves the start of the item at RP as the mark. (R273) -/
  | qOpMark (path : Path) (q : Nat)
  /-- Sets RP to the mark, or to FP when no mark is valid. (R273) -/
  | qOpRewind (path : Path) (q : Nat)
  /-- Removes or closes an open item that the producer abandons. (R272) -/
  | qOpAbandon (path : Path) (q : Nat)
  /-- A read or write of the buffer-memory view, writes taking effect only in TEST. (R284) -/
  | apertureMemoryAccess (path : Path) (addr : Nat) (be : BitVec 4) (act : ViewAct)
  /-- POR_N rising latches the straps, resets the always-on registers and starts the rail sequence into BOOT. (R81) -/
  | porNRise (straps : Straps)
  /-- POR_N falling drives every rail enable low and abandons any sequence. (R57) -/
  | porNFall
  /-- The sequencing interval elapses and the PMU raises the next rail enable. (R55) -/
  | railEnableStep
  /-- T_DN elapses and the PMU lowers the next rail enable. (R55) -/
  | railDisableStep
  /-- T_OFF has elapsed since the enables fell, permitting a new raise. (R57) -/
  | railOffElapsed
  /-- PWR_GOOD is not high within T_PG, and the PMU drops to MOORED with FAULT_N. (R56) -/
  | pwrGoodTimeout
  /-- PWR_GOOD stays low beyond T_PGF with all enables high, and the PMU drops to MOORED. (R56) -/
  | pwrGoodFail
  /-- The internal reset is released after PWR_GOOD and the Halyn proceeds through BOOT. (R88) -/
  | coreResetRelease (record : List Word)
  /-- The buffer memory clear completes, READY is set and queues start accepting items. (R255) -/
  | bufferClearDone
  /-- The boot flash image is read, checked and executed, or fails as an image failure. (R90) -/
  | bootImageLoad (image : List Word)
  /-- The host holds PE_WAKE_N low for 1 µs, a wake event from MOORED or WATCH. (R107) -/
  | peWakeNAsserted
  /-- A unit answers the power request with GRANT, DELAY or REFUSE, and the PMU commits when all have granted. (R97) -/
  | handshakeUnitAnswer (unit : Nat)
  /-- A unit's declared maximum delay runs out and the request fails DELAY_EXPIRED. (R99) -/
  | handshakeDelayExpired (unit : Nat)
  /-- The DELAY_CAP of the request elapses while a delay is outstanding. (R99) -/
  | handshakeDelayCap
  /-- A unit reports its part of a committed change complete. (R97) -/
  | handshakeUnitComplete (unit : Nat)
  /-- The 10 ms wait for posting a POWER_REQUEST reply ends and the PMU proceeds. (R131) -/
  | powerReplyWaitExpired
  /-- Both port links have been down for DELAY in SERVICE and ISLAND is entered automatically. (R85) -/
  | islandAutoEnter
  /-- A port link has been up for DELAY and an automatic ISLAND returns to SERVICE. (R85) -/
  | islandAutoReturn
  /-- A stroke boundary applies pending mode changes, disables, bank swaps, sink feeds, enables and grid moves. (R32) -/
  | strokeBoundary (dt : Nat)
  /-- At the Catch every source stroke is handed to the Drive engine and STX builds packets. (R30) -/
  | catchPhase (pins : List (Nat × List (List Word))) (errs : CatchErrs)
  /-- In the Drive phase the engine forms bus totals and listener mixes sample by sample. (R549) -/
  | drivePhase (playback : List (Nat × List Word))
  /-- At the Finish the Drive engine writes every sink stroke. (R30) -/
  | finishPhase (upset : List Upset)
  /-- In Recovery the device runs level, gate and duck updates, re-row commits, migration steps and window advance. (R30) -/
  | recoveryPhase
  /-- A port finishes receiving a frame, checks it and passes it to the Rudder or consumes it. (R297) -/
  | frameReceived (dt : Nat) (port : Nat) (bytes : List Byte) (errs : FrameErrs)
  /-- A pause timer runs out and its queues become eligible again. (R309) -/
  | pauseTimerExpired (port : Nat) (timer : Nat)
  /-- The link condition has held for 1 ms and LINK rises. (R295) -/
  | portLinkUp (port : Nat)
  /-- The link condition is lost and LINK falls. (R295) -/
  | portLinkDown (port : Nat)
  /-- At a frame boundary the transmitter starts the head frame of the highest eligible queue. (R302) -/
  | transmitFrameStart (dt : Nat) (port : Nat)
  /-- A gated frame could not start within LATE_MAX and is discarded. (R307) -/
  | launchLateDiscard (port : Nat) (queue : Nat)
  /-- The frame in progress ends and the port disable takes effect. (R296) -/
  | portDisableDone (port : Nat)
  /-- The port copies a committed host transmit item into its egress queue or discards it. (R304) -/
  | hostTxItemCopy (read : QueueRead)
  /-- In WATCH a magic packet or pattern match on a port starts a wake. (R314) -/
  | wakeFrame (port : Nat) (bytes : List Byte)
  /-- A Rudder engine runs its program on a frame and delivers or discards it. (R323) -/
  | frameClassify
  /-- The last frame of the old Rudder bank is delivered and the swap completes. (R340) -/
  | rudSwapComplete
  /-- SRX checks a delivered media frame and places its samples in the jitter buffer. (R460) -/
  | mediaFrameAccept
  /-- No frame with the learned SSRC has come for RELEARN_MS and the stream re-anchors. (R461) -/
  | ssrcRelearn (stream : Nat)
  /-- A selected port has had no accepted frame for 10 ms while the other has. (R466) -/
  | srxPortLost (stream : Nat) (port : Nat)
  /-- RR_WAIT passes and a block not yet reported by a port is detected missing. (R470) -/
  | rrWaitExpired (stream : Nat) (seq : Nat)
  /-- SRX sends a re-row request frame for the missing blocks detected in 10 µs. (R472) -/
  | rerowRequestSend (stream : Nat)
  /-- A block is still missing RR_RETRY after its first ask and is asked once more. (R473) -/
  | rrRetryExpired (stream : Nat) (seq : Nat)
  /-- A GONE frame reaches STX and is handed to SRX for the receive stream it names. (R511) -/
  | goneReceived
  /-- STX checks and admits a re-row request on a port or discards it. (R506) -/
  | rerowRequestReceived
  /-- STX decides a request and sends the GONE frame and re-launch packets. (R507) -/
  | rerowAnswer (port : Nat)
  /-- The scrubber completes a pass of a bank and may trigger a migration or retire a spare. (R254) -/
  | scrubPassComplete (bank : Nat) (corrected : List Nat) (uncorrectable : List Nat)
  /-- An edge on an EVT_IN pin is stamped and queued, or missed. (R366) -/
  | evtInEdge (dt : Nat) (pin : Nat) (rising : Bool)
  /-- A handed Start List edge is driven on its EVT_OUT pin at its time. (R368) -/
  | evtOutEdge (dt : Nat) (pin : Nat)
  /-- Network Time reaches an armed entry's time and the Starter fires it. (R377) -/
  | startListFire (dt : Nat)
  /-- Firmware checks a received PTP message and updates BMCA, delay and the servo. (R357) -/
  | ptpMessageReceived (read : TimedRead)
  /-- A PTP message interval or announce receipt timeout elapses for a port instance. (R356) -/
  | ptpMessageTimer (port : Nat) (timer : PtpTimer)
  /-- ASYM_HOLD ends after a suspected re-route and the servo slews or resumes. (R373) -/
  | rerouteHoldEnd
  /-- A slew has moved Network Time by its value and ends. (R384) -/
  | slewEnd
  /-- A reference has been present and passing for QUAL_TIME and becomes qualified. (R395) -/
  | refQualified (ref : Nat) (seen : RefSeen) (phase : Int)
  /-- A reference stops being present, is disabled or fails a test. (R394) -/
  | refDisqualified (ref : Nat) (present : Bool) (seen : RefSeen)
  /-- MCK evaluates reference selection after a change and may switch or enter holdover. (R399) -/
  | selectionEvaluate
  /-- The lock test has held for 1 s in ACQUIRE and MCK enters LOCKED. (R401) -/
  | lockTestPass
  /-- The holdover time error estimate exceeds HO_LIMIT. (R409) -/
  | holdoverExpired
  /-- An asynchronous stream's ratio loop settles and the stream becomes LOCKED. (R532) -/
  | ralLock (stream : Nat)
  /-- A LOCKED converting stream has had no frame for 10 ms and enters HOLD. (R532) -/
  | ralHold (stream : Nat)
  /-- A slave TDM port receives a frame and locks, counts an error or slips. (R586) -/
  | tdmSlaveFrame (dt : Nat) (port : Nat) (clocks : Nat) (slots : List Word)
  /-- A locked slave port sees no frame edge for 4 sample periods and returns to SEEK. (R586) -/
  | tdmFrameTimeout (port : Nat)
  /-- Both Obien lanes reach block lock and deskew and the port enters IDENT. (R605) -/
  | oblTrainComplete (port : Nat)
  /-- A LINK frame is received, giving role, position, identity and the lane owner table. (R608) -/
  | oblLinkFrame (port : Nat) (bytes : List Byte)
  /-- The blocking cause has been absent for 100 ms and the port leaves BLOCKED. (R605) -/
  | oblBlockedClear (port : Nat)
  /-- The interval for a DELAY request elapses and the port sends one. (R610) -/
  | oblDelayTimer (port : Nat)
  /-- A DELAY request or response is received and the hop delay is updated. (R610) -/
  | oblDelayFrame (dt : Nat) (port : Nat) (bytes : List Byte)
  /-- An Obien port loses lock, frames or receives LEAVING and returns to TRAIN. (R605) -/
  | oblLinkLoss (port : Nat) (leaving : Bool)
  /-- A Seat receives a SYNC frame, forwards it and follows Cox time and grid moves. (R612) -/
  | oblSyncReceived (dt : Nat) (port : Nat) (bytes : List Byte)
  /-- A LANE frame is received, forwarded and its groups stored for the next stroke. (R617) -/
  | oblLaneFrame (port : Nat) (bytes : List Byte)
  /-- A RELAY_UP frame is received, accumulated and forwarded or totalled at the Cox. (R619) -/
  | oblRelayUp (port : Nat) (bytes : List Byte)
  /-- A RELAY_DN frame delivers a cascade bus total and is forwarded away from the Cox. (R619) -/
  | oblRelayDn (port : Nat) (bytes : List Byte)
  /-- A TUNNEL frame carrying part of a tunnelled command or reply is received. (R622) -/
  | oblTunnelFrame (port : Nat) (bytes : List Byte)
  /-- No inner reply arrives within TUNNEL_WAIT and the outer command is refused LINK_LOST. (R623) -/
  | tunnelWaitExpired (tag : BitVec 7)
  /-- No conflict has been seen for 100 ms and CONFLICT clears. (R604) -/
  | oblConflictClear
  /-- In a ring a Seat switches its Cox side after a break or on repair. (R627) -/
  | oblCoxSideSwitch
  /-- A port in WATCH detects the Obien wake pattern and starts a wake. (R625) -/
  | obienWakePattern (port : Nat)
  /-- The background checker visits a configuration register and raises CFG_PARITY on a mismatch. (R159) -/
  | parityCheckVisit (addr : Nat) (upset : Word)
  /-- The background pass checks unit memory parity and raises UNIT_MEM on a failure. (R647) -/
  | unitMemParityPass (bad : List (Nat × Nat))
  /-- The on-die sensor measures Tj and raises or clears the temperature faults. (R640) -/
  | temperatureSample (tj : Int)
  /-- The Command Processor misses its watchdog service and the fault is raised. (R644) -/
  | cmdWatchdog
  /-- A 1 ms fault window closes and one entry with the suppressed count is made. (R649) -/
  | faultLogWindowClose (code : Nat)
  /-- Verification of the inactive patch bank completes and the bank is staged or not. (R651) -/
  | patchVerifyDone
  /-- A restart that keeps power completes, CMD_READY is set and the marker and held replies are posted. (R236) -/
  | cmdRestartComplete
  /-- CMD_READY is not set within 2 ms of a swap and the previous patch bank is restored. (R653) -/
  | patchRollback
  /-- VDD_AON reaches 1.71 V, the always-on island starts and the management port answers 1 µs later. (R92) -/
  | vddAonPowerUp
  /-- VDD_AON falls below its range, losing the always-on island and clearing the retired mask. (R264) -/
  | vddAonPowerLoss
  /-- PWR_GOOD goes high after the last enable rises, ending the T_PG wait and completing a return from WATCH or starting the core reset release. (R56) -/
  | pwrGoodRise
  /-- PE_PERST_N rises and the PCIe link starts training again. (R180) -/
  | pePerstNRelease
  /-- The host sets Bus Master Enable, and command fetches, reply posting and ring accesses begin. (R180) -/
  | busMasterEnableSet
  /-- The host unmasks an MSI-X vector or function, and a message held by its Pending Bit is sent. (R201) -/
  | msixVectorUnmask (what : Unmask)
  /-- Clause 37 or SGMII auto-negotiation with the link partner completes, setting AN_DONE and PARTNER_PAUSE or raising AN_FAULT. (R294) -/
  | autoNegotiationDone (port : Nat) (agreed : Bool) (pause : Bool)
  /-- A port's SerDes or PCS reset is released after an enable or a restart, completing PORT_CONFIG or PORT_RESTART. (R320) -/
  | portResetRelease (port : Nat)
  /-- While the stroke grid is stopped, BUF runs one migration step every 166.67 µs. (R261) -/
  | migrationStepGridStopped
  /-- The removal scan of a FLOW_SET with OP 2 finishes and the command completes. (R346) -/
  | flowScanComplete
  /-- The march and PRBS tests started by BIST finish, failing spares are retired and the reply is made. (R664) -/
  | bistComplete (failing : BitVec 42) (errors : List Nat)
  /-- The Command Processor finishes starting ROM 3.1 in BOOT and sets HIF_STATUS.CMD_READY when there is no boot image. (R88) -/
  | cmdBootReady
  deriving DecidableEq, Repr

end Sys2Proof
end

