-- ==== Sys2Proof/Decode.lean ====
section
/-! DEFINITION. Words of the opcode table. The table gives its rows no bits, so no word spells a command: a Dadin packet
reaches the Halyn word by word through the transports of R189 and R191, which are commands of their own. -/
namespace Sys2Proof

/-- The command that the low `nbits` bits of `w` spell by the table's bits: no row has bits. -/
def decodeTableWord (_nbits _w : Nat) : Option Instr := none

end Sys2Proof
end

