-- ==== Sys2Proof/Config.lean ====
section
/-! DEFINITION. What an implementation fixes and the manual leaves open: the free values.
Each is opaque, so no proof can see what it is; `State.free` counts how many have been taken. -/
namespace Sys2Proof.Config

/-- What a byte of the logical store belongs to (R256): nothing, a byte of a queue's memory, or another allocation. -/
inductive Placed where
  | open
  | queue (n off : Nat)
  | other
  deriving DecidableEq, Repr, Inhabited

/-- The pages that the allocations take are not stated (R256): what each logical byte address belongs to, for queues of
these numbers and sizes and for streams of these allocations. -/
opaque placed : List (Nat × Nat) → List Nat → Nat → Placed

/-- The free integers: samples that a filter of unstated coefficients forms (R529), rates that a servo of unstated
gains sets (R370, R401), measurements that the manual gives no formula for. -/
opaque freeInt : Nat → Int

/-- The free natural numbers. -/
opaque freeNat : Nat → Nat

/-- Constants of the firmware that the manual does not state, by number: header fields of the PTP messages that it
generates, thresholds of asCapable, and the vendor ID shown for a bad record (R177, R354, R355). -/
opaque firmware : Nat → Nat

/-- How long a word clock stays high in each sample, in internal periods, by RATE code (R412 states its rising edge
alone). -/
opaque wclkHigh : Nat → Nat

end Sys2Proof.Config
end

