-- ==== Sys2Proof/Machine/Maps.lean ====
section
/-! DEFINITION. Sparse tables: reading, writing and removing an entry.
Every table of the state (register file, streams, queues, buffer memory) is held in this one form,
so that equal contents are equal data. -/
namespace Sys2Proof.Machine

/-- The entry at key `k`, if the table lists one. -/
def tget {α : Type} : Table α → Nat → Option α
  | [], _ => none
  | (a, v) :: t, k => if a == k then some v else tget t k

/-- The entry at key `k`, or `d` where the table lists none. -/
def tgetD {α : Type} (t : Table α) (k : Nat) (d : α) : α := (tget t k).getD d

/-- The table with `v` at key `k`, in rising order of keys. -/
def tset {α : Type} : Table α → Nat → α → Table α
  | [], k, v => [(k, v)]
  | (a, u) :: t, k, v =>
    if k < a then (k, v) :: (a, u) :: t
    else if k == a then (k, v) :: t
    else (a, u) :: tset t k v

/-- The table without key `k`. -/
def terase {α : Type} : Table α → Nat → Table α
  | [], _ => []
  | (a, u) :: t, k => if a == k then terase t k else (a, u) :: terase t k

/-- Write `v` at `k` where an unlisted key reads as `d`: writing `d` removes the entry. -/
def tput {α : Type} [DecidableEq α] (t : Table α) (k : Nat) (v d : α) : Table α :=
  if v = d then terase t k else tset t k v

/-- The entry at `k` changed by `f`, where the table lists one. -/
def tmod {α : Type} (t : Table α) (k : Nat) (f : α → α) : Table α :=
  t.map fun (a, v) => if a == k then (a, f v) else (a, v)

/-- Every entry changed by `f`. -/
def tmap {α β : Type} (t : Table α) (f : α → β) : Table β := t.map fun (a, v) => (a, f v)

/-- The keys of the entries that `p` holds of. -/
def tkeys {α : Type} (t : Table α) (p : α → Bool) : List Nat :=
  (t.filter fun (_, v) => p v).map Prod.fst

/-- How many entries `p` holds of. -/
def tcount {α : Type} (t : Table α) (p : α → Bool) : Nat := (t.filter fun (_, v) => p v).length

/-- Whether the table lists key `k`. -/
def thas {α : Type} (t : Table α) (k : Nat) : Bool := (tget t k).isSome

/-- The keys of a table rise strictly. -/
def trising {α : Type} : Table α → Bool
  | [] => true
  | [_] => true
  | (a, _) :: (b, v) :: t => (a < b) && trising ((b, v) :: t)

/-- A list of bytes as one number, most significant byte first (network order, R9). -/
def beNat : List Byte → Nat
  | bs => bs.foldl (fun n b => n * 256 + b.toNat) 0

/-- A number as `n` bytes, most significant first (R9). -/
def beBytes (n v : Nat) : List Byte :=
  (List.range n).map fun i => BitVec.ofNat 8 (v >>> (8 * (n - 1 - i)))

/-- A list of bytes as one number, least significant byte first (R9). -/
def leNat : List Byte → Nat
  | [] => 0
  | b :: bs => b.toNat + 256 * leNat bs

/-- A number as `n` bytes, least significant first (R9). -/
def leBytes (n v : Nat) : List Byte :=
  (List.range n).map fun i => BitVec.ofNat 8 (v >>> (8 * i))

/-- `n` bytes of a list from offset `o`; bytes past the end are left out. -/
def slice (bs : List Byte) (o n : Nat) : List Byte := (bs.drop o).take n

/-- The number in `n` bytes at offset `o`, network order. -/
def beAt (bs : List Byte) (o n : Nat) : Nat := beNat (slice bs o n)

/-- A number read as a signed number of `n` bits. -/
def sgn (n v : Nat) : Int :=
  let m := v % 2 ^ n
  if m < 2 ^ (n - 1) then (m : Int) else (m : Int) - (2 ^ n : Nat)

/-- An integer as an `n`-bit two's complement number. -/
def unsgn (n : Nat) (v : Int) : Nat := (v % ((2 ^ n : Nat) : Int)).toNat

/-- An integer held within `lo` and `hi`. -/
def clampI (lo hi v : Int) : Int := if v < lo then lo else if hi < v then hi else v

/-- An integer as a signed 32-bit word that saturates at its ends. -/
def satWord (v : Int) : Word := w32 (unsgn 32 (clampI (-(2 ^ 31)) (2 ^ 31 - 1) v))

/-- A number held at or below `m`. -/
def satNat (m v : Nat) : Nat := if m < v then m else v

/-- Whether `x` stands in a list. -/
def has {α : Type} [DecidableEq α] (l : List α) (x : α) : Bool := l.any fun y => decide (y = x)

/-- The number whose bit `i` is set for each `i` in the list. -/
def bitsOfList (l : List Nat) : Nat := l.foldl (fun n i => n ||| (1 <<< i)) 0

/-- The list with its element `i` changed by `f`. -/
def listMod {α : Type} : List α → Nat → (α → α) → List α
  | [], _, _ => []
  | x :: xs, 0, f => f x :: xs
  | x :: xs, i + 1, f => x :: listMod xs i f

/-- Words as bytes in memory order, least significant byte of the first word first (R9). -/
def wordBytes (ws : List Word) : List Byte := ws.flatMap fun w => leBytes 4 w.toNat

end Sys2Proof.Machine
end

