-- ==== Sys2Proof/Machine/RegTable.lean ====
section
/-! DEFINITION. The registers of the sixteen unit windows: canonical addresses, reset values and field types
(R11, R139, R164, R115, R202, R246, R290, R316, R347, R388, R418, R487, R522, R541, R577, R599, R630, R667, R668).
One row describes one register or one array of registers; each mask holds the bits of the fields of that type. -/
namespace Sys2Proof.Machine

/-- One row of a window's register table: the canonical address of its first register, the step and number of the
registers of an array, the reset value, and the bits of each field type of R139. Bits in no mask are RO or RSV. -/
structure RegRow where
  base : Nat
  stride : Nat := 4
  count : Nat := 1
  reset : Nat := 0
  rw : Nat := 0
  rwl : Nat := 0
  rwd : Nat := 0
  rc : Nat := 0
  w1p : Nat := 0
  key : Bool := false
  deriving DecidableEq, Repr

namespace Reg

/-- GLB_ID, R165. -/
def GLB_ID : Nat := 0x0
/-- GLB_ROM, R166. -/
def GLB_ROM : Nat := 0x4
/-- GLB_STRAPS, R167. -/
def GLB_STRAPS : Nat := 0x8
/-- GLB_SCRATCH, R168. -/
def GLB_SCRATCH : Nat := 0xc
/-- GLB_IRQ_STATUS, R169. -/
def GLB_IRQ_STATUS : Nat := 0x10
/-- GLB_IRQ_EN, R169. -/
def GLB_IRQ_EN : Nat := 0x14
/-- GLB_ERR, R170. -/
def GLB_ERR : Nat := 0x18
/-- GLB_ERR_ADDR, R171. -/
def GLB_ERR_ADDR : Nat := 0x1c
/-- GLB_RESET, R172. -/
def GLB_RESET : Nat := 0x20
/-- GLB_RESET_COMP, R172. -/
def GLB_RESET_COMP : Nat := 0x24
/-- GLB_OTP_ACCESS, R173. -/
def GLB_OTP_ACCESS : Nat := 0x28
/-- GLB_OTP_ACCESS_COMP, R173. -/
def GLB_OTP_ACCESS_COMP : Nat := 0x2c
/-- GLB_STATUS, R174. -/
def GLB_STATUS : Nat := 0x30
/-- GLB_PARITY, R175. -/
def GLB_PARITY : Nat := 0x34
/-- PMU_MODE, R116. -/
def PMU_MODE : Nat := 0x4000
/-- PMU_HS, R117. -/
def PMU_HS : Nat := 0x4004
/-- PMU_MODE_FORCE, R118. -/
def PMU_MODE_FORCE : Nat := 0x4008
/-- PMU_MODE_FORCE_COMP, R118. -/
def PMU_MODE_FORCE_COMP : Nat := 0x400c
/-- PMU_RAIL, R119. -/
def PMU_RAIL : Nat := 0x4010
/-- PMU_RAIL_COMP, R119. -/
def PMU_RAIL_COMP : Nat := 0x4014
/-- PMU_STATUS, R120. -/
def PMU_STATUS : Nat := 0x4018
/-- PMU_UNIT_ANS, R121. -/
def PMU_UNIT_ANS : Nat := 0x401c
/-- PMU_WAKE_CFG, R122. -/
def PMU_WAKE_CFG : Nat := 0x4020
/-- PMU_WAKE_REASON, R123. -/
def PMU_WAKE_REASON : Nat := 0x4024
/-- PMU_MOOR_COUNT, R124. -/
def PMU_MOOR_COUNT : Nat := 0x4028
/-- PMU_ISLAND_CFG, R125. -/
def PMU_ISLAND_CFG : Nat := 0x402c
/-- PMU_EVENT, R126. -/
def PMU_EVENT : Nat := 0x4030
/-- PMU_IRQ_EN, R126. -/
def PMU_IRQ_EN : Nat := 0x4034
/-- PMU_ERR, R127. -/
def PMU_ERR : Nat := 0x4038
/-- PMU_UMP_STATUS, R667. -/
def PMU_UMP_STATUS : Nat := 0x4100
/-- PMU_UMP_EVENT, R667. -/
def PMU_UMP_EVENT : Nat := 0x4104
/-- PMU_UMP_IRQ_EN, R667. -/
def PMU_UMP_IRQ_EN : Nat := 0x4108
/-- PMU_UMP_POLICY, R667. -/
def PMU_UMP_POLICY : Nat := 0x410c
/-- PMU_UMP_ACK, R667. -/
def PMU_UMP_ACK : Nat := 0x4110
/-- PMU_UMP_TEMP, R667. -/
def PMU_UMP_TEMP : Nat := 0x4114
/-- PMU_UMP_TEMP_CFG, R667. -/
def PMU_UMP_TEMP_CFG : Nat := 0x4118
/-- PMU_UMP_WDT, R667. -/
def PMU_UMP_WDT : Nat := 0x411c
/-- PMU_UMP_LAST, R667. -/
def PMU_UMP_LAST : Nat := 0x4120
/-- PMU_UMP_LAST_DETAIL, R667. -/
def PMU_UMP_LAST_DETAIL : Nat := 0x4124
/-- HIF_STATUS, R203. -/
def HIF_STATUS : Nat := 0x8000
/-- HIF_EVENT, R204. -/
def HIF_EVENT : Nat := 0x8004
/-- HIF_IRQ_EN, R204. -/
def HIF_IRQ_EN : Nat := 0x8008
/-- HIF_ERR, R205. -/
def HIF_ERR : Nat := 0x800c
/-- HIF_IRQ_CFG, R206. -/
def HIF_IRQ_CFG : Nat := 0x8010
/-- HIF_AUDIO_CFG, R206. -/
def HIF_AUDIO_CFG : Nat := 0x8014
/-- HIF_STROKE, R206. -/
def HIF_STROKE : Nat := 0x8018
/-- HIF_WEIGH, R206. -/
def HIF_WEIGH : Nat := 0x801c
/-- HIF_CQ_BASE_LO, R207. -/
def HIF_CQ_BASE_LO : Nat := 0x8020
/-- HIF_CQ_BASE_HI, R207. -/
def HIF_CQ_BASE_HI : Nat := 0x8024
/-- HIF_RQ_BASE_LO, R207. -/
def HIF_RQ_BASE_LO : Nat := 0x8028
/-- HIF_RQ_BASE_HI, R207. -/
def HIF_RQ_BASE_HI : Nat := 0x802c
/-- HIF_Q_CFG, R207. -/
def HIF_Q_CFG : Nat := 0x8030
/-- HIF_CQ_TAIL, R207. -/
def HIF_CQ_TAIL : Nat := 0x8034
/-- HIF_CQ_HEAD, R207. -/
def HIF_CQ_HEAD : Nat := 0x8038
/-- HIF_RQ_TAIL, R207. -/
def HIF_RQ_TAIL : Nat := 0x803c
/-- HIF_RQ_HEAD, R207. -/
def HIF_RQ_HEAD : Nat := 0x8040
/-- HIF_CMD_LEVEL, R207. -/
def HIF_CMD_LEVEL : Nat := 0x8044
/-- HIF_PCIE_ID, R208. -/
def HIF_PCIE_ID : Nat := 0x8048
/-- HIF_RING_BASE_LO[i], R209. -/
def HIF_RING_BASE_LO (i : Nat) : Nat := 0x8100 + 16 * i
/-- HIF_RING_BASE_HI[i], R209. -/
def HIF_RING_BASE_HI (i : Nat) : Nat := 0x8104 + 16 * i
/-- HIF_RING_CFG[i], R209. -/
def HIF_RING_CFG (i : Nat) : Nat := 0x8108 + 16 * i
/-- HIF_RING_STAT[i], R209. -/
def HIF_RING_STAT (i : Nat) : Nat := 0x810c + 16 * i
/-- CMD_STATUS, R247. -/
def CMD_STATUS : Nat := 0xc000
/-- CMD_EVENT, R248. -/
def CMD_EVENT : Nat := 0xc004
/-- CMD_IRQ_EN, R248. -/
def CMD_IRQ_EN : Nat := 0xc008
/-- CMD_ERR, R249. -/
def CMD_ERR : Nat := 0xc00c
/-- CMD_GEN, R249. -/
def CMD_GEN : Nat := 0xc010
/-- CMD_LAST_FAIL, R250. -/
def CMD_LAST_FAIL : Nat := 0xc014
/-- CMD_RESTART, R249. -/
def CMD_RESTART : Nat := 0xc018
/-- CMD_TAG_BUSY[i], R251. -/
def CMD_TAG_BUSY (i : Nat) : Nat := 0xc020 + 4 * i
/-- CMD_PATCH_SWAP, R657. -/
def CMD_PATCH_SWAP : Nat := 0xc030
/-- CMD_PATCH_SWAP_COMP, R657. -/
def CMD_PATCH_SWAP_COMP : Nat := 0xc034
/-- CMD_PATCH_STATUS, R669. -/
def CMD_PATCH_STATUS : Nat := 0xc100
/-- CMD_OTP_ADDR, R669. -/
def CMD_OTP_ADDR : Nat := 0xc104
/-- CMD_OTP_DATA, R669. -/
def CMD_OTP_DATA : Nat := 0xc108
/-- NTU_STATUS, R389. -/
def NTU_STATUS : Nat := 0x10000
/-- NTU_EVENT, R389. -/
def NTU_EVENT : Nat := 0x10004
/-- NTU_IRQ_EN, R389. -/
def NTU_IRQ_EN : Nat := 0x10008
/-- NTU_ERR, R389. -/
def NTU_ERR : Nat := 0x1000c
/-- NTU_TICK_HI, R389. -/
def NTU_TICK_HI : Nat := 0x10010
/-- NTU_TICK_LO, R389. -/
def NTU_TICK_LO : Nat := 0x10014
/-- NTU_COURSE_HI, R389. -/
def NTU_COURSE_HI : Nat := 0x10018
/-- NTU_COURSE_LO, R389. -/
def NTU_COURSE_LO : Nat := 0x1001c
/-- NTU_RATE, R389. -/
def NTU_RATE : Nat := 0x10020
/-- NTU_STEP_COUNT, R389. -/
def NTU_STEP_COUNT : Nat := 0x10024
/-- NTU_LAST_STEP_HI, R389. -/
def NTU_LAST_STEP_HI : Nat := 0x10028
/-- NTU_LAST_STEP_LO, R389. -/
def NTU_LAST_STEP_LO : Nat := 0x1002c
/-- NTU_LAST_STEP_SIZE, R389. -/
def NTU_LAST_STEP_SIZE : Nat := 0x10030
/-- NTU_PTP_STATUS, R389. -/
def NTU_PTP_STATUS : Nat := 0x10034
/-- NTU_PTP_OFFSET, R389. -/
def NTU_PTP_OFFSET : Nat := 0x10038
/-- NTU_PTP_DROP, R389. -/
def NTU_PTP_DROP : Nat := 0x1003c
/-- NTU_FAC_TX[i], R389. -/
def NTU_FAC_TX (i : Nat) : Nat := 0x10040 + 32 * i
/-- NTU_FAC_RX[i], R389. -/
def NTU_FAC_RX (i : Nat) : Nat := 0x10044 + 32 * i
/-- NTU_USR_TX[i], R389. -/
def NTU_USR_TX (i : Nat) : Nat := 0x10048 + 32 * i
/-- NTU_USR_RX[i], R389. -/
def NTU_USR_RX (i : Nat) : Nat := 0x1004c + 32 * i
/-- NTU_ASYM[i], R389. -/
def NTU_ASYM (i : Nat) : Nat := 0x10050 + 32 * i
/-- NTU_MPD[i], R389. -/
def NTU_MPD (i : Nat) : Nat := 0x10054 + 32 * i
/-- NTU_PRE_STEP_HI, R389. -/
def NTU_PRE_STEP_HI : Nat := 0x10078
/-- NTU_PRE_STEP_LO, R389. -/
def NTU_PRE_STEP_LO : Nat := 0x1007c
/-- NTU_EVT_IN_CFG, R389. -/
def NTU_EVT_IN_CFG : Nat := 0x10080
/-- NTU_EVT_IN_MISS, R389. -/
def NTU_EVT_IN_MISS : Nat := 0x10084
/-- NTU_EVT_OUT_CFG[i], R389. -/
def NTU_EVT_OUT_CFG (i : Nat) : Nat := 0x10090 + 16 * i
/-- NTU_EVT_OUT_PERIOD[i], R389. -/
def NTU_EVT_OUT_PERIOD (i : Nat) : Nat := 0x10094 + 16 * i
/-- NTU_EVT_OUT_WIDTH[i], R389. -/
def NTU_EVT_OUT_WIDTH (i : Nat) : Nat := 0x10098 + 16 * i
/-- NTU_EVT_OUT_PHASE[i], R389. -/
def NTU_EVT_OUT_PHASE (i : Nat) : Nat := 0x1009c + 16 * i
/-- NTU_SL_CFG, R389. -/
def NTU_SL_CFG : Nat := 0x100d0
/-- NTU_SL_STATUS, R389. -/
def NTU_SL_STATUS : Nat := 0x100d4
/-- NTU_SL_SEL, R389. -/
def NTU_SL_SEL : Nat := 0x100d8
/-- NTU_SL_ENTRY, R389. -/
def NTU_SL_ENTRY : Nat := 0x100dc
/-- NTU_SL_DONE[i], R389. -/
def NTU_SL_DONE (i : Nat) : Nat := 0x10100 + 4 * i
/-- MCK_STATUS, R419. -/
def MCK_STATUS : Nat := 0x14000
/-- MCK_REF_EVENT, R419. -/
def MCK_REF_EVENT : Nat := 0x14004
/-- MCK_IRQ_EN, R419. -/
def MCK_IRQ_EN : Nat := 0x14008
/-- MCK_ERR, R419. -/
def MCK_ERR : Nat := 0x1400c
/-- MCK_CORE_CFG, R419. -/
def MCK_CORE_CFG : Nat := 0x14010
/-- MCK_PHASE_ERR, R419. -/
def MCK_PHASE_ERR : Nat := 0x14014
/-- MCK_REF_PHASE, R419. -/
def MCK_REF_PHASE : Nat := 0x14018
/-- MCK_HELD, R419. -/
def MCK_HELD : Nat := 0x1401c
/-- MCK_ABSORB, R419. -/
def MCK_ABSORB : Nat := 0x14020
/-- MCK_FREQ, R419. -/
def MCK_FREQ : Nat := 0x14024
/-- MCK_HO_TE, R419. -/
def MCK_HO_TE : Nat := 0x14028
/-- MCK_HO_TIME, R419. -/
def MCK_HO_TIME : Nat := 0x1402c
/-- MCK_XO_TRIM_FAC, R419. -/
def MCK_XO_TRIM_FAC : Nat := 0x14030
/-- MCK_XO_TRIM_USR, R419. -/
def MCK_XO_TRIM_USR : Nat := 0x14034
/-- MCK_HOST_REF, R419. -/
def MCK_HOST_REF : Nat := 0x14038
/-- MCK_REF_STATUS[i], R419. -/
def MCK_REF_STATUS (i : Nat) : Nat := 0x14040 + 4 * i
/-- MCK_REF_FREQ[i], R419. -/
def MCK_REF_FREQ (i : Nat) : Nat := 0x14060 + 4 * i
/-- MCK_MCLK_CFG[i], R419. -/
def MCK_MCLK_CFG (i : Nat) : Nat := 0x14080 + 4 * i
/-- MCK_WCLK_CFG[i], R419. -/
def MCK_WCLK_CFG (i : Nat) : Nat := 0x140a0 + 4 * i
/-- MCK_PPS_CFG, R419. -/
def MCK_PPS_CFG : Nat := 0x140c0
/-- NPx_STATUS of Port A (p = 0) or Port B (p = 1), R316-R317. -/
def NP_STATUS (p : Nat) : Nat := 0x18000 + 0x4000 * p
/-- NPx_EVENT of Port A (p = 0) or Port B (p = 1), R316-R317. -/
def NP_EVENT (p : Nat) : Nat := 0x18004 + 0x4000 * p
/-- NPx_IRQ_EN of Port A (p = 0) or Port B (p = 1), R316-R317. -/
def NP_IRQ_EN (p : Nat) : Nat := 0x18008 + 0x4000 * p
/-- NPx_ERR of Port A (p = 0) or Port B (p = 1), R316-R317. -/
def NP_ERR (p : Nat) : Nat := 0x1800c + 0x4000 * p
/-- NPx_CFG of Port A (p = 0) or Port B (p = 1), R316-R317. -/
def NP_CFG (p : Nat) : Nat := 0x18010 + 0x4000 * p
/-- NPx_MAC_LO of Port A (p = 0) or Port B (p = 1), R316-R317. -/
def NP_MAC_LO (p : Nat) : Nat := 0x18014 + 0x4000 * p
/-- NPx_MAC_HI of Port A (p = 0) or Port B (p = 1), R316-R317. -/
def NP_MAC_HI (p : Nat) : Nat := 0x18018 + 0x4000 * p
/-- NPx_MAX_FRAME of Port A (p = 0) or Port B (p = 1), R316-R317. -/
def NP_MAX_FRAME (p : Nat) : Nat := 0x1801c + 0x4000 * p
/-- NPx_RX_CTRL of Port A (p = 0) or Port B (p = 1), R316-R317. -/
def NP_RX_CTRL (p : Nat) : Nat := 0x18020 + 0x4000 * p
/-- NPx_PAUSE_CTRL of Port A (p = 0) or Port B (p = 1), R316-R317. -/
def NP_PAUSE_CTRL (p : Nat) : Nat := 0x18024 + 0x4000 * p
/-- NPx_PAUSE_TX of Port A (p = 0) or Port B (p = 1), R316-R317. -/
def NP_PAUSE_TX (p : Nat) : Nat := 0x18028 + 0x4000 * p
/-- NPx_PAUSE_STATE of Port A (p = 0) or Port B (p = 1), R316-R317. -/
def NP_PAUSE_STATE (p : Nat) : Nat := 0x1802c + 0x4000 * p
/-- NPx_Q_PCP of Port A (p = 0) or Port B (p = 1), R316-R317. -/
def NP_Q_PCP (p : Nat) : Nat := 0x18030 + 0x4000 * p
/-- NPx_CBS_A of Port A (p = 0) or Port B (p = 1), R316-R317. -/
def NP_CBS_A (p : Nat) : Nat := 0x18034 + 0x4000 * p
/-- NPx_CBS_B of Port A (p = 0) or Port B (p = 1), R316-R317. -/
def NP_CBS_B (p : Nat) : Nat := 0x18038 + 0x4000 * p
/-- NPx_LAUNCH_CFG of Port A (p = 0) or Port B (p = 1), R316-R317. -/
def NP_LAUNCH_CFG (p : Nat) : Nat := 0x1803c + 0x4000 * p
/-- NPx_SERDES_RESET of Port A (p = 0) or Port B (p = 1), R316-R317. -/
def NP_SERDES_RESET (p : Nat) : Nat := 0x18040 + 0x4000 * p
/-- NPx_SERDES_RESET_COMP of Port A (p = 0) or Port B (p = 1), R316-R317. -/
def NP_SERDES_RESET_COMP (p : Nat) : Nat := 0x18044 + 0x4000 * p
/-- NPx_STAT_HALF_LO of Port A (p = 0) or Port B (p = 1), R316-R317. -/
def NP_STAT_HALF_LO (p : Nat) : Nat := 0x18048 + 0x4000 * p
/-- NPx_STAT_HALF_HI of Port A (p = 0) or Port B (p = 1), R316-R317. -/
def NP_STAT_HALF_HI (p : Nat) : Nat := 0x1804c + 0x4000 * p
/-- NPx_RX_OVF of Port A (p = 0) or Port B (p = 1), R316-R317. -/
def NP_RX_OVF (p : Nat) : Nat := 0x18050 + 0x4000 * p
/-- NPx_WAKE_CFG of Port A (p = 0) or Port B (p = 1), R316-R317. -/
def NP_WAKE_CFG (p : Nat) : Nat := 0x18054 + 0x4000 * p
/-- NPx_WAKE_STATUS of Port A (p = 0) or Port B (p = 1), R316-R317. -/
def NP_WAKE_STATUS (p : Nat) : Nat := 0x18058 + 0x4000 * p
/-- NPx_WAKE_PAT[i] of Port A (p = 0) or Port B (p = 1), R316-R317. -/
def NP_WAKE_PAT (p i : Nat) : Nat := 0x18080 + 0x4000 * p + 4 * i
/-- NPx_WAKE_MASK[i] of Port A (p = 0) or Port B (p = 1), R316-R317. -/
def NP_WAKE_MASK (p i : Nat) : Nat := 0x18100 + 0x4000 * p + 4 * i
/-- NPx_STAT[i] of Port A (p = 0) or Port B (p = 1), R316-R317. -/
def NP_STAT (p i : Nat) : Nat := 0x18200 + 0x4000 * p + 4 * i
/-- NPx_STAT_EXT[i] of Port A (p = 0) or Port B (p = 1), R316-R317. -/
def NP_STAT_EXT (p i : Nat) : Nat := 0x18300 + 0x4000 * p + 4 * i
/-- RUD_STATUS, R348. -/
def RUD_STATUS : Nat := 0x20000
/-- RUD_EVENT, R348. -/
def RUD_EVENT : Nat := 0x20004
/-- RUD_IRQ_EN, R348. -/
def RUD_IRQ_EN : Nat := 0x20008
/-- RUD_ERR, R348. -/
def RUD_ERR : Nat := 0x2000c
/-- RUD_CTRL, R348. -/
def RUD_CTRL : Nat := 0x20010
/-- RUD_BOOT_IPV4, R348. -/
def RUD_BOOT_IPV4 : Nat := 0x20014
/-- RUD_FLOW_USED, R348. -/
def RUD_FLOW_USED : Nat := 0x20018
/-- RUD_USER[i], R348. -/
def RUD_USER (i : Nat) : Nat := 0x20020 + 4 * i
/-- RUD_DROP[i], R348. -/
def RUD_DROP (i : Nat) : Nat := 0x20040 + 4 * i
/-- SRX_STATUS, R488. -/
def SRX_STATUS : Nat := 0x24000
/-- SRX_EVENT, R488. -/
def SRX_EVENT : Nat := 0x24004
/-- SRX_IRQ_EN, R488. -/
def SRX_IRQ_EN : Nat := 0x24008
/-- SRX_ERR, R488. -/
def SRX_ERR : Nat := 0x2400c
/-- SRX_RR_CFG, R488. -/
def SRX_RR_CFG : Nat := 0x24010
/-- SRX_RR_IP4[i], R488. -/
def SRX_RR_IP4 (i : Nat) : Nat := 0x24014 + 4 * i
/-- SRX_SEL, R488. -/
def SRX_SEL : Nat := 0x2401c
/-- SRX_RR_IP6_A[i], R488. -/
def SRX_RR_IP6_A (i : Nat) : Nat := 0x24020 + 4 * i
/-- SRX_RR_IP6_B[i], R488. -/
def SRX_RR_IP6_B (i : Nat) : Nat := 0x24030 + 4 * i
/-- SRX_STREAM_CTRL, R488. -/
def SRX_STREAM_CTRL : Nat := 0x24040
/-- SRX_STREAM_STATUS, R488. -/
def SRX_STREAM_STATUS : Nat := 0x24044
/-- SRX_STREAM_EVENT, R488. -/
def SRX_STREAM_EVENT : Nat := 0x24048
/-- SRX_STREAM_EVENT_EN, R488. -/
def SRX_STREAM_EVENT_EN : Nat := 0x2404c
/-- SRX_STREAM_SSRC, R488. -/
def SRX_STREAM_SSRC : Nat := 0x24050
/-- SRX_STREAM_MARGIN, R488. -/
def SRX_STREAM_MARGIN : Nat := 0x24054
/-- SRX_STREAM_CNT[i], R488. -/
def SRX_STREAM_CNT (i : Nat) : Nat := 0x24060 + 4 * i
/-- SRX_STREAM_PEND[i], R488. -/
def SRX_STREAM_PEND (i : Nat) : Nat := 0x24080 + 4 * i
/-- SRX_DROP_IDLE, R488. -/
def SRX_DROP_IDLE : Nat := 0x240c0
/-- SRX_RR_SKIPPED, R488. -/
def SRX_RR_SKIPPED : Nat := 0x240c4
/-- SRX_RR_OUTSTANDING, R488. -/
def SRX_RR_OUTSTANDING : Nat := 0x240c8
/-- STX_STATUS, R523. -/
def STX_STATUS : Nat := 0x28000
/-- STX_EVENT, R523. -/
def STX_EVENT : Nat := 0x28004
/-- STX_IRQ_EN, R523. -/
def STX_IRQ_EN : Nat := 0x28008
/-- STX_ERR, R523. -/
def STX_ERR : Nat := 0x2800c
/-- STX_CFG, R523. -/
def STX_CFG : Nat := 0x28010
/-- STX_RR_CFG, R523. -/
def STX_RR_CFG : Nat := 0x28014
/-- STX_SRC_IP4[i], R523. -/
def STX_SRC_IP4 (i : Nat) : Nat := 0x28018 + 4 * i
/-- STX_SEL, R523. -/
def STX_SEL : Nat := 0x28020
/-- STX_RR_BAD, R523. -/
def STX_RR_BAD : Nat := 0x28024
/-- STX_RR_OVERFLOW[i], R523. -/
def STX_RR_OVERFLOW (i : Nat) : Nat := 0x28028 + 4 * i
/-- STX_RR_OUTSTANDING[i], R523. -/
def STX_RR_OUTSTANDING (i : Nat) : Nat := 0x28030 + 4 * i
/-- STX_RR_NOPORT, R523. -/
def STX_RR_NOPORT : Nat := 0x28038
/-- STX_STREAM_CTRL, R523. -/
def STX_STREAM_CTRL : Nat := 0x28040
/-- STX_STREAM_STATUS, R523. -/
def STX_STREAM_STATUS : Nat := 0x28044
/-- STX_STREAM_EVENT, R523. -/
def STX_STREAM_EVENT : Nat := 0x28048
/-- STX_STREAM_EVENT_EN, R523. -/
def STX_STREAM_EVENT_EN : Nat := 0x2804c
/-- STX_STREAM_HELD, R523. -/
def STX_STREAM_HELD : Nat := 0x28050
/-- STX_STREAM_CNT[i], R523. -/
def STX_STREAM_CNT (i : Nat) : Nat := 0x28060 + 4 * i
/-- STX_STREAM_PEND[i], R523. -/
def STX_STREAM_PEND (i : Nat) : Nat := 0x28080 + 4 * i
/-- BUF_STATUS, R291. -/
def BUF_STATUS : Nat := 0x2c000
/-- BUF_EVENT, R291. -/
def BUF_EVENT : Nat := 0x2c004
/-- BUF_IRQ_EN, R291. -/
def BUF_IRQ_EN : Nat := 0x2c008
/-- BUF_ERR, R291. -/
def BUF_ERR : Nat := 0x2c00c
/-- BUF_ALLOC, R291. -/
def BUF_ALLOC : Nat := 0x2c010
/-- BUF_USED, R291. -/
def BUF_USED : Nat := 0x2c014
/-- BUF_REPAIR_CFG, R291. -/
def BUF_REPAIR_CFG : Nat := 0x2c018
/-- BUF_MIGRATE, R291. -/
def BUF_MIGRATE : Nat := 0x2c01c
/-- BUF_MIG_PROGRESS, R291. -/
def BUF_MIG_PROGRESS : Nat := 0x2c020
/-- BUF_RETIRED_LO, R291. -/
def BUF_RETIRED_LO : Nat := 0x2c024
/-- BUF_RETIRED_HI, R291. -/
def BUF_RETIRED_HI : Nat := 0x2c028
/-- BUF_ECC_LAST, R291. -/
def BUF_ECC_LAST : Nat := 0x2c02c
/-- BUF_CE_COUNT, R291. -/
def BUF_CE_COUNT : Nat := 0x2c030
/-- BUF_DED_COUNT, R291. -/
def BUF_DED_COUNT : Nat := 0x2c034
/-- BUF_DROP_UNCONF, R291. -/
def BUF_DROP_UNCONF : Nat := 0x2c038
/-- BUF_APER_BASE, R291. -/
def BUF_APER_BASE : Nat := 0x2c03c
/-- BUF_BANK_MAP, R292. -/
def BUF_BANK_MAP : Nat := 0x2c040
/-- BUF_BANK_MAP_COMP, R292. -/
def BUF_BANK_MAP_COMP : Nat := 0x2c044
/-- BUF_MAP[i], R291. -/
def BUF_MAP (i : Nat) : Nat := 0x2c060 + 4 * i
/-- BUF_Q_PEND[i], R291. -/
def BUF_Q_PEND (i : Nat) : Nat := 0x2c080 + 4 * i
/-- RAL_STATUS, R542. -/
def RAL_STATUS : Nat := 0x30000
/-- RAL_EVENT, R542. -/
def RAL_EVENT : Nat := 0x30004
/-- RAL_IRQ_EN, R542. -/
def RAL_IRQ_EN : Nat := 0x30008
/-- RAL_ERR, R542. -/
def RAL_ERR : Nat := 0x3000c
/-- RAL_LOAD, R542. -/
def RAL_LOAD : Nat := 0x30010
/-- RAL_SEL, R542. -/
def RAL_SEL : Nat := 0x30014
/-- RAL_STREAM_CTRL, R542. -/
def RAL_STREAM_CTRL : Nat := 0x30040
/-- RAL_STREAM_STATUS, R542. -/
def RAL_STREAM_STATUS : Nat := 0x30044
/-- RAL_STREAM_RATIO, R542. -/
def RAL_STREAM_RATIO : Nat := 0x30048
/-- RAL_STREAM_EVENT, R542. -/
def RAL_STREAM_EVENT : Nat := 0x3004c
/-- RAL_STREAM_EVENT_EN, R542. -/
def RAL_STREAM_EVENT_EN : Nat := 0x30050
/-- RAL_STREAM_PEND[i], R542. -/
def RAL_STREAM_PEND (i : Nat) : Nat := 0x30080 + 4 * i
/-- DRV_STATUS, R578. -/
def DRV_STATUS : Nat := 0x34000
/-- DRV_EVENT, R578. -/
def DRV_EVENT : Nat := 0x34004
/-- DRV_IRQ_EN, R578. -/
def DRV_IRQ_EN : Nat := 0x34008
/-- DRV_ERR, R578. -/
def DRV_ERR : Nat := 0x3400c
/-- DRV_COUNT_ACT, R578. -/
def DRV_COUNT_ACT : Nat := 0x34010
/-- DRV_COUNT_ACT_TERMS, R578. -/
def DRV_COUNT_ACT_TERMS : Nat := 0x34014
/-- DRV_COUNT_INACT, R578. -/
def DRV_COUNT_INACT : Nat := 0x34018
/-- DRV_COUNT_INACT_TERMS, R578. -/
def DRV_COUNT_INACT_TERMS : Nat := 0x3401c
/-- DRV_SWAP_STROKE, R578. -/
def DRV_SWAP_STROKE : Nat := 0x34020
/-- DRV_CASC_MISS, R578. -/
def DRV_CASC_MISS : Nat := 0x34024
/-- DRV_BUS_MUTE[i], R578. -/
def DRV_BUS_MUTE (i : Nat) : Nat := 0x34040 + 4 * i
/-- DRV_LISTEN_MUTE[i], R578. -/
def DRV_LISTEN_MUTE (i : Nat) : Nat := 0x34100 + 4 * i
/-- DRV_CLIP_PEND[i], R578. -/
def DRV_CLIP_PEND (i : Nat) : Nat := 0x34200 + 4 * i
/-- TDM_STATUS, R600. -/
def TDM_STATUS : Nat := 0x38000
/-- TDM_EVENT, R600. -/
def TDM_EVENT : Nat := 0x38004
/-- TDM_IRQ_EN, R600. -/
def TDM_IRQ_EN : Nat := 0x38008
/-- TDM_ERR, R600. -/
def TDM_ERR : Nat := 0x3800c
/-- TDM_PORT_EVENT_EN, R600. -/
def TDM_PORT_EVENT_EN : Nat := 0x38010
/-- TDM_PEND, R600. -/
def TDM_PEND : Nat := 0x38014
/-- TDM_CFG[i], R600. -/
def TDM_CFG (i : Nat) : Nat := 0x38100 + 32 * i
/-- TDM_RX_MASK[i], R600. -/
def TDM_RX_MASK (i : Nat) : Nat := 0x38104 + 32 * i
/-- TDM_TX_MASK[i], R600. -/
def TDM_TX_MASK (i : Nat) : Nat := 0x38108 + 32 * i
/-- TDM_X24[i], R600. -/
def TDM_X24 (i : Nat) : Nat := 0x3810c + 32 * i
/-- TDM_MUTE_IN[i], R600. -/
def TDM_MUTE_IN (i : Nat) : Nat := 0x38110 + 32 * i
/-- TDM_MUTE_OUT[i], R600. -/
def TDM_MUTE_OUT (i : Nat) : Nat := 0x38114 + 32 * i
/-- TDM_TS[i], R600. -/
def TDM_TS (i : Nat) : Nat := 0x38118 + 32 * i
/-- TDM_PHASE[i], R600. -/
def TDM_PHASE (i : Nat) : Nat := 0x3811c + 32 * i
/-- TDM_PORT_STATUS[i], R600. -/
def TDM_PORT_STATUS (i : Nat) : Nat := 0x38300 + 4 * i
/-- TDM_PORT_EVENT[i], R600. -/
def TDM_PORT_EVENT (i : Nat) : Nat := 0x38340 + 4 * i
/-- TDM_CNT[i], R600. -/
def TDM_CNT (i : Nat) : Nat := 0x38380 + 4 * i
/-- OBL_STATUS, R631. -/
def OBL_STATUS : Nat := 0x3c000
/-- OBL_EVENT, R631. -/
def OBL_EVENT : Nat := 0x3c004
/-- OBL_IRQ_EN, R631. -/
def OBL_IRQ_EN : Nat := 0x3c008
/-- OBL_ERR, R631. -/
def OBL_ERR : Nat := 0x3c00c
/-- OBL_CFG, R631. -/
def OBL_CFG : Nat := 0x3c010
/-- OBL_HOP_ERR, R631. -/
def OBL_HOP_ERR : Nat := 0x3c014
/-- OBL_COX_ID_HI, R631. -/
def OBL_COX_ID_HI : Nat := 0x3c018
/-- OBL_COX_ID_LO, R631. -/
def OBL_COX_ID_LO : Nat := 0x3c01c
/-- OBL_TUN_LATE, R631. -/
def OBL_TUN_LATE : Nat := 0x3c020
/-- OBL_BAD, R631. -/
def OBL_BAD : Nat := 0x3c024
/-- OBL_PORT_STATUS[i], R631. -/
def OBL_PORT_STATUS (i : Nat) : Nat := 0x3c040 + 32 * i
/-- OBL_DELAY[i], R631. -/
def OBL_DELAY (i : Nat) : Nat := 0x3c044 + 32 * i
/-- OBL_FAC_DELAY[i], R631. -/
def OBL_FAC_DELAY (i : Nat) : Nat := 0x3c048 + 32 * i
/-- OBL_USR_ASYM[i], R631. -/
def OBL_USR_ASYM (i : Nat) : Nat := 0x3c04c + 32 * i
/-- OBL_CRC_ERR[i], R631. -/
def OBL_CRC_ERR (i : Nat) : Nat := 0x3c050 + 32 * i
/-- OBL_DOWN_COUNT[i], R631. -/
def OBL_DOWN_COUNT (i : Nat) : Nat := 0x3c054 + 32 * i
/-- OBL_SEAT_STATUS[i], R631. -/
def OBL_SEAT_STATUS (i : Nat) : Nat := 0x3c084 + 4 * i
/-- OBL_LANE_OWNER[i], R631. -/
def OBL_LANE_OWNER (i : Nat) : Nat := 0x3c100 + 4 * i

end Reg

/-- The registers of window 0, GLB. -/
def rowsGLB : List RegRow :=
  [ { base := 0x0, reset := 0xb02048 },
    { base := 0x4, reset := 0x30100 },
    { base := 0x8 },
    { base := 0xc, rw := 0xffffffff },
    { base := 0x10 },
    { base := 0x14, rw := 0xffff },
    { base := 0x18, rc := 0x7 },
    { base := 0x1c },
    { base := 0x20, key := true },
    { base := 0x24, key := true },
    { base := 0x28, key := true },
    { base := 0x2c, key := true },
    { base := 0x30, reset := 0x2 },
    { base := 0x34, rc := 0xff000000 } ]

/-- The registers of window 1, PMU. -/
def rowsPMU : List RegRow :=
  [ { base := 0x4000, reset := 0x2 },
    { base := 0x4004 },
    { base := 0x4008, key := true },
    { base := 0x400c, key := true },
    { base := 0x4010, key := true },
    { base := 0x4014, key := true },
    { base := 0x4018, reset := 0x1f },
    { base := 0x401c },
    { base := 0x4020, reset := 0x103, rw := 0x1ff },
    { base := 0x4024, reset := 0x1, rc := 0x7ff },
    { base := 0x4028 },
    { base := 0x402c, reset := 0x640003, rw := 0xffff0003 },
    { base := 0x4030, rc := 0x7f },
    { base := 0x4034, rw := 0x7f },
    { base := 0x4038, rc := 0x3 },
    { base := 0x4100 },
    { base := 0x4104, rc := 0x3ffe },
    { base := 0x4108, rw := 0x3ffe },
    { base := 0x410c, reset := 0x641, rw := 0xfff },
    { base := 0x4110, w1p := 0x1 },
    { base := 0x4114 },
    { base := 0x4118, reset := 0x5695f, rw := 0xffffff },
    { base := 0x411c, reset := 0x64, rw := 0xffff },
    { base := 0x4120 },
    { base := 0x4124 } ]

/-- The registers of window 2, HIF. -/
def rowsHIF : List RegRow :=
  [ { base := 0x8000 },
    { base := 0x8004, rc := 0x3f },
    { base := 0x8008, rw := 0x3f },
    { base := 0x800c, rc := 0x3f },
    { base := 0x8010, reset := 0x1, rw := 0x1 },
    { base := 0x8014, reset := 0x3, rw := 0xf },
    { base := 0x8018 },
    { base := 0x801c, w1p := 0x1 },
    { base := 0x8020, rwd := 0xffffffff },
    { base := 0x8024, rwd := 0xffffffff },
    { base := 0x8028, rwd := 0xffffffff },
    { base := 0x802c, rwd := 0xffffffff },
    { base := 0x8030, reset := 0x860, rw := 0x1, rwd := 0xff0 },
    { base := 0x8034, rw := 0xffff },
    { base := 0x8038 },
    { base := 0x803c },
    { base := 0x8040, rw := 0xffff },
    { base := 0x8044, reset := 0x400 },
    { base := 0x8048, reset := 0x20480000 },
    { base := 0x8100, stride := 16, count := 32, rwd := 0xffffffff },
    { base := 0x8104, stride := 16, count := 32, rwd := 0xffffffff },
    { base := 0x8108, stride := 16, count := 32, reset := 0x20, rw := 0x3e000001, rwd := 0x1fffff2 },
    { base := 0x810c, stride := 16, count := 32, rc := 0xffff0000 } ]

/-- The registers of window 3, CMD. -/
def rowsCMD : List RegRow :=
  [ { base := 0xc000 },
    { base := 0xc004, rc := 0xf },
    { base := 0xc008, rw := 0xf },
    { base := 0xc00c, rc := 0x1 },
    { base := 0xc010 },
    { base := 0xc014 },
    { base := 0xc018 },
    { base := 0xc020, stride := 4, count := 4 },
    { base := 0xc030, key := true },
    { base := 0xc034, key := true },
    { base := 0xc100 },
    { base := 0xc104, rw := 0x3ff },
    { base := 0xc108 } ]

/-- The registers of window 4, NTU. -/
def rowsNTU : List RegRow :=
  [ { base := 0x10000 },
    { base := 0x10004, rc := 0x3ff },
    { base := 0x10008, rw := 0x3ff },
    { base := 0x1000c, rc := 0x1 },
    { base := 0x10010 },
    { base := 0x10014 },
    { base := 0x10018 },
    { base := 0x1001c },
    { base := 0x10020 },
    { base := 0x10024 },
    { base := 0x10028 },
    { base := 0x1002c },
    { base := 0x10030 },
    { base := 0x10034 },
    { base := 0x10038 },
    { base := 0x1003c, rc := 0xffffffff },
    { base := 0x10040, stride := 32, count := 2 },
    { base := 0x10044, stride := 32, count := 2 },
    { base := 0x10048, stride := 32, count := 2, rw := 0xffffffff },
    { base := 0x1004c, stride := 32, count := 2, rw := 0xffffffff },
    { base := 0x10050, stride := 32, count := 2, rw := 0xffffffff },
    { base := 0x10054, stride := 32, count := 2 },
    { base := 0x10078 },
    { base := 0x1007c },
    { base := 0x10080, rw := 0xffff },
    { base := 0x10084, rc := 0xffffffff },
    { base := 0x10090, stride := 16, count := 4, rw := 0x7 },
    { base := 0x10094, stride := 16, count := 4, reset := 0x3b9aca00, rwd := 0xffffffff },
    { base := 0x10098, stride := 16, count := 4, reset := 0x2710, rwd := 0xffffffff },
    { base := 0x1009c, stride := 16, count := 4, rwd := 0xffffffff },
    { base := 0x100d0, reset := 0x1, rw := 0xff },
    { base := 0x100d4 },
    { base := 0x100d8, rw := 0x3ff },
    { base := 0x100dc },
    { base := 0x10100, stride := 4, count := 32, rc := 0xffffffff } ]

/-- The registers of window 5, MCK. -/
def rowsMCK : List RegRow :=
  [ { base := 0x14000, reset := 0x87 },
    { base := 0x14004, rc := 0xff },
    { base := 0x14008, rw := 0xff },
    { base := 0x1400c, rc := 0x3 },
    { base := 0x14010, reset := 0x4, rwd := 0xf },
    { base := 0x14014 },
    { base := 0x14018 },
    { base := 0x1401c },
    { base := 0x14020 },
    { base := 0x14024 },
    { base := 0x14028 },
    { base := 0x1402c },
    { base := 0x14030 },
    { base := 0x14034, rw := 0xffffffff },
    { base := 0x14038, rwl := 0x3 },
    { base := 0x14040, stride := 4, count := 6 },
    { base := 0x14060, stride := 4, count := 6 },
    { base := 0x14080, stride := 4, count := 4, reset := 0x8, rw := 0x1, rwd := 0x1e },
    { base := 0x140a0, stride := 4, count := 4, reset := 0x10, rw := 0x1, rwd := 0x3e },
    { base := 0x140c0, reset := 0x271000, rw := 0x1, rwd := 0xffff00 } ]

/-- The registers of window 6, NPA. -/
def rowsNPA : List RegRow :=
  [ { base := 0x18000 },
    { base := 0x18004, rc := 0x3f },
    { base := 0x18008, rw := 0x3f },
    { base := 0x1800c, rc := 0x3f },
    { base := 0x18010, reset := 0x8, rw := 0x1, rwd := 0xe },
    { base := 0x18014, rwd := 0xffffffff },
    { base := 0x18018, rwd := 0xffff },
    { base := 0x1801c, reset := 0x5f2, rwd := 0x3fff },
    { base := 0x18020, reset := 0x1, rw := 0xf },
    { base := 0x18024, reset := 0x3, rw := 0x7 },
    { base := 0x18028, rw := 0x1ffffff, w1p := 0x80000000 },
    { base := 0x1802c },
    { base := 0x18030, reset := 0xfac688, rw := 0xffffff },
    { base := 0x18034, reset := 0x200, rw := 0x7ff },
    { base := 0x18038, reset := 0x100, rw := 0x7ff },
    { base := 0x1803c, reset := 0x32, rw := 0xffff },
    { base := 0x18040, key := true },
    { base := 0x18044, key := true },
    { base := 0x18048, rc := 0xffffffff },
    { base := 0x1804c, rc := 0xffff },
    { base := 0x18050, rc := 0xffffffff },
    { base := 0x18054, reset := 0x1, rw := 0x1 },
    { base := 0x18058, rc := 0xffff },
    { base := 0x18080, stride := 4, count := 32, rw := 0xffffffff },
    { base := 0x18100, stride := 4, count := 4, rw := 0xffffffff },
    { base := 0x18200, stride := 4, count := 48, rw := 0xffffffff },
    { base := 0x18300, stride := 4, count := 48, rw := 0xffffffff } ]

/-- The registers of window 7, NPB. -/
def rowsNPB : List RegRow :=
  [ { base := 0x1c000 },
    { base := 0x1c004, rc := 0x3f },
    { base := 0x1c008, rw := 0x3f },
    { base := 0x1c00c, rc := 0x3f },
    { base := 0x1c010, reset := 0x8, rw := 0x1, rwd := 0xe },
    { base := 0x1c014, rwd := 0xffffffff },
    { base := 0x1c018, rwd := 0xffff },
    { base := 0x1c01c, reset := 0x5f2, rwd := 0x3fff },
    { base := 0x1c020, reset := 0x1, rw := 0xf },
    { base := 0x1c024, reset := 0x3, rw := 0x7 },
    { base := 0x1c028, rw := 0x1ffffff, w1p := 0x80000000 },
    { base := 0x1c02c },
    { base := 0x1c030, reset := 0xfac688, rw := 0xffffff },
    { base := 0x1c034, reset := 0x200, rw := 0x7ff },
    { base := 0x1c038, reset := 0x100, rw := 0x7ff },
    { base := 0x1c03c, reset := 0x32, rw := 0xffff },
    { base := 0x1c040, key := true },
    { base := 0x1c044, key := true },
    { base := 0x1c048, rc := 0xffffffff },
    { base := 0x1c04c, rc := 0xffff },
    { base := 0x1c050, rc := 0xffffffff },
    { base := 0x1c054, reset := 0x1, rw := 0x1 },
    { base := 0x1c058, rc := 0xffff },
    { base := 0x1c080, stride := 4, count := 32, rw := 0xffffffff },
    { base := 0x1c100, stride := 4, count := 4, rw := 0xffffffff },
    { base := 0x1c200, stride := 4, count := 48, rw := 0xffffffff },
    { base := 0x1c300, stride := 4, count := 48, rw := 0xffffffff } ]

/-- The registers of window 8, RUD. -/
def rowsRUD : List RegRow :=
  [ { base := 0x20000, reset := 0x5 },
    { base := 0x20004, rc := 0x7 },
    { base := 0x20008, rw := 0x7 },
    { base := 0x2000c, rc := 0x3 },
    { base := 0x20010, reset := 0x1, rw := 0x1, rwd := 0x2 },
    { base := 0x20014, rw := 0xffffffff },
    { base := 0x20018 },
    { base := 0x20020, stride := 4, count := 4, rwl := 0xffffffff },
    { base := 0x20040, stride := 4, count := 16, rc := 0xffffffff } ]

/-- The registers of window 9, SRX. -/
def rowsSRX : List RegRow :=
  [ { base := 0x24000 },
    { base := 0x24004, rc := 0x7 },
    { base := 0x24008, rw := 0x7 },
    { base := 0x2400c, rc := 0x1 },
    { base := 0x24010, reset := 0x51413f1, rw := 0xffffffff },
    { base := 0x24014, stride := 4, count := 2, rw := 0xffffffff },
    { base := 0x2401c, rw := 0x1ff },
    { base := 0x24020, stride := 4, count := 4, rw := 0xffffffff },
    { base := 0x24030, stride := 4, count := 4, rw := 0xffffffff },
    { base := 0x24040, rw := 0xe, rwl := 0x1, rwd := 0x300 },
    { base := 0x24044 },
    { base := 0x24048, rc := 0x1ff },
    { base := 0x2404c, rw := 0x1ff },
    { base := 0x24050 },
    { base := 0x24054, reset := 0xffff },
    { base := 0x24060, stride := 4, count := 8, rc := 0xffffffff },
    { base := 0x24080, stride := 4, count := 16 },
    { base := 0x240c0, rc := 0xffffffff },
    { base := 0x240c4, rc := 0xffffffff },
    { base := 0x240c8 } ]

/-- The registers of window 10, STX. -/
def rowsSTX : List RegRow :=
  [ { base := 0x28000 },
    { base := 0x28004, rc := 0xf },
    { base := 0x28008, rw := 0xf },
    { base := 0x2800c, rc := 0x1 },
    { base := 0x28010, reset := 0x2710, rw := 0xffff },
    { base := 0x28014, reset := 0x808, rw := 0x7f7f },
    { base := 0x28018, stride := 4, count := 2, rw := 0xffffffff },
    { base := 0x28020, rw := 0x1ff },
    { base := 0x28024, rc := 0xffffffff },
    { base := 0x28028, stride := 4, count := 2, rc := 0xffffffff },
    { base := 0x28030, stride := 4, count := 2 },
    { base := 0x28038, rc := 0xffffffff },
    { base := 0x28040, rw := 0x2, rwl := 0x1, rwd := 0x300 },
    { base := 0x28044 },
    { base := 0x28048, rc := 0x7f },
    { base := 0x2804c, rw := 0x7f },
    { base := 0x28050 },
    { base := 0x28060, stride := 4, count := 8, rc := 0xffffffff },
    { base := 0x28080, stride := 4, count := 16 } ]

/-- The registers of window 11, BUF. -/
def rowsBUF : List RegRow :=
  [ { base := 0x2c000 },
    { base := 0x2c004, rc := 0x7f },
    { base := 0x2c008, rw := 0x7f },
    { base := 0x2c00c, rc := 0x7 },
    { base := 0x2c010 },
    { base := 0x2c014, reset := 0x110000 },
    { base := 0x2c018, reset := 0x805, rw := 0xff07 },
    { base := 0x2c01c, reset := 0x3f3f3f },
    { base := 0x2c020 },
    { base := 0x2c024 },
    { base := 0x2c028 },
    { base := 0x2c02c },
    { base := 0x2c030, rc := 0xffffffff },
    { base := 0x2c034, rc := 0xffffffff },
    { base := 0x2c038, rc := 0xffffffff },
    { base := 0x2c03c, rw := 0x7ff },
    { base := 0x2c040, key := true },
    { base := 0x2c044, key := true },
    { base := 0x2c060, stride := 4, count := 8 },
    { base := 0x2c080, stride := 4, count := 8 } ]

/-- The registers of window 12, RAL. -/
def rowsRAL : List RegRow :=
  [ { base := 0x30000 },
    { base := 0x30004, rc := 0x3 },
    { base := 0x30008, rw := 0x3 },
    { base := 0x3000c, rc := 0x1 },
    { base := 0x30010, reset := 0x1e000000 },
    { base := 0x30014, rw := 0x1ff },
    { base := 0x30040, reset := 0x3211, rwl := 0xff70, rwd := 0x3 },
    { base := 0x30044 },
    { base := 0x30048 },
    { base := 0x3004c, rc := 0x3f },
    { base := 0x30050, rw := 0x3f },
    { base := 0x30080, stride := 4, count := 16 } ]

/-- The registers of window 13, DRV. -/
def rowsDRV : List RegRow :=
  [ { base := 0x34000 },
    { base := 0x34004, rc := 0x1f },
    { base := 0x34008, rw := 0x1f },
    { base := 0x3400c, rc := 0x1 },
    { base := 0x34010 },
    { base := 0x34014 },
    { base := 0x34018 },
    { base := 0x3401c },
    { base := 0x34020 },
    { base := 0x34024, rc := 0xffffffff },
    { base := 0x34040, stride := 4, count := 16, rwl := 0xffffffff },
    { base := 0x34100, stride := 4, count := 64, rwl := 0xffffffff },
    { base := 0x34200, stride := 4, count := 64, rc := 0xffffffff } ]

/-- The registers of window 14, TDM. -/
def rowsTDM : List RegRow :=
  [ { base := 0x38000 },
    { base := 0x38004, rc := 0x1 },
    { base := 0x38008, rw := 0x1 },
    { base := 0x3800c, rc := 0x3 },
    { base := 0x38010, rw := 0x7f },
    { base := 0x38014 },
    { base := 0x38100, stride := 32, count := 16, reset := 0x3e10, rw := 0x1, rwd := 0x3fffe },
    { base := 0x38104, stride := 32, count := 16, reset := 0x3, rwd := 0xffffffff },
    { base := 0x38108, stride := 32, count := 16, reset := 0x3, rwd := 0xffffffff },
    { base := 0x3810c, stride := 32, count := 16, rwd := 0xffff },
    { base := 0x38110, stride := 32, count := 16, rwl := 0xffffffff },
    { base := 0x38114, stride := 32, count := 16, rwl := 0xffffffff },
    { base := 0x38118, stride := 32, count := 16 },
    { base := 0x3811c, stride := 32, count := 16 },
    { base := 0x38300, stride := 4, count := 16 },
    { base := 0x38340, stride := 4, count := 16, rc := 0x7f },
    { base := 0x38380, stride := 4, count := 16, rc := 0xffffffff } ]

/-- The registers of window 15, OBL. -/
def rowsOBL : List RegRow :=
  [ { base := 0x3c000 },
    { base := 0x3c004, rc := 0x3ff },
    { base := 0x3c008, rw := 0x3ff },
    { base := 0x3c00c, rc := 0x1 },
    { base := 0x3c010, reset := 0x64000c, rw := 0xffff000b, rwd := 0x4, w1p := 0x10 },
    { base := 0x3c014 },
    { base := 0x3c018 },
    { base := 0x3c01c },
    { base := 0x3c020, rc := 0xffffffff },
    { base := 0x3c024, rc := 0xffffffff },
    { base := 0x3c040, stride := 32, count := 2 },
    { base := 0x3c044, stride := 32, count := 2 },
    { base := 0x3c048, stride := 32, count := 2 },
    { base := 0x3c04c, stride := 32, count := 2, rw := 0xffffffff },
    { base := 0x3c050, stride := 32, count := 2, rc := 0xffffffff },
    { base := 0x3c054, stride := 32, count := 2, rc := 0xffffffff },
    { base := 0x3c084, stride := 4, count := 7 },
    { base := 0x3c100, stride := 4, count := 64, reset := 0xffffffff } ]

/-- The register rows of the window that an address falls in (R11, R135). -/
def windowRows (w : Nat) : List RegRow :=
  match w with
  | 0 => rowsGLB
  | 1 => rowsPMU
  | 2 => rowsHIF
  | 3 => rowsCMD
  | 4 => rowsNTU
  | 5 => rowsMCK
  | 6 => rowsNPA
  | 7 => rowsNPB
  | 8 => rowsRUD
  | 9 => rowsSRX
  | 10 => rowsSTX
  | 11 => rowsBUF
  | 12 => rowsRAL
  | 13 => rowsDRV
  | 14 => rowsTDM
  | 15 => rowsOBL
  | _ => []

/-- Whether a row holds the register at canonical address `a`. -/
def RegRow.holds (r : RegRow) (a : Nat) : Bool :=
  decide (r.base ≤ a) && decide ((a - r.base) % r.stride = 0) && decide ((a - r.base) / r.stride < r.count)

/-- The row of the register at canonical address `a`; none where the unit implements no register there (R136). -/
def regRow (a : Nat) : Option RegRow := (windowRows (a / 0x4000)).find? fun r => r.holds a

/-- The distance between the keys of two streams' banked registers. -/
def bankStep : Nat := 0x100000

/-- The key of register `a` of stream `n` among the registers shown through SRX_SEL, STX_SEL and RAL_SEL. -/
def bankKey (n a : Nat) : Nat := a + bankStep * (n + 1)

/-- The reset value of the register with key `k`, banked or not. -/
def regReset (k : Nat) : Word :=
  match regRow (k % bankStep) with
  | some r => w32 r.reset
  | none => 0

end Sys2Proof.Machine
end

