-- ==== Sys2Proof/Machine/State.lean ====
section
/-! DEFINITION. The state of the Halyn: every register, table, queue, counter, mode and pin the manual gives it, as plain
data, and the state at reset. Register contents stand in one sparse table by canonical address (R135); what is not a
register stands in a structure of its unit. -/
namespace Sys2Proof.Machine

/-- How a step can stop. The Halyn has no stop: every command of the table has an effect, if only the one of being
ignored, in every state. The one reason stands for a command list that names no machine; no meaning raises it. Safe. -/
inductive Fault where
  | none
  deriving DecidableEq, Repr

/-- Why a command has no meaning. `notModelled` is answered by an arm of `exec` whose command has no meaning yet;
safe, since such a step has no next state. No arm answers it in the finished model. -/
inductive Refusal where
  | notModelled (mnemonic : String)
  deriving DecidableEq, Repr

/-! ## Power, reset and management (R49 to R133) -/


/-- Why the enables fall, or what they rise to (R55 to R57, R118, R119). -/
inductive RailGoal where
  /-- MOORED entered with all enables low. -/
  | moored
  /-- WATCH entered with RAIL_EN[3] low. -/
  | watch
  /-- BOOT for the restart cause of R235. -/
  | boot (cause : Nat)
  /-- A powered mode entered from WATCH. -/
  | back (m : Mode)
  deriving DecidableEq, Repr

/-- The rail sequencer (R55 to R57, R59). -/
inductive RailSeq where
  /-- No sequence. -/
  | idle
  /-- Enables rise one by one, T_SEQ apart. -/
  | rising (goal : RailGoal)
  /-- All enables are high and PWR_GOOD is awaited within T_PG. -/
  | waitGood (goal : RailGoal)
  /-- PWR_GOOD is high and the core reset is about to be released. -/
  | release (cause : Nat)
  /-- Enables fall one by one, T_DN apart; `next` is the raise that follows T_OFF, if any. -/
  | falling (goal : RailGoal) (next : Option RailGoal)
  /-- All enables are low and T_OFF runs; `next` is the raise that follows it, if any. -/
  | off (next : Option RailGoal)
  deriving DecidableEq, Repr

/-- A unit's answer to a power request (R97, R121). -/
inductive UnitAns where
  | none | grant | delay | refuse
  deriving DecidableEq, Repr

/-- How far a power request has come (R97, R117, R131). -/
inductive HsStage where
  /-- Asking or waiting. -/
  | asking
  /-- Committed; the units carry out their parts, or the stroke boundary of R83 is awaited. -/
  | carrying
  /-- A POWER_REQUEST reply is made and its posting is awaited (R131). -/
  | replying
  /-- The rails are changing. -/
  | rails
  deriving DecidableEq, Repr

/-- A request of `MODE_SET` or `POWER_REQUEST`, in progress or in the pending slot (R97 to R103). -/
structure PowerReq where
  target : Mode
  force : Bool := false
  cap : Nat := 0
  wake : Option (BitVec 9) := none
  /-- Intake number of the command that made it. -/
  ord : Nat := 0
  tag : BitVec 7 := 0
  before : Mode := .boot
  stage : HsStage := .asking
  ans : List UnitAns := []
  /-- Course Time at the ask. -/
  askAt : Nat := 0
  deriving DecidableEq, Repr

/-- The PMU outside its registers (R79 to R133). -/
structure Pmu where
  mode : Mode := .boot
  prevMode : Mode := .moored
  straps : Straps := {}
  vddAon : Bool := true
  porN : Bool := true
  railEn : BitVec 4 := 0xF
  pwrGood : Bool := true
  seq : RailSeq := .idle
  req : Option PowerReq := none
  slot : Option PowerReq := none
  islandAuto : Bool := false
  firstService : Bool := false
  /-- The mode committed to take effect at the next stroke boundary (R83). -/
  modeNext : Option Mode := none
  /-- An automatic change of ISLAND waits for the request in progress (R105). -/
  autoWait : Option Mode := none
  /-- The next stroke boundary is one later for what reached its unit in Recovery (R32). -/
  modeLate : Bool := false
  /-- FAULT_N is held by a PWR_GOOD failure (R56). -/
  pgFault : Bool := false
  wakeOutN : Bool := false
  peWakeN : Bool := false
  /-- The change to `modeNext` is an automatic one of ISLAND. -/
  autoNext : Bool := false
  /-- A PMU_MODE_FORCE or Umpire change waits for its boundary or for the units' parts (R83, R104). -/
  forced : Option Mode := none
  /-- The forced actions of R100 were taken for the change in progress, which waits for them (R100, R118). -/
  forcing : Bool := false
  /-- Bit u − 1: unit u has reported its part of a committed change complete (R97). -/
  parts : BitVec 14 := 0
  /-- A wake is in progress, and PMU_EVENT.WAKE records its end (R126). -/
  waking : Bool := false
  /-- The raw factory-record read path is open (R173). -/
  otpOpen : Bool := false
  deriving DecidableEq, Repr

/-! ## Register access (R134 to R163) -/

/-- An open keyed sequence of one unit window (R147). -/
structure KeySeq where
  /-- Canonical address of the value word. -/
  addr : Nat
  /-- Address as issued, for GLB_ERR_ADDR. -/
  issued : Nat
  path : Path
  value : Word
  /-- Nanoseconds since the value write in which CLK_CTL ran. -/
  age : Nat := 0
  deriving DecidableEq, Repr

/-- What the last access drove onto its path: read data and the management status byte (R184 to R186). -/
structure BusOut where
  rdata : List Word := []
  /-- The last access was answered. -/
  ack : Bool := false
  status : Byte := 0
  /-- Status of the last management write (R184, command byte 0x20). -/
  msWrite : Byte := 0
  /-- The last request was completed with Completer Abort (R155). -/
  abort : Bool := false
  deriving DecidableEq, Repr

/-! ## Host interface (R176 to R209) -/

/-- An audio ring outside its registers (R193 to R201). -/
structure Ring where
  /-- The enable in force since its stroke boundary (R198). -/
  live : Bool := false
  /-- The enable that waits, with the boundaries to come (R32, R198). -/
  want : Option (Nat × Bool) := none
  /-- First stroke a playback ring delivers, or a capture ring writes (R198). -/
  start : Nat := 0
  /-- The first and the last stroke of the latest unbroken run of capture entries written (R194, R197). -/
  run : Option (Nat × Nat) := none
  /-- The playback entry read for the next stroke: its words, or none of them where it was missed (R196). -/
  play : Option (List Word) := none
  deriving DecidableEq, Repr

/-- The host interface outside its registers (R176 to R209). -/
structure Hif where
  /-- HIF answers register accesses (R88 step 4). -/
  up : Bool := false
  perstN : Bool := false
  linkUp : Bool := false
  training : Bool := false
  width : BitVec 2 := 0
  speed : BitVec 2 := 0
  msixEn : Bool := false
  bme : Bool := false
  d3hot : Bool := false
  /-- Function Mask of MSI-X (R203). -/
  funcMask : Bool := false
  /-- MSI-X vectors masked in the table, and the Pending Bit Array (R178, R201). -/
  vecMask : BitVec 32 := 0xFFFFFFFF
  pba : BitVec 32 := 0
  /-- Message address and data of the MSI-X table, by 4 × vector + word (R178). -/
  msixTable : Table Word := []
  /-- The other bits of configuration space that the host writes, by byte address of their word (R177 to R179). -/
  cfg : Table Word := []
  /-- MSI-X messages sent by the last step, newest last. -/
  sent : List Nat := []
  /-- An index advance that vector 1 has not signalled yet (R201). -/
  vec1 : Bool := false
  /-- The device interrupt of R162 as last evaluated. -/
  irq : Bool := false
  /-- The level of IRQ_N: true is asserted (driven low). -/
  irqN : Bool := false
  cqHead : Nat := 0
  rqTail : Nat := 0
  asmHost : List Word := []
  asmMgmt : List Word := []
  /-- Whole packets in the command queue of R191, oldest first. -/
  cmdQueue : List (Path × List Word) := []
  /-- Reply words that can be read at each reply port. -/
  rpHost : List Word := []
  rpMgmt : List Word := []
  /-- The words already read of the reply that is read in part at each port. -/
  rpHostRead : List Word := []
  rpMgmtRead : List Word := []
  /-- The reply written to the reply ring by the last posting, with its slot. -/
  rqWrite : List Word := []
  rqSlot : Nat := 0
  rings : List Ring := List.replicate 32 {}
  /-- Ring memory of the parallel host bus, by byte address 0x9_0000 to 0xB_FFFF; an unlisted byte reads 0. -/
  audio : List Host.Cell := []
  /-- The capture entries written by the last stroke, ring and words, for the host's memory. -/
  capture : List (Nat × List Word) := []
  deriving DecidableEq, Repr

/-! ## The Command Processor (R210 to R251) -/

/-- The status codes of a reply (R223). -/
inductive Status where
  | ok | pending | aborted | nothingToAbort | refused | badParam | tagBusy | staleWrite | checkFail | lost
  | noResource | late | superseded | wrongMode | notCox
  deriving DecidableEq, Repr

/-- Where a command came from, and where its reply goes (R191, R220, R240). -/
inductive CmdSrc where
  | path (p : Path)
  /-- Over the Obien link from the Cox, with the TOKEN of its frames (R622). -/
  | tunnel (token : Nat)
  /-- Fired by the Starter from a Start List entry. -/
  | starter (entry : Nat)
  /-- From a boot flash image. -/
  | image
  deriving DecidableEq, Repr

/-- The objects of R229. -/
inductive Obj where
  | rx (n : Nat) | tx (n : Nat) | bus (n : Nat) | listener (n : Nat) | sink (n : Nat)
  | tdm (n : Nat) | port (n : Nat) | ref (n : Nat) | queue (n : Nat)
  | rudder | drive | patch | bank (n : Nat) | startList | seat (n : Nat)
  | obien | template (n : Nat) | ptp
  deriving DecidableEq, Repr

/-- How far a command has come (R244, TAG_STATE). -/
inductive CmdPhase where
  | waiting | started | committed
  deriving DecidableEq, Repr

/-- What completes a command that has started (R231). -/
inductive Fin where
  | none
  /-- The next stroke boundary at which pending changes apply. -/
  | boundary
  /-- The end of an expert NOP's delay. -/
  | nopDelay
  /-- The power request. -/
  | power
  /-- Receive streams that are disabled when they reach IDLE (R484). -/
  | rxIdle (ns : List Nat)
  /-- Receive streams enabled or retargeted (R483, R486). -/
  | rxAt (ns : List Nat)
  | txAt (ns : List Nat)
  /-- Transmit streams that are disabled when they reach IDLE (R519). -/
  | txIdle (ns : List Nat)
  /-- A Drive bank swap (R575). -/
  | driveSwap (id : Nat)
  /-- A grid move (R425). -/
  | align
  | slew
  | rudSwap
  | flowScan
  | portUp (p : Nat)
  | portDown (p : Nat)
  | tdm (n : Nat)
  | tunnelled (seat : Nat)
  /-- The boundary from which a lane owner table applies (R632). -/
  | lanes
  | verify
  | patchSwap
  | migrate (l : Nat)
  | bist
  /-- The end of the stroke in progress, where a core rate and stroke size are tested and applied (R24, R422). -/
  | core
  deriving DecidableEq, Repr

/-- A command taken in and not yet answered (R217, R227). -/
structure Flight where
  ord : Nat
  src : CmdSrc
  op : Nat
  tag : BitVec 7
  x : Bool
  s : Bool
  c : Bool
  seq : Byte
  params : List Word
  phase : CmdPhase := .waiting
  fin : Fin := .none
  body : List Word := []
  /-- Boundaries to come until it completes, for a command that a boundary completes (R32). -/
  due : Nat := 0
  /-- Course Time at its start. -/
  startAt : Nat := 0
  deriving DecidableEq, Repr

/-- A reply that is made and not yet posted (R190, R213). -/
structure Reply where
  src : CmdSrc
  op : Nat
  tag : BitVec 7
  w : Bool := false
  status : Status := .ok
  seq : Byte := 0
  c : Bool := false
  word : Nat := 0
  gen8 : Nat := 0
  body : List Word := []
  /-- Posting it frees the tag (R217, R218). -/
  frees : Bool := true
  /-- Intake number of its command, where that was taken in (R227, R228). -/
  ord : Option Nat := none
  /-- It is posted after every reply of its path that belongs to a command with a lower intake number (R228). -/
  behind : Option Nat := none
  deriving DecidableEq, Repr

/-- The Command Processor (R210 to R251, R651 to R656, R670). -/
structure Cmd where
  ready : Bool := false
  restarting : Bool := false
  /-- Code of R235 of the latest restart. -/
  cause : Nat := 1
  restarts : Nat := 0
  gen : Word := 0
  flights : List Flight := []
  nextOrd : Nat := 0
  /-- Replies made and held, oldest first (R190). -/
  held : List Reply := []
  /-- Replies made while a restart is in progress; they follow the marker (R236). -/
  after : List Reply := []
  /-- Whole packets from the Cox that await intake, with their TOKEN (R622). -/
  tunnelIn : List (Nat × List Word) := []
  /-- The reserved-path WEIGH_IN in progress, and the GO in the pending slot (R145, R219). -/
  weigh : Option Path := none
  weighNext : Option Path := none
  imageLoaded : Bool := false
  imageFail : Bool := false
  /-- The packets of a boot image that are still to be executed, each with the word index of its header (R90). -/
  image : List (Nat × List Word) := []
  /-- An image is being executed, from the packet whose header has this word index. -/
  imageAt : Option Nat := none
  /-- The packet just executed was answered with a status other than OK (R90). -/
  imageStop : Bool := false
  lastFail : Word := 0
  /-- Tick32 at the latest restart; 0 with Network Time invalid (R238). -/
  restartTick : Word := 0
  deriving DecidableEq, Repr

/-! ## Buffer memory (R252 to R292) -/

/-- An item of a Slip queue (R266, R271). -/
structure Item where
  /-- LENGTH once committed; none while the item is open. -/
  len : Option Nat
  /-- Payload bytes written. -/
  data : List Byte
  /-- Payload bytes reserved by Q_OPEN. -/
  reserve : Nat := 0
  pflags : Byte := 0
  abandoned : Bool := false
  /-- The consumer has read it in full (R268). -/
  read : Bool := false
  /-- The number of its copy in an egress queue (R304). -/
  copy : Option Nat := none
  /-- A port has sent or discarded it, and it is released once those before it are (R304). -/
  gone : Bool := false
  deriving DecidableEq, Repr

/-- A configured Slip queue (R266 to R280). RP is held as the item it stands in and the bytes read of that item. -/
structure Queue where
  sizeKib : Nat
  hold : Bool := false
  mrr : Bool := false
  cut : Nat := 0
  wm : Nat := 0
  items : List Item := []
  /-- Byte offset of FP in the queue memory. -/
  fp : Nat := 0
  /-- Items from FP that end at or before RP. -/
  rpItem : Nat := 0
  /-- Bytes read of the item at RP. -/
  rpOff : Nat := 0
  /-- Item index of a valid MARK. -/
  mark : Option Nat := none
  /-- The last mark was overtaken by a discard (R274). -/
  markLost : Bool := false
  resync : Bool := false
  nextHeld : Bool := false
  lost : Nat := 0
  event : Word := 0
  wmCount : Nat := 0
  /-- Queue not changeable by QUEUE_CONFIG (R278). -/
  fixed : Bool := false
  /-- Items that a port has copied from it (R304). -/
  copies : Nat := 0
  deriving DecidableEq, Repr

/-- The queues configured from the internal reset release: queue 0 for the boot program and the fixed queues
(R278, R279). -/
def fixedQueues : Table Queue :=
  [(0, { sizeKib := 64, wm := 192 }),
   (24, { sizeKib := 1, wm := 3, fixed := true }), (25, { sizeKib := 1, wm := 3, fixed := true }),
   (26, { sizeKib := 4, wm := 12, fixed := true }), (27, { sizeKib := 16, mrr := true, wm := 48, fixed := true }),
   (28, { sizeKib := 4, fixed := true }), (29, { sizeKib := 36, fixed := true }),
   (30, { sizeKib := 36, fixed := true }), (31, { sizeKib := 64, fixed := true })]

/-- The triggers of R260. -/
inductive Trigger where
  | corrected | uncorrectable
  deriving DecidableEq, Repr

/-- How far a migration has come (R261). -/
inductive MigPhase where
  | accepted | copying | remap
  deriving DecidableEq, Repr

/-- A migration in progress (R261). -/
structure Migration where
  logical : Nat
  source : Nat
  target : Nat
  phase : MigPhase := .accepted
  /-- Boundaries to come until the start boundary, for an accepted one (R32). -/
  wait : Nat := 1
  copied : Nat := 0
  deriving DecidableEq, Repr

/-- Buffer memory (R252 to R292). -/
structure Buf where
  ready : Bool := false
  /-- Bit p: physical bank p is retired; held in the always-on island (R264). -/
  retired : BitVec 42 := 0
  /-- Bit p: physical bank p is out of use: retired at the last BOOT or since (R264, R288). -/
  out : BitVec 42 := 0
  /-- Physical bank of each logical bank, 0 to 39; none where absent (R264). -/
  map : List (Option Nat) := (List.range 40).map some
  mig : Option Migration := none
  /-- Automatic triggers that arose during a migration (R262). -/
  pendTrig : List (Nat × Trigger) := []
  /-- Corrected words of each physical bank's last complete scrub pass (R289). -/
  cePass : Table Nat := []
  /-- DEDs of each physical bank (R289). -/
  deds : Table Nat := []
  /-- Words known to read as a DED, by a scrub pass, a read or a poisoned copy: physical bank and word (R261). -/
  poison : List (Nat × Nat) := []
  queues : Table Queue := fixedQueues
  /-- Q_EVENT_EN of each queue page (R283, R286). -/
  qEvEn : Table Word := []
  /-- The store by logical byte address; an unlisted byte reads 0, as the clear of R255 leaves it. -/
  mem : List Host.Cell := []
  deriving DecidableEq, Repr

/-! ## Network ports (R293 to R321) -/

/-- What becomes of a frame that leaves a port. -/
inductive TxKind where
  /-- The copy with this number of an item of host transmit queue `q`, which is released at the end (R304). -/
  | hostItem (q : Nat) (copy : Nat)
  /-- A PTP message of the firmware (R358). -/
  | ptp
  /-- A media packet of a transmit stream (R496). -/
  | media (stream : Nat)
  /-- A re-row request of SRX. -/
  | rerowAsk
  /-- A GONE frame or a re-launch of a transmit stream. -/
  | rerowAnswer (stream : Nat)
  /-- A PAUSE or PFC frame (R311). -/
  | pause
  deriving DecidableEq, Repr

/-- A frame in an egress queue, from the destination address to the end of the payload (R301 to R306). -/
structure TxFrame where
  bytes : List Byte
  kind : TxKind
  /-- Launch time in Network Time, for queues 4 and 5 (R306). -/
  launch : Nat := 0
  tstamp : Bool := false
  oneStep : Bool := false
  deriving DecidableEq, Repr

/-- A frame that a port passed to the Rudder (R297). -/
structure RxFrame where
  port : Nat
  /-- Destination address to FCS. -/
  bytes : List Byte
  fcsErr : Bool := false
  alignErr : Bool := false
  symErr : Bool := false
  /-- Tick64 of the receive time-stamp (R300, R359). -/
  stamp : Nat := 0
  /-- Course Time of its arrival. -/
  at_ : Nat := 0
  deriving DecidableEq, Repr

/-- A network port outside its registers (R293 to R321). -/
structure NetPort where
  /-- The enable in force: set at once, and cleared when a disable takes effect (R296). -/
  live : Bool := false
  disabling : Bool := false
  /-- A SerDes or PCS reset is running and its release is awaited (R320). -/
  inReset : Bool := false
  link : Bool := false
  anDone : Bool := false
  anFault : Bool := false
  partnerPause : Bool := false
  /-- The eight egress queues, oldest first (R301). -/
  egress : List (List TxFrame) := List.replicate 8 []
  /-- The frame in progress, with its egress queue; 8 stands for a PAUSE or PFC frame. -/
  sending : Option (Nat × TxFrame) := none
  /-- Course Time at which the last byte of the frame in progress is sent (R305). -/
  txUntil : Nat := 0
  /-- The bytes sent by the last frame, with their FCS, and the Network Time of their time-stamp point. -/
  lastTx : List Byte := []
  lastTxTick : Nat := 0
  /-- The last frame was cut short and ended with an error code (R320). -/
  lastCut : Bool := false
  /-- The frame that the PCS last sent back, with POINT 3 of LOOPBACK (R663). -/
  echo : List Byte := []
  /-- Course Time at which the last change of the shaper credit was made. -/
  creditAt : Nat := 0
  /-- Credit of queues 5 and 4, in 1/1024 bit (R305). -/
  creditA : Int := 0
  creditB : Int := 0
  linkPause : Bool := false
  /-- Bit p: PFC timer p runs (R309). -/
  pfc : BitVec 8 := 0
  /-- Course Time at which the PAUSE timer and each PFC timer run out, in tenths of a nanosecond (R309). -/
  pauseUntil : Nat := 0
  pfcUntil : List Nat := List.replicate 8 0
  /-- PAUSE and PFC frames asked by GO: the one that waits, and the pending one (R145, R311). -/
  pauseGo : List (List Byte) := []
  /-- Course Time until which the receive buffer was last full (R297). -/
  rxFullUntil : Nat := 0
  /-- The port takes no new host items, from the ask of a power request (R315). -/
  holdHost : Bool := false
  /-- Course Time of the last change of LINK (R85). -/
  linkAt : Nat := 0
  deriving DecidableEq, Repr


/-! ## The Rudder (R322 to R348) -/

/-- A flow-table entry (R334). -/
structure FlowEntry where
  /-- Key words 0 to 3 as one 128-bit number, word 0 lowest. -/
  key : BitVec 128
  typ : Byte
  action : BitVec 2
  cls : BitVec 2
  target : BitVec 9
  user : Byte
  dropCtr : BitVec 4
  deriving DecidableEq, Repr

/-- A frame dispatched to an engine, with what the engine latches (R322, R326, R327, R340). -/
structure Dispatched where
  frame : RxFrame
  engine : Nat
  bank : Nat
  boot : Bool
  users : List Word
  mode : Mode
  deriving DecidableEq, Repr

/-- What an engine decides for a frame (R332). -/
inductive Delivery where
  | stream (n : Nat) | queue (n : Nat) | rerow | drop (ctr : Nat) | bootDrop | bootRerow
  deriving DecidableEq, Repr

/-- A classified frame as SRX or STX receives it (R332, R337). -/
structure Delivered where
  frame : RxFrame
  /-- The receive stream named. -/
  stream : Nat := 0
  cls : Nat
  rudder : Word
  deriving DecidableEq, Repr

/-- The Rudder outside its registers (R322 to R348). -/
structure Rud where
  /-- Instructions by 4096 × bank + 512 × engine + address; an unlisted one is zero. -/
  prog : Table (BitVec 64) := []
  sealed0 : Bool := false
  sealed1 : Bool := false
  /-- Bank sealed most recently. -/
  loaded : Nat := 0
  bootProg : Bool := true
  /-- The bank an accepted swap runs from, until the old bank's last frame is delivered (R340). -/
  swapTo : Option Nat := none
  /-- The bank that a granted first entry to SERVICE will start (R339). -/
  heldBank : Option Nat := none
  /-- Frames dispatched and not yet delivered, oldest first. -/
  inq : List Dispatched := []
  /-- Next engine of Port A, 0 to 3, and of Port B, 4 to 7 (R322). -/
  nextA : Nat := 0
  nextB : Nat := 4
  /-- The flow table by entry index (R334, R335). -/
  flows : Table FlowEntry := []
  /-- Removal scans in progress, oldest first: the type and how many entries each removes (R346). -/
  scan : List (Byte × Nat) := []
  deriving DecidableEq, Repr


/-! ## Network time, time-stamps and the Starter (R349 to R389) -/

/-- The state of a Start List entry (R376). -/
inductive SlState where
  | empty | loaded | armed | handed | fired | late | dropped | failed
  deriving DecidableEq, Repr

/-- A Start List entry that is not EMPTY (R375, R376). -/
structure SlEntry where
  time : Nat
  action : Nat
  lateDrop : Bool
  pin : Nat
  level : Nat
  stream : Nat
  packet : List Word := []
  state : SlState := .loaded
  status : Nat := 0
  /-- Lateness at its evaluation, in ns (R378). -/
  lateness : Int := 0
  /-- It is more than LATE_WIN late (R378). -/
  isLate : Bool := false
  /-- An evaluation found its TIME passed: it fires at once (R378). -/
  due : Bool := false
  deriving DecidableEq, Repr

/-- An edge handed to an EVT_OUT pin (R368). -/
structure HandedEdge where
  entry : Nat
  time : Nat
  level : Nat
  /-- Course Time at which it was handed. -/
  since : Nat
  deriving DecidableEq, Repr

/-- An EVT_OUT pin outside its registers (R367 to R369). -/
structure EvtOut where
  level : Bool := false
  handed : List HandedEdge := []
  /-- Course Time at which the last edge was driven. -/
  lastEdge : Option Nat := none
  /-- The pin's function has been enabled since its rail came up; until then its ball is high-impedance (R51). -/
  driven : Bool := false
  /-- The level at the ball, and the time of the outputs until which the ball keeps it (R72, R369). -/
  hold : Option (Bool × Int) := none
  deriving DecidableEq, Repr

/-- An EVT_IN pin (R366). -/
structure EvtIn where
  /-- Course Time of the last stamped edge. -/
  lastStamp : Option Nat := none
  /-- Unstamped edges since the previous entry. -/
  missed : Nat := 0
  deriving DecidableEq, Repr

/-- The data that the best master clock algorithm compares (R355). -/
structure Announce where
  source : Nat
  prio1 : Nat
  cls : Nat
  accuracy : Nat
  variance : Nat
  prio2 : Nat
  gm : Nat
  steps : Nat
  deriving DecidableEq, Repr

/-- A Sync whose Follow_Up is awaited (R357). -/
structure SyncWait where
  seqId : Nat
  source : Nat
  t2 : Nat
  corr : Int
  deriving DecidableEq, Repr

/-- A PTP instance (R354 to R358, R383). -/
structure PtpPort where
  en : Bool := false
  transport : Nat := 0
  p2p : Bool := false
  oneStep : Bool := false
  tagged : Bool := false
  vid : Nat := 0
  pcp : Nat := 0
  ipv4 : Word := 0
  logAnnounce : Int := 0
  logSync : Int := 0
  logDelay : Int := 0
  receipt : Nat := 3
  clockId : Nat := 0
  /-- portState of IEEE 1588-2019; 0 disabled. -/
  state : Nat := 0
  best : Option Announce := none
  /-- Other masters heard: their port identity, and the Course Time of their last Announce (R355). -/
  heard : List (Nat × Nat) := []
  syncWait : Option SyncWait := none
  /-- Sequence ids of the next Announce, Sync and Delay_Req or Pdelay_Req. -/
  annSeq : Nat := 0
  syncSeq : Nat := 0
  delaySeq : Nat := 0
  /-- The outstanding Delay_Req or Pdelay_Req: its sequence id and transmit stamp. -/
  asked : Option (Nat × Nat) := none
  /-- A Pdelay_Resp that awaits its Follow_Up: t1, t2, t4 and correction. -/
  pdWait : Option (Nat × Nat × Nat × Int) := none
  /-- t2 − t1 − correction of the last Sync, in ns. -/
  syncDiff : Option Int := none
  mpd : Int := 0
  /-- A mean path delay has been measured since the instance was enabled (R373). -/
  measured : Bool := false
  /-- The peer answers and the delay of its link is within the threshold of 802.1AS (R355). -/
  asCapable : Bool := false
  /-- Pdelay_Reqs in succession that no response has completed (R355). -/
  lost : Nat := 0
  /-- Intervals that an 802.1AS message interval request has set in place of the configured ones: Announce, Sync and
  Pdelay_Req; 127 sends none (R354). -/
  reqAnnounce : Option Int := none
  reqSync : Option Int := none
  reqDelay : Option Int := none
  deriving DecidableEq, Repr

/-- A re-route hold (R373). -/
structure Reroute where
  offsetBefore : Int
  rate : Int
  deriving DecidableEq, Repr

/-- The configuration that PTP_CONFIG writes (R382). -/
structure PtpConfig where
  ctrl : Nat := 0
  profile : Nat := 0
  slaveOnly : Bool := false
  domain : Nat := 0
  prio1 : Nat := 0
  prio2 : Nat := 0
  cls : Nat := 0
  accuracy : Nat := 0
  variance : Nat := 0
  stepThresh : Nat := 50000
  asymHold : Nat := 8
  asymThresh : Nat := 1000
  slewMax : Nat := 50
  timePort : Nat := 0
  bw : Nat := 3
  deriving DecidableEq, Repr

/-- A slew in progress (R384): the movement left and its rate, in units of 2^-40 ns and 2^-40. -/
structure Slew where
  left : Int
  rate : Int
  /-- It follows a re-route that persisted (R373). -/
  reroute : Bool := false
  deriving DecidableEq, Repr

/-- The NTU outside its registers (R349 to R389). -/
structure Ntu where
  /-- Course Time in ns (R349). -/
  course : Nat := 0
  /-- Network Time in units of 2^-40 ns, modulo 2^104 (R350). -/
  nt40 : Nat := 0
  /-- Base rate in units of 2^-40 (R350). -/
  rate : Int := 0
  slew : Option Slew := none
  /-- NT_VALID and CT_VALID (R352). -/
  valid : Bool := false
  steps : Nat := 0
  epoch : Nat := 0
  ptp : PtpConfig := {}
  ports : List PtpPort := [{}, {}]
  /-- The servo has removed the first measurement by a step (R370). -/
  servoOn : Bool := false
  lastOffset : Option Int := none
  /-- Recent offsets of the time port with their Course Time, newest first (R373). -/
  offsets : List (Nat × Int) := []
  /-- Course Time of the last change above ASYM_THRESH of the mean path delay, and of the offset (R373). -/
  mpdJump : Option Nat := none
  offJump : Option Nat := none
  /-- The offset and the rate before the earlier of the two changes (R373). -/
  beforeOffset : Int := 0
  beforeRate : Int := 0
  reroute : Option Reroute := none
  list : Table SlEntry := []
  evtOut : List EvtOut := List.replicate 4 {}
  evtIn : List EvtIn := List.replicate 8 {}
  /-- Network Time less the time on the media clock, in 2^-40 ns, as PPS_OUT and PERIODIC pins were last aligned (R72,
  R369). -/
  aligned : Int := 0
  /-- TSTAMP items sent on each port since BOOT (R363). -/
  ordinalA : Nat := 0
  ordinalB : Nat := 0
  deriving DecidableEq, Repr


/-! ## References and media clocks (R390 to R426) -/

/-- The states of MCK (R400), coded in this order. -/
inductive MckState where
  | free | acquire | locked | holdover | hoExpired
  deriving DecidableEq, Repr

/-- One of the six references (R390, R393 to R398, R421). -/
structure RefClock where
  en : Bool := false
  rank : Nat := 0
  form : Nat := 0
  freqWin : Nat := 500
  hyst : Nat := 100
  phaseWin : Nat := 100
  qualTime : Nat := 10
  /-- Its edges, or its PTP instance or link, are there (R390). -/
  seen : Bool := false
  qualified : Bool := false
  /-- 10 s average of its frequency offset, in 10^-12 (R393). -/
  avg : Int := 0
  /-- Its phase against the media clock as last measured, for references 2 and 3, in ns (R402). -/
  phase : Int := 0
  /-- Course Time from which it has been enabled and present without a break (R395). -/
  since : Option Nat := none
  disagree : Bool := false
  deriving DecidableEq, Repr

/-- The parts of a stroke (R29). `boundary` is the instant before the Catch. -/
inductive StrokePart where
  | boundary | caught | driven | finished | recovered
  deriving DecidableEq, Repr

/-- A grid move that waits (R415): boundaries still to come before the adjusted stroke begins, and the measured move. -/
structure Align where
  /-- Boundaries to come until the adjusted stroke begins; 0 while that stroke runs. -/
  wait : Nat
  /-- Boundaries by which the move is later than R415 gives: 1 while Seats follow the Cox's time (R614). -/
  lead : Nat := 0
  /-- The move in internal periods, once measured. -/
  move : Option Int := none
  deriving DecidableEq, Repr

/-- A change of RATE and STROKE that waits for the end of the stroke in progress (R24, R422). -/
structure CoreReq where
  rate : Nat
  s16 : Bool
  /-- Intake number of the core form of `REF_CONFIG` that asks for it; none for a register write. -/
  ord : Option Nat := none
  deriving DecidableEq, Repr

/-- MCK outside its registers (R390 to R426). -/
structure Mck where
  refs : List RefClock := List.replicate 6 {}
  sel : Option Nat := none
  state : MckState := .free
  revert : Bool := true
  hitless : Bool := false
  disagreeLim : Nat := 10
  /-- Network Time less the grid's time at the last boundary, with the steps since, in ns (R402, R404). -/
  phaseErr : Int := 0
  held : Int := 0
  absorb : Int := 0
  /-- Media clock against nominal, in 10^-12. -/
  freq : Int := 0
  hoLimit : Nat := 1000
  fe0 : Nat := 100
  drift : Nat := 10
  /-- Course Time of the entry to holdover (R409). -/
  hoAt : Option Nat := none
  /-- Course Time of the entry to LOCKED (R408). -/
  lockedAt : Nat := 0
  /-- Frequencies the media clock took, each with the Course Time from which it held, newest first, as far back as R408
  needs. -/
  freqLog : List (Nat × Int) := []
  /-- Course Time to which the servo has steered the media clock (R403). -/
  servoAt : Nat := 0
  /-- HELD less ABSORB as they stood at the entry to holdover (R406). -/
  hoErr : Int := 0
  /-- Time on the media clock, in 2^-40 ns, at Course Time `mcAt`: its count of sample periods since the PTP epoch as a
  time (R26, R411). -/
  mcBase : Int := 0
  mcAt : Nat := 0
  /-- The outputs were aligned, at the first start of the grid or since (R72, R412). -/
  anchored : Bool := false
  /-- The other family's synthesizer less the media clock, in 2^-40 ns (R411, R416). -/
  secOff : Int := 0
  /-- Time until which an output enabled since stays at its inactive level: of the media clock for WCLK_OUT[0] to [3], and
  of the outputs for PPS_OUT (R412). -/
  outHold : List (Option Int) := List.replicate 5 none
  /-- The stroke grid runs (R28). -/
  grid : Bool := false
  /-- The grid starts at its first position at or after the last commit (R83). -/
  gridStart : Bool := false
  /-- Number of the stroke in progress (R194). -/
  stroke : Nat := 0
  part : StrokePart := .boundary
  /-- Network Time at the start of the stroke in progress. -/
  strokeTick : Nat := 0
  /-- Course Time at the start of the stroke in progress. -/
  strokeAt : Nat := 0
  /-- Course Time at the start of the stroke before it. -/
  prevAt : Nat := 0
  /-- Sample frames omitted at the end of the stroke before, which was an adjusted one (R416). -/
  omitted : Nat := 0
  aligns : List Align := []
  /-- The last move in internal periods and the renumbering it made (R415). -/
  lastQ : Int := 0
  lastR : Int := 0
  /-- Changes of RATE and STROKE that wait for the end of the stroke in progress, oldest first (R24, R422). -/
  coreNext : List CoreReq := []
  /-- The grid restarts after a change of RATE or STROKE, at a position on the media clock (R24). -/
  regrid : Bool := false
  /-- An adjusted stroke ended where the core rate or stroke size changed: its commands are answered as the new grid
  starts (R24, R425). -/
  alignOwed : Bool := false
  deriving DecidableEq, Repr

/-! ## Sample groups (R427 to R435) -/

/-- An S20 group: flags, shared exponent and eight mantissas (R427, R428). -/
structure Group where
  mute : Bool := false
  disc : Bool := false
  salv : Bool := false
  rrw : Bool := false
  conv : Bool := false
  exp : Nat := 0
  m : List Int := []
  deriving DecidableEq, Repr


/-! ## Receive streams (R454 to R488) -/

/-- One sample of a standard format in the jitter buffer: its 24-bit value, and whether it is provisional (R468). -/
structure Samp where
  x : Int
  prov : Bool := false
  deriving DecidableEq, Repr

/-- Eight samples of one channel position in the jitter buffer (R462, R463). -/
structure Slot where
  /-- The group, once it is encoded or taken from a block. -/
  grp : Option Group := none
  /-- The odd group of an exact-24 pair. -/
  odd : Option Group := none
  /-- Samples of a group that is not yet encoded. -/
  samps : List (Option Samp) := []
  /-- SALV of the samples written. -/
  salv : Bool := false
  /-- DISC asked by an mr change (R452). -/
  disc : Bool := false
  deriving DecidableEq, Repr

/-- Header fields of the last accepted HLF frame from one port, for re-row requests (R472). -/
structure PeerHdr where
  mac : Nat := 0
  ip6 : Bool := false
  ip : Nat := 0
  tag : Option Nat := none
  sport : Nat := 0
  txStream : Nat := 0
  rr : Bool := false
  deriving DecidableEq, Repr

/-- A block that is missing on some port, or awaits re-row (R469 to R473). -/
structure Missing where
  seq : Nat
  /-- Sample count of the block's first sample (R444). -/
  pos : Int
  /-- Ports that marked it missing or delivered it with a failed CRC: bit p. -/
  marks : BitVec 2 := 0
  /-- It is detected missing (R470). -/
  detected : Bool := false
  /-- It waits to be asked in the next request frame. -/
  toAsk : Bool := false
  asks : Nat := 0
  gone : Bool := false
  deriving DecidableEq, Repr

/-- A re-rowed block that waits for its Recovery phase (R474): the sample count of its first sample, and the groups of
each position. -/
structure Rerowed where
  seq : Nat
  pos : Int
  /-- Port at which it arrived. -/
  port : Nat
  groups : List (List Group)
  /-- Its frame carried error flags (R467). -/
  salv : Bool := false
  deriving DecidableEq, Repr

/-- A retarget that waits for its stroke boundary, with the boundaries still to come (R32, R486). -/
structure SrxPending where
  wait : Nat
  map : List (Option Nat)
  /-- FIRST_ID and MAPPED of the definition words from then on. -/
  first : Nat
  mapped : Bool
  deriving DecidableEq, Repr

/-- The states of a receive stream (R455), coded in this order. -/
inductive SrxState where
  | undefined | disabled | waiting | running | draining
  deriving DecidableEq, Repr

/-- A receive stream (R454 to R488). -/
structure RxStream where
  state : SrxState := .disabled
  /-- Definition words 1 to 9 of R481, as in force. -/
  words : List Word := []
  /-- The bindings in force: source ID of each position, or none (R458). -/
  map : List (Option Nat) := []
  /-- Bytes of buffer memory allocated at the definition (R256, R257). -/
  alloc : Nat := 0
  /-- SRX_STREAM_SSRC (R461). -/
  ssrc : Option Nat := none
  /-- Δ of R476, in samples at the core rate. -/
  delta : Int := 0
  /-- The jitter buffer by group number and position: key 64 × group + position. Groups are counted on the stroke grid, or
  by the stream's own sample count where the stream converts (R462, R527). -/
  slots : Table Slot := []
  /-- Next expected sequence number of each port (R469). -/
  expA : Option Nat := none
  expB : Option Nat := none
  /-- Course Time of the last accepted frame of each port (R466). -/
  accA : Option Nat := none
  accB : Option Nat := none
  hdrA : Option PeerHdr := none
  hdrB : Option PeerHdr := none
  /-- Port of the last accepted frame. -/
  lastPort : Nat := 0
  /-- The last mr bit of an AAF stream. -/
  lastMr : Option Bool := none
  missing : List Missing := []
  rerowed : List Rerowed := []
  /-- Frames in succession discarded as EARLY or LATE on each port (R477). -/
  runA : Nat := 0
  runB : Nat := 0
  /-- The one other SSRC heard since the last accepted frame, or none of one kind (R461). -/
  other : Option Nat := none
  otherMany : Bool := false
  /-- When `other` last changed, Course Time (R461). -/
  otherAt : Nat := 0
  /-- ISLAND has been entered since it was enabled, and SERVICE not since: it accepts no frame (R84, R455). -/
  shut : Bool := false
  /-- It presents from this stroke on, once known (R483). -/
  live : Bool := false
  enableWait : Option Nat := none
  /-- The retargets that wait, oldest first (R486). -/
  retarget : List SrxPending := []
  /-- The number of the fade stroke (R478), and whether it is the stroke in progress. -/
  fade : Option Nat := none
  fadeNow : Bool := false
  /-- The next frame accepted sets the SSRC that a relearn awaits (R461). -/
  relearn : Bool := false
  /-- The dither generator (R430, R463). -/
  lfsr : Nat := 1
  /-- DISC is due on the next group of each position: bit c (R464). -/
  gap : BitVec 64 := 0
  /-- PORTS as SRX_STREAM_CTRL holds it, and its other bits (R488). -/
  ctrl : Word := 0
  event : Word := 0
  eventEn : Word := 0
  margin : Nat := 0xFFFF
  cnt : List Nat := List.replicate 8 0
  deriving DecidableEq, Repr

/-- SRX outside its registers. -/
structure Srx where
  streams : Table RxStream := []
  /-- Frames delivered by the Rudder and not yet checked, oldest first. -/
  inq : List Delivered := []
  /-- Requests sent on each port (TOKEN of R503) and request frames sent in this stroke (R473). -/
  tokenA : Nat := 0
  tokenB : Nat := 0
  sentA : Nat := 0
  sentB : Nat := 0
  deriving DecidableEq, Repr

/-! ## Transmit streams and the Re-row store (R489 to R523) -/

/-- A header template (R493). -/
structure Template where
  kind : Nat
  tagged : Bool
  randSeq : Bool
  bytes : List Byte
  deriving DecidableEq, Repr

/-- The states of a transmit stream (R490), coded in this order. -/
inductive StxState where
  | undefined | disabled | enabled | stopping | serving
  deriving DecidableEq, Repr

/-- A block of the Re-row store: its group bytes and its CRC (R500, R501). -/
structure Block where
  stroke : Nat
  bytes : List Byte
  crc : Nat
  deriving DecidableEq, Repr

/-- A transmit stream (R489 to R523). -/
structure TxStream where
  state : StxState := .disabled
  /-- Definition words 1 to 8 of R516, as in force. -/
  words : List Word := []
  map : List (Option Nat) := []
  /-- Bytes of buffer memory allocated at the definition (R256, R257). -/
  alloc : Nat := 0
  /-- Core rate code and stroke size recorded at the definition (R489). -/
  rate : Nat := 0
  s16 : Bool := false
  /-- Next RTP or AAF sequence number (R439, R451). -/
  seq : Nat := 0
  /-- Sequence number of the last regular packet sent on each port (R507). -/
  lastA : Option Nat := none
  lastB : Option Nat := none
  mr : Bool := false
  /-- The Re-row store, oldest block first (R500, R501). -/
  store : List Block := []
  /-- The packet in progress: count of its first sample, and its sample frames or blocks so far (R496). -/
  acc : Option (Int × List (List Byte)) := none
  /-- The enable waits for its stroke boundary: boundaries to come (R518). -/
  enableWait : Option Nat := none
  /-- A disable: boundaries to come until that of R513; 0 while the last packet is completed. -/
  stopWait : Option Nat := none
  dropStore : Bool := false
  lfsr : Nat := 1
  ctrl : Word := 0
  event : Word := 0
  eventEn : Word := 0
  cnt : List Nat := List.replicate 8 0
  deriving DecidableEq, Repr

/-- An admitted re-row request (R503 to R512). -/
structure RrReq where
  stamp : Nat
  tx : Nat
  rx : Nat
  token : Nat
  addr : Nat
  rport : Nat
  ranges : List (Nat × Nat)
  srcMac : Nat
  tag : Option Nat
  dstIp : Nat
  dstPort : Nat
  ip6 : Bool
  /-- It is decided (R506). -/
  decided : Bool := false
  /-- Its GONE frame, until that enters queue 6. -/
  goneFrame : Option (List Byte) := none
  /-- Its held blocks that are still to be re-launched (R507). -/
  blocks : List Nat := []
  /-- The port on which they leave (R508). -/
  via : Nat := 0
  /-- The stroke in which its next frame was last deferred (R509). -/
  deferred : Option Nat := none
  deriving DecidableEq, Repr

/-- STX outside its registers. -/
structure Stx where
  streams : Table TxStream := []
  /-- Templates by slot, 0 to 1535 (R493). -/
  templates : Table Template := []
  /-- Re-row frames delivered by the Rudder and not yet checked. -/
  inq : List Delivered := []
  /-- GONE frames that await SRX (R511). -/
  gones : List Delivered := []
  /-- Admitted requests of each port, oldest first (R506). -/
  reqA : List RrReq := []
  reqB : List RrReq := []
  /-- Bytes of GONE frames and re-launch packets charged to each port in this stroke (R509). -/
  usedA : Nat := 0
  usedB : Nat := 0
  deriving DecidableEq, Repr

/-! ## The Rate Aligner (R524 to R542) -/

/-- The states of a stream in the Rate Aligner (R532), coded in this order. -/
inductive RalState where
  | bypass | idle | acquire | locked | hold | shed
  deriving DecidableEq, Repr

/-- A stream's Rate Aligner state and settings (R532, R538). -/
structure RalStream where
  state : RalState := .bypass
  ctrl : Word := 0x3211
  /-- ε of R531, in 10^-12. -/
  eps : Int := 0
  event : Word := 0
  eventEn : Word := 0
  /-- The input groups read, by input group number and position: key 64 × group + position (R526). -/
  hist : Table Group := []
  /-- The converted stroke of each position that the next Catch hands over (R527). -/
  out : List (List Group) := []
  lfsr : Nat := 1
  deriving DecidableEq, Repr

/-! ## The Drive engine (R543 to R578) -/

/-- A gain that moves toward its target (R552). -/
structure Ramp where
  /-- The value that the last processed sample carried. -/
  cur : Int
  /-- Value at the start of the ramp. -/
  a : Int
  /-- Target. -/
  b : Int
  /-- Samples of the ramp, N × S. -/
  len : Nat := 0
  /-- Samples processed since the ramp was set. -/
  j : Nat := 0
  deriving DecidableEq, Repr

/-- A member, subscription or crosspoint (R553). -/
structure Term where
  gain : Ramp
  /-- It ramps out after its removal. -/
  leaving : Bool := false
  deriving DecidableEq, Repr

/-- A bus definition with its gate configuration (R568, R573). -/
structure Bus where
  cascade : Bool := false
  gating : Bool := false
  share : Bool := false
  lastHold : Bool := false
  nomMax : Nat := 0
  openTh : Int := -320
  hyst : Nat := 48
  atten : Nat := 15
  holdMs : Nat := 500
  gateRamp : Nat := 60
  deriving DecidableEq, Repr

/-- A listener mix (R570). -/
structure Listener where
  eqLat : Bool := false
  out24 : Bool := false
  /-- Subscriptions by bus, and crosspoints by source. -/
  subs : Table Term := []
  xpts : Table Term := []
  selfs : List Nat := []
  out : Ramp := { cur := 0x10000, a := 0x10000, b := 0x10000 }
  deriving DecidableEq, Repr

/-- The duck relations of one ducker (R557, R574). -/
structure Duck where
  targets : List Nat
  attack : Nat
  release : Nat
  depth : Nat
  deriving DecidableEq, Repr

/-- One configuration bank (R558). Members are keyed by 4096 × bus + source. -/
structure Bank where
  buses : Table Bus := []
  members : Table Term := []
  listeners : Table Listener := []
  ducks : Table Duck := []
  /-- Feed word of each sink (R21); an unlisted sink has no feed. -/
  feeds : Table Nat := []
  deriving DecidableEq, Repr

/-- What is not banked of a member: its level detector and gate (R554 to R556). -/
structure Detector where
  lvl : Int := -327680
  isOpen : Bool := false
  hold : Nat := 0
  gate : Ramp := { cur := 0x10000, a := 0x10000, b := 0x10000 }
  deriving DecidableEq, Repr

/-- What is not banked of a bus: last talker, open counts, duck gain (R555 to R557). -/
structure BusDyn where
  last : Option Nat := none
  nLocal : Nat := 0
  nCascade : Nat := 0
  duck : Ramp := { cur := 0x10000, a := 0x10000, b := 0x10000 }
  /-- ATTACK and RELEASE of the ducker that was last in force. -/
  lastDucker : Option (Nat × Nat) := none
  deriving DecidableEq, Repr

/-- What the engine keeps of a stroke for cascade buses and equal latency (R562, R564). -/
structure DrvRec where
  /-- Stroke number of the stroke mixed. -/
  stroke : Nat
  /-- Own total of each bus, sample by sample. -/
  totals : Table (List Int) := []
  /-- Products in a self sum, by 4096 × bus + source. -/
  prods : Table (List Int) := []
  /-- x of every source in use. -/
  xs : Table (List Int) := []
  /-- Sources with DISC in a group of the stroke. -/
  discs : List Nat := []
  /-- Mean square of each member's x_m (R554). -/
  ms : Table Nat := []
  deriving DecidableEq, Repr

/-- A bank swap that waits (R575). -/
structure SwapReq where
  /-- Its number among the swaps accepted, by which the command that awaits it knows it. -/
  id : Nat
  copy : Bool
  /-- Low 32 bits of the first stroke to run on the new bank. -/
  at_ : Option Nat := none
  /-- Boundaries to come; 0 while a named stroke is awaited. -/
  wait : Nat := 1
  /-- It was accepted while the grid was stopped, and its named stroke is not yet evaluated. -/
  unsure : Bool := false
  deriving DecidableEq, Repr

/-- A source stroke read at the Catch, or a sink stroke written at the Finish: its groups in time order. -/
structure Stroke where
  groups : List Group
  /-- The odd groups, where the ID is the even one of an exact-24 pair. -/
  odd : Option (List Group) := none
  deriving DecidableEq, Repr

/-- The Drive engine outside its registers (R543 to R578). -/
structure Drv where
  banks : List Bank := [{}, {}]
  active : Nat := 0
  /-- The engine computes (R550). -/
  running : Bool := false
  dets : Table Detector := []
  dyns : Table BusDyn := []
  clips : Table Nat := []
  /-- The last two strokes, newest first. -/
  hist : List DrvRec := []
  /-- The swaps accepted that are still to take effect, oldest first. -/
  swaps : List SwapReq := []
  /-- Swaps accepted. -/
  swapSeq : Nat := 0
  /-- Feeds that wait for their boundary: boundaries to come, sink, feed word (R560). -/
  feedsNext : List (Nat × Nat × Nat) := []
  src : Table Stroke := []
  /-- Listener outputs of the stroke mixed. -/
  mixes : Table Stroke := []
  /-- Sink strokes written at the last Finish. -/
  sinks : Table Stroke := []
  /-- Sinks whose stroke an upset has changed since, so that its check fails (R42). -/
  badSinks : List Nat := []
  /-- Writes to a mute register that have landed in the Drive phase in progress: the register and what it held (R34,
  R671). -/
  lateMutes : List (Nat × Word) := []
  deriving DecidableEq, Repr

/-! ## Local TDM ports (R579 to R600) -/

/-- A TDM port outside its registers (R579 to R600). -/
structure TdmPort where
  /-- It drives or follows frames: its enable has taken effect. -/
  live : Bool := false
  /-- The forced action of R100 stops it at the end of the frame in progress (R591). -/
  ending : Bool := false
  /-- Enables and disables that wait, oldest first: boundaries to come and the value (R591). -/
  wants : List (Nat × Bool) := []
  /-- STATE of TDM_PORT_STATUS: 0 disabled, 1 SEEK, 2 running, 3 stopped. -/
  state : Nat := 0
  /-- Course Time of the stop of a restart (R595). -/
  stopAt : Option Nat := none
  holdClk : Bool := false
  /-- The port has run since the start of the stroke in progress, and ran through the one before. -/
  capOk : Bool := false
  prevOk : Bool := false
  /-- Good frames in succession in SEEK, and bad ones in LOCKED (R586). -/
  good : Nat := 0
  bad : Nat := 0
  /-- Course Time of the last frame edge. -/
  lastEdge : Option Nat := none
  /-- The held offset of frame edge less grid instant, in ns (R586). -/
  offset : Int := 0
  /-- Grid sample, counted from the start of the stroke in progress, that the next frame is assigned to. -/
  nextIx : Int := 0
  /-- The next frame is assigned again, after a grid move (R588). -/
  reassign : Bool := false
  /-- Input of the stroke in progress and of the one before, by grid sample: the slots' words, none where a slot is
  muted. A grid sample without an entry reads as zero with DISC. -/
  cur : Table (List (Option Word)) := []
  prev : Table (List (Option Word)) := []
  /-- Output of the stroke in progress: by slot, the words of its samples before TDM_MUTE_OUT; an unlisted slot is
  high-impedance. -/
  sdo : Table (List Nat) := []
  /-- The values of TDM_MUTE_IN and TDM_MUTE_OUT that were written in the stroke in progress and the one before, each with
  the Course Time of its write, newest first; the last entry is the value before them (R34, R594). -/
  mutesIn : List (Nat × Word) := []
  mutesOut : List (Nat × Word) := []
  /-- The words that the last frame of a slave port sent, by slot. -/
  frameOut : Table Nat := []
  /-- TDM_TS, and TDM_PHASE of the same frame (R590). -/
  ts : Word := 0
  phase : Word := 0
  /-- TDM_PHASE as the last normal-view read of TDM_TS latched it (R590). -/
  phaseHeld : Word := 0
  lfsr : Nat := 1
  deriving DecidableEq, Repr

/-! ## The Obien link (R601 to R634) -/

/-- What a LINK frame says (R608). -/
structure LinkInfo where
  role : Nat := 0
  posValid : Bool := false
  ring : Bool := false
  pos : Nat := 0
  s16 : Bool := false
  rate : Nat := 0
  lastCause : Nat := 0
  restarts : Nat := 0
  die : Nat := 0
  cox : Nat := 0
  deriving DecidableEq, Repr

/-- An Obien port outside its registers (R605). -/
structure OblPort where
  state : Nat := 0
  cause : Nat := 0
  peerLeaving : Bool := false
  peer : LinkInfo := {}
  /-- The peer's LINK frames travel toward the Cox: this port is on the peer's Cox side (R606, R627). -/
  peerUp : Bool := false
  /-- LINK frames in succession that agree (R605). -/
  agree : Nat := 0
  /-- Hop delays of the last exchanges in ps, newest first (R610). -/
  delays : List Int := []
  /-- The outstanding DELAY request: ID and t1. -/
  asked : Option (Nat × Nat) := none
  nextId : Nat := 0
  /-- Frames in succession that fail their CRC. -/
  crcRun : Nat := 0
  /-- Positions reached through this port, and those heard in LINK frames since the last stroke boundary: bit p. -/
  reach : BitVec 8 := 0
  heard : BitVec 8 := 0
  /-- Frames sent that a near-end loopback still has to return to the receiver, oldest first (R663). -/
  loop : List (List Byte) := []
  deriving DecidableEq, Repr

/-- A total or partial of a cascade bus as it stands (R619, R620). -/
structure RelaySum where
  stroke : Nat
  sums : List Int
  n : Nat
  mask : BitVec 8
  /-- Halves present: bit HALF. -/
  halves : BitVec 2 := 0
  deriving DecidableEq, Repr

/-- A tunnelled packet being received: seat, token, reply flag and words so far (R622). -/
structure TunnelIn where
  port : Nat
  seat : Nat
  token : Nat
  reply : Bool
  words : List Word
  deriving DecidableEq, Repr

/-- A lane stroke received (R617, R618). -/
structure LaneIn where
  /-- Low 32 bits of its stroke number. -/
  stroke : Nat
  groups : List Group
  /-- It is the even lane of an exact-24 pair. -/
  pair : Bool
  /-- Its check passes (R42). -/
  good : Bool
  deriving DecidableEq, Repr

/-- The Obien link outside its registers (R601 to R634). -/
structure Obl where
  ports : List OblPort := [{}, {}]
  pos : Nat := 0
  posValid : Bool := false
  ring : Bool := false
  conflict : Bool := false
  /-- The Seat's Cox side is its DN port (R627). -/
  coxDn : Bool := false
  /-- Time corrections are frozen until the first SYNC of a new side (R627). -/
  frozen : Bool := false
  /-- NT_VALID has been seen in a SYNC since BOOT, and the last EPOCH of the Cox (R612). -/
  syncSeen : Bool := false
  coxEpoch : Nat := 0
  hopErr : Int := 0
  /-- The Cox's PHASE_ERR as the last SYNC gave it (R613). -/
  coxPhase : Int := 0
  coxRate : Nat := 0
  coxS16 : Bool := false
  coxId : Nat := 0
  mismatch : Bool := false
  /-- A grid move that SYNC announced: q and r (R614). -/
  move : Option (Int × Int) := none
  seatInfo : Table LinkInfo := []
  seatRestarts : Table Nat := []
  /-- Owners of the 512 lanes in force; an unlisted lane has none (R616). -/
  owners : Table Nat := []
  /-- Owner changes that wait: strokes to come, first lane, owners (R608, R632). -/
  ownersNext : List (Nat × Nat × List Nat) := []
  /-- Lane strokes received, by 2 × lane + the parity of the stroke number (R617). -/
  lanes : Table LaneIn := []
  /-- Number of the stroke before the one in progress: the Catch presents the lanes of that stroke. -/
  laneStroke : Nat := 0
  /-- What the Drive engine handed over at the last Finish, by cascade bus: own partial and n_local (R562). -/
  partials : Table RelaySum := []
  /-- The place in the order of RELAY_UP frames that a Seat expects next from its far side (R619). -/
  relayNext : Nat := 0
  /-- Relay frames gathered at the Cox, by 1024 × port + 2 × bus + HALF (R619). -/
  gather : Table RelaySum := []
  /-- Totals by bus, for the Catch of two strokes later (R562). -/
  totals : Table RelaySum := []
  /-- The totals as the Catch of the stroke in progress took them (R562). -/
  taken : Table RelaySum := []
  tunnels : List TunnelIn := []
  /-- Replies that a Seat holds while its Cox side is down: token and words (R623). -/
  heldReplies : List (Nat × List Word) := []
  /-- Frames sent on each port by the last step, oldest first: port and 64 bytes. -/
  sent : List (Nat × List Byte) := []
  /-- The LINK frames of a stopped grid: Course Time of the last, and the chunk that is next (R608). -/
  linkAt : Nat := 0
  linkChunk : Nat := 0
  /-- A Seat's path to its Cox has broken beyond its Cox-side peer (R626, R627). -/
  cut : Bool := false
  /-- Ports on which the last step sent the wake pattern (R625): bit q. -/
  waked : BitVec 2 := 0
  deriving DecidableEq, Repr

/-! ## The Umpire, the factory record, patches and tests (R635 to R671) -/

/-- The log window of a fault code (R649). -/
structure LogWindow where
  count : Nat := 0
  detail : Word := 0
  unit : Nat := 0
  injected : Bool := false
  action : Nat := 0
  deriving DecidableEq, Repr

/-- The Umpire outside its registers (R641 to R649). -/
structure Ump where
  /-- Bit c: fault c is active. -/
  active : BitVec 12 := 0
  /-- Bit c: the condition of fault c stands (R645). -/
  cond : BitVec 12 := 0
  windows : Table LogWindow := []
  /-- The units that detected the faults that are active: code and unit (R244). -/
  units : List (Nat × Nat) := []
  seq : Nat := 0
  /-- Log entries that await queue 27: PFLAGS and three words (R649). -/
  early : List (Nat × List Word) := []
  /-- Course Times of the CMD_WATCHDOG faults in the last 10 s (R644). -/
  strikes : List Nat := []
  /-- A mismatch has been found in the checker's pass in progress. -/
  passBad : Bool := false
  /-- Unit-memory entries that failed their parity: memory and entry (R647). -/
  badMem : List (Nat × Nat) := []
  deriving DecidableEq, Repr

/-- A patch bank (R650). -/
structure PatchBank where
  words : List Word := []
  staged : Bool := false
  deriving DecidableEq, Repr

/-- The patch banks (R650 to R657). -/
structure Patch where
  banks : List PatchBank := [{}, {}]
  active : Nat := 0
  /-- Level in force; 0 with the ROM alone. -/
  level : Nat := 0
  /-- Level before the last swap, and whether it was rolled back. -/
  before : Nat := 0
  /-- Active bank before the last swap. -/
  prevActive : Nat := 0
  rollback : Bool := false
  lastResult : Nat := 0
  /-- A swap or rollback is in progress. -/
  busy : Bool := false
  /-- The inactive bank is being verified. -/
  verifying : Bool := false
  deriving DecidableEq, Repr

/-- Tests that run or stand (R87, R663, R664). -/
structure TestSt where
  /-- POINT of Port A, Port B, Obien UP and Obien DN. -/
  points : List Nat := [0, 0, 0, 0]
  bist : Option Word := none
  deriving DecidableEq, Repr

/-- The state of the Halyn. -/
structure State where
  /-- Register contents by canonical address; an unlisted register holds its reset value (R135, R166). -/
  regs : Table Word := []
  /-- The configuration registers whose parity bit disagrees with their contents, by canonical address; a register of a
  stream shown through a SEL register adds 2^20 × (stream + 1) (R158, R159). -/
  misparity : List Nat := []
  /-- Open keyed sequences by unit window (R147). -/
  keys : Table KeySeq := []
  bus : BusOut := {}
  pmu : Pmu := {}
  hif : Hif := {}
  cmd : Cmd := {}
  buf : Buf := {}
  np : List NetPort := [{}, {}]
  rud : Rud := {}
  ntu : Ntu := {}
  mck : Mck := {}
  srx : Srx := {}
  stx : Stx := {}
  ral : Table RalStream := []
  drv : Drv := {}
  tdm : List TdmPort := List.replicate 16 {}
  obl : Obl := {}
  ump : Ump := {}
  patch : Patch := {}
  tst : TestSt := {}
  /-- The factory record as the OTP holds it, by word (R635). -/
  otp : Table Word := []
  /-- The check that the record failed, as FACTORY_RECORD's DETAIL codes it; 0 for a good record (R636). -/
  otpBad : Nat := 0
  /-- The number of free values taken so far; the model's own, not the manual's. -/
  free : Nat := 0
  /-- The commands that wait, first in, first out. -/
  pending : List Instr := []
  deriving DecidableEq, Repr

/-- The Halyn right after reset: the core reset of R88 has just been released with every register at its reset value,
so the mode is BOOT and the buffer clear of R255 runs. Nothing waits. -/
def State.reset : State := {}

end Sys2Proof.Machine
end

