-- ==== Sys2Proof/Machine/Ops.lean ====
section
/-! DEFINITION. The named operations over the state that every unit shares: register contents, event flags and
counters, time, the stroke grid, check words, replies and the device interrupt. -/
namespace Sys2Proof.Machine

/-! ## Register contents -/

/-- The contents of the register with canonical address `a` (R135). -/
def State.reg (s : State) (a : Nat) : Word := tgetD s.regs a (regReset a)

/-- The register of key `k` is written, so its parity is good again (R158, R159). -/
def State.goodParity (s : State) (k : Nat) : State :=
  { s with misparity := s.misparity.filter fun x => decide (x ≠ k) }

/-- Write the contents of register `a`, and its parity with them (R158); a register at its reset value is not listed. -/
def State.setReg (s : State) (a : Nat) (v : Word) : State :=
  { s.goodParity a with regs := tput s.regs a v (regReset a) }

/-- The key in `State.misparity` of register `a` of stream `n` (R158). -/
def bankedKey (a n : Nat) : Nat := a + 2 ^ 20 * (n + 1)

/-- The number in bits [hi:lo] of register `a`. -/
def State.regField (s : State) (a hi lo : Nat) : Nat := fieldOf (s.reg a) hi lo

/-- A word with bits [hi:lo] replaced by the number `v`. -/
def withField (w : Word) (hi lo v : Nat) : Word :=
  let m := w32 ((2 ^ (hi + 1 - lo) - 1) <<< lo)
  (w &&& ~~~m) ||| (w32 (v <<< lo) &&& m)

/-- Replace bits [hi:lo] of register `a` by the number `v`. -/
def State.setField (s : State) (a hi lo v : Nat) : State := s.setReg a (withField (s.reg a) hi lo v)

/-- Set the bits of `bits` in register `a`: hardware setting of RC flags (R139). -/
def State.orReg (s : State) (a : Nat) (bits : Word) : State := s.setReg a (s.reg a ||| bits)

/-- Set flag `i` of the event or error register `a` (R139, R162). -/
def State.flag (s : State) (a i : Nat) : State := s.orReg a (1 <<< i)

/-- Whether bit `i` of register `a` is set. -/
def State.bit (s : State) (a i : Nat) : Bool := bitOf (s.reg a) i

/-- Add `n` to the 32-bit counter `a`, which saturates at 0xFFFF_FFFF. -/
def State.bump (s : State) (a : Nat) (n : Nat := 1) : State :=
  s.setReg a (w32 (satNat 0xFFFFFFFF ((s.reg a).toNat + n)))

/-- Add `n` to the counter in bits [hi:lo] of register `a`, which saturates. -/
def State.bumpField (s : State) (a hi lo : Nat) (n : Nat := 1) : State :=
  s.setField a hi lo (satNat (2 ^ (hi + 1 - lo) - 1) (s.regField a hi lo + n))

/-! ## Free values -/

/-- The next free integer, and the state that has taken it. -/
def State.takeInt (s : State) : Int × State := (Config.freeInt s.free, { s with free := s.free + 1 })

/-- A free word. -/
def State.takeWord (s : State) : Word × State := (w32 (Config.freeNat s.free), { s with free := s.free + 1 })

/-- The next `n` free integers within `lo` and `hi`. -/
def State.takeInts (s : State) (n : Nat) (lo hi : Int) : List Int × State :=
  ((List.range n).map fun i => clampI lo hi (Config.freeInt (s.free + i)), { s with free := s.free + n })

/-! ## Modes and time -/

/-- The code of a mode (R79). -/
def modeCode : Mode → Nat
  | .moored => 0 | .watch => 1 | .boot => 2 | .quiet => 3 | .service => 4 | .island => 5 | .safe => 6 | .test => 7

/-- The mode with a code (R79). -/
def modeOf (n : Nat) : Mode :=
  match n % 8 with
  | 0 => .moored | 1 => .watch | 2 => .boot | 3 => .quiet | 4 => .service | 5 => .island | 6 => .safe | _ => .test

/-- The mode in force. -/
def State.mode (s : State) : Mode := s.pmu.mode

/-- The modes in which the Drive engine computes (R28, R550). -/
def computes : Mode → Bool
  | .service => true | .island => true | .test => true | _ => false

/-- The modes in which CLK_CTL and CLK_DP run (R79). -/
def clocked : Mode → Bool
  | .moored => false | .watch => false | _ => true

/-- The modes in which the stroke grid runs (R28). -/
def gridMode : Mode → Bool
  | .moored => false | .watch => false | .boot => false | _ => true

/-- The cascade role in force: 0 Solo, 1 Cox, 2 Seat (R80, R601). -/
def State.role (s : State) : Nat := if s.pmu.straps.cascRole = 3 then 0 else s.pmu.straps.cascRole.toNat

/-- Network Time in nanoseconds, Tick64 (R350). -/
def State.tick64 (s : State) : Nat := (s.ntu.nt40 / 2 ^ 40) % 2 ^ 64

/-- Tick32: the low word of Tick64 (R351). -/
def State.tick32 (s : State) : Word := w32 (s.tick64 % 2 ^ 32)

/-- Tick32 as the fault log and the restart marker give it: 0 while Network Time is invalid (R238, R648). -/
def State.logTick (s : State) : Word := if s.ntu.valid then s.tick32 else 0

/-- Add a signed time, in units of 2^-40 ns, to Network Time. -/
def State.moveNt (s : State) (d : Int) : State :=
  { s with ntu := { s.ntu with nt40 := (((s.ntu.nt40 : Int) + d) % (2 ^ 104 : Int)).toNat } }

/-! ## References (R390 to R395) -/

/-- Port `p`, 0 Port A and 1 Port B. -/
def State.port (s : State) (p : Nat) : NetPort := s.np.getD p {}

/-- Obien port `q`: 0 UP, 1 DN. -/
def State.oblPort (s : State) (q : Nat) : OblPort := s.obl.ports.getD q {}

/-- Port `q` is in RUN (R605). -/
def State.oblRun (s : State) (q : Nat) : Bool := decide ((s.oblPort q).state = 4)

/-- The port on a Seat's Cox side: UP, or DN while R627 has switched it. -/
def State.coxSide (s : State) : Nat := if s.obl.coxDn then 1 else 0

/-- The Seat follows Cox time (R612). -/
def State.timeFollow (s : State) : Bool :=
  decide (s.role = 2) && s.bit Reg.OBL_CFG 2 && s.oblRun s.coxSide

/-- A Seat in a ring has lost its path to the Cox and can take the other way round: it keeps reference 4 meanwhile
(R627). -/
def State.coxSwitches (s : State) : Bool :=
  decide (s.role = 2) && s.bit Reg.OBL_CFG 2 && s.obl.ring && (s.obl.cut || !(s.oblRun s.coxSide))
    && s.oblRun (1 - s.coxSide)

/-- Reference `i` is present (R390). In WATCH only the oscillator runs, so none but the local oscillator is (R54, R79,
R112). -/
def State.refPresent (s : State) (i : Nat) : Bool :=
  if s.mode = .watch then decide (i = 5) else
  match i with
  | 0 | 1 =>
    if s.ntu.ptp.ctrl = 1 then decide ((s.ntu.ports.getD i {}).state = 9)
    else (s.port i).link && s.bit Reg.MCK_HOST_REF i
  | 4 => (s.timeFollow && !s.obl.cut) || s.coxSwitches
  | 5 => true
  | _ => (s.mck.refs.getD i {}).seen

/-- A reference as its enable and presence leave it: a break disqualifies it and ends its count (R394, R395). -/
def trackRef (course : Nat) (present : Bool) (r : RefClock) : RefClock :=
  if r.en && present then { r with since := some (r.since.getD course) }
  else { r with since := none, qualified := false }

/-- The references as their enables and presence leave them now; each that is disqualified sets DISQUAL (R394). -/
def State.trackRefs (s : State) : State :=
  let refs := s.mck.refs.zipIdx.map fun e => trackRef s.ntu.course (s.refPresent e.2) e.1
  let fell := (s.mck.refs.zip refs).any fun e => e.1.qualified && !e.2.qualified
  let s1 := { s with mck := { s.mck with refs := refs } }
  if fell then s1.flag Reg.MCK_REF_EVENT 2 else s1

/-! ## The factory record (R635, R636) -/

/-- Word `i` of the factory record in use: zero where a check of R636 failed. -/
def State.record (s : State) (i : Nat) : Word := if s.otpBad = 0 then tgetD s.otp i 0 else 0

/-! ## The media clock (R26, R392, R411) -/

/-- The effective trim of the oscillator, in 10^-12: the factory trim and the user's, which acts within ±100 ppm
(R392, R419). -/
def State.effTrim (s : State) : Int :=
  sgn 32 (s.record 5).toNat + clampI (-100000000) 100000000 (sgn 32 (s.reg Reg.MCK_XO_TRIM_USR).toNat)

/-- What the media clock counts in `dt` ns of Course Time, in 2^-40 ns, at a trim and a frequency in 10^-12: its nominal
frequency is that of the corrected oscillator (R392, R400). -/
def mediaSpan (trim freq dt : Int) : Int :=
  dt * 2 ^ 40 * (10 ^ 12 + trim) * (10 ^ 12 + freq) / 10 ^ 24

/-- Time on the media clock now, in 2^-40 ns (R26). -/
def State.mediaTime (s : State) : Int :=
  s.mck.mcBase + mediaSpan s.effTrim s.mck.freq ((s.ntu.course : Int) - s.mck.mcAt)

/-- Count the media clock from now on, before its frequency or the trim changes. -/
def State.mediaMark (s : State) : State :=
  { s with mck := { s.mck with mcBase := s.mediaTime, mcAt := s.ntu.course } }

/-- The time on which PPS_OUT and PERIODIC pins run, in 2^-40 ns: Network Time as it stood when the outputs were last
aligned, carried on by the media clock (R72, R369). -/
def State.outTime (s : State) : Int := s.mediaTime + s.ntu.aligned

/-- The outputs and PERIODIC pins stand on Network Time as it is now (R72, R369, R416). -/
def State.anchorOutputs (s : State) : State :=
  { s with ntu := { s.ntu with aligned := (s.ntu.nt40 : Int) - s.mediaTime } }

/-- VDDIO_TDM is up and the synthesizers run: the clock outputs and event pins are powered (R52, R54, R114). -/
def State.outPowered (s : State) : Bool := s.pmu.railEn.getLsbD 3 && clocked s.mode

/-- The TAP is held in Test-Logic-Reset (R52). -/
def State.tapReset (s : State) : Bool := decide (s.mode = .moored) || decide (s.mode = .watch)

/-- Boundary scan works: every rail is on (R52). -/
def State.scanWorks (s : State) : Bool := !s.tapReset && decide (s.pmu.railEn = 0xF) && s.pmu.pwrGood

/-- `TDO` is high-impedance (R52). -/
def State.tdoHighZ (s : State) : Bool := s.tapReset

/-! ## The passing of time -/

/-- The largest rate of Network Time, 500 ppm, in units of 2^-40 (R350, R384). -/
def rateMax : Int := 549755814

/-- The part of a slew that `dt` ns carry out beside a base rate: what it moves and what is left (R384). The total stays
within R350. -/
def slewPart (base : Int) (dt : Nat) (sl : Slew) : Int × Slew :=
  let up := clampI 0 (rateMax - base) sl.rate * dt
  let dn := -(clampI 0 (rateMax + base) sl.rate * dt)
  let d := clampI (if sl.left < 0 then dn else 0) (if 0 < sl.left then up else 0) sl.left
  (d, { sl with left := sl.left - d })

/-- The rate adjustment of Network Time now, in units of 2^-40: the base rate and what a slew adds (R350, R384). -/
def State.ntRate (s : State) : Int :=
  match s.ntu.slew with
  | none => s.ntu.rate
  | some sl =>
    if sl.left < 0 then s.ntu.rate - clampI 0 (rateMax + s.ntu.rate) sl.rate
    else if 0 < sl.left then s.ntu.rate + clampI 0 (rateMax - s.ntu.rate) sl.rate
    else s.ntu.rate

/-- GLB_ERR_ADDR for a write at address `issued` on path `p` (R161, R169). -/
def errAddrWord (issued : Nat) (p : Path) : Word :=
  w32 (2 ^ 31 + (if p = .mgmt then 2 ^ 24 else 0) + issued % 2 ^ 20)

/-- Discard the keyed sequences whose 64 cycles have passed: KEY is set and the value word's address captured
(R148, R161). -/
def State.keyError (s : State) (issued : Nat) (p : Path) (bit : Nat) : State :=
  (if s.reg Reg.GLB_ERR = 0 then s.setReg Reg.GLB_ERR_ADDR (errAddrWord issued p) else s).flag Reg.GLB_ERR bit

/-- The 64 cycles of CLK_CTL within which a keyed sequence is completed, in ns (R13, R147). -/
def keyNs : Nat := 128

/-- Age the open keyed sequences by `n` ns of CLK_CTL and discard the expired ones (R147, R148). -/
def State.ageKeys (s : State) (n : Nat) : State :=
  let s1 := { s with keys := tmap s.keys fun k => { k with age := k.age + n } }
  let old := s1.keys.filter fun e => keyNs < e.2.age
  old.foldl (fun s e => { s.keyError e.2.issued e.2.path 0 with keys := terase s.keys e.1 }) s1

/-- Let `dt` nanoseconds pass: Course Time and Network Time count, and keyed sequences age while CLK_CTL runs (R349, R350,
R147). Nothing counts in MOORED. -/
def State.advance (s0 : State) (dt : Nat) : State :=
  if s0.mode = .moored then s0 else
  let s := s0.trackRefs
  let (mv, sl) := match s.ntu.slew with
    | none => ((0 : Int), none)
    | some sl => let (d, sl') := slewPart s.ntu.rate dt sl; (d, some sl')
  let s1 := { s with ntu := { s.ntu with course := (s.ntu.course + dt) % 2 ^ 64, slew := sl } }
  let s2 := s1.moveNt ((dt : Int) * 2 ^ 40 + (dt : Int) * s.ntu.rate + mv)
  s2.ageKeys (if clocked s.mode then dt else 0)

/-! ## The stroke grid -/

/-- The rate with a RATE code, in Hz (R24). -/
def rateHz (code : Nat) : Nat :=
  match code with
  | 0 => 16000 | 1 => 24000 | 2 => 32000 | 3 => 44100 | 4 => 48000 | 5 => 88200 | _ => 96000

/-- MCK_CORE_CFG.RATE in force. -/
def State.rateCode (s : State) : Nat := s.regField Reg.MCK_CORE_CFG 2 0

/-- The core rate in Hz (R24). -/
def State.coreRate (s : State) : Nat := rateHz s.rateCode

/-- Sixteen-sample strokes are set (R24). -/
def State.s16 (s : State) : Bool := s.bit Reg.MCK_CORE_CFG 3

/-- The internal clock of the core rate's family, in Hz (R411). -/
def familyHz (code : Nat) : Nat := if code = 3 || code = 5 then 45158400 else 49152000

/-- Samples per stroke (R24). -/
def State.strokeSize (s : State) : Nat := if s.s16 then 16 else 8

/-- Groups per stroke (R428). -/
def State.strokeGroups (s : State) : Nat := s.strokeSize / 8

/-- The core rate is 88.2 or 96 kHz. -/
def State.fast (s : State) : Bool := 5 ≤ s.rateCode

/-- The low 32 bits of a stroke number. -/
def stroke32 (k : Nat) : Word := w32 (k % 2 ^ 32)

/-- The boundaries until a request made now takes effect (R32): one, or two from the start of Recovery. -/
def State.boundaryWait (s : State) : Nat :=
  if s.mck.grid && decide (s.mck.part = .recovered) then 2 else 1

/-- Internal periods in one sample, F, and in one stroke, L (R415, R416). -/
def State.samplePeriods (s : State) : Nat := familyHz s.rateCode / s.coreRate
def State.strokePeriods (s : State) : Nat := s.samplePeriods * s.strokeSize

/-- A move of m internal periods as q strokes and a rest r with −L/2 < r ≤ L/2 (R415). -/
def splitMove (l : Nat) (m : Int) : Int × Int :=
  let r := m % (l : Int)
  if (l : Int) < 2 * r then (m / (l : Int) + 1, r - l) else (m / (l : Int), r)

/-- The move of the adjusted stroke in progress, if it is one (R415). -/
def State.moveNow (s : State) : Option Int :=
  match s.mck.aligns.find? fun a => decide (a.wait = 0) with
  | some a => a.move
  | none => none

/-- The grid move at the end of the stroke in progress, as q strokes and r periods: the one that the Cox announced to a
Seat that follows it, or the own one of an adjusted stroke (R415, R614). -/
def State.gridMove (s : State) : Option (Int × Int) :=
  match (if s.role = 2 && decide (s.mck.sel = some 4) then s.obl.move else none) with
  | some m => some m
  | none => s.moveNow.map (splitMove s.strokePeriods)

/-- The number of the stroke that follows the one in progress (R415). -/
def State.nextStroke (s : State) : Nat :=
  match s.gridMove with
  | some m => ((s.mck.stroke : Int) + 1 + m.1).toNat
  | none => s.mck.stroke + 1

/-- Sample frames of the stroke in progress that are omitted, where it is an adjusted stroke that is shortened (R416). -/
def State.omitNow (s : State) : Nat :=
  match s.gridMove with
  | some m => m.2.toNat / (if s.samplePeriods = 0 then 1 else s.samplePeriods)
  | none => 0

/-- Extra sample frames that follow the stroke in progress, where it is an adjusted stroke that is lengthened (R416). -/
def State.extraNow (s : State) : Nat :=
  match s.gridMove with
  | some m => (-m.2).toNat / (if s.samplePeriods = 0 then 1 else s.samplePeriods)
  | none => 0

/-- Sample frames of the stroke in progress with those that follow it (R416). -/
def State.strokeFrames (s : State) : Nat := s.strokeSize - s.omitNow + s.extraNow

/-- The phase error as software sees it: 0 while Network Time is invalid and while the grid is stopped (R402). -/
def State.phaseErr (s : State) : Int := if s.ntu.valid && s.mck.grid then s.mck.phaseErr else 0

/-! ## Check words -/

/-- One bit step of the reflected CRC-32C (R215). -/
def crcStep (c : Nat) : Nat := if c % 2 = 1 then (c / 2) ^^^ 0x82F63B78 else c / 2

/-- One byte into the reflected CRC-32C register (R215). -/
def crcByte (c : Nat) (b : Byte) : Nat :=
  let x := c ^^^ b.toNat
  crcStep (crcStep (crcStep (crcStep (crcStep (crcStep (crcStep (crcStep x)))))))

/-- CRC-32C of a list of bytes (R215). -/
def crc32c (bs : List Byte) : Nat := (bs.foldl crcByte 0xFFFFFFFF) ^^^ 0xFFFFFFFF

/-- The check word of a list of words (R215). -/
def checkWord (ws : List Word) : Word := w32 (crc32c (wordBytes ws))

/-! ## Replies -/

/-- What a command's commit comes to. -/
inductive Res where
  /-- A check of R224 fails: status, WORD and body. -/
  | fail (st : Status) (word : Nat := 0) (body : List Word := [])
  /-- Committed and completed at once: body, and whether a stored setting changed (R232). -/
  | ok (body : List Word) (gen : Bool := false)
  /-- Committed; `fin` completes it. -/
  | later (fin : Fin) (body : List Word) (gen : Bool := false)
  /-- Started and not yet committed; `fin` says what it awaits. -/
  | start (fin : Fin)
  deriving DecidableEq, Repr

/-- The code of a status (R223). -/
def statusCode : Status → Nat
  | .ok => 0 | .pending => 1 | .aborted => 2 | .nothingToAbort => 3 | .refused => 4 | .badParam => 5
  | .tagBusy => 6 | .staleWrite => 7 | .checkFail => 8 | .lost => 9 | .noResource => 10 | .late => 11
  | .superseded => 12 | .wrongMode => 13 | .notCox => 14

/-- Hold a reply until it is posted (R190). -/
def State.hold (s : State) (r : Reply) : State :=
  let s1 := if r.status = .lost then s.flag Reg.CMD_EVENT 1 else s
  let s2 := if r.status = .aborted then s1.flag Reg.CMD_EVENT 3 else s1
  if s2.cmd.restarting then { s2 with cmd := { s2.cmd with after := s2.cmd.after ++ [r] } }
  else { s2 with cmd := { s2.cmd with held := s2.cmd.held ++ [r] } }

/-- Start List entry `e` enters DONE as `st`, with the status of a failure (R376). -/
def State.slDone (s : State) (e : Nat) (st : SlState) (status : Nat) : State :=
  let s1 := { s with ntu := { s.ntu with list := tmod s.ntu.list e fun x => { x with state := st, status := status } } }
  let s2 := (s1.flag (Reg.NTU_SL_DONE (e / 32)) (e % 32)).flag Reg.NTU_EVENT 7
  if st = .failed || st = .dropped then s2.flag Reg.NTU_EVENT 8 else s2

/-- A command from this source is taken in, takes a tag and gets a reply: not one of a boot image or fired from the Start
List (R220). -/
def takesTag : CmdSrc → Bool
  | .path _ => true | .tunnel _ => true | _ => false

/-- What the stored command of a HANDED Start List entry came to, at its commit or its rejection (R376, R377). -/
def State.slOutcome (s : State) (e : Nat) (st : Status) : State :=
  match tget s.ntu.list e with
  | none => s
  | some x =>
    if x.state ≠ .handed then s
    else if st = .ok then s.slDone e (if x.isLate then .late else .fired) 0
    else s.slDone e .failed (statusCode st)

/-- Answer the command in flight `f`: make its reply, or record the outcome where it has none (R213, R220), and take it
out of flight. -/
def State.answer (s : State) (f : Flight) (st : Status) (word : Nat) (body : List Word) : State :=
  let s1 := { s with cmd := { s.cmd with flights := s.cmd.flights.filter fun g => decide (g.ord ≠ f.ord) } }
  match f.src with
  | .starter e => s1.slOutcome e st
  | .image => if st = .ok then s1 else { s1 with cmd := { s1.cmd with imageStop := true } }
  | _ => s1.hold { src := f.src, op := f.op, tag := f.tag, status := st, seq := f.seq, c := f.c, word := word,
                   gen8 := (s.cmd.gen.toNat) % 256, body := body, ord := some f.ord }

/-- Complete every committed command whose completion `p` names, in intake order, with the body that `body` gives. -/
def State.finish (s : State) (p : Fin → Bool) (body : Flight → List Word) : State :=
  (s.cmd.flights.filter fun f => decide (f.phase = .committed) && p f.fin).foldl
    (fun s f => s.answer f .ok 0 (body f)) s

/-- Complete the commands that await `fin`, with the body that each holds. -/
def State.finishFin (s : State) (fin : Fin) : State := s.finish (fun g => decide (g = fin)) Flight.body

/-- Complete the committed commands that `p` names and that a stroke boundary completes now (R32), with the body that
`body` gives. -/
def State.finishDue (s : State) (p : Flight → Bool) (body : Flight → List Word) : State :=
  (s.cmd.flights.filter fun f => decide (f.phase = .committed) && decide (f.due ≤ 1) && p f).foldl
    (fun s f => s.answer f .ok 0 (body f)) s

/-- End, with a status, every command in flight that `p` names. -/
def State.endFlights (s : State) (st : Status) (p : Flight → Bool) : State :=
  (s.cmd.flights.filter p).foldl (fun s f => s.answer f st 0 []) s

/-- Set flags of register `a`; where a pending bit that `pend` reads rises, set bit `i` of event register `ev` (R280). -/
def State.withPend (s : State) (pend : State → Bool) (ev i : Nat) (f : State → State) : State :=
  let s1 := f s
  if pend s1 && !(pend s) then s1.flag ev i else s1

/-- Advance the configuration generation counter (R232). -/
def State.genUp (s : State) : State := { s with cmd := { s.cmd with gen := s.cmd.gen + 1 } }

/-- End, with ABORTED, every command that has started and not committed and that `p` names (R234). -/
def State.abortFlights (s : State) (p : Flight → Bool) : State :=
  (s.cmd.flights.filter fun f => decide (f.phase = .started) && p f).foldl
    (fun s f => s.answer f .aborted 0 []) s

/-! ## The device interrupt (R162, R200, R201) -/

/-- The event and enable registers of window `w` (R162). -/
def windowEvents (w : Nat) : List (Nat × Nat) :=
  match w with
  | 1 => [(Reg.PMU_EVENT, Reg.PMU_IRQ_EN), (Reg.PMU_UMP_EVENT, Reg.PMU_UMP_IRQ_EN)]
  | 2 => [(Reg.HIF_EVENT, Reg.HIF_IRQ_EN)]
  | 3 => [(Reg.CMD_EVENT, Reg.CMD_IRQ_EN)]
  | 4 => [(Reg.NTU_EVENT, Reg.NTU_IRQ_EN)]
  | 5 => [(Reg.MCK_REF_EVENT, Reg.MCK_IRQ_EN)]
  | 6 => [(Reg.NP_EVENT 0, Reg.NP_IRQ_EN 0)]
  | 7 => [(Reg.NP_EVENT 1, Reg.NP_IRQ_EN 1)]
  | 8 => [(Reg.RUD_EVENT, Reg.RUD_IRQ_EN)]
  | 9 => [(Reg.SRX_EVENT, Reg.SRX_IRQ_EN)]
  | 10 => [(Reg.STX_EVENT, Reg.STX_IRQ_EN)]
  | 11 => [(Reg.BUF_EVENT, Reg.BUF_IRQ_EN)]
  | 12 => [(Reg.RAL_EVENT, Reg.RAL_IRQ_EN)]
  | 13 => [(Reg.DRV_EVENT, Reg.DRV_IRQ_EN)]
  | 14 => [(Reg.TDM_EVENT, Reg.TDM_IRQ_EN)]
  | 15 => [(Reg.OBL_EVENT, Reg.OBL_IRQ_EN)]
  | _ => []

/-- Bit `w` of GLB_IRQ_STATUS (R162). -/
def State.sumBit (s : State) (w : Nat) : Bool :=
  if w = 0 then decide (s.reg Reg.GLB_ERR ≠ 0)
  else (windowEvents w).any fun e => decide (s.reg e.1 &&& s.reg e.2 ≠ 0)

/-- GLB_IRQ_STATUS (R169). -/
def State.irqStatus (s : State) : Word := w32 (bitsOfList ((List.range 16).filter s.sumBit))

/-- The device interrupt is asserted: an enabled bit of GLB_IRQ_STATUS is set (R162). -/
def State.irqLevel (s : State) : Bool := decide (s.irqStatus &&& s.reg Reg.GLB_IRQ_EN ≠ 0)

/-- The endpoint can issue memory requests, messages of MSI-X among them (R180). -/
def State.dmaOn (s : State) : Bool := !s.pmu.straps.hostSel && s.hif.bme && s.hif.linkUp && !s.hif.d3hot

/-- MSI-X vector `v` is masked, by its own bit or by the Function Mask (R201, R203). -/
def State.vecMasked (s : State) (v : Nat) : Bool := s.hif.funcMask || s.hif.vecMask.getLsbD v

/-- Send a message of MSI-X vector `v`: a masked vector sets its Pending Bit, and an endpoint that can issue no memory
request sends none (R180, R201). -/
def State.message (s : State) (v : Nat) : State :=
  if s.hif.msixEn && !s.pmu.straps.hostSel then
    if s.vecMasked v then { s with hif := { s.hif with pba := s.hif.pba ||| (1 <<< v) } }
    else if s.dmaOn then { s with hif := { s.hif with sent := s.hif.sent ++ [v] } }
    else s
  else s

/-- Bring the device interrupt, IRQ_N and the vector 0 message to what the events and enables now give
(R162, R200, R201). Every command ends so. -/
def settle (s : State) : State :=
  let lvl := s.irqLevel
  let s1 := if lvl && !s.hif.irq then s.message 0 else s
  { s1 with hif := { s1.hif with irq := lvl, irqN := lvl && s.bit Reg.HIF_IRQ_CFG 0 } }

/-- A near-end loopback feeds the receiver of target `t` (R663) from its transmitter, in place of its balls. -/
def State.nearLoop (s : State) (t : Nat) : Bool := let p := s.tst.points.getD t 0; decide (p = 1) || decide (p = 2)

/-- Drop what the last step drove outward: messages, frames sent, an abort. -/
def fresh (s : State) : State :=
  { s with bus := { s.bus with abort := false }, hif := { s.hif with sent := [], capture := [], rqWrite := [] },
           obl := { s.obl with sent := [], waked := 0 } }

/-! ## A tick (R13, R349) -/

/-- What passes while no command waits: one cycle of CLK_CTL, 2 ns; in WATCH one of the island clock's, 40 ns; and in MOORED
nothing counts. -/
def passTick (s : State) : State :=
  (fresh s).advance (if clocked s.mode then 2 else if s.mode = .watch then 40 else 0)

end Sys2Proof.Machine
end

