-- ==== Sys2Proof/Machine/Groups.lean ====
section
/-! DEFINITION. S20 groups, dither, exact-24 pairs and the conversions of samples on entry and exit (R427 to R438). -/
namespace Sys2Proof.Machine

/-- The nearest integer to n / d, halves away from zero (R429). -/
def roundDiv (n : Int) (d : Nat) : Int :=
  if 0 ≤ n then (2 * n + d) / (2 * (d : Int)) else -((2 * (-n) + d) / (2 * (d : Int)))

/-- A 24-bit value within its range. -/
def sat24 (v : Int) : Int := clampI (-8388608) 8388607 v

/-- A mantissa within its range (R429). -/
def satMant (v : Int) : Int := clampI (-524288) 524287 v

/-- The exponent `e` serves every sample: each rounds into the mantissa range (R429). -/
def expFits (xs : List Int) (e : Nat) : Bool :=
  xs.all fun x => let m := roundDiv x (2 ^ e); decide (-524288 ≤ m) && decide (m ≤ 524287)

/-- The exponent of eight values: the smallest that serves, or 4 (R429). -/
def groupExp (xs : List Int) : Nat :=
  if expFits xs 0 then 0 else if expFits xs 1 then 1 else if expFits xs 2 then 2 else if expFits xs 3 then 3 else 4

/-- One step of the dither generator (R430). -/
def lfsrStep (r : Nat) : Nat := if r % 2 = 1 then (r / 2) ^^^ 0x80200003 else r / 2

/-- One dither value of `e` bits from the generator: two successive outputs (R430). -/
def ditherVal (e : Nat) (r : Nat) : Int × Nat :=
  let r1 := lfsrStep r
  let r2 := lfsrStep r1
  ((r1 % 2 ^ e : Nat) + (r2 % 2 ^ e : Nat) - ((2 ^ e : Nat) - 1 : Int), r2)

/-- Dither values of `e` bits for each of `n` samples, in time order. -/
def ditherVals (e : Nat) : Nat → Nat → List Int × Nat
  | 0, r => ([], r)
  | n + 1, r =>
    let (d, r1) := ditherVal e r
    let (ds, r2) := ditherVals e n r1
    (d :: ds, r2)

/-- A silent group: MUTE with zero content (R431). -/
def silent : Group := { mute := true, m := List.replicate 8 0 }

/-- A silent group with MUTE and DISC, which replaces what is absent or failed (R15, R43). -/
def silentDisc : Group := { mute := true, disc := true, m := List.replicate 8 0 }

/-- Encode eight values without dither (R429). -/
def encode (xs : List Int) : Group :=
  let e := groupExp xs
  { exp := e, m := xs.map fun x => satMant (roundDiv x (2 ^ e)) }

/-- Encode eight values with dither from generator `r` (R429, R430): two outputs are taken for each sample. -/
def encodeDith (xs : List Int) (r : Nat) : Group × Nat :=
  let e := groupExp xs
  let (ds, r') := ditherVals e xs.length r
  ({ exp := e, m := (xs.zip ds).map fun p => satMant (roundDiv (p.1 + p.2) (2 ^ e)) }, r')

/-- Encode with dither where it is on. -/
def encodeWith (dith : Bool) (xs : List Int) (r : Nat) : Group × Nat :=
  if dith then encodeDith xs r else (encode xs, r)

/-- The values of a group: eight zeros for MUTE, whatever else it holds (R428, R431). -/
def decode (g : Group) : List Int :=
  if g.mute then List.replicate 8 0 else g.m.map fun m => m * (2 ^ g.exp : Nat)

/-- A group muted: MUTE set, content zeroed, other flags kept (R431). -/
def muteGroup (g : Group) : Group := { g with mute := true, exp := 0, m := List.replicate 8 0 }

/-- The odd group of an exact-24 pair: the residuals, with the even group's flags (R434). -/
def oddGroup (xs : List Int) (even : Group) : Group :=
  { even with exp := 0, m := if even.mute then List.replicate 8 0
                             else (xs.zip (decode even)).map fun p => p.1 - p.2 }

/-- The exact values of a pair (R434). -/
def decodePair (even odd : Group) : List Int := ((decode even).zip (decode odd)).map fun p => p.1 + p.2

/-- OR the flags DISC, SALV and RRW into a group. -/
def orFlags (g : Group) (disc salv rrw : Bool) : Group :=
  { g with disc := g.disc || disc, salv := g.salv || salv, rrw := g.rrw || rrw }

/-! ## Bytes (R427) -/

/-- The first byte of a group. -/
def groupByte0 (g : Group) : Nat :=
  128 * b2n g.mute + 64 * b2n g.disc + 32 * b2n g.salv + 16 * b2n g.rrw + 8 * b2n g.conv + g.exp % 8

/-- The 21 bytes of a group: flags and exponent, then eight 20-bit mantissas packed in order (R427). -/
def groupBytes (g : Group) : List Byte :=
  BitVec.ofNat 8 (groupByte0 g)
    :: beBytes 20 ((List.range 8).foldl (fun n k => n * 2 ^ 20 + unsgn 20 (g.m.getD k 0)) 0)

/-- The group in 21 bytes; none where its exponent is invalid (R427, R431). -/
def parseGroup (bs : List Byte) : Option Group :=
  let b0 := beAt bs 0 1
  let v := beAt bs 1 20
  if 5 ≤ b0 % 8 then none
  else some { mute := b0.testBit 7, disc := b0.testBit 6, salv := b0.testBit 5, rrw := b0.testBit 4,
              conv := b0.testBit 3, exp := b0 % 8,
              m := (List.range 8).map fun k => sgn 20 (v / 2 ^ (20 * (7 - k))) }

/-- A group as received: an invalid one is replaced by silence with DISC (R431). -/
def groupOrSilent (bs : List Byte) : Group := (parseGroup bs).getD silentDisc

/-- `n` groups of 21 bytes from offset `o`. -/
def groupsAt (bs : List Byte) (o n : Nat) : List Group :=
  (List.range n).map fun i => groupOrSilent (slice bs (o + 21 * i) 21)

/-- The bytes of a channel's stroke. -/
def strokeBytes (gs : List Group) : List Byte := gs.flatMap groupBytes

/-- The CRC of a channel's stroke (R42). -/
def strokeCrc (gs : List Group) : Nat := crc32c (strokeBytes gs)

/-! ## Entry and exit (R436, R437) -/

/-- Split a list of samples into groups of eight. -/
def eights : Nat → List Int → List (List Int)
  | 0, _ => []
  | n + 1, xs => xs.take 8 :: eights n (xs.drop 8)

/-- Encode a stroke of samples without dither. -/
def encodeStroke (xs : List Int) : List Group := (eights (xs.length / 8) xs).map encode

/-- The values of a stroke. -/
def decodeStroke (gs : List Group) : List Int := gs.flatMap decode

/-- The exact values of a stroke that may be a pair (R434, R437). -/
def strokeValues (st : Stroke) : List Int :=
  match st.odd with
  | some os => (st.groups.zip os).flatMap fun p => decodePair p.1 p.2
  | none => decodeStroke st.groups

/-- The 24-bit value of a received sample of `width` bits (R436). -/
def entryValue (width raw : Nat) : Int :=
  if width = 16 then sgn 16 raw * 256
  else if width = 20 then sgn 20 raw * 16
  else if width = 24 then sgn 24 raw
  else sgn 24 (raw / 256)

/-- The sample of `width` bits sent for the value `x` with dither `d` (R437). -/
def exitValue (width : Nat) (x d : Int) : Nat :=
  if width = 16 then unsgn 16 (clampI (-32768) 32767 (roundDiv (x + d) 256))
  else if width = 20 then unsgn 20 (clampI (-524288) 524287 (roundDiv (x + d) 16))
  else if width = 24 then unsgn 24 x
  else unsgn 32 (x * 256)

/-- The dither bits of an exit width: 8 and 4 in place of EXP, none otherwise (R430, R437). -/
def exitDither (width : Nat) : Nat := if width = 16 then 8 else if width = 20 then 4 else 0

/-- The samples of a stroke at an exit of `width` bits, with dither where it is on; a muted group is zeros and takes no
dither (R437, R438). -/
def exitGroups (width : Nat) (dith : Bool) : List (Group × List Int) → Nat → List Nat × Nat
  | [], r => ([], r)
  | (g, xs) :: rest, r =>
    let e := exitDither width
    let (vals, r1) :=
      if g.mute then (List.replicate 8 0, r)
      else if dith && decide (0 < e) then
        let (ds, r') := ditherVals e xs.length r
        ((xs.zip ds).map fun p => exitValue width p.1 p.2, r')
      else (xs.map fun x => exitValue width x 0, r)
    let (more, r2) := exitGroups width dith rest r1
    (vals ++ more, r2)

/-- The samples of a sink stroke at an exit (R437, R438). -/
def exitStroke (width : Nat) (dith : Bool) (st : Stroke) (r : Nat) : List Nat × Nat :=
  let xs := match st.odd with
    | some os => (st.groups.zip os).map fun p => (p.1, decodePair p.1 p.2)
    | none => st.groups.map fun g => (g, decode g)
  exitGroups width dith xs r

/-- A silent stroke of `n` groups. -/
def silentStroke (n : Nat) : Stroke := { groups := List.replicate n silent }

/-- A silent stroke of `n` groups with DISC. -/
def lostStroke (n : Nat) : Stroke := { groups := List.replicate n silentDisc }

/-- Some group of a stroke carries DISC. -/
def strokeDisc (st : Stroke) : Bool := st.groups.any Group.disc

end Sys2Proof.Machine
end

