-- ==== Sys2Proof/Machine/Buf.lean ====
section
/-! DEFINITION. Buffer memory: the allocation budget, the physical banks and the Slip queues (R252 to R292). -/
namespace Sys2Proof.Machine

/-! ## The allocation budget (R256 to R259) -/

/-- The fixed reserve F (R259). -/
def fixedReserve : Nat := 1048576

/-- Whole pages of 256 bytes (R257). -/
def pageBytes (x : Nat) : Nat := 256 * ((x + 255) / 256)

/-- Bytes that a receive stream of `n` positions takes at a link latency of `lat` core strokes (R257). -/
def rxAlloc (s : State) (n lat rate : Nat) : Nat :=
  pageBytes (n * ((lat * s.strokeSize * rateHz rate + 8 * s.coreRate - 1) / (8 * s.coreRate)) * 21)

/-- Bytes that a transmit stream of `n` positions takes with a window of `w` blocks (R257, R500). -/
def txAlloc (s : State) (n w : Nat) : Nat := pageBytes (n * (w * s.strokeSize / 8) * 21)

/-- The memory in use, U (R257). -/
def State.memUsed (s : State) : Nat :=
  fixedReserve + (s.srx.streams.map fun e => e.2.alloc).sum + (s.stx.streams.map fun e => e.2.alloc).sum
    + (s.buf.queues.map fun e => if e.2.fixed then 0 else 1024 * e.2.sizeKib).sum

/-- Logical banks present, B (R258, R264). -/
def State.banksPresent (s : State) : Nat := (s.buf.map.filter Option.isSome).length

/-- The capacity, C (R258). -/
def State.memCap (s : State) : Nat := 524288 * s.banksPresent

/-- BUF_ALLOC.FREE_KIB (R258). -/
def State.freeKib (s : State) : Nat := (s.memCap - s.memUsed) / 1024

/-! ## Banks (R252, R264) -/

/-- Whether physical bank `p` is out of use (R264). -/
def State.isRetired (s : State) (p : Nat) : Bool := s.buf.out.getLsbD p

/-- The spare banks: neither mapped, retired nor the target of a migration (R252, R264). -/
def State.spareBanks (s : State) : List Nat :=
  (List.range 42).filter fun p => !(s.isRetired p) && !(s.buf.map.any fun m => decide (m = some p))
    && !(s.buf.mig.any fun m => decide (m.target = p))

/-- The mapping made at BOOT: logical banks in order to the lowest unretired physical banks (R264). -/
def bootMap (retired : BitVec 42) : List (Option Nat) :=
  let good := (List.range 42).filter fun p => !(retired.getLsbD p)
  (List.range 40).map fun l => good[l]?

/-- The logical bank that physical bank `p` carries. -/
def State.carried (s : State) (p : Nat) : Option Nat :=
  (List.range 40).find? fun l => decide ((s.buf.map[l]?).join = some p)

/-! ## Slip queues: positions and levels (R266, R267) -/

/-- Bytes an item takes of the free space: header and padded payload, or the reservation while it is open (R266, R271). -/
def itemTaken (it : Item) : Nat :=
  match it.len with
  | some n => 4 + 4 * ((n + 3) / 4)
  | none => 4 + 4 * ((it.reserve + 3) / 4)

/-- Bytes of an item up to the end of its written data. -/
def itemWritten (it : Item) : Nat :=
  match it.len with
  | some n => 4 + 4 * ((n + 3) / 4)
  | none => 4 + 4 * ((it.data.length + 3) / 4)

/-- The header word of an item (R266). -/
def itemHeader (it : Item) : Word :=
  w32 (it.len.getD 0xFFFF + it.pflags.toNat * 2 ^ 16 + b2n it.abandoned * 2 ^ 24)

/-- The level, WP − FP (R267). -/
def qLevel (q : Queue) : Nat := (q.items.map itemWritten).sum

/-- Bytes that are not free: retained items and the reservation of an open one. -/
def qTaken (q : Queue) : Nat := (q.items.map itemTaken).sum

/-- The unread count, WP − RP (R267). -/
def qUnread (q : Queue) : Nat := ((q.items.drop q.rpItem).map itemWritten).sum - q.rpOff

/-- The queue's memory in bytes. -/
def qCap (q : Queue) : Nat := 1024 * q.sizeKib

/-- The item that the producer has open: the last one, if it is open (R271). -/
def qOpenItem (q : Queue) : Option Item :=
  match q.items.getLast? with
  | some it => if it.len.isNone then some it else none
  | none => none

/-- Whether the item at RP is one that the consumer may read (R272). -/
def qVisible (q : Queue) : Bool :=
  match q.items[q.rpItem]? with
  | none => false
  | some it => it.len.isSome || decide (0 < q.rpOff) || (decide (0 < q.cut) && decide (64 * q.cut ≤ it.data.length))

/-- Q_HEAD (R272, R283). -/
def qHead (q : Queue) : Word :=
  if qVisible q then (match q.items[q.rpItem]? with | some it => itemHeader it | none => 0) else 0

/-- Set bits of Q_EVENT. -/
def qFlag (q : Queue) (i : Nat) : Queue := { q with event := q.event ||| (1 <<< i) }

/-- Compare the level with the watermark after a change from level `old`: a crossing sets WM_UP or WM_DOWN and counts
(R276). -/
def qCross (old : Nat) (q : Queue) : Queue :=
  let w := 256 * q.wm
  let new := qLevel q
  if q.wm = 0 then q
  else if old < w && w ≤ new then { qFlag q 0 with wmCount := satNat 255 (q.wmCount + 1) }
  else if w ≤ old && new < w then { qFlag q 1 with wmCount := satNat 255 (q.wmCount + 1) }
  else q

/-- Take the `n` oldest items out of the ring, with no count (R273). -/
def qDropFront (q : Queue) (n : Nat) : Queue :=
  let gone := ((q.items.take n).map itemTaken).sum
  { q with items := q.items.drop n, rpItem := q.rpItem - n,
           fp := if qCap q = 0 then 0 else (q.fp + gone) % qCap q }

/-- Discard the oldest item to make room (R268, R274, R275). One that the consumer had not read in full is lost, whether RP
has passed it or not. -/
def qDiscard (q : Queue) : Queue :=
  let unread := decide (q.rpItem = 0)
  let lost := !(q.items.head?.any Item.read)
  let q1 := qFlag { q with lost := if lost then (q.lost + 1) % 2 ^ 48 else q.lost } 3
  let q2 := if unread then
      { qFlag q1 8 with resync := q1.resync || decide (0 < q1.rpOff), rpOff := 0, nextHeld := false }
    else q1
  let q3 := match q2.mark with
    | some 0 => { qFlag q2 2 with mark := none, markLost := true }
    | some (m + 1) => { q2 with mark := some m }
    | none => q2
  qDropFront q3 1

/-- Discard from FP until `size` bytes are free (R268); `fuel` bounds the items. -/
def qMakeRoom (size : Nat) : Nat → Queue → Queue
  | 0, q => q
  | fuel + 1, q => if q.items = [] || qTaken q + size ≤ qCap q then q else qMakeRoom size fuel (qDiscard q)

/-- Append an item (R268 to R270): in overwrite mode room is made for it; in held mode it is refused when it does not
fit. The level is compared with the watermark once, after the append with its discards (R277). The flag says whether it was
taken. -/
def qAppend (q : Queue) (it : Item) : Queue × Bool :=
  let size := itemTaken it
  if qCap q < size then
    if q.hold then (qFlag q 5, false) else (qFlag { q with lost := (q.lost + 1) % 2 ^ 48 } 5, false)
  else if q.hold && decide (qCap q < qTaken q + size) then (qFlag q 4, false)
  else
    let q1 := qMakeRoom size q.items.length q
    (qCross (qLevel q) { q1 with items := q1.items ++ [it] }, true)

/-- The consumer has read or skipped the item at RP in full: it is released without MRR, and retained with it (R273). -/
def qPass (q : Queue) : Queue :=
  if q.mrr then { q with rpItem := q.rpItem + 1, rpOff := 0 }
  else qCross (qLevel q) { qDropFront q (q.rpItem + 1) with rpOff := 0 }

/-- The consumer has read the item at RP in full (R268, R273). -/
def qReadAll (q : Queue) : Queue := qPass { q with items := listMod q.items q.rpItem fun it => { it with read := true } }

/-- Apply a held NEXT and the end of an item already read, once the item at RP is committed (R272, R273). -/
def qAfterCommit (q : Queue) : Queue :=
  match q.items[q.rpItem]? with
  | none => q
  | some it =>
    if it.len.isSome && decide (0 < q.rpOff) && decide (itemTaken it ≤ q.rpOff) then { qReadAll q with nextHeld := false }
    else if it.len.isSome && q.nextHeld then { qPass q with nextHeld := false }
    else q

/-- Replace the open item, which is the last one. -/
def qSetLast (q : Queue) (it : Item) : Queue := { q with items := q.items.dropLast ++ [it] }

/-- The producer opens an item with a reservation (R271). -/
def qOpen (q : Queue) (reserve : Nat) (pflags : Byte) : Queue :=
  (qAppend q { len := none, data := [], reserve := reserve, pflags := pflags }).1

/-- The producer writes the next payload word of the open item; words beyond the reservation are discarded (R271). -/
def qWrite (q : Queue) (w : Word) : Queue :=
  match qOpenItem q with
  | none => q
  | some it =>
    if 4 * ((it.reserve + 3) / 4) < it.data.length + 4 then qFlag q 10
    else qCross (qLevel q) (qSetLast q { it with data := it.data ++ leBytes 4 w.toNat })

/-- The producer commits the open item with a length; bytes not written read as zero (R271). -/
def qCommit (q : Queue) (len : Nat) : Queue :=
  match qOpenItem q with
  | none => q
  | some it =>
    let data := (it.data ++ List.replicate (len - it.data.length) 0).take len
    qAfterCommit (qCross (qLevel q) (qSetLast q { it with len := some len, data := data }))

/-- The producer abandons its open item (R272). -/
def qAbandon (q : Queue) : Queue :=
  match qOpenItem q with
  | none => q
  | some it =>
    if decide (q.rpItem + 1 = q.items.length) && decide (0 < q.rpOff) then
      qAfterCommit (qCross (qLevel q) (qSetLast q { it with len := some it.data.length, abandoned := true }))
    else qCross (qLevel q) { q with items := q.items.dropLast }

/-- The consumer reads the next word of the item at RP, header first (R272). -/
def qRead (q : Queue) : Word × Queue :=
  if q.resync then (0, q)
  else if q.nextHeld || !(qVisible q) then (0, qFlag q 6)
  else match q.items[q.rpItem]? with
    | none => (0, qFlag q 6)
    | some it =>
      if it.len.isNone && decide (4 ≤ q.rpOff) && decide (it.data.length < q.rpOff) then (0, qFlag q 6)
      else
        let w := if q.rpOff = 0 then itemHeader it else w32 (leNat (slice it.data (q.rpOff - 4) 4))
        let q1 := { q with rpOff := q.rpOff + 4 }
        (w, if it.len.isSome && decide (itemTaken it ≤ q.rpOff + 4) then qReadAll q1 else q1)

/-- NEXT (R273, R275). -/
def qNext (q : Queue) : Queue :=
  if q.resync then { q with resync := false }
  else match q.items[q.rpItem]? with
    | none => q
    | some it =>
      if it.len.isNone then (if 0 < q.rpOff then { q with nextHeld := true } else q) else qPass q

/-- RELEASE (R273). -/
def qRelease (q : Queue) : Queue :=
  let n := q.rpItem
  let mark := match q.mark with
    | some m => if m < n then none else some (m - n)
    | none => none
  qCross (qLevel q) { qDropFront q n with mark := mark }

/-- MARK (R273). -/
def qMark (q : Queue) : Queue := { q with mark := some q.rpItem, markLost := false }

/-- REWIND (R273, R274). R275 does not say what one in RESYNC does: it moves RP, and RESYNC lasts until the NEXT, which then
leaves RP where the rewind has put it (DESIGN CHOICE). -/
def qRewind (q : Queue) : Queue :=
  match q.mark with
  | some m => { q with rpItem := m, rpOff := 0 }
  | none =>
    let q1 := qFlag { q with rpItem := 0, rpOff := 0 } 9
    if q.markLost then qFlag q1 2 else q1

/-! ## Queues in the state -/

/-- Whether the event of queue `q` is pending (R280). -/
def State.qPending (s : State) (n : Nat) : Bool :=
  match tget s.buf.queues n with
  | some q => decide (q.event &&& tgetD s.buf.qEvEn n 0 ≠ 0)
  | none => false

/-- Put the contents of queue `n`; a rise of its pending bit sets BUF_EVENT.QUEUE (R280). -/
def State.setQueue (s : State) (n : Nat) (q : Queue) : State :=
  let s1 := { s with buf := { s.buf with queues := tset s.buf.queues n q } }
  if s1.qPending n && !(s.qPending n) then s1.flag Reg.BUF_EVENT 0 else s1

/-- Change queue `n`, where it is configured. -/
def State.onQueue (s : State) (n : Nat) (f : Queue → Queue) : State :=
  match tget s.buf.queues n with
  | some q => s.setQueue n (f q)
  | none => s

/-- Append a whole item to queue `n`; one that no queue takes is counted in BUF_DROP_UNCONF (R268, R279). -/
def State.enqueue (s : State) (n : Nat) (pflags : Byte) (data : List Byte) : State :=
  match tget s.buf.queues n with
  | some q =>
    if s.buf.ready then s.setQueue n (qAppend q { len := some data.length, data := data, pflags := pflags }).1
    else s.bump Reg.BUF_DROP_UNCONF
  | none => s.bump Reg.BUF_DROP_UNCONF

/-! ## Queue pages (R282, R283) -/

/-- Q_STATUS (R283). -/
def qStatusWord (n : Nat) (q : Queue) : Word :=
  w32 (1 + 2 * b2n q.hold + 4 * b2n q.mrr + 8 * b2n q.mark.isSome + 16 * b2n q.resync + 32 * b2n (qOpenItem q).isSome
    + 64 * b2n (!(decide (16 ≤ n && n < 24)) && !(decide (28 ≤ n && n < 32))) + 128 * b2n q.fixed)

/-- Q_CFG (R283). -/
def qCfgWord (q : Queue) : Word :=
  w32 (q.sizeKib + 2 ^ 14 * b2n q.hold + 2 ^ 15 * b2n q.mrr + 2 ^ 16 * q.cut)

/-- Q_WM (R283). -/
def qWmWord (q : Queue) : Word := w32 (q.wmCount + 2 ^ 16 * q.wm)

/-- Byte offset of a position in the queue's memory. -/
def qOffset (q : Queue) (items : Nat) (off : Nat) : Nat :=
  if qCap q = 0 then 0 else (q.fp + ((q.items.take items).map itemTaken).sum + off) % qCap q

/-- The words of a port cut into replies, each as long as its header gives (R213); `fuel` bounds them. -/
def cutReplies : Nat → List Word → List (List Word)
  | 0, _ => []
  | fuel + 1, ws =>
    match ws with
    | [] => []
    | h :: _ => ws.take (fieldOf h 7 0 + 1) :: cutReplies fuel (ws.drop (fieldOf h 7 0 + 1))

/-- Words as an item's payload. -/
def wordsBytes (ws : List Word) : List Byte := ws.flatMap fun w => leBytes 4 w.toNat

/-- A packet of the command queue as an item: R191 gives the queue its 1024 words with no more, so the packet's own header
stands in the place of the item's (DEDUCED). -/
def packetItem (ws : List Word) : Item := { len := some (4 * (ws.length - 1)), data := wordsBytes (ws.drop 1) }

/-- A reply of a reply queue as an item, with its item header (R278). -/
def replyItem (ws : List Word) : Item := { len := some (4 * ws.length), data := wordsBytes ws }

/-- A reply queue, of which `part` has been read of the first reply and `ws` is left. -/
def replyQueue (q : Queue) (part ws : List Word) : Queue :=
  let all := part ++ ws
  { q with items := (cutReplies all.length all).map replyItem, rpOff := if part = [] then 0 else 4 + 4 * part.length }

/-- Queue `n` as its page and `QUEUE_QUERY` show it: the command queue and the reply queues hold what waits there
(R278, R283, R287). -/
def State.queueView (s : State) (n : Nat) : Option Queue :=
  (tget s.buf.queues n).map fun q =>
    if n = 28 then { q with items := s.hif.cmdQueue.map fun e => packetItem e.2 }
    else if n = 29 then replyQueue q s.hif.rpHostRead s.hif.rpHost
    else if n = 30 then replyQueue q s.hif.rpMgmtRead s.hif.rpMgmt
    else q

/-- FP of queue `n` moves over `bytes` that have been taken out. -/
def State.qAdvance (s : State) (n bytes : Nat) : State :=
  { s with buf := { s.buf with queues := tmod s.buf.queues n fun q => { q with fp := (q.fp + bytes) % max 1 (qCap q) } } }

/-- A queue-page register that reads without effect, by its offset; Q_RDATA has its own operation (R283). -/
def State.qPage (s : State) (n off : Nat) : Word :=
  match s.queueView n with
  | none => if off = 0x14 then tgetD s.buf.qEvEn n 0 else 0
  | some q =>
    if off = 0x00 then qStatusWord n q
    else if off = 0x04 then w32 (qLevel q)
    else if off = 0x08 then w32 (qUnread q)
    else if off = 0x0C then qHead q
    else if off = 0x10 then q.event
    else if off = 0x14 then tgetD s.buf.qEvEn n 0
    else if off = 0x18 then qWmWord q
    else if off = 0x1C then w32 (q.lost % 2 ^ 32)
    else if off = 0x20 then w32 (q.lost / 2 ^ 32)
    else if off = 0x24 then w32 (b2n q.nextHeld)
    else if off = 0x38 then qCfgWord q
    else 0

/-- The queues on which the host is the consumer (R278). -/
def hostConsumes (n : Nat) : Bool := n < 16 || (24 ≤ n && n < 28) || (32 ≤ n && n < 256)

/-- The queues on which the host is the producer (R278). -/
def hostProduces (n : Nat) : Bool := 16 ≤ n && n < 24

/-- A consumer action of the host on queue `n`; any other use sets BUF_ERR.OP (R282). -/
def State.hostConsumer (s : State) (n : Nat) (f : Queue → Queue) : State :=
  match tget s.buf.queues n with
  | some q => if hostConsumes n then s.setQueue n (f q) else s.flag Reg.BUF_ERR 0
  | none => s.flag Reg.BUF_ERR 0

/-- A producer action of the host on queue `n`, permitted where `ok` holds of it; any other use sets BUF_ERR.OP
(R271, R282). -/
def State.hostProducer (s : State) (n : Nat) (ok : Queue → Bool) (f : Queue → Queue) : State :=
  match tget s.buf.queues n with
  | some q => if hostProduces n && ok q then s.setQueue n (f q) else s.flag Reg.BUF_ERR 0
  | none => s.flag Reg.BUF_ERR 0

/-- The host opens a transmit item (R269, R271). -/
def State.qpOpen (s : State) (n : Nat) (v : Word) : State :=
  s.hostProducer n (fun q => (qOpenItem q).isNone)
    fun q => qOpen q (fieldOf v 15 0) (BitVec.ofNat 8 (fieldOf v 23 16))

/-- The host writes the next payload word (R271). -/
def State.qpWdata (s : State) (n : Nat) (v : Word) : State :=
  s.hostProducer n (fun q => (qOpenItem q).isSome) fun q => qWrite q v

/-- The host commits the open item (R271). -/
def State.qpCommit (s : State) (n : Nat) (v : Word) : State :=
  let len := fieldOf v 15 0
  s.hostProducer n (fun q => match qOpenItem q with
    | some it => decide (len ≤ it.reserve) && decide (len ≠ 0xFFFF)
    | none => false) fun q => qCommit q len

/-- An operation that MRR permits, or that sets BUF_ERR.OP without it (R273). -/
def State.mrrOp (s : State) (n : Nat) (f : Queue → Queue) : State :=
  match tget s.buf.queues n with
  | some q => if hostConsumes n && q.mrr then s.setQueue n (f q) else s.flag Reg.BUF_ERR 0
  | none => s.flag Reg.BUF_ERR 0

/-- A write to Q_OP: RELEASE, MARK, REWIND, NEXT in this order, and ABANDON (R272, R273). -/
def State.qpOp (s : State) (n : Nat) (v : Word) : State :=
  let s1 := if bitOf v 1 then s.mrrOp n qRelease else s
  let s2 := if bitOf v 2 then s1.mrrOp n qMark else s1
  let s3 := if bitOf v 3 then s2.mrrOp n qRewind else s2
  let s4 := if bitOf v 0 then s3.hostConsumer n qNext else s3
  if bitOf v 4 then s4.hostProducer n (fun q => (qOpenItem q).isSome) qAbandon else s4

/-- The host reads the next word of the item at RP (R272). -/
def State.qpRdata (s : State) (n : Nat) : Word × State :=
  match tget s.buf.queues n with
  | some q =>
    if hostConsumes n then let (w, q') := qRead q; (w, s.setQueue n q') else (0, s.flag Reg.BUF_ERR 0)
  | none => (0, s.flag Reg.BUF_ERR 0)

/-! ## Commands (R285 to R287) -/

/-- `QUEUE_CONFIG`, checks of the packet alone (R285). -/
def badQueueConfig (x : Bool) (p : List Word) : Option Nat :=
  if p.length ≠ (if x then 2 else 1) then some 0 else
  let w1 := p.getD 0 0
  let w2 := p.getD 1 0
  let q := fieldOf w1 7 0
  let size := fieldOf w1 29 16
  if (24 ≤ q && q < 32) || decide (fieldOf w1 15 10 ≠ 0) || decide (fieldOf w1 31 30 ≠ 0)
      || (bitOf w1 8 && !(hostProduces q)) || (bitOf w1 9 && hostProduces q) || decide (8192 < size) then some 1
  else if x && (decide (fieldOf w2 15 8 ≠ 0) || decide (4 * size < fieldOf w2 31 16)) then some 2
  else none

/-- `QUEUE_CONFIG` at its commit point (R285, R286). -/
def commitQueueConfig (x : Bool) (p : List Word) (s : State) : State × Res :=
  let w1 := p.getD 0 0
  let w2 := p.getD 1 0
  let n := fieldOf w1 7 0
  let size := fieldOf w1 29 16
  let q : Queue := { sizeKib := size, hold := bitOf w1 8, mrr := bitOf w1 9,
                     cut := if x then fieldOf w2 7 0 else 0, wm := if x then fieldOf w2 31 16 else 3 * size }
  let old := tget s.buf.queues n
  let oldBytes := match old with | some o => 1024 * o.sizeKib | none => 0
  if s.memCap < s.memUsed - oldBytes + 1024 * size then (s, .fail .noResource 1) else
  let s1 := if size = 0 then { s with buf := { s.buf with queues := terase s.buf.queues n } }
    else { s with buf := { s.buf with queues := tset s.buf.queues n q } }
  let same := match old with
    | some o => decide (o.sizeKib = size) && decide (o.hold = q.hold) && decide (o.mrr = q.mrr)
        && decide (o.cut = q.cut) && decide (o.wm = q.wm)
    | none => decide (size = 0)
  (s1, .ok [w32 s1.freeKib] (!same))

/-- `QUEUE_QUERY`, checks of the packet alone (R287). -/
def badQueueQuery (_x : Bool) (p : List Word) : Option Nat :=
  if p.length ≠ 1 then some 0 else if fieldOf (p.getD 0 0) 31 8 ≠ 0 then some 1 else none

/-- The body of `QUEUE_QUERY` (R287). -/
def queueBody (s : State) (x : Bool) (n : Nat) : List Word :=
  let q : Queue := (s.queueView n).getD { sizeKib := 0 }
  let six := [s.qPage n 0x38, s.qPage n 0x18, s.qPage n 0x00, s.qPage n 0x04, w32 (q.lost % 2 ^ 32),
    w32 (q.lost / 2 ^ 32 + 2 ^ 16 * (q.event.toNat % 2 ^ 11))]
  if x then six ++ [w32 (qOffset q q.rpItem q.rpOff),
      w32 (if qCap q = 0 then 0 else (q.fp + qLevel q) % qCap q), w32 q.fp,
      w32 (match q.mark with | some m => qOffset q m 0 | none => 0x7FFFFF)]
  else six

/-- `QUEUE_QUERY` at its commit point (R287). -/
def commitQueueQuery (x : Bool) (p : List Word) (s : State) : State × Res :=
  (s, .ok (queueBody s x (fieldOf (p.getD 0 0) 7 0)))

end Sys2Proof.Machine
end

