-- ==== Sys2Proof/Machine/Umpire.lean ====
section
/-! DEFINITION. The end of a power request, the restart of the Command Processor, and the Umpire with its fault log
(R97 to R104, R235, R236, R670, R635 to R649). -/
namespace Sys2Proof.Machine

/-! ## The end of a power request (R98, R99, R104, R132) -/

/-- The one body word of `MODE_SET` and `POWER_REQUEST` (R132). -/
def powerBody (mode before : Mode) (refuser reason elapsedNs : Nat) : List Word :=
  [w32 (modeCode mode + 16 * modeCode before + 2 ^ 8 * refuser + 2 ^ 12 * reason
    + 2 ^ 20 * satNat 0xFFF (elapsedNs / 100000))]

/-- The flight with intake number `ord`. -/
def State.flight (s : State) (ord : Nat) : Option Flight := s.cmd.flights.find? fun f => decide (f.ord = ord)

/-- Put PMU_HS to the request's last state: idle, with the refuser and reason (R117). -/
def State.hsDone (s : State) (r : PowerReq) (refuser reason : Nat) : State :=
  s.setReg Reg.PMU_HS (w32 (modeCode r.target + 8 * b2n r.force + 2 ^ 8 * refuser + 2 ^ 12 * reason
    + 2 ^ 20 * r.tag.toNat))

/-- What a request holds while it is asked: host items at the ports, and the bank of a first entry to SERVICE (R315,
R339). -/
def State.hsRelease (s : State) : State :=
  { s with np := s.np.map fun p => { p with holdHost := false }, rud := { s.rud with heldBank := none } }

/-- The request `r` leaves the place of the request in progress (R103, R117, R126). -/
def State.hsFree (s : State) (r : PowerReq) (refuser reason : Nat) : State :=
  let s1 := ((s.hsDone r refuser reason).hsRelease).flag Reg.PMU_EVENT 1
  { s1 with pmu := { s1.pmu with req := none, parts := 0 } }

/-- Answer the power request `r` and free the place it took (R98, R99, R102, R103, R104). -/
def State.endRequest (s : State) (r : PowerReq) (st : Status) (mode : Mode) (refuser reason : Nat) : State :=
  let body := powerBody mode r.before refuser reason (s.ntu.course - r.askAt)
  let s1 := s.hsFree r refuser reason
  let s2 := if st = .refused then s1.flag Reg.PMU_EVENT 2 else s1
  match s2.flight r.ord with
  | some f => s2.answer f st 0 body
  | none => s2

/-- End the request in progress at once with ABORTED (R104). -/
def State.endInProgress (s : State) (reason : Nat) : State :=
  match s.pmu.req with
  | some r => s.endRequest r .aborted s.mode 0 reason
  | none => s

/-! ## Restart of the Command Processor (R172, R235, R236, R670) -/

/-- The body of the LOST reply that a restart gives flight `f`: that of R132 for a `MODE_SET` or `POWER_REQUEST`, with the
mode and the instant of the ask where the request was asked (R132, R214). One that was never tried has no ask, so BEFORE is
the mode in force and ELAPSED is 0. -/
def State.lostBody (s : State) (f : Flight) : List Word :=
  if f.op ≠ 4 && f.op ≠ 5 then [] else
  match s.pmu.req with
  | some r => if r.ord = f.ord then powerBody s.mode r.before 0 0 (s.ntu.course - r.askAt) else powerBody s.mode s.mode 0 0 0
  | none => powerBody s.mode s.mode 0 0 0

/-- Restart the Command Processor with a cause that keeps power. Commands that have not committed are answered LOST after
the marker; a restart in progress starts again from its beginning. A reply that R228 still held back was complete before the
restart, so it precedes the marker (R236). -/
def State.cmdRestart (s : State) (cause : Nat) : State :=
  let n := satNat 0xFFFF (s.cmd.restarts + 1)
  let c := { s.cmd with ready := false, restarting := true, cause := cause, restarts := n, restartTick := s.logTick,
                        held := s.cmd.held.map fun r => { r with behind := none } }
  let s1 := { s with cmd := c }
  let lost := s1.cmd.flights.filter fun f => decide (f.phase ≠ .committed)
  let s2 := lost.foldl (fun s f => s.answer f .lost 0 (s1.lostBody f)) s1
  let s3 := match s2.pmu.req with
    | some r => if r.stage = HsStage.asking then s2.hsFree r 0 0 else s2
    | none => s2
  { s3 with pmu := { s3.pmu with slot := none } }

/-! ## The fault log (R648, R649) -/

/-- Word 0 of a log entry (R648). -/
def logWord0 (code unit action : Nat) (injected : Bool) (seq : Nat) : Word :=
  w32 (code + 2 ^ 8 * unit + 2 ^ 12 * action + 2 ^ 14 * b2n injected + 2 ^ 16 * (seq % 2 ^ 16))

/-- Append a log entry to queue 27; LOSS is set when it discards an unread entry (R648). -/
def State.appendLog (s : State) (suppressed : Nat) (ws : List Word) : State :=
  match tget s.buf.queues 27 with
  | none => s
  | some q =>
    let it : Item := { len := some 12, data := wordBytes ws, pflags := BitVec.ofNat 8 (2 * satNat 127 suppressed) }
    let loss := decide (q.lost ≠ (qAppend q it).1.lost)
    s.setQueue 27 (qAppend q { it with pflags := BitVec.ofNat 8 (2 * satNat 127 suppressed + b2n loss) }).1

/-- Make a log entry: it waits in the Umpire until queue 27 is available (R649). -/
def State.logEntry (s : State) (code unit action : Nat) (injected : Bool) (suppressed : Nat) (detail : Word) : State :=
  let w0 := logWord0 code unit action injected s.ump.seq
  let ws := [w0, s.logTick, detail]
  let s1 := { s with ump := { s.ump with seq := (s.ump.seq + 1) % 2 ^ 16 } }
  let s2 := (s1.setReg Reg.PMU_UMP_LAST w0).setReg Reg.PMU_UMP_LAST_DETAIL detail
  if s2.buf.ready then s2.appendLog suppressed ws
  else { s2 with ump := { s2.ump with early := s2.ump.early ++ [(suppressed, ws)] } }

/-- The early entries go to queue 27 in order, once it is available (R649). -/
def State.flushLog (s : State) : State :=
  s.ump.early.foldl (fun s e => s.appendLog e.1 e.2) { s with ump := { s.ump with early := [] } }

/-! ## Faults and policies (R641 to R643) -/

/-- The policy codes. -/
def polFlag : Nat := 0
def polSafe : Nat := 1
def polRestart : Nat := 2

/-- The low bit of a fault's field in PMU_UMP_POLICY, its default policy and the one other policy it allows; none for
a fault whose policy is fixed (R641, R667). -/
def policyRow (code : Nat) : Option (Nat × Nat × Nat) :=
  match code with
  | 1 => some (0, 1, 0)
  | 2 => some (2, 0, 1)
  | 3 => some (4, 0, 1)
  | 4 => some (6, 1, 0)
  | 6 => some (8, 2, 1)
  | 9 => some (10, 1, 0)
  | _ => none

/-- The policy that applies to a fault: that of BOOT_IMAGE by the BOOT_SRC strap (R91), else the register's choice where the fault allows it, else the default; the defaults
alone while GLB_PARITY.ADDR names PMU_UMP_POLICY (R642). -/
def State.policy (s : State) (code : Nat) : Nat :=
  match policyRow code with
  | none => if code = 5 && decide (s.pmu.straps.bootSrc = 1) then polSafe else polFlag
  | some (lo, dflt, other) =>
    let v := s.regField Reg.PMU_UMP_POLICY (lo + 1) lo
    if s.regField Reg.GLB_PARITY 19 0 = Reg.PMU_UMP_POLICY then dflt
    else if v = other then other else dflt

/-- Ask for SAFE without a handshake: the request in progress ends, and the mode changes at its boundary, or when the
last unit reports from a mode without a grid (R81, R83, R104, R643). -/
def State.askSafe (s : State) : State :=
  if s.mode = .safe || !(clocked s.mode) then s else
  let s1 := s.endInProgress 0x20
  { s1 with pmu := { s1.pmu with modeNext := some .safe, modeLate := decide (s.boundaryWait = 2), forced := some .safe,
                                 forcing := false, autoNext := false, parts := 0 } }

/-- Add an element that a list does not yet hold. -/
def insertNew (x : Nat × Nat) (l : List (Nat × Nat)) : List (Nat × Nat) := if l.any fun y => decide (y = x) then l else l ++ [x]

/-- Raise a fault: log it, set its event, apply `action` (R643). -/
def State.raiseAs (s : State) (code unit : Nat) (detail : Word) (injected : Bool) (action : Nat) : State :=
  let s1 := match tget s.ump.windows code with
    | none =>
      let s' := s.logEntry code unit action injected 0 detail
      { s' with ump := { s'.ump with windows := tset s'.ump.windows code {} } }
    | some w =>
      let w' := { w with count := w.count + 1, detail := detail, unit := unit, injected := injected, action := action }
      { s with ump := { s.ump with windows := tset s.ump.windows code w' } }
  let s2 := s1.flag Reg.PMU_UMP_EVENT code
  if action = polSafe then
    let before := s2.ump.units.filter fun e => decide (e.1 ≠ code) || s2.ump.active.getLsbD code
    { s2 with ump := { s2.ump with active := s2.ump.active ||| (1 <<< code),
                                   units := insertNew (code, unit) before } }.askSafe
  else if action = polRestart then s2.cmdRestart 6
  else s2

/-- Raise a fault under its policy (R642, R643). -/
def State.raise (s : State) (code unit : Nat) (detail : Word) (injected : Bool := false) : State :=
  s.raiseAs code unit detail injected (s.policy code)

/-- FAULT_N is asserted (low): a fault is active, or a PWR_GOOD failure holds it; it is released while POR_N is low (R51,
R56, R643). -/
def State.faultN (s : State) : Bool := s.pmu.porN && (decide (s.ump.active ≠ 0) || s.pmu.pgFault)

/-! ## The commands of the Umpire -/

/-- Mark the condition of a fault as standing or cleared (R645). -/
def State.setCond (s : State) (code : Nat) (on : Bool) : State :=
  { s with ump := { s.ump with cond := if on then s.ump.cond ||| ((1 : BitVec 12) <<< code) else s.ump.cond &&& ~~~((1 : BitVec 12) <<< code) } }

/-- The unit of a unit memory (R647). -/
def memoryUnit (m : Nat) : Nat :=
  match m with
  | 1 => 9 | 2 => 9 | 3 => 2 | 4 => 4 | 5 => 6 | _ => 2

/-- Start List entry `i` becomes FAILED by a parity failure; its edge, if handed, is withdrawn from its pin (R376, R380,
R647). -/
def entryFails (i : Nat) (s : State) : State :=
  match tget s.ntu.list i with
  | none => s
  | some x =>
    let pins := s.ntu.evtOut.map fun o => { o with handed := o.handed.filter fun h => decide (h.entry ≠ i) }
    let s1 := { s with ntu := { s.ntu with evtOut := pins } }
    if x.state = .fired || x.state = .late || x.state = .dropped || x.state = .failed then
      { s1 with ntu := { s1.ntu with list := tmod s1.ntu.list i fun x =>
          { x with state := .failed, status := statusCode .checkFail } } }
    else s1.slDone i .failed (statusCode .checkFail)

/-- A unit-memory entry fails its parity: it is not used until it is rewritten (R647). -/
def memFails (e : Nat × Nat) (s : State) : State :=
  let s1 := { s with ump := { s.ump with badMem := s.ump.badMem ++ [e] } }
  let s2 := (s1.raise 4 (memoryUnit e.1) (w32 (e.1 + 2 ^ 8 * (e.2 % 2 ^ 16)))).setCond 4 true
  if e.1 = 5 then entryFails e.2 s2
  else if e.1 = 7 then { s2 with rud := { s2.rud with sealed0 := false } }
  else if e.1 = 8 then { s2 with rud := { s2.rud with sealed1 := false } }
  else s2

/-- UNIT_MEM_PARITY_PASS: the background pass over the unit memories; `bad` holds the entries found bad (R647). -/
def execUnitMemParityPass (bad : List (Nat × Nat)) (s : State) : Host.Outcome State Fault Refusal :=
  .next (settle (if clocked s.mode then
    (bad.filter fun e => !(has s.ump.badMem e)).foldl (fun s e => memFails e s) (fresh s) else fresh s))

/-- A rewritten entry of a unit memory is used again; when none is left bad, the condition of UNIT_MEM has cleared
(R645, R647). -/
def State.memRewritten (s : State) (m : Nat) (p : Nat → Bool) : State :=
  if s.ump.badMem = [] then s else
  let left := s.ump.badMem.filter fun e => !(decide (e.1 = m) && p e.2)
  let s1 := { s with ump := { s.ump with badMem := left } }
  if left = [] then s1.setCond 4 false else s1

/-- Whether entry `e` of unit memory `m` stands bad. -/
def State.memBad (s : State) (m e : Nat) : Bool := has s.ump.badMem (m, e)

/-- The temperature thresholds in 1/8 °C: WARN, TRIP and HYST (R640, R667). -/
def State.tempCfg (s : State) : Int × Int × Int :=
  let h := s.regField Reg.PMU_UMP_TEMP_CFG 23 16
  (8 * sgn 8 (s.regField Reg.PMU_UMP_TEMP_CFG 7 0), 8 * sgn 8 (s.regField Reg.PMU_UMP_TEMP_CFG 15 8),
    8 * ((if h = 0 then 1 else h : Nat) : Int))

/-- One temperature threshold against a measurement: reaching it raises the fault, and falling below it less HYST clears
the condition (R640). -/
def tempTest (code : Nat) (tj th hyst : Int) (s : State) : State :=
  let on := s.ump.cond.getLsbD code
  if th ≤ tj && !on then (s.raise code 0 (w32 (unsgn 16 tj))).setCond code true
  else if tj < th - hyst && on then s.setCond code false
  else s

/-- The temperature sample: PMU_UMP_TEMP shows it and the thresholds are tested (R640). -/
def tempSample (tj : Int) (s : State) : State :=
  let s1 := s.setField Reg.PMU_UMP_TEMP 15 0 (unsgn 16 tj)
  let (warn, trip, hyst) := s1.tempCfg
  tempTest 9 tj trip hyst (tempTest 8 tj warn hyst s1)

/-- TEMPERATURE_SAMPLE: the sensor measures Tj, in 1/8 °C, in every mode in which CLK_CTL runs (R640). -/
def execTemperatureSample (tj : Int) (s : State) : Host.Outcome State Fault Refusal :=
  .next (settle (if clocked s.mode then tempSample tj (fresh s) else fresh s))

/-- The strikes of the last 10 s (R644). -/
def State.strikesNow (s : State) : List Nat := s.ump.strikes.filter fun t => decide (s.ntu.course < 10000000000 + t)

/-- A CMD_WATCHDOG fault, with `detail` given or the number of strikes: the third strike within 10 s is handled as SAFE,
and SAFE restarts the Command Processor too (R644). -/
def watchdogFault (unit : Nat) (detail : Option Word) (injected : Bool) (s : State) : State :=
  let strikes := s.strikesNow ++ [s.ntu.course]
  let s1 := { s with ump := { s.ump with strikes := strikes } }
  let action := if 3 ≤ strikes.length then polSafe else s1.policy 6
  let s2 := s1.raiseAs 6 unit (detail.getD (w32 (satNat 255 strikes.length))) injected action
  if action = polSafe then s2.cmdRestart 6 else s2

/-- The watchdog expires (R644). -/
def watchdog (s : State) : State := watchdogFault 0 none false s

/-- CMD_WATCHDOG: the Command Processor misses its watchdog service; not checked during a restart (R644). -/
def execCmdWatchdog (s : State) : Host.Outcome State Fault Refusal :=
  .next (settle (if s.cmd.ready && clocked s.mode then watchdog (fresh s) else fresh s))

/-- A fault's 1 ms window closes: with occurrences counted, one entry carries the count and a new window opens (R649). -/
def closeWindow (code : Nat) (s : State) : State :=
  match tget s.ump.windows code with
  | none => s
  | some w =>
    if w.count = 0 then { s with ump := { s.ump with windows := terase s.ump.windows code } }
    else
      let s1 := s.logEntry code w.unit w.action w.injected w.count w.detail
      { s1 with ump := { s1.ump with windows := tset s1.ump.windows code {} } }

/-- FAULT_LOG_WINDOW_CLOSE: the 1 ms window of a fault code closes (R649). -/
def execFaultLogWindowClose (code : Nat) (s : State) : Host.Outcome State Fault Refusal :=
  .next (settle (closeWindow code (fresh s)))

/-- Acknowledge every active fault whose condition has cleared: ACK_DONE where one has or none is left, ACK_REFUSED where
one stays active (R645). -/
def umpireAck (s : State) : State :=
  let still := s.ump.active &&& s.ump.cond
  let s1 := { s with ump := { s.ump with active := still } }
  let s2 := if still = 0 || s.ump.active &&& ~~~s.ump.cond ≠ 0 then s1.flag Reg.PMU_UMP_EVENT 12 else s1
  if still = 0 then s2 else s2.flag Reg.PMU_UMP_EVENT 13

/-- PMU_UMP_STATUS (R667). -/
def State.umpStatus (s : State) : Word :=
  w32 (b2n (decide (s.ump.active ≠ 0)) + s.ump.active.toNat / 2 * 2 + 2 ^ 16 * satNat 3 s.strikesNow.length)

/-! ## FAULT_INJECT (R665) -/

/-- `FAULT_INJECT`, checks of the packet alone (R665). -/
def badFaultInject (x : Bool) (p : List Word) : Option Nat :=
  if p.length ≠ (if x then 2 else 1) then some 0 else
  let w := p.getD 0 0
  if fieldOf w 31 12 ≠ 0 || fieldOf w 7 0 = 0 || 11 < fieldOf w 7 0 then some 1 else none

/-- `FAULT_INJECT` at its commit point: the fault's own policy applies (R665). -/
def commitFaultInject (x : Bool) (p : List Word) (s : State) : State × Res :=
  let w := p.getD 0 0
  if s.mode ≠ .test then (s, .fail .wrongMode) else
  let detail := if x then p.getD 1 0 else 0
  if fieldOf w 7 0 = 6 then (watchdogFault (fieldOf w 11 8) (some detail) true s, .ok [])
  else (s.raise (fieldOf w 7 0) (fieldOf w 11 8) detail true, .ok [])

end Sys2Proof.Machine
end

