-- ==== Sys2Proof/Machine/Drive.lean ====
section
/-! DEFINITION. The Drive engine: its arithmetic, ramps, banks, detectors and gates, and its commands (R543 to R578). -/
namespace Sys2Proof.Machine

/-! ## Arithmetic (R543, R544) -/

/-- A gain within −131,072 to 131,071. -/
def sat18 (v : Int) : Int := clampI (-131072) 131071 v

/-- A sum read as a signed 48-bit number. -/
def wrap48 (v : Int) : Int := sgn 48 (unsgn 48 v)

/-- The product of two gains (R544). -/
def gainMul (a b : Int) : Int := sat18 (roundDiv (a * b) 65536)

/-- Lists added element by element; the shorter is taken as zero beyond its end. -/
def addLists : List Int → List Int → List Int
  | [], b => b
  | a, [] => a
  | x :: a, y :: b => (x + y) :: addLists a b

/-- The sum of many lists, element by element. -/
def sumLists (l : List (List Int)) : List Int := l.foldl addLists []

/-- `n` zeros. -/
def zeros (n : Nat) : List Int := List.replicate n 0

/-! ## Ramps (R552, R553) -/

/-- A gain that stands at a value. -/
def rampAt (g : Int) : Ramp := { cur := g, a := g, b := g }

/-- A new target for a gain, over `len` samples. -/
def rampTo (r : Ramp) (target : Int) (len : Nat) : Ramp := { cur := r.cur, a := r.cur, b := target, len := len, j := 0 }

/-- The gain of the next sample. -/
def rampNext (r : Ramp) : Ramp :=
  let j := r.j + 1
  if r.len ≤ j then { r with cur := r.b, j := r.len }
  else { r with cur := r.a + roundDiv ((r.b - r.a) * j) r.len, j := j }

/-- The gains of the next `n` samples, and the ramp after them. -/
def rampRun : Nat → Ramp → List Int × Ramp
  | 0, r => ([], r)
  | n + 1, r =>
    let r1 := rampNext r
    let (gs, r2) := rampRun n r1
    (r1.cur :: gs, r2)

/-- A ramp that ends at once. -/
def rampEnd (r : Ramp) : Ramp := rampAt r.b

/-- The ramp is in progress. -/
def ramping (r : Ramp) : Bool := r.j < r.len

/-- A term that stands and is not removed. -/
def termLive (t : Term) : Bool := !t.leaving

/-! ## Banks (R558 to R561, R565) -/

/-- The bank with index `i`. -/
def State.bank (s : State) (i : Nat) : Bank := s.drv.banks.getD i {}

/-- The active bank. -/
def State.activeBank (s : State) : Bank := s.bank s.drv.active

/-- The index of the bank that a BANK bit names: 0 the active, 1 the inactive one (R560). -/
def State.bankIx (s : State) (b : Bool) : Nat := if b then 1 - s.drv.active else s.drv.active

/-- Put a bank. -/
def State.setBank (s : State) (i : Nat) (b : Bank) : State :=
  { s with drv := { s.drv with banks := listMod s.drv.banks i fun _ => b } }

/-- The key of a membership. -/
def memKey (bus src : Nat) : Nat := 4096 * bus + src

/-- The sources that are members of a bus, with their terms, in ascending source. -/
def membersOf (b : Bank) (bus : Nat) : List (Nat × Term) :=
  (b.members.filter fun e => decide (e.1 / 4096 = bus)).map fun e => (e.1 % 4096, e.2)

/-- Self terms of a listener: pairs of a subscribed bus and a self source that is a member of it (R565). -/
def selfTerms (b : Bank) (l : Listener) : Nat :=
  (l.subs.map fun e => (l.selfs.filter fun src => thas b.members (memKey e.1 src)).length).sum

/-- The limit of memberships (R565). -/
def State.memberLimit (s : State) : Nat := if s.fast then 8192 else 16384

/-- The limit of listener mixes (R565). -/
def State.listenerLimit (s : State) : Nat := if s.fast then 1024 else 2048

/-- A bank is within the limits of R565 for the core rate class `fast` (R566). -/
def bankFits (fast : Bool) (b : Bank) : Bool :=
  decide (b.members.length ≤ if fast then 8192 else 16384)
    && b.listeners.all fun e => decide (e.1 < if fast then 1024 else 2048)

/-- Direct crosspoints of a bank. -/
def xpointCount (b : Bank) : Nat := (b.listeners.map fun e => tcount e.2.xpts termLive).sum

/-- DRV_COUNT_ACT or DRV_COUNT_INACT (R578). -/
def countWord (b : Bank) : Word := w32 (b.buses.length + 2 ^ 10 * b.listeners.length)

/-- DRV_COUNT_ACT_TERMS or DRV_COUNT_INACT_TERMS (R578). -/
def countTermsWord (b : Bank) : Word := w32 (b.members.length + 2 ^ 16 * xpointCount b)

/-- DRV_STATUS (R578). -/
def State.drvStatus (s : State) : Word :=
  w32 (s.drv.active + 2 * b2n (decide (s.drv.swaps ≠ [])) + 4 * b2n s.drv.running
    + 8 * b2n (s.activeBank.buses.any fun e => e.2.cascade))

/-- A ramp with its settings alone: its target. -/
def rampSet (r : Ramp) : Ramp := rampAt r.b

/-- A term with its settings alone. -/
def termSet (t : Term) : Term := { t with gain := rampSet t.gain }

/-- The stored settings of a bank: gains by their targets, terms that ramp out left aside (R232). -/
def bankSettings (b : Bank) : Bank :=
  { b with
    members := tmap (b.members.filter fun e => termLive e.2) termSet
    listeners := tmap b.listeners fun l => { l with
      subs := tmap (l.subs.filter fun e => termLive e.2) termSet
      xpts := tmap (l.xpts.filter fun e => termLive e.2) termSet
      out := rampSet l.out } }

/-- Put a bank that a command wrote, and say whether a stored setting changed. -/
def State.writeBank (s : State) (i : Nat) (b : Bank) : State × Bool :=
  (s.setBank i b, decide (bankSettings (s.bank i) ≠ bankSettings b))

/-! ## Terms -/

/-- Set or create a term in a table: in the active bank it ramps to its gain over `n` strokes of `sz` samples, from zero
if it is new; in the inactive bank it takes its gain (R552, R553, R559). -/
def setTerm (active : Bool) (sz n : Nat) (t : Table Term) (k : Nat) (g : Int) : Table Term :=
  if active then
    match tget t k with
    | some x => tset t k { gain := rampTo x.gain g (n * sz) }
    | none => tset t k { gain := rampTo (rampAt 0) g (n * sz) }
  else tset t k { gain := rampAt g }

/-- Remove a term: over a ramp in the active bank, at once without one (R553). -/
def dropTerm (active : Bool) (sz n : Nat) (t : Table Term) (k : Nat) : Table Term :=
  if active && decide (0 < n) then tmod t k fun x => { gain := rampTo x.gain 0 (n * sz), leaving := true }
  else terase t k

/-- A term exists: it is there and does not ramp out (R572). -/
def hasTerm (t : Table Term) (k : Nat) : Bool :=
  match tget t k with
  | some x => termLive x
  | none => false

/-! ## Exact roots and powers (R554, R556, R557) -/

/-- The largest number below 2^n that `p` holds of, where `p` holds of 0 and of every number below one it holds of. -/
def bisect (p : Nat → Bool) : Nat → Nat → Nat
  | 0, lo => lo
  | n + 1, lo => if p (lo + 2 ^ n) then bisect p n (lo + 2 ^ n) else bisect p n lo

/-- round(65536 / sqrt n) for n ≥ 1 (R556). -/
def shareGain (n : Nat) : Int := ((Nat.sqrt (2 ^ 34 / (if n = 0 then 1 else n)) + 1) / 2 : Nat)

/-- round(65536 × 10^(−d/20)), or 0 for d = 255 (R556, R557). -/
def depthGain (d : Nat) : Int :=
  if d = 255 then 0 else (bisect (fun r => decide ((2 * r - 1) ^ 20 * 10 ^ d ≤ (2 ^ 17) ^ 20)) 17 0 : Nat)

/-- floor(80 × log10(ms / 2^46)), at least −1280 (R554): for a mean square below 2^46 by the smallest power of ten that
lifts it there, above by the largest that it holds. -/
def levelOf (ms : Nat) : Int :=
  if ms = 0 then -1280
  else if 2 ^ 46 ≤ ms then
    (bisect (fun n => decide (2 ^ 3680 * 10 ^ n ≤ ms ^ 80)) 10 0 : Nat)
  else
    let m := bisect (fun n => decide (ms ^ 80 * 10 ^ n < 2 ^ 3680)) 11 0 + 1
    if 1280 < m then -1280 else -(m : Int)

/-! ## Level detectors, gates and ducks (R554 to R557) -/

/-- K of R554 for the stroke in force. -/
def levelK (rate : Nat) (s16 : Bool) : Int :=
  match rate, s16 with
  | 0, false => 12 | 0, true => 24 | 1, false => 8 | 1, true => 17 | 2, false => 6 | 2, true => 12
  | 3, false => 5 | 3, true => 9 | 4, false => 4 | 4, true => 8 | 5, false => 2 | 5, true => 5
  | _, false => 2 | _, true => 4

/-- The gate target of a member (R556). -/
def gateTarget (b : Bus) (isOpen : Bool) (nShare : Nat) : Int :=
  if !b.gating then 65536
  else if isOpen then (if b.share then shareGain nShare else 65536)
  else depthGain b.atten

/-- The detector of a member that is new: closed, at −160 dB, its gate at its target (R550, R555). -/
def newDetector (b : Bus) : Detector := { gate := rampAt (gateTarget b false 0) }

/-- The detector of a member of the active bank. -/
def State.detector (s : State) (key : Nat) : Detector :=
  (tget s.drv.dets key).getD (newDetector ((tget s.activeBank.buses (key / 4096)).getD {}))

/-- What is not banked of a bus. -/
def State.busDyn (s : State) (bus : Nat) : BusDyn := (tget s.drv.dyns bus).getD {}

/-- A detector takes the stroke's level (R554). -/
def detLevel (k : Int) (ms : Nat) (d : Detector) : Detector :=
  { d with lvl := d.lvl + ((levelOf ms * 256 - d.lvl) * k) / 256 }

/-- One pass of R555, part 1: each open member is kept or closed. -/
def gateKeep (b : Bus) (holdN : Nat) (last : Option Nat) (src : Nat) (d : Detector) : Detector :=
  if !d.isOpen then d
  else if (b.openTh - b.hyst) * 256 ≤ d.lvl then { d with hold := holdN }
  else if 0 < d.hold then { d with hold := d.hold - 1 }
  else if b.lastHold && decide (last = some src) then d
  else { d with isOpen := false }

/-- The closed members that reach the threshold, loudest first, ties to the lower ID (R555). -/
def gateOrder (b : Bus) (ds : List (Nat × Detector)) : List Nat :=
  ((ds.filter fun e => !e.2.isOpen && decide (b.openTh * 256 ≤ e.2.lvl)).mergeSort
    fun x y => decide (y.2.lvl < x.2.lvl) || (decide (x.2.lvl = y.2.lvl) && decide (x.1 ≤ y.1))).map Prod.fst

/-- Part 2 of R555 over the members in order: detectors, open count and last talker. -/
def gateOpen (b : Bus) (holdN : Nat) : List Nat → Table Detector → Nat → Option Nat → Table Detector × Nat × Option Nat
  | [], ds, n, last => (ds, n, last)
  | src :: rest, ds, n, last =>
    let openIt := fun (ds : Table Detector) (n : Nat) =>
      gateOpen b holdN rest (tmod ds src fun d => { d with isOpen := true, hold := holdN }) (n + 1) (some src)
    if b.nomMax ≠ 0 && b.nomMax ≤ n then
      match last with
      | some l =>
        match tget ds l with
        | some d =>
          if d.isOpen && decide (d.hold = 0) && decide (d.lvl < (b.openTh - b.hyst) * 256) then
            openIt (tmod ds l fun d => { d with isOpen := false }) (n - 1)
          else (ds, n, last)
        | none => (ds, n, last)
      | none => (ds, n, last)
    else openIt ds n

/-- The gate of a member moves to its target over GATE_RAMP strokes (R556). -/
def gateMove (b : Bus) (nShare sz : Nat) (d : Detector) : Detector :=
  let t := gateTarget b d.isOpen nShare
  if d.gate.b = t then d else { d with gate := rampTo d.gate t (b.gateRamp * sz) }

/-- The Recovery work of one bus: levels, gates, gate targets (R554 to R556). -/
def busRecovery (k : Int) (rate sz : Nat) (ms : Table Nat) (s : State) (e : Nat × Bus) : State :=
  let (bus, b) := e
  let keys := (membersOf s.activeBank bus).map Prod.fst
  let dyn := s.busDyn bus
  let holdN := (b.holdMs * rate + 1000 * sz - 1) / (1000 * sz)
  let ds0 : Table Detector := keys.map fun src => (src, detLevel k (tgetD ms (memKey bus src) 0) (s.detector (memKey bus src)))
  let ds1 : Table Detector := ds0.map fun e => (e.1, gateKeep b holdN dyn.last e.1 e.2)
  let n1 := tcount ds1 Detector.isOpen
  let (ds2, n2, last) := gateOpen b holdN (gateOrder b ds1) ds1 n1 dyn.last
  let nShare := if b.cascade then dyn.nCascade else n2
  let dets := ds2.foldl (fun t e => tset t (memKey bus e.1) (gateMove b nShare sz e.2)) s.drv.dets
  { s with drv := { s.drv with dets := dets, dyns := tset s.drv.dyns bus { dyn with last := last, nLocal := n2 } } }

/-- The active duckers of bus `t` with their depth gains, in ascending number (R557). -/
def activeDuckers (s : State) (t : Nat) : List (Nat × Duck) :=
  s.activeBank.ducks.filter fun e => has e.2.targets t &&
    (let dyn := s.busDyn e.1
     let casc := ((tget s.activeBank.buses e.1).getD {}).cascade
     decide (0 < if casc then dyn.nCascade else dyn.nLocal))

/-- The ducker in force: the smallest depth gain, the lowest number among equals (R557). -/
def duckerInForce (l : List (Nat × Duck)) : Option Duck :=
  (l.foldl (fun (best : Option Duck) e => match best with
    | none => some e.2
    | some b => if depthGain e.2.depth < depthGain b.depth then some e.2 else some b) none)

/-- The Recovery work of one bus as a duck target (R557). -/
def duckRecovery (sz : Nat) (s : State) (bus : Nat) : State :=
  let dyn := s.busDyn bus
  let d := duckerInForce (activeDuckers s bus)
  let target := match d with | some x => depthGain x.depth | none => 65536
  let strokes := if target < dyn.duck.b then (match d with | some x => x.attack | none => 0)
    else (match dyn.lastDucker with | some r => r.2 | none => 0)
  let duck := if target = dyn.duck.b then dyn.duck else rampTo dyn.duck target (strokes * sz)
  let rec' := match d with | some x => some (x.attack, x.release) | none => dyn.lastDucker
  { s with drv := { s.drv with dyns := tset s.drv.dyns bus { dyn with duck := duck, lastDucker := rec' } } }

/-- The engine's Recovery work: levels, gates and ducks (R549, R554 to R557). -/
def drvRecovery (s : State) : State :=
  if !s.drv.running then s else
  let sz := s.strokeSize
  let ms := match s.drv.hist with | r :: _ => r.ms | [] => []
  let s1 := s.activeBank.buses.foldl (fun s e => busRecovery (levelK s.rateCode s.s16) s.coreRate sz ms s e) s
  let buses := (s1.activeBank.buses.map Prod.fst)
  buses.foldl (duckRecovery sz) s1

/-! ## Start of the engine and swap of the banks (R550, R559) -/

/-- The sinks that a feed gives strokes, with silence in each (R28). -/
def State.silentSinks (s : State) : Table Stroke := tmap s.drv.sinks fun _ => silentStroke s.strokeGroups

/-- The engine starts computing: detectors closed at −160 dB, no last talker, ramps at their targets, ducks at unity
(R550). -/
def drvStart (s : State) : State :=
  let settleBank := fun (b : Bank) => { b with
    members := tmap (b.members.filter fun e => termLive e.2) termSet
    listeners := tmap b.listeners fun l => { l with
      subs := tmap (l.subs.filter fun e => termLive e.2) termSet
      xpts := tmap (l.xpts.filter fun e => termLive e.2) termSet, out := rampSet l.out } }
  { s with drv := { s.drv with banks := s.drv.banks.map settleBank, dets := [], dyns := [], hist := [], src := [],
                               mixes := [], sinks := s.silentSinks, running := true } }

/-- The engine stops computing and drops its state (R550). -/
def drvStop (s : State) : State :=
  { s with drv := { s.drv with dets := [], dyns := [], hist := [], src := [], mixes := [],
                               sinks := s.silentSinks, lateMutes := [], running := false } }

/-- Swap the banks: terms take the new bank's gains, ramps end; detectors stay for members of both banks; COPY makes the
inactive bank identical (R559). -/
def drvSwap (copy : Bool) (s : State) : State :=
  let new := 1 - s.drv.active
  let old := bankSettings s.activeBank
  let nb := bankSettings (s.bank new)
  let s1 := (s.setBank new nb).setBank s.drv.active (if copy then nb else old)
  let dets := s.drv.dets.filter fun e => thas nb.members e.1
  let dyns := tmap (s.drv.dyns) fun d => d
  let dyns' := dyns.map fun e => (e.1, { e.2 with last := match e.2.last with
    | some src => if thas nb.members (memKey e.1 src) then some src else none
    | none => none })
  { s1 with drv := { s1.drv with active := new, dets := dets, dyns := dyns' } }

/-! ## The Drive phase (R544 to R549, R562 to R564) -/

/-- `id` is the odd ID of a pair in this stroke, which reads as silence (R19). -/
def State.sourceOdd (s : State) (id : Nat) : Bool :=
  decide (id % 2 = 1) && (match tget s.drv.src (id - 1) with | some st => st.odd.isSome | none => false)

/-- The stroke that a source presents: one that delivers nothing is absent, so it is silence with MUTE and DISC (R15, R19,
R22). -/
def State.sourceStroke (s : State) (id : Nat) : Stroke :=
  match tget s.drv.src id with
  | some st => st
  | none => if s.sourceOdd id then silentStroke s.strokeGroups else lostStroke s.strokeGroups

/-- The x values of a source in the stroke being mixed; a source that delivers nothing is zero (R543, R22). -/
def State.srcValues (s : State) (id : Nat) : List Int :=
  match tget s.drv.src id with
  | some st => decodeStroke st.groups
  | none => zeros s.strokeSize

/-- The products of one member in the stroke (R544), its terms after it, and the mean square of R554. -/
structure MemberRun where
  key : Nat
  prods : List Int
  ms : Nat
  term : Term
  gate : Ramp
  deriving DecidableEq, Repr

/-- Run one member through the stroke. A term whose memory entry stands bad acts as absent (R647). -/
def runMember (s : State) (e : Nat × Term) : MemberRun :=
  let n := s.strokeSize
  let det := s.detector e.1
  let xs := s.srcValues (e.1 % 4096)
  let (gm, g') := rampRun n e.2.gain
  let (gg, gate') := rampRun n det.gate
  let absent := s.memBad (1 + s.drv.active) e.1
  let ge := (gm.zip gg).map fun p => gainMul p.1 p.2
  let prods := if absent then zeros n else (xs.zip ge).map fun p => p.1 * p.2
  let xm := (xs.zip gm).map fun p => roundDiv (p.1 * p.2) 65536
  let ms := (xm.map fun x => (x * x).natAbs).sum / n
  { key := e.1, prods := prods, ms := if absent then 0 else ms, term := { e.2 with gain := g' }, gate := gate' }

/-- A term after its stroke; one that has ramped out is gone (R553). -/
def termAfter (t : Term) : Option Term := if t.leaving && !(ramping t.gain) then none else some t

/-- What a bus contributes to a listener: its total, the recorded products for self-removal, and whether it is
discontinuous. -/
structure BusTerm where
  total : List Int
  prods : Table (List Int)
  disc : Bool
  missed : Bool := false
  deriving DecidableEq, Repr

/-- The record of two strokes earlier (R562, R564). -/
def State.rec2 (s : State) : Option DrvRec := s.drv.hist[1]?

/-- A member that bus `bus` had in the stroke of a record carried DISC there (R547). -/
def DrvRec.busDisc (r : DrvRec) (bus : Nat) : Bool :=
  r.ms.any fun e => decide (e.1 / 4096 = bus) && has r.discs (e.1 % 4096)

/-- A cascade bus at stroke k + 2: the relay total of the recorded stroke as the Catch took it, or the position's own partial
(R562, R563). -/
def cascadeTerm (s : State) (bus : Nat) : BusTerm :=
  match s.rec2 with
  | none => { total := zeros s.strokeSize, prods := [], disc := true, missed := true }
  | some r =>
    let own := tgetD r.totals bus (zeros s.strokeSize)
    match tget s.obl.taken bus with
    | some t =>
      if t.stroke = r.stroke % 2 ^ 32 && decide (t.halves = (if s.s16 then 3 else 1)) then
        if t.mask.getLsbD s.obl.pos && (decide (s.role = 1) || s.obl.posValid) then
          { total := t.sums, prods := r.prods, disc := r.busDisc bus }
        else { total := addLists t.sums own, prods := r.prods, disc := true, missed := true }
      else { total := own, prods := r.prods, disc := true, missed := true }
    | none => { total := own, prods := r.prods, disc := true, missed := true }

/-- A local bus two strokes late, for a listener with EQUAL_LATENCY (R564). -/
def lateTerm (s : State) (bus : Nat) : BusTerm :=
  match s.rec2 with
  | none => { total := zeros s.strokeSize, prods := [], disc := true }
  | some r => { total := tgetD r.totals bus (zeros s.strokeSize), prods := r.prods,
                disc := r.busDisc bus }

/-- A local bus in the stroke being mixed. -/
def nowTerm (s : State) (now : DrvRec) (bus : Nat) : BusTerm :=
  { total := tgetD now.totals bus (zeros s.strokeSize), prods := now.prods,
    disc := (membersOf s.activeBank bus).any fun e => has now.discs e.1 }

/-- The bus term that listener `l` takes for `bus`. -/
def busTermFor (s : State) (now : DrvRec) (l : Listener) (bus : Nat) : BusTerm :=
  if ((tget s.activeBank.buses bus).getD {}).cascade then cascadeTerm s bus
  else if l.eqLat then lateTerm s bus
  else nowTerm s now bus

/-- Whether bus `b` is muted in every listener (R544). -/
def State.busMuted (s : State) (b : Nat) : Bool := s.bit (Reg.DRV_BUS_MUTE (b / 32)) (b % 32)

/-- Whether listener `n` is muted (R547). -/
def State.listenMuted (s : State) (n : Nat) : Bool := s.bit (Reg.DRV_LISTEN_MUTE (n / 32)) (n % 32)

/-- What mute register `a` holds for sample `i` of the stroke being mixed. A write that landed in the Drive phase acts from
the next sample that the engine processes; the sample that it has come to is not stated, and is free (R34, R671). -/
def State.muteWord (s : State) (a i : Nat) : Word :=
  match s.drv.lateMutes.zipIdx.find? fun e =>
      decide (e.1.1 = a) && decide (i < Config.freeNat (s.free + e.2) % (s.strokeSize + 1)) with
  | some e => e.1.2
  | none => s.reg a

/-- Bus `b` is muted in sample `i`. -/
def State.busMutedAt (s : State) (b i : Nat) : Bool := bitOf (s.muteWord (Reg.DRV_BUS_MUTE (b / 32)) i) (b % 32)

/-- Listener `n` is muted in sample `i`. -/
def State.listenMutedAt (s : State) (n i : Nat) : Bool := bitOf (s.muteWord (Reg.DRV_LISTEN_MUTE (n / 32)) i) (n % 32)

/-- A write to mute register `a` while the Drive phase runs is noted with what the register held (R34). -/
def noteLateMute (a : Nat) (old : Word) (s : State) : State :=
  if s.mck.grid && decide (s.mck.part = .caught) && s.drv.running then
    { s with drv := { s.drv with lateMutes := s.drv.lateMutes ++ [(a, old)] } }
  else s

/-- The contribution of one subscription to the listener sum, and the term after the stroke (R544). -/
def runSub (s : State) (now : DrvRec) (ducks : Table (List Int)) (l : Listener) (e : Nat × Term) :
    List Int × BusTerm × Term :=
  let n := s.strokeSize
  let bt := busTermFor s now l e.1
  let self := sumLists (zeros n :: (l.selfs.map fun src => tgetD bt.prods (memKey e.1 src) []))
  let (gs, g') := rampRun n e.2.gain
  let gd := tgetD ducks e.1 (List.replicate n 65536)
  let d := addLists bt.total (self.map fun v => -v)
  let out := (d.zip (gs.zip gd)).zipIdx.map fun p =>
    roundDiv (wrap48 p.1.1 * (if s.busMutedAt e.1 p.2 then 0 else gainMul p.1.2.1 p.1.2.2)) 65536
  (out, bt, { e.2 with gain := g' })

/-- The contribution of one direct crosspoint (R544, R564): values, DISC, and the term after the stroke. -/
def runXpt (s : State) (now : DrvRec) (l : Listener) (e : Nat × Term) : List Int × Bool × Term :=
  let n := s.strokeSize
  let (gc, g') := rampRun n e.2.gain
  let (xs, disc) := if l.eqLat then
      (match s.rec2 with
       | some r => (tgetD r.xs e.1 (zeros n), has r.discs e.1)
       | none => (zeros n, true))
    else (s.srcValues e.1, has now.discs e.1)
  ((xs.zip gc).map fun p => p.1 * p.2, disc, { e.2 with gain := g' })

/-- What a listener mix comes to in a stroke. -/
structure ListenRun where
  out : Stroke
  clips : Nat
  listener : Listener
  deriving DecidableEq, Repr

/-- Run one listener mix through the stroke: mutes act sample by sample, and MUTE stands on a group that is muted whole (R544,
R546, R547, R671). -/
def runListener (s : State) (now : DrvRec) (ducks : Table (List Int)) (num : Nat) (l : Listener) : ListenRun :=
  let n := s.strokeSize
  let subs := l.subs.map fun e => (e.1, runSub s now ducks l e)
  let xpts := l.xpts.map fun e => (e.1, runXpt s now l e)
  let sum := sumLists (zeros n :: ((subs.map fun e => e.2.1) ++ (xpts.map fun e => e.2.1)))
  let (go, out') := rampRun n l.out
  let raw := (sum.zip go).map fun p => roundDiv (wrap48 p.1 * p.2) (2 ^ 32)
  let muted := (List.range n).map fun i => s.listenMutedAt num i || (l.subs = [] && l.xpts = [])
  let ys := (raw.zip muted).map fun p => if p.2 then 0 else sat24 p.1
  let disc := subs.any (fun e => e.2.2.1.disc) || xpts.any (fun e => e.2.2.1)
    || (l.eqLat && s.rec2.isNone)
  let enc := (eights (n / 8) ys).zipIdx.map fun g =>
    (g.1, { encode g.1 with mute := ((muted.drop (8 * g.2)).take 8).all id, disc := disc })
  { out := { groups := enc.map Prod.snd,
             odd := if l.out24 then some (enc.map fun p => oddGroup p.1 p.2) else none },
    clips := ((raw.zip muted).filter fun p => !p.2 && decide (sat24 p.1 ≠ p.1)).length,
    listener := { l with
      subs := (subs.filterMap fun e => (termAfter e.2.2.2).map fun t => (e.1, t))
      xpts := (xpts.filterMap fun e => (termAfter e.2.2.2).map fun t => (e.1, t))
      out := out' } }

/-- Count the clips of a listener and set its pending bit (R546, R578). -/
def countClips (s : State) (e : Nat × ListenRun) : State :=
  if e.2.clips = 0 then s else
  let clips := tset s.drv.clips e.1 (satNat 0xFFFFFFFF (tgetD s.drv.clips e.1 0 + e.2.clips))
  let s1 := { s with drv := { s.drv with clips := clips } }
  let a := Reg.DRV_CLIP_PEND (e.1 / 32)
  if s1.bit a (e.1 % 32) then s1 else (s1.flag a (e.1 % 32)).flag Reg.DRV_EVENT 1

/-- The sources in use by members and crosspoints of a bank (R549). -/
def bankSources (b : Bank) : List Nat :=
  (b.members.map fun e => e.1 % 4096) ++ (b.listeners.flatMap fun e => e.2.xpts.map Prod.fst)
    ++ (b.feeds.filterMap fun e => if e.2 / 2 ^ 14 = 2 then some (e.2 % 4096) else none)

/-- Every source in use in either bank (R549). -/
def State.sourcesInUse (s : State) : List Nat := (s.drv.banks.flatMap bankSources).dedup

/-- The engine's Drive phase: bus totals, then listener mixes (R549). -/
def drvPhase (s : State) : State :=
  if !s.drv.running then s else
  let n := s.strokeSize
  let b := s.activeBank
  let runs := b.members.map fun e => runMember s e
  let totals : Table (List Int) := b.buses.map fun e =>
    (e.1, (sumLists (zeros n :: ((runs.filter fun r => decide (r.key / 4096 = e.1)).map MemberRun.prods))).map wrap48)
  let selfs := (b.listeners.flatMap fun e => e.2.selfs).dedup
  let now : DrvRec := {
    stroke := s.mck.stroke,
    totals := totals,
    prods := (runs.filter fun r => has selfs (r.key % 4096)).map fun r => (r.key, r.prods),
    xs := (bankSources b).dedup.map fun id => (id, s.srcValues id),
    discs := (bankSources b).dedup.filter fun id => strokeDisc (s.sourceStroke id),
    ms := runs.map fun r => (r.key, r.ms) }
  let ducksRun := s.drv.dyns.map fun e => (e.1, rampRun n e.2.duck)
  let ducks : Table (List Int) := ducksRun.map fun e => (e.1, e.2.1)
  let lists := b.listeners.map fun e => (e.1, runListener s now ducks e.1 e.2)
  let kept := runs.filterMap fun r => (termAfter r.term).map fun t => (r.key, t)
  let gone := (runs.filter fun r => (termAfter r.term).isNone).map MemberRun.key
  let dets := (runs.filter fun r => (termAfter r.term).isSome).foldl
    (fun t r => tset t r.key { s.detector r.key with gate := r.gate }) (s.drv.dets.filter fun e => !(has gone e.1))
  let dyns := s.drv.dyns.map fun e => (e.1, { e.2 with
    duck := (rampRun n e.2.duck).2
    last := match e.2.last with
      | some src => if has gone (memKey e.1 src) then none else some src
      | none => none })
  let b' := { b with members := kept, listeners := lists.map fun e => (e.1, e.2.listener) }
  let s1 := s.setBank s.drv.active b'
  let s2 := { s1 with drv := { s1.drv with dets := dets, dyns := dyns, hist := (now :: s1.drv.hist).take 2,
                                           mixes := lists.map fun e => (e.1, e.2.out), lateMutes := [] },
                      free := s1.free + s1.drv.lateMutes.length }
  let s3 := lists.foldl countClips s2
  let missed := b.buses.any fun e => e.2.cascade && (cascadeTerm s e.1).missed
  if missed then (s3.bump Reg.DRV_CASC_MISS).flag Reg.DRV_EVENT 2 else s3

/-! ## Checks of the commands (R567 to R576) -/

/-- The first word of those flagged, by number. -/
def firstBad : List (Nat × Bool) → Option Nat
  | [] => none
  | (n, b) :: t => if b then some n else firstBad t

/-- Parameter word `i`, numbered from 1. -/
def pw (p : List Word) (i : Nat) : Word := p.getD (i - 1) 0

/-- An item appears before position `i` of a list. -/
def seenBefore (l : List Nat) (i : Nat) : Bool := has (l.take i) (l.getD i 0)

/-- Refuse a write of the active bank's shape (R560): STALE_WRITE, with its error flag. -/
def drvStale (s : State) : State × Res := (s.flag Reg.DRV_ERR 0, .fail .staleWrite 1)

/-- The BANK bit of a command's expert form. -/
def bankBit (x : Bool) (w : Word) (i : Nat) : Bool := x && bitOf w i

/-- `BUS_DEFINE`, checks of the packet alone (R568). -/
def badBusDefine (x : Bool) (p : List Word) : Option Nat :=
  if p.length ≠ 1 then some 0
  else if fieldOf (pw p 1) 31 12 ≠ 0 || (!x && bitOf (pw p 1) 11) then some 1 else none

/-- A bank without bus `bus`: its memberships, the subscriptions to it and the duck relations that name it go too
(R568). -/
def dropBus (b : Bank) (bus : Nat) : Bank :=
  { b with
    buses := terase b.buses bus
    members := b.members.filter fun e => decide (e.1 / 4096 ≠ bus)
    listeners := tmap b.listeners fun l => { l with subs := terase l.subs bus }
    ducks := (tmap (terase b.ducks bus) fun d => { d with targets := d.targets.filter fun t => decide (t ≠ bus) }).filter
      fun e => decide (e.2.targets ≠ []) }

/-- Forget the detectors and the last talker of a bus or member that left the active bank (R555). -/
def State.forget (s : State) (active : Bool) (p : Nat → Bool) (bus : Nat) (whole : Bool) : State :=
  if !active then s else
  let dyns := if whole then terase s.drv.dyns bus else tmod s.drv.dyns bus fun d => { d with last := match d.last with
    | some src => if p (memKey bus src) then none else some src
    | none => none }
  { s with drv := { s.drv with dets := s.drv.dets.filter (fun e => !(p e.1)), dyns := dyns } }

/-- `BUS_DEFINE` at its commit point (R568). -/
def commitBusDefine (x : Bool) (p : List Word) (s : State) : State × Res :=
  let w := pw p 1
  let bus := fieldOf w 8 0
  let inact := bankBit x w 11
  let i := s.bankIx inact
  let b := s.bank i
  let old := tget b.buses bus
  if !(bitOf w 9) then
    let b' := dropBus b bus
    let (s1, g) := s.writeBank i b'
    (s1.forget (!inact) (fun k => decide (k / 4096 = bus)) bus true, .ok [w32 b'.buses.length] g)
  else if bitOf w 10 && decide (s.role = 0) then (s, .fail .badParam 1)
  else if !inact && (match old with | some o => decide (o.cascade ≠ bitOf w 10) | none => false) then drvStale s
  else
    let nb : Bus := match old with | some o => { o with cascade := bitOf w 10 } | none => { cascade := bitOf w 10 }
    let b' := { b with buses := tset b.buses bus nb }
    let (s1, g) := s.writeBank i b'
    (s1, .ok [w32 b'.buses.length] g)

/-- `MEMBER_SET`, checks of the packet alone (R569). A COUNT out of its range gives no PCOUNT to test, so word 1 is named
(DEDUCED). -/
def badMemberSet (x : Bool) (p : List Word) : Option Nat :=
  let w := pw p 1
  let n := fieldOf w 24 19
  let srcs := (p.drop 1).map fun v => fieldOf v 11 0
  if p = [] || (decide (1 ≤ n && n ≤ 62) && decide (p.length ≠ 1 + n)) then some 0
  else firstBad ((1, decide (fieldOf w 31 25 ≠ 0) || (!x && bitOf w 10) || decide (n = 0) || decide (62 < n))
    :: (List.range n).map fun i => (i + 2, decide (fieldOf (pw p (i + 2)) 31 30 ≠ 0) || seenBefore srcs i))

/-- The listener sums and self lists of a bank are within R565. -/
def selfFits (b : Bank) : Bool := b.listeners.all fun e => decide (selfTerms b e.2 ≤ 16)

/-- Apply a list of writes to a bank one by one until one breaks a limit: the bank, or the index of the first write
past the limit. -/
def applyUntil {α : Type} (fits : Bank → Bool) (f : Bank → α → Bank) : Nat → List α → Bank → Bank × Option Nat
  | _, [], b => (b, none)
  | i, a :: as, b =>
    let b' := f b a
    if fits b' then applyUntil fits f (i + 1) as b' else (b, some i)

/-- `MEMBER_SET` at its commit point (R569). -/
def commitMemberSet (x : Bool) (p : List Word) (s : State) : State × Res :=
  let w := pw p 1
  let bus := fieldOf w 8 0
  let inact := bankBit x w 10
  let i := s.bankIx inact
  let b := s.bank i
  let ramp := fieldOf w 18 11
  let items := (p.drop 1).map fun v => (memKey bus (fieldOf v 11 0), sgn 18 (fieldOf v 29 12))
  let finishUp := fun (s1 : State) (b' : Bank) (g : Bool) =>
    (items.foldl (fun s e => s.memRewritten (1 + i) fun k => decide (k = e.1)) s1, Res.ok [w32 b'.members.length] g)
  if !(thas b.buses bus) then (s, .fail .badParam 1)
  else if bitOf w 9 then
    match firstBad ((List.range items.length).map fun j =>
        (j + 2, !(hasTerm b.members (items.getD j (0, 0)).1))) with
    | some n => (s, .fail .badParam n)
    | none =>
      let b' := items.foldl (fun b e => { b with members := dropTerm (!inact) s.strokeSize ramp b.members e.1 }) b
      let (s1, g) := s.writeBank i b'
      let s2 := s1.forget (!inact) (fun k => decide (k / 4096 = bus) && !(thas b'.members k)) bus false
      finishUp s2 b' g
  else
    match applyUntil (fun b => decide (b.members.length ≤ s.memberLimit) && selfFits b)
        (fun b e => { b with members := setTerm (!inact) s.strokeSize ramp b.members e.1 e.2 }) 0 items b with
    | (_, some j) => (s, .fail .noResource (j + 2))
    | (b', none) =>
      let (s1, g) := s.writeBank i b'
      finishUp s1 b' g

/-- `LISTEN_SET`, checks of the packet alone (R570). -/
def badListenSet (x : Bool) (p : List Word) : Option Nat :=
  let w := pw p 1
  let nsub := fieldOf w 20 16
  let nself := fieldOf w 25 21
  let halves := (nself + 1) / 2
  let subs := (List.range nsub).map fun i => fieldOf (pw p (3 + i)) 8 0
  let selfs := (List.range nself).map fun j =>
    let v := pw p (3 + nsub + j / 2)
    if j % 2 = 0 then fieldOf v 11 0 else fieldOf v 27 16
  if p.length < 2 || p.length ≠ 2 + nsub + halves then some 0
  else firstBad ([(1, bitOf w 15 || decide (fieldOf w 31 26 ≠ 0) || (!x && bitOf w 14) || decide (16 < nsub)
      || decide (16 < nself) || (!(bitOf w 11) && (decide (nsub ≠ 0) || decide (nself ≠ 0)))),
      (2, decide (fieldOf (pw p 2) 31 8 ≠ 0))]
    ++ ((List.range nsub).map fun i => (3 + i, decide (fieldOf (pw p (3 + i)) 31 27 ≠ 0) || seenBefore subs i))
    ++ ((List.range halves).map fun h =>
      let v := pw p (3 + nsub + h)
      (3 + nsub + h, decide (fieldOf v 15 12 ≠ 0) || decide (fieldOf v 31 28 ≠ 0)
        || (decide (nself ≤ 2 * h + 1) && decide (fieldOf v 27 16 ≠ 0))
        || seenBefore selfs (2 * h) || (decide (2 * h + 1 < nself) && seenBefore selfs (2 * h + 1)))))

/-- `LISTEN_SET` at its commit point (R570). -/
def commitListenSet (x : Bool) (p : List Word) (s : State) : State × Res :=
  let w := pw p 1
  let num := fieldOf w 10 0
  let inact := bankBit x w 14
  let act := !inact
  let i := s.bankIx inact
  let b := s.bank i
  let nsub := fieldOf w 20 16
  let nself := fieldOf w 25 21
  let ramp := fieldOf (pw p 2) 7 0
  let subs := (List.range nsub).map fun j => (fieldOf (pw p (3 + j)) 8 0, sgn 18 (fieldOf (pw p (3 + j)) 26 9))
  let selfs := (List.range nself).map fun j =>
    let v := pw p (3 + nsub + j / 2)
    if j % 2 = 0 then fieldOf v 11 0 else fieldOf v 27 16
  if s.listenerLimit ≤ num then (s, .fail .badParam 1)
  else if !(bitOf w 11) then
    let b' := { b with listeners := terase b.listeners num }
    let (s1, g) := s.writeBank i b'
    (s1, .ok [w32 (2 ^ 5 * b'.listeners.length)] g)
  else match firstBad ((List.range nsub).map fun j => (3 + j, !(thas b.buses (subs.getD j (0, 0)).1))) with
  | some n => (s, .fail .badParam n)
  | none =>
    let old := tget b.listeners num
    if act && (match old with | some o => decide (o.eqLat ≠ bitOf w 12) | none => false) then drvStale s else
    let base : Listener := old.getD {}
    let dropped := (base.subs.map Prod.fst).filter fun k => !(subs.any fun e => decide (e.1 = k))
    let t1 := dropped.foldl (fun t k => match tget t k with
      | some y => if y.leaving then t else dropTerm act s.strokeSize ramp t k
      | none => t) base.subs
    let t2 := subs.foldl (fun t e => setTerm act s.strokeSize ramp t e.1 e.2) t1
    let l : Listener := { base with eqLat := bitOf w 12, out24 := bitOf w 13, subs := t2, selfs := selfs }
    let b' := { b with listeners := tset b.listeners num l }
    if 16 < t2.length then (s, .fail .noResource 3)
    else if 16 < selfTerms b' l then (s, .fail .noResource (3 + nsub))
    else
      let (s1, g) := s.writeBank i b'
      (s1, .ok [w32 (selfTerms b' l + 2 ^ 5 * b'.listeners.length)] g)

/-- `XPOINT_SET`, checks of the packet alone (R571). -/
def badXpointSet (x : Bool) (p : List Word) : Option Nat :=
  let w := pw p 1
  if !(bitOf w 0) then
    let n := fieldOf w 27 22
    let srcs := (p.drop 1).map fun v => fieldOf v 11 0
    if p = [] || p.length ≠ 1 + n then some 0
    else firstBad ((1, decide (fieldOf w 31 28 ≠ 0) || (!x && bitOf w 2) || decide (n = 0) || decide (16 < n))
      :: (List.range n).map fun i => (i + 2, decide (fieldOf (pw p (i + 2)) 31 30 ≠ 0) || seenBefore srcs i))
  else
    let n := fieldOf w 13 8
    let sinks := (p.drop 1).map fun v => fieldOf v 11 0
    if p = [] || p.length ≠ 1 + n then some 0
    else firstBad ((1, bitOf w 1 || decide (fieldOf w 7 3 ≠ 0) || decide (fieldOf w 31 14 ≠ 0) || (!x && bitOf w 2)
        || decide (n = 0) || decide (62 < n))
      :: (List.range n).map fun i =>
        let v := pw p (i + 2)
        (i + 2, decide (fieldOf v 31 28 ≠ 0) || decide (fieldOf v 25 24 ≠ 0)
          || (decide (fieldOf v 27 26 = 1) && decide (0x7FF < fieldOf v 23 12)) || seenBefore sinks i))

/-- The feed word stored for a word written: the reserved KIND is written as no feed (R21). -/
def storedFeed (f : Nat) : Nat := if f / 2 ^ 14 = 3 || f / 2 ^ 14 = 0 then 0 else f

/-- Write a sink's feed into a bank; no feed is not listed. -/
def setFeed (b : Bank) (sink feed : Nat) : Bank := { b with feeds := tput b.feeds sink feed 0 }

/-- `XPOINT_SET` at its commit point (R571). -/
def commitXpointSet (x : Bool) (p : List Word) (s : State) : State × Res :=
  let w := pw p 1
  let inact := bankBit x w 2
  let i := s.bankIx inact
  let b := s.bank i
  if bitOf w 0 then
    let items := (p.drop 1).map fun v => (fieldOf v 11 0, storedFeed (fieldOf v 27 12))
    let far := (p.drop 1).map fun v => decide (fieldOf v 27 26 = 1) && decide (s.listenerLimit ≤ fieldOf v 23 12)
    if far.any id then (s, .fail .badParam (2 + far.idxOf true))
    else if inact then
      let b' := items.foldl (fun b e => setFeed b e.1 e.2) b
      let (s1, g) := s.writeBank i b'
      (s1, .ok [0] g)
    else
      let wait := s.boundaryWait
      let g := items.any fun e => decide (tgetD b.feeds e.1 0 ≠ e.2)
      ({ s with drv := { s.drv with feedsNext := s.drv.feedsNext ++ items.map fun e => (wait, e.1, e.2) } },
        .later .boundary [] g)
  else
    let num := fieldOf w 13 3
    let ramp := fieldOf w 21 14
    let items := (p.drop 1).map fun v => (fieldOf v 11 0, sgn 18 (fieldOf v 29 12))
    match tget b.listeners num with
    | none => (s, .fail .badParam 1)
    | some l =>
      let put := fun (l' : Listener) =>
        let b' := { b with listeners := tset b.listeners num l' }
        let (s1, g) := s.writeBank i b'
        (s1, Res.ok [w32 (tcount l'.xpts termLive)] g)
      if bitOf w 1 then
        match firstBad ((List.range items.length).map fun j =>
            (j + 2, !(hasTerm l.xpts (items.getD j (0, 0)).1))) with
        | some n => (s, .fail .badParam n)
        | none => put { l with xpts := items.foldl (fun t e => dropTerm (!inact) s.strokeSize ramp t e.1) l.xpts }
      else
        let t := items.foldl (fun t e => setTerm (!inact) s.strokeSize ramp t e.1 e.2) l.xpts
        if 16 < t.length then (s, .fail .noResource 2) else put { l with xpts := t }

/-- A term named by `GAIN_SET`: KIND, OWNER and ITEM (R572). -/
def gainItem (v : Word) : Nat × Nat × Nat := (fieldOf v 1 0, fieldOf v 14 4, fieldOf v 27 16)

/-- `GAIN_SET`, checks of the packet alone (R572). -/
def badGainSet (x : Bool) (p : List Word) : Option Nat :=
  let w := pw p 1
  let n := fieldOf w 12 8
  let items := (List.range n).map fun i => (pw p (2 * i + 2)).toNat
  if p = [] || p.length ≠ 1 + 2 * n then some 0
  else firstBad ((1, decide (fieldOf w 31 14 ≠ 0) || (!x && bitOf w 13) || decide (n = 0))
    :: (List.range n).flatMap fun i =>
      let v := pw p (2 * i + 2)
      let (k, o, it) := gainItem v
      [(2 * i + 2, decide (fieldOf v 3 2 ≠ 0) || bitOf v 15 || decide (fieldOf v 31 28 ≠ 0)
          || (decide (k = 0) && decide (0x1FF < o)) || (decide (k = 1) && decide (0x1FF < it))
          || (decide (k = 3) && decide (it ≠ 0)) || seenBefore items i),
       (2 * i + 3, decide (fieldOf (pw p (2 * i + 3)) 31 18 ≠ 0))])

/-- Whether the term of a `GAIN_SET` item exists in a bank (R572). -/
def gainTermExists (b : Bank) (e : Nat × Nat × Nat) : Bool :=
  let (k, o, it) := e
  if k = 0 then hasTerm b.members (memKey o it)
  else match tget b.listeners o with
    | none => false
    | some l => if k = 1 then hasTerm l.subs it else if k = 2 then hasTerm l.xpts it else true

/-- Give the term of a `GAIN_SET` item its new gain (R572). -/
def setGainTerm (act : Bool) (len : Nat) (b : Bank) (e : Nat × Nat × Nat) (g : Int) : Bank :=
  let (k, o, it) := e
  let ramp := fun (r : Ramp) => if act then rampTo r g len else rampAt g
  let term := fun (t : Term) => { t with gain := ramp t.gain }
  if k = 0 then { b with members := tmod b.members (memKey o it) term }
  else { b with listeners := tmod b.listeners o fun l =>
    if k = 1 then { l with subs := tmod l.subs it term }
    else if k = 2 then { l with xpts := tmod l.xpts it term }
    else { l with out := ramp l.out } }

/-- `GAIN_SET` at its commit point (R572). -/
def commitGainSet (x : Bool) (p : List Word) (s : State) : State × Res :=
  let w := pw p 1
  let n := fieldOf w 12 8
  let inact := bankBit x w 13
  let i := s.bankIx inact
  let b := s.bank i
  let len := fieldOf w 7 0 * s.strokeSize
  match firstBad ((List.range n).map fun j => (2 * j + 2, !(gainTermExists b (gainItem (pw p (2 * j + 2)))))) with
  | some k => (s, .fail .badParam k)
  | none =>
    let b' := (List.range n).foldl (fun b j => setGainTerm (!inact) len b (gainItem (pw p (2 * j + 2)))
      (sgn 18 (fieldOf (pw p (2 * j + 3)) 17 0))) b
    let (s1, g) := s.writeBank i b'
    (s1, .ok [] g)

/-- A depth or attenuation in dB that a command may carry (R573, R574). -/
def dbOk (d : Nat) : Bool := d ≤ 96 || d = 255

/-- `GATE_CONFIG`, checks of the packet alone (R573). -/
def badGateConfig (x : Bool) (p : List Word) : Option Nat :=
  let w := pw p 1
  let v := pw p 2
  let th := sgn 16 (fieldOf v 15 0)
  if p.length ≠ (if x then 3 else 2) then some 0
  else firstBad [(1, decide (fieldOf w 31 18 ≠ 0) || (!x && bitOf w 12) || decide (16 < fieldOf w 17 13)),
    (2, decide (th < -1280) || decide (0 < th) || !(dbOk (fieldOf v 31 24))),
    (3, x && decide (fieldOf (pw p 3) 31 24 ≠ 0))]

/-- `GATE_CONFIG` at its commit point (R573). -/
def commitGateConfig (x : Bool) (p : List Word) (s : State) : State × Res :=
  let w := pw p 1
  let v := pw p 2
  let bus := fieldOf w 8 0
  let i := s.bankIx (bankBit x w 12)
  let b := s.bank i
  match tget b.buses bus with
  | none => (s, .fail .badParam 1)
  | some o =>
    let nb : Bus := { o with
      gating := bitOf w 9, share := bitOf w 10, lastHold := bitOf w 11, nomMax := fieldOf w 17 13
      openTh := sgn 16 (fieldOf v 15 0), hyst := fieldOf v 23 16, atten := fieldOf v 31 24
      holdMs := if x then fieldOf (pw p 3) 15 0 else 500
      gateRamp := if x then fieldOf (pw p 3) 23 16 else 60 }
    let (s1, g) := s.writeBank i { b with buses := tset b.buses bus nb }
    (s1, .ok [] g)

/-- The targets of a `DUCK_SET`, two to a word (R574). -/
def duckTargets (p : List Word) (n : Nat) : List Nat :=
  (List.range n).map fun j => if j % 2 = 0 then fieldOf (pw p (3 + j / 2)) 8 0 else fieldOf (pw p (3 + j / 2)) 24 16

/-- `DUCK_SET`, checks of the packet alone (R574). -/
def badDuckSet (x : Bool) (p : List Word) : Option Nat :=
  let w := pw p 1
  let n := fieldOf w 14 10
  let ts := duckTargets p n
  let ducker := fieldOf w 8 0
  if p.length < 2 || p.length ≠ 2 + (n + 1) / 2 then some 0
  else firstBad ([(1, bitOf w 31 || (!x && bitOf w 9) || decide (16 < n)),
      (2, decide (fieldOf (pw p 2) 31 8 ≠ 0) || !(dbOk (fieldOf (pw p 2) 7 0)))]
    ++ (List.range ((n + 1) / 2)).map fun h =>
      let v := pw p (3 + h)
      (3 + h, decide (fieldOf v 15 9 ≠ 0) || decide (fieldOf v 31 25 ≠ 0)
        || (decide (n ≤ 2 * h + 1) && decide (fieldOf v 24 16 ≠ 0))
        || decide (ts.getD (2 * h) 0 = ducker) || (decide (2 * h + 1 < n) && decide (ts.getD (2 * h + 1) 0 = ducker))
        || seenBefore ts (2 * h) || (decide (2 * h + 1 < n) && seenBefore ts (2 * h + 1))))

/-- `DUCK_SET` at its commit point (R574). -/
def commitDuckSet (x : Bool) (p : List Word) (s : State) : State × Res :=
  let w := pw p 1
  let n := fieldOf w 14 10
  let ts := duckTargets p n
  let bus := fieldOf w 8 0
  let i := s.bankIx (bankBit x w 9)
  let b := s.bank i
  match firstBad ((1, !(thas b.buses bus)) :: (List.range n).map fun j => (3 + j / 2, !(thas b.buses (ts.getD j 0)))) with
  | some k => (s, .fail .badParam k)
  | none =>
    let ducks := if n = 0 then terase b.ducks bus
      else tset b.ducks bus { targets := ts, attack := fieldOf w 22 15, release := fieldOf w 30 23,
                              depth := fieldOf (pw p 2) 7 0 }
    let (s1, g) := s.writeBank i { b with ducks := ducks }
    (s1, .ok [] g)

/-- `DRV_BANK_SWAP`, checks of the packet alone (R575). -/
def badDrvBankSwap (x : Bool) (p : List Word) : Option Nat :=
  let w := pw p 1
  if p.length ≠ (if x then 2 else 1) then some 0
  else if x then firstBad [(1, decide (fieldOf w 31 2 ≠ 0)), (2, !(bitOf w 1) && decide (pw p 2 ≠ 0))]
  else if w ≠ 0 then some 1 else none

/-- The signed distance from stroke number `k` to stroke number `n`, both modulo 2^32. -/
def strokeDist (n k : Nat) : Int := sgn 32 (2 ^ 32 + n - k % 2 ^ 32)

/-- Change the list of swaps that wait. -/
def State.setSwaps (s : State) (f : List SwapReq → List SwapReq) : State :=
  { s with drv := { s.drv with swaps := f s.drv.swaps } }

/-- The engine accepts a swap. -/
def State.addSwap (s : State) (q : SwapReq) : State :=
  { s with drv := { s.drv with swaps := s.drv.swaps ++ [q], swapSeq := s.drv.swapSeq + 1 } }

/-- `DRV_BANK_SWAP` at its commit point (R575): LATE where its boundary can no longer be met. -/
def commitDrvBankSwap (x : Bool) (p : List Word) (s : State) : State × Res :=
  let w := pw p 1
  let copy := if x then bitOf w 0 else true
  if x && bitOf w 1 then
    let n := (pw p 2).toNat
    let d := strokeDist n s.mck.stroke
    if s.mck.grid && (decide (d ≤ 0) || (decide (d = 1) && decide (s.boundaryWait = 2))) then (s, .fail .late)
    else (s.addSwap { id := s.drv.swapSeq, copy := copy, at_ := some n, wait := 0, unsure := !s.mck.grid },
      .later (.driveSwap s.drv.swapSeq) [] s.mck.grid)
  else (s.addSwap { id := s.drv.swapSeq, copy := copy, wait := s.boundaryWait },
    .later (.driveSwap s.drv.swapSeq) [] true)

/-! ## DRV_QUERY (R576) -/

/-- `DRV_QUERY`, checks of the packet alone (R576). -/
def badDrvQuery (x : Bool) (p : List Word) : Option Nat :=
  let w := pw p 1
  let what := fieldOf w 2 0
  if !x then (if p.length ≠ 1 then some 0 else if w ≠ 0 then some 1 else none)
  else if p.length ≠ 1 && p.length ≠ 2 then some 0
  else if p.length = 2 && !(what = 1 || what = 4) then some 0
  else firstBad [(1, decide (4 < what) || decide (fieldOf w 15 5 ≠ 0) || decide (fieldOf w 31 28 ≠ 0)
      || (bitOf w 4 && decide (what ≠ 2))
      || ((decide (what = 1) || decide (what = 4)) && decide (fieldOf w 27 25 ≠ 0))
      || (decide (what = 2) && bitOf w 27)),
    (2, decide (p.length = 2) && decide (fieldOf (pw p 2) 31 9 ≠ 0))]

/-- A gain as it stands in a query word. -/
def gainBits (g : Int) : Nat := unsgn 18 g

/-- The list padded with zero words, or cut, to `n` words. -/
def padWords (n : Nat) (l : List Word) : List Word := (l ++ List.replicate n 0).take n

/-- Two 16-bit numbers to a word. -/
def pairs16 : Nat → List Nat → List Word
  | 0, _ => []
  | n + 1, l => w32 (l.getD 0 0 + 2 ^ 16 * l.getD 1 0) :: pairs16 n (l.drop 2)

/-- The body of `DRV_QUERY` WHAT = 1 (R576). -/
def queryBus (s : State) (i bus page : Nat) : List Word :=
  let b := s.bank i
  match tget b.buses bus with
  | none => List.replicate 60 0
  | some d =>
    let ms := membersOf b bus
    let duckCount := match tget b.ducks bus with | some k => k.targets.length | none => 0
    let dyn := s.busDyn bus
    [w32 (1 + 2 * b2n d.cascade + 4 * b2n d.gating + 8 * b2n d.share + 16 * b2n d.lastHold + 2 ^ 5 * d.nomMax
        + 2 ^ 10 * ms.length),
     w32 (unsgn 16 d.openTh + 2 ^ 16 * d.hyst + 2 ^ 24 * d.atten),
     w32 (d.holdMs + 2 ^ 16 * d.gateRamp + 2 ^ 24 * duckCount),
     w32 (gainBits dyn.duck.cur), w32 dyn.nLocal]
    ++ padWords 55 ((ms.drop (55 * page)).take 55 |>.map fun e =>
      w32 (e.1 + 2 ^ 12 * gainBits e.2.gain.b + 2 ^ 30 * b2n (s.detector (memKey bus e.1)).isOpen
        + 2 ^ 31 * b2n (ramping e.2.gain)))

/-- The body of `DRV_QUERY` WHAT = 2 (R576). -/
def queryListener (s : State) (i num : Nat) : List Word :=
  let b := s.bank i
  match tget b.listeners num with
  | none => List.replicate 43 0
  | some l =>
    [w32 (1 + 2 * b2n l.eqLat + 4 * b2n l.out24 + 8 * b2n (s.listenMuted num) + 2 ^ 4 * l.subs.length
        + 2 ^ 9 * l.selfs.length + 2 ^ 14 * tcount l.xpts termLive + 2 ^ 19 * selfTerms b l),
     w32 (gainBits l.out.b), w32 (tgetD s.drv.clips num 0)]
    ++ padWords 16 (l.subs.map fun e => w32 (e.1 + 2 ^ 9 * gainBits e.2.gain.b + 2 ^ 27 * b2n (ramping e.2.gain)))
    ++ padWords 16 (l.xpts.map fun e => w32 (e.1 + 2 ^ 12 * gainBits e.2.gain.b + 2 ^ 30 * b2n (ramping e.2.gain)))
    ++ pairs16 8 l.selfs

/-- The body of `DRV_QUERY` (R576). -/
def drvQueryBody (s : State) (what i index page : Nat) : List Word :=
  match what with
  | 0 => [s.drvStatus, countWord s.activeBank, countTermsWord s.activeBank, countWord (s.bank (1 - s.drv.active)),
          countTermsWord (s.bank (1 - s.drv.active)), s.reg Reg.DRV_SWAP_STROKE]
  | 1 => queryBus s i (index % 512) page
  | 2 => queryListener s i index
  | 3 => pairs16 31 ((List.range 62).map fun j =>
      if index + j < 4096 then tgetD (s.bank i).feeds (index + j) 0 else 0)
  | _ =>
    let ms := if thas (s.bank i).buses (index % 512) then membersOf (s.bank i) (index % 512) else []
    pairs16 60 ((List.range 120).map fun j => match ms[120 * page + j]? with
      | some e => unsgn 16 ((s.detector (memKey (index % 512) e.1)).lvl / 256)
      | none => 0x8000)

/-- `DRV_QUERY` at its commit point; CLEAR acts after the snapshot (R576). -/
def commitDrvQuery (x : Bool) (p : List Word) (s : State) : State × Res :=
  let w := pw p 1
  if !x then (s, .ok (drvQueryBody s 0 0 0 0)) else
  let index := fieldOf w 27 16
  if decide (fieldOf w 2 0 = 2) && decide (s.listenerLimit ≤ index) then (s, .fail .badParam 1) else
  let body := drvQueryBody s (fieldOf w 2 0) (s.bankIx (bitOf w 3)) index (fieldOf (pw p 2) 8 0)
  let s1 := if bitOf w 4 then { s with drv := { s.drv with clips := terase s.drv.clips index } } else s
  (s1, .ok body)

end Sys2Proof.Machine
end

