-- ==== Sys2Proof/Machine/NtuTime.lean ====
section
/-! DEFINITION. Steps of Network Time, and the Start List as a step, an arming or a return from WATCH evaluates it
(R352, R371, R372, R376 to R379). -/
namespace Sys2Proof.Machine

/-! ## The Start List under an evaluation (R378, R379) -/

/-- A lateness of `l` ns exceeds LATE_WIN (R378). -/
def State.beyondWin (s : State) (l : Int) : Bool :=
  decide ((s.regField Reg.NTU_SL_CFG 7 0 * s.strokeSize * 1000000000 : Nat) < l * s.coreRate)

/-- Lateness of an entry now, in ns (R378). -/
def State.lateness (s : State) (e : SlEntry) : Int := (s.tick64 : Int) - e.time

/-- Evaluate ARMED entry `i`: one whose TIME has passed is dropped, or fires at once, and one whose TIME lies in the future
waits (R378, R379). -/
def slEvaluateOne (s : State) (i : Nat) : State :=
  match tget s.ntu.list i with
  | none => s
  | some e =>
    let l := s.lateness e
    if e.state ≠ .armed then s
    else if l < 0 then
      { s with ntu := { s.ntu with list := tmod s.ntu.list i fun x => { x with isLate := false, due := false } } }
    else
    let late := s.beyondWin l
    let s1 := { s with ntu := { s.ntu with list := tmod s.ntu.list i fun x => { x with lateness := l, isLate := late, due := true } } }
    if late && e.lateDrop then s1.slDone i .dropped 0 else s1

/-- Evaluate the entries that `p` names. -/
def slEvaluate (p : Nat → Bool) (s : State) : State :=
  ((s.ntu.list.map Prod.fst).filter p).foldl slEvaluateOne s

/-- An entry that is HANDED to its pin becomes ARMED again (R379, R387). -/
def slWithdraw (x : SlEntry) : SlEntry :=
  if x.state = .handed && x.action = 2 then { x with state := .armed, due := false } else x

/-- After a step, and on return from WATCH: handed edges are withdrawn from their pins, and every ARMED entry is evaluated
(R113, R379). -/
def slReevaluate (s : State) : State :=
  slEvaluate (fun _ => true)
    { s with ntu := { s.ntu with list := tmap s.ntu.list slWithdraw,
                                 evtOut := s.ntu.evtOut.map fun p => { p with handed := [] } } }

/-! ## Steps (R352, R371) -/

/-- What a step leaves beside Network Time itself; `old` is Tick64 just before it (R371, R404). -/
def stepDone (old : Nat) (s : State) : State :=
  let new := s.tick64
  let size := satWord (clampI (-(2 ^ 31 - 1)) (2 ^ 31 - 1) ((new : Int) - old))
  let first := !s.ntu.valid
  let m := s.mck
  let held := if m.sel = some 0 || m.sel = some 1 || m.sel = some 4 then m.held + (new - old) else m.held
  let s1 := { s with mck := { m with phaseErr := m.phaseErr + (new - old), held := held }, ntu := { s.ntu with steps := satNat 65535 (s.ntu.steps + 1), epoch := (s.ntu.epoch + 1) % 16, valid := true } }
  let s2 := (((s1.setReg Reg.NTU_LAST_STEP_HI (w32 (new / 2 ^ 32))).setReg Reg.NTU_LAST_STEP_LO (w32 (new % 2 ^ 32))).setReg
    Reg.NTU_PRE_STEP_HI (w32 (old / 2 ^ 32))).setReg Reg.NTU_PRE_STEP_LO (w32 (old % 2 ^ 32))
  let s3 := (s2.setReg Reg.NTU_LAST_STEP_SIZE size).flag Reg.NTU_EVENT 1
  slReevaluate (if first then s3.flag Reg.NTU_EVENT 0 else s3)

/-- A step of `d` ns (R371). -/
def stepBy (d : Int) (s : State) : State := stepDone s.tick64 (s.moveNt (d * 2 ^ 40))

/-- A step to Tick64 `t` (R371, R384). -/
def stepTo (t : Nat) (s : State) : State :=
  stepDone s.tick64 { s with ntu := { s.ntu with nt40 := t % 2 ^ 64 * 2 ^ 40 } }

end Sys2Proof.Machine
end

