-- ==== Sys2Proof/Machine/Tdm.lean ====
section
/-! DEFINITION. The sixteen local TDM ports (R579 to R600). -/
namespace Sys2Proof.Machine

/-! ## Configuration (R579 to R586, R592) -/

/-- The configuration of a port, read from its registers (R597, R600). -/
structure TdmCfg where
  master : Bool
  fmt : Nat
  slots : Nat
  len : Nat
  width : Nat
  dither : Bool
  rx : Word
  tx : Word
  x24 : Word
  deriving DecidableEq, Repr

/-- A slot length or word width with its code (R597). -/
def tdmBits (code : Nat) : Nat :=
  match code with
  | 0 => 16 | 1 => 20 | 2 => 24 | _ => 32

/-- The configuration that the words of TDM_CFG, TDM_RX_MASK, TDM_TX_MASK and TDM_X24 give. -/
def tdmCfgOf (w rx tx x24 : Word) : TdmCfg :=
  { master := bitOf w 1, fmt := fieldOf w 3 2, slots := fieldOf w 8 4 + 1, len := tdmBits (fieldOf w 10 9),
    width := tdmBits (fieldOf w 12 11), dither := bitOf w 17, rx := rx, tx := tx, x24 := x24 }

/-- The configuration of port `n`. -/
def State.tdmCfg (s : State) (n : Nat) : TdmCfg :=
  tdmCfgOf (s.reg (Reg.TDM_CFG n)) (s.reg (Reg.TDM_RX_MASK n)) (s.reg (Reg.TDM_TX_MASK n)) (s.reg (Reg.TDM_X24 n))

/-- Slots 2j and 2j + 1 are an exact-24 pair (R584). -/
def TdmCfg.pair (c : TdmCfg) (j : Nat) : Bool := decide (j < 16) && bitOf c.x24 j

/-- The faults of R592 that depend on the configuration alone. -/
def tdmShapeBad (c : TdmCfg) : Bool :=
  decide (c.fmt = 3) || ((decide (c.fmt = 1) || decide (c.fmt = 2)) && decide (c.slots ≠ 2))
    || decide (c.len < c.width)
    || (List.range 16).any fun j => c.pair j && (!(c.width = 24 || c.width = 32) || decide (c.slots ≤ 2 * j + 1))

/-- The bit clock that the frames need, in Hz (R585, R586). -/
def tdmClock (rate : Nat) (c : TdmCfg) : Nat := c.slots * c.len * rate

/-- The faults of R592 that depend on the core rate: a DIV that is not whole, or a slave rate beyond 49.152 MHz. -/
def tdmRateBad (code : Nat) (c : TdmCfg) : Bool :=
  if c.master then decide (familyHz code % tdmClock (rateHz code) c ≠ 0) else decide (49152000 < tdmClock (rateHz code) c)

/-- DIV of R585; 0 for a slave. -/
def tdmDiv (code : Nat) (c : TdmCfg) : Nat := if c.master then familyHz code / tdmClock (rateHz code) c else 0

/-- The port with number `n`. -/
def State.tdmPort (s : State) (n : Nat) : TdmPort := s.tdm.getD n {}

/-- Change port `n`. -/
def State.onTdm (s : State) (n : Nat) (f : TdmPort → TdmPort) : State := { s with tdm := listMod s.tdm n f }

/-- The stop that port `n` has been given has come: the end of the frame that was in progress (R591, R595). -/
def State.tdmHalted (s : State) (n : Nat) : Bool :=
  match (s.tdmPort n).stopAt with
  | some t => decide (t ≤ s.ntu.course)
  | none => false

/-- STATE of TDM_PORT_STATUS (R600). -/
def State.tdmState (s : State) (n : Nat) : Nat :=
  let p := s.tdmPort n
  if p.live && s.tdmHalted n then (if p.ending then 0 else 3) else p.state

/-- A port counts as enabled from the commit of its enable until its disable takes effect (R591). -/
def State.tdmEnabled (s : State) (n : Nat) : Bool :=
  ((s.tdmPort n).live && !((s.tdmPort n).ending && s.tdmHalted n)) || decide ((s.tdmPort n).wants ≠ [])

/-- The enable that the last request leaves. -/
def State.tdmWanted (s : State) (n : Nat) : Bool :=
  match (s.tdmPort n).wants.getLast? with
  | some w => w.2
  | none => (s.tdmPort n).live && !(s.tdmPort n).ending

/-- The event of port `n` is pending (R599). -/
def State.tdmPending (s : State) (n : Nat) : Bool :=
  decide (s.reg (Reg.TDM_PORT_EVENT n) &&& s.reg Reg.TDM_PORT_EVENT_EN ≠ 0)

/-- Set event `i` of port `n` (R599). -/
def State.tdmFlag (s : State) (n i : Nat) : State :=
  s.withPend (fun s => s.tdmPending n) Reg.TDM_EVENT 0 fun s => s.flag (Reg.TDM_PORT_EVENT n) i

/-- TDM_PORT_STATUS: DIV is that of the port's configuration, enabled or not (R600). -/
def State.tdmStatus (s : State) (n : Nat) : Word := w32 (s.tdmState n + 2 ^ 8 * tdmDiv s.rateCode (s.tdmCfg n))

/-- LOCKED of TDM_STATUS: the port is running, and a master runs whenever it is enabled (R600). -/
def State.tdmRuns (s : State) (n : Nat) : Bool :=
  if (s.tdmCfg n).master then s.tdmEnabled n else decide (s.tdmState n = 2)

/-- TDM_STATUS (R600). -/
def State.tdmStatusAll (s : State) : Word :=
  w32 (bitsOfList ((List.range 16).filter s.tdmEnabled) + 2 ^ 16 * bitsOfList ((List.range 16).filter s.tdmRuns))

/-- TDM_PEND (R599). -/
def State.tdmPend (s : State) : Word := w32 (bitsOfList ((List.range 16).filter s.tdmPending))

/-! ## Enables, disables and restarts (R591 to R595) -/

/-- A port begins to work: a master runs, a slave seeks; its dither generator is seeded (R430, R591). -/
def tdmStart (c : TdmCfg) (n : Nat) (p : TdmPort) : TdmPort :=
  { p with live := true, state := if p.stopAt.isSome then 3 else if c.master then 2 else 1, lfsr := 1 + n,
           good := 0, bad := 0, lastEdge := none, cur := [], prev := [], capOk := false, prevOk := false }

/-- A port stops working and its balls return to the state of R51 (R591). -/
def tdmStop (p : TdmPort) : TdmPort :=
  { p with live := false, ending := false, state := 0, stopAt := none, holdClk := false, cur := [], prev := [], capOk := false,
           prevOk := false, sdo := [], frameOut := [] }

/-- A port stops for a restart at Course Time `stop`; `whole` says that the stroke in progress has then been captured whole.
One that is stopped for an earlier restart stays as it is (R595). -/
def tdmHalt (stop : Nat) (whole hold : Bool) (p : TdmPort) : TdmPort :=
  if p.stopAt.isSome then p else { p with stopAt := some stop, holdClk := hold, capOk := p.capOk && whole }

/-- The time of the present instant from the start of the stroke in progress, times the core rate, in ns × Hz. -/
def State.relEdge (s : State) : Int := ((s.ntu.course : Int) - s.mck.strokeAt) * s.coreRate

/-- The grid sample, from the start of the stroke in progress, of the first frame after the one in progress of port `n`. -/
def State.tdmNextIx (s : State) (n : Nat) : Int :=
  if (s.tdmCfg n).master then s.relEdge / 1000000000 + 1 else (s.tdmPort n).nextIx

/-- Course Time of the end of the frame in progress of port `n`; now where there is none (R591, R595). -/
def State.tdmEndAt (s : State) (n : Nat) : Nat :=
  if !s.mck.grid || !(s.tdmPort n).live then s.ntu.course
  else if (s.tdmCfg n).master then
    s.mck.strokeAt + ((s.tdmNextIx n).toNat * 1000000000 + s.coreRate - 1) / s.coreRate
  else match (s.tdmPort n).lastEdge with
    | some t => Nat.max s.ntu.course (t + 1000000000 / s.coreRate)
    | none => s.ntu.course

/-- Port `n` stops for a restart at the end of the frame in progress (R595). -/
def State.tdmHaltAt (s : State) (n : Nat) (hold : Bool) : State :=
  s.onTdm n (tdmHalt (s.tdmEndAt n) (decide ((s.strokeFrames : Int) ≤ s.tdmNextIx n)) hold)

/-- Ask for EN of port `n` to become `en`, from the boundary of R32 (R591). -/
def State.tdmWant (s : State) (n : Nat) (en : Bool) : State :=
  s.onTdm n fun p => { p with wants := p.wants ++ [(s.boundaryWait, en)] }

/-- A write of EN in TDM_CFG: a refused enable leaves EN at 0 and sets TDM_ERR.CFG (R592). -/
def tdmSetEn (n : Nat) (en : Bool) (s : State) : State :=
  if en && (tdmShapeBad (s.tdmCfg n) || tdmRateBad s.rateCode (s.tdmCfg n)) && !(s.tdmEnabled n) then
    (s.setField (Reg.TDM_CFG n) 0 0 0).flag Reg.TDM_ERR 1
  else
    let s1 := s.setField (Reg.TDM_CFG n) 0 0 (b2n en)
    if en = s.tdmWanted n then s1 else s1.tdmWant n en

/-- The committed restarts of port `n`, which is disabled and will not resume, complete; the stroke of their resumption is a
free value (R231, R598). -/
def tdmEndRestarts (n : Nat) (s : State) : State :=
  let (x, s1) := s.takeInt
  let waits := s.cmd.flights.filter fun f =>
    decide (f.phase = .committed) && decide (f.fin = .tdm n) && decide (f.op = 0x59)
  waits.foldl (fun s f => s.answer f .ok 0 [w32 (unsgn 32 x)]) s1

/-- The committed commands of port `n`, which is disabled by another cause and at no boundary of theirs, complete: a
`TDM_CONFIG` with the port's status and no stroke (R231, R597). -/
def tdmEndFlights (n : Nat) (s : State) : State :=
  let configs := s.cmd.flights.filter fun f =>
    decide (f.phase = .committed) && decide (f.fin = .tdm n) && decide (f.op = 0x58)
  tdmEndRestarts n (configs.foldl (fun s f => s.answer f .ok 0 [s.tdmStatus n, 0]) s)

/-- A port is disabled at once (R593). -/
def State.tdmDrop (s : State) (n : Nat) : State :=
  tdmEndFlights n ((s.setField (Reg.TDM_CFG n) 0 0 0).onTdm n fun p => { tdmStop p with wants := [] })

/-- The forced action of R100 for port `n`: it stops at the end of the frame in progress; what waits for a boundary is
dropped (R591). -/
def State.tdmForceStop (s : State) (n : Nat) : State :=
  let s1 := (s.setField (Reg.TDM_CFG n) 0 0 0).onTdm n fun p =>
    { p with wants := [], ending := p.live, stopAt := if p.live then some (p.stopAt.getD (s.tdmEndAt n)) else p.stopAt }
  if (s.tdmPort n).live then s1 else tdmEndFlights n s1

/-- A frame of port `n` ends, and with it the port where a forced action stops it (R591). -/
def tdmFrameEnd (n : Nat) (s : State) : State := if (s.tdmPort n).ending then s.tdmDrop n else s

/-- A change of core rate or stroke size checks one enabled port again (R593). -/
def tdmCorePort (s : State) (n : Nat) : State :=
  if !(s.tdmEnabled n) then s
  else if (s.tdmPort n).ending then s.tdmDrop n
  else if tdmShapeBad (s.tdmCfg n) || tdmRateBad s.rateCode (s.tdmCfg n) then (s.tdmDrop n).tdmFlag n 6
  else if (s.tdmPort n).live then s.onTdm n (tdmHalt s.ntu.course false false)
  else s

/-- A change of core rate or stroke size checks every enabled port again (R593). -/
def tdmCoreChange (s : State) : State := (List.range 16).foldl tdmCorePort s

/-! ## Output (R582 to R584, R589, R594) -/

/-- The stroke of sink `id`, which slot `sl` sends, fails its check (R42, R583). -/
def State.tdmSinkBad (s : State) (c : TdmCfg) (id sl : Nat) : Bool :=
  has s.drv.badSinks id || (c.pair (sl / 2) && decide (sl % 2 = 0) && has s.drv.badSinks (id + 1))

/-- Sinks of port `n` whose stroke fails its check (R583). -/
def State.tdmBadSinks (s : State) (n : Nat) : List Nat :=
  let c := s.tdmCfg n
  ((List.range c.slots).filter fun sl => bitOf c.tx sl && s.tdmSinkBad c (0x800 + 32 * n + sl) sl
    && !(c.pair (sl / 2) && decide (sl % 2 = 1))).map fun sl => 0x800 + 32 * n + sl

/-- A mute register of a port is written: the value that it replaces stays in force for the frames before (R594). -/
def noteMute (now : Nat) (old new : Word) (log : List (Nat × Word)) : List (Nat × Word) :=
  if old = new then log else (now, new) :: (if log = [] then [(0, old)] else log)

/-- The writes that frames from `start` on can still need. -/
def trimMutes (start : Nat) : List (Nat × Word) → List (Nat × Word)
  | [] => []
  | e :: l => if start < e.1 then e :: (if l.any fun f => decide (start < f.1) then trimMutes start l else l.take 1) else []

/-- The value that a mute register, now `cur`, held at an instant; `done t` says that a write at Course Time `t` had
completed by then (R34). -/
def muteAt (log : List (Nat × Word)) (cur : Word) (done : Nat → Bool) : Word :=
  match log.find? fun e => done e.1 with
  | some e => e.2
  | none => cur

/-- The output mutes of port `n` in the frame of grid sample `i` of the stroke in progress: those at its edge (R594). -/
def State.tdmOutMute (s : State) (n i : Nat) : Word :=
  muteAt (s.tdmPort n).mutesOut (s.reg (Reg.TDM_MUTE_OUT n)) fun t =>
    decide (t * s.coreRate ≤ s.mck.strokeAt * s.coreRate + i * 1000000000)

/-- The frame of grid sample `i` of the stroke in progress falls after the stop of port `n` (R591, R595). -/
def State.tdmPastStop (s : State) (n i : Nat) : Bool :=
  match (s.tdmPort n).stopAt with
  | some t => decide (t * s.coreRate < s.mck.strokeAt * s.coreRate + i * 1000000000 + s.coreRate)
  | none => false

/-- The word that master port `n` sends in slot `sl` of the frame of grid sample `i` of the stroke in progress; none where
the slot is high-impedance (R582, R589, R594, R595). -/
def State.tdmWord (s : State) (n sl i : Nat) : Option Nat :=
  if s.tdmPastStop n i then none else
  (tget (s.tdmPort n).sdo sl).bind fun ws => ws[i]?.map fun w => if bitOf (s.tdmOutMute n i) sl then 0 else w

/-- The words of slot `sl` of port `n` for the stroke, before its mute, and the dither generator after them. -/
def tdmSlotOut (s : State) (c : TdmCfg) (n size : Nat) (silentAll : Bool) (sl r : Nat) : List Nat × Nat :=
  let id := 0x800 + 32 * n + sl
  let st := if s.tdmSinkBad c id sl then lostStroke (size / 8) else tgetD s.drv.sinks id (silentStroke (size / 8))
  if silentAll || (c.pair (sl / 2) && decide (sl % 2 = 1)) then
    (List.replicate size 0, r)
  else
    let st' := if c.pair (sl / 2) then st else { st with odd := none }
    exitStroke c.width c.dither st' r

/-- The words that a slot sends in the frames of a stroke: omitted frames send none, and extra frames carry zeros (R416). -/
def State.frameWords (s : State) (ws : List Nat) : List Nat :=
  (ws.take s.strokeSize).take (s.strokeSize - s.omitNow) ++ List.replicate s.extraNow 0

/-- The output of port `n` for the stroke that begins (R589). -/
def tdmLoad (s : State) (n : Nat) (p : TdmPort) : TdmPort :=
  if p.state = 0 || p.stopAt.isSome then { p with sdo := [] } else
  let c := s.tdmCfg n
  let size := s.strokeSize
  let used := (List.range c.slots).filter fun sl => bitOf c.tx sl
  let run := used.foldl (fun (acc : Table (List Nat) × Nat) sl =>
    let (ws, r) := tdmSlotOut s c n size (decide (p.state = 1)) sl acc.2
    (acc.1 ++ [(sl, s.frameWords ws)], r)) ([], p.lfsr)
  { p with sdo := run.1, lfsr := run.2 }

/-- The frames of the stroke in progress, once a grid move at its end is known (R416). -/
def tdmTrim (s : State) : State :=
  { s with tdm := s.tdm.zipIdx.map fun e =>
      if (s.tdmCfg e.2).master then { e.1 with sdo := tmap e.1.sdo s.frameWords } else e.1 }

/-! ## Stroke boundaries (R589 to R595) -/

/-- The captured stroke, of `frames` frames, moves on: what was assigned beyond its end belongs to the next one, and what
extra frames brought is dropped (R416, R588, R589). -/
def tdmShift (size frames : Nat) (p : TdmPort) : TdmPort :=
  { p with prev := p.cur.filter fun e => decide (e.1 < size) && decide (e.1 < frames),
           cur := (p.cur.filter fun e => decide (frames ≤ e.1)).map fun e => (e.1 - frames, e.2),
           prevOk := p.capOk, nextIx := p.nextIx - frames }

/-- The enables and disables of port `n` that fall due at this boundary (R591). -/
def tdmApply (n : Nat) (s : State) : State :=
  let p := s.tdmPort n
  let due := p.wants.filter fun w => decide (w.1 ≤ 1)
  let later := (p.wants.filter fun w => decide (1 < w.1)).map fun w => (w.1 - 1, w.2)
  let s1 := s.onTdm n fun p => { p with wants := later }
  due.foldl (fun s w =>
    if w.2 then s.onTdm n (tdmStart (s.tdmCfg n) n)
    else tdmEndRestarts n (s.onTdm n tdmStop)) s1

/-- A port stopped for a restart resumes at the first boundary at least 20 µs after the stop (R595). -/
def tdmResume (n : Nat) (k : Nat) (s : State) : State :=
  let p := s.tdmPort n
  match p.stopAt with
  | none => s
  | some t =>
    if !p.live || s.ntu.course < t + 20000 then s else
    let s1 := s.onTdm n fun p => { tdmStart (s.tdmCfg n) n { p with stopAt := none } with lfsr := p.lfsr, holdClk := false }
    (s1.tdmFlag n 5).finish (fun f => decide (f = .tdm n)) fun f =>
      if f.op = 0x59 then [stroke32 k] else [s1.tdmStatus n, stroke32 k]

/-- Whether flight `f` is a `TDM_CONFIG` of port `n`. -/
def isTdmConfig (n : Nat) (f : Flight) : Bool := decide (f.fin = .tdm n) && decide (f.op = 0x58)

/-- A port that a restart has stopped (R595). -/
def tdmStopped (p : TdmPort) : TdmPort := if p.live && p.stopAt.isSome then { p with state := 3, frameOut := [] } else p

/-- The boundary that begins stroke `k`, as port `n` sees it, with `frames` sample frames in the stroke before; `moved` says
that the grid moved (R588 to R595). -/
def tdmBoundaryPort (k frames : Nat) (moved : Bool) (s : State) (n : Nat) : State :=
  let s1 := tdmApply n ((tdmFrameEnd n s).onTdm n (tdmShift s.strokeSize frames))
  let s2 := s1.finishDue (isTdmConfig n) fun _ => [s1.tdmStatus n, stroke32 k]
  let s3 := (tdmResume n k s2).onTdm n tdmStopped
  let master := (s3.tdmCfg n).master
  let bad := if (s3.tdmPort n).state = 0 || (s3.tdmPort n).state = 3 then [] else s3.tdmBadSinks n
  let s4 := bad.foldl (fun s id => (s.tdmFlag n 4).raise 2 10 (w32 (id + 4096))) s3
  s4.onTdm n fun p =>
    let p1 := tdmLoad s3 n { p with capOk := decide (p.state = 2), reassign := p.reassign || (moved && !master),
                                    mutesIn := trimMutes s3.mck.prevAt p.mutesIn,
                                    mutesOut := trimMutes s3.mck.prevAt p.mutesOut }
    if master && decide (p1.state = 2) then
      { p1 with ts := s3.tick32, phase := w32 (2 ^ 16 * (k % 2 ^ 16)) }
    else p1

/-- The boundary that begins stroke `k`, as the TDM ports see it. -/
def tdmBoundary (k frames : Nat) (moved : Bool) (s : State) : State :=
  (List.range 16).foldl (tdmBoundaryPort k frames moved) s

/-! ## Input (R582 to R584, R589, R594) -/

/-- The slots' words of a frame as TDM keeps them under the input mutes `mute`: a muted slot keeps none (R594). -/
def tdmEntry (mute : Word) (slots : List Word) : List (Option Word) :=
  (List.range 32).map fun sl => if bitOf mute sl then none else some (slots.getD sl 0)

/-- The input mutes of port `n` in the frame of grid sample `i` of the stroke before: those at the frame's end (R594). -/
def State.tdmInMute (s : State) (n i : Nat) : Word :=
  muteAt (s.tdmPort n).mutesIn (s.reg (Reg.TDM_MUTE_IN n)) fun t =>
    decide (t * s.coreRate ≤ s.mck.prevAt * s.coreRate + (i + 1) * 1000000000)

/-- The frames that a running master port captured in the stroke before, as its pins gave them; the omitted frames of an
adjusted stroke have none (R416, R589). -/
def tdmPins (s : State) (n : Nat) (frames : List (List Word)) : State :=
  let c := s.tdmCfg n
  let p := s.tdmPort n
  if !c.master || !p.prevOk then s else
  let size := s.strokeSize
  s.onTdm n fun p => { p with prev := (List.range (size - s.mck.omitted)).map fun i =>
    (i, tdmEntry (s.tdmInMute n i) (frames.getD i [])) }

/-- One sample of a slot in the stroke captured: its value, whether it is muted, and whether the frame is absent. -/
def tdmSample (p : TdmPort) (width sl i : Nat) : Int × Bool × Bool :=
  match tget p.prev i with
  | none => (0, false, true)
  | some ws =>
    match (ws[sl]?).join with
    | none => (0, true, false)
    | some w => (entryValue width w.toNat, false, false)

/-- The groups of a captured slot, with the values they were encoded from (R583, R586, R594). -/
def tdmGroups (p : TdmPort) (width size sl : Nat) : List (Group × List Int) :=
  (List.range (size / 8)).map fun g =>
    let xs := (List.range 8).map fun i => tdmSample p width sl (8 * g + i)
    let e := { encode (xs.map Prod.fst) with disc := xs.any fun x => x.2.2 }
    let e' := if xs.all fun x => x.2.1 then muteGroup e else e
    (e', xs.map Prod.fst)

/-- The stroke that source `id`, from 0x800 to 0x9FF, delivers at the Catch (R579, R582 to R584, R591); the odd ID of an
exact-24 pair reads as silence (R19). -/
def State.tdmSource (s : State) (id : Nat) : Stroke :=
  let n := (id - 0x800) / 32
  let sl := (id - 0x800) % 32
  let c := s.tdmCfg n
  let p := s.tdmPort n
  let pair := c.pair (sl / 2)
  let slot := if pair then sl / 2 * 2 else sl
  if !p.live || c.slots ≤ slot || !(bitOf c.rx slot) || (pair && decide (sl % 2 = 1)) then silentStroke s.strokeGroups
  else if !p.prevOk then lostStroke s.strokeGroups
  else
    let gs := tdmGroups p c.width s.strokeSize slot
    let odds := gs.map fun e => oddGroup e.2 e.1
    if pair then { groups := gs.map Prod.fst, odd := some odds } else { groups := gs.map Prod.fst }

/-! ## Slave ports (R586 to R588) -/

/-- Keep the slots of a frame assigned to grid sample `ix` of the stroke in progress (R589). -/
def tdmStore (size : Nat) (ix : Int) (e : List (Option Word)) (p : TdmPort) : TdmPort :=
  if 0 ≤ ix then { p with cur := tset p.cur ix.toNat e }
  else if 0 ≤ ix + size then { p with prev := tset p.prev (ix + size).toNat e }
  else p

/-- The words that a slave port sends in a frame assigned to grid sample `ix` under the output mutes `mute`; zeros where
none is due (R586, R587, R594). -/
def tdmFrameOut (mute : Word) (c : TdmCfg) (p : TdmPort) (ix : Option Int) : Table Nat :=
  ((List.range c.slots).filter fun sl => bitOf c.tx sl).map fun sl =>
    (sl, match ix with
      | some i => if 0 ≤ i && !(bitOf mute sl) then (tgetD p.sdo sl []).getD i.toNat 0 else 0
      | none => 0)

/-- The stamp of the first frame of a stroke (R590). -/
def tdmStamp (s : State) (size : Nat) (ix : Int) (p : TdmPort) : TdmPort :=
  if ix % size ≠ 0 || ix < 0 then p else
  let k := s.mck.stroke + (ix / size).toNat
  let ph := roundDiv (s.relEdge - ix * 1000000000) s.coreRate
  { p with ts := s.tick32, phase := w32 (unsgn 16 (clampI (-32768) 32767 ph) + 2 ^ 16 * (k % 2 ^ 16)) }

/-- Return a locked slave port to SEEK (R586). -/
def State.tdmSeek (s : State) (n : Nat) : State :=
  (s.onTdm n fun p => { p with state := 1, good := 0, bad := 0, capOk := false, sdo := tmap p.sdo fun ws => ws.map fun _ => 0 }).tdmFlag
    n 1

/-- A frame in SEEK: four good ones in succession lock the port (R586). -/
def tdmSeekFrame (n : Nat) (good spaced : Bool) (s : State) : State :=
  let p := s.tdmPort n
  let c := s.tdmCfg n
  let mute := s.reg (Reg.TDM_MUTE_OUT n)
  let run := if !good then 0 else if spaced then p.good + 1 else 1
  let s1 := s.onTdm n fun p => { p with good := run, frameOut := tdmFrameOut mute c p none }
  if run < 4 then s1 else
  let g := roundDiv s.relEdge 1000000000
  let off := roundDiv (s.relEdge - g * 1000000000) s.coreRate
  (s1.onTdm n fun p => { p with state := 2, good := 0, bad := 0, offset := off, nextIx := g + 1, reassign := false }).tdmFlag n 0

/-- Assign the frames again to the nearest grid sample, after a grid move (R588). -/
def tdmReassign (s : State) (p : TdmPort) : TdmPort :=
  if !p.reassign then p else
  let g := roundDiv s.relEdge 1000000000
  { p with reassign := false, nextIx := g, offset := roundDiv (s.relEdge - g * 1000000000) s.coreRate }

/-- A frame of the right length in LOCKED: assigned, or a slip (R586, R587). -/
def tdmLockedFrame (n : Nat) (slots : List Word) (s0 : State) : State :=
  let s := s0.onTdm n (tdmReassign s0)
  let p := s.tdmPort n
  let c := s.tdmCfg n
  let size := s.strokeSize
  let mute := s.reg (Reg.TDM_MUTE_OUT n)
  let dev := s.relEdge - p.nextIx * 1000000000 - p.offset * s.coreRate
  let e := tdmEntry (s.reg (Reg.TDM_MUTE_IN n)) slots
  let put := fun (ix : Int) => s.onTdm n fun p =>
    tdmStamp s size ix { tdmStore size ix e p with bad := 0, nextIx := ix + 1, frameOut := tdmFrameOut mute c p (some ix) }
  let slip := fun (s : State) => ((s.bumpField (Reg.TDM_CNT n) 15 0).tdmFlag n 2)
  if 2 * dev < -1000000000 then
    slip (s.onTdm n fun p => { p with bad := 0, frameOut := tdmFrameOut mute c p none })
  else if 1000000000 < 2 * dev then slip (put (p.nextIx + 1))
  else put p.nextIx

/-- A frame of the wrong length in LOCKED (R586). -/
def tdmBadFrame (n : Nat) (s : State) : State :=
  let p := s.tdmPort n
  let mute := s.reg (Reg.TDM_MUTE_OUT n)
  let s1 := s.onTdm n fun p =>
    tdmStamp s s.strokeSize p.nextIx { p with bad := p.bad + 1, nextIx := p.nextIx + 1,
                                              frameOut := tdmFrameOut mute (s.tdmCfg n) p (some p.nextIx) }
  let s2 := (s1.bumpField (Reg.TDM_CNT n) 31 16).tdmFlag n 3
  if p.bad + 1 < 4 then s2 else s2.tdmSeek n

/-- A slave port receives a frame of `clocks` bit clocks whose edge is at this instant (R586). -/
def tdmFrame (n clocks : Nat) (slots : List Word) (s : State) : State :=
  let p := s.tdmPort n
  let c := s.tdmCfg n
  if p.ending && !c.master then s.tdmDrop n
  else if !p.live || c.master || !s.mck.grid then s
  else if p.stopAt.isSome then
    s.onTdm n fun p => { p with stopAt := p.stopAt.map fun t => Nat.min t s.ntu.course, frameOut := [] }
  else
  let good := decide (clocks = c.slots * c.len)
  let spaced := match p.lastEdge with
    | some t => decide (((((s.ntu.course : Int) - t) * s.coreRate - 1000000000).natAbs) ≤ 10000000)
    | none => false
  let s1 := s.onTdm n fun p => { p with lastEdge := some s.ntu.course }
  if p.state = 1 then tdmSeekFrame n good spaced s1
  else if p.state = 2 then (if good then tdmLockedFrame n slots s1 else tdmBadFrame n s1)
  else s1

/-- TDM_SLAVE_FRAME: a slave port receives a frame (R586). -/
def execTdmSlaveFrame (dt port clocks : Nat) (slots : List Word) (s : State) : Host.Outcome State Fault Refusal :=
  .next (settle (tdmFrame port clocks slots ((fresh s).advance dt)))

/-- TDM_FRAME_TIMEOUT: a locked slave port sees no frame edge for 4 sample periods (R586). -/
def execTdmFrameTimeout (port : Nat) (s : State) : Host.Outcome State Fault Refusal :=
  let s0 := fresh s
  let p := s.tdmPort port
  .next (settle (if p.live && decide (p.state = 2) && p.stopAt.isNone && !(s.tdmCfg port).master then s0.tdmSeek port else s0))

/-! ## Commands (R596 to R598) -/

/-- The TDM_CFG word that a `TDM_CONFIG` gives. -/
def tdmCfgWord (w : Word) (fsLong dither : Bool) : Word :=
  w32 (b2n (bitOf w 4) + 2 * fieldOf w 17 5 + 2 ^ 14 * b2n fsLong + 2 ^ 15 * fieldOf w 19 18 + 2 ^ 17 * b2n dither)

/-- The four registers that a `TDM_CONFIG` gives: TDM_CFG, the masks and TDM_X24. -/
def tdmWords (x : Bool) (p : List Word) : Word × Word × Word × Word :=
  let w := p.getD 0 0
  let below := w32 (2 ^ (fieldOf w 12 8 + 1) - 1)
  if x then (tdmCfgWord w (bitOf (p.getD 4 0) 0) (bitOf (p.getD 4 0) 1), p.getD 2 0, p.getD 3 0, p.getD 1 0)
  else (tdmCfgWord w false false, below, below, p.getD 1 0)

/-- `TDM_CONFIG`, checks of the packet alone (R597). -/
def badTdmConfig (x : Bool) (p : List Word) : Option Nat :=
  if p.length ≠ (if x then 5 else 2) then some 0 else
  let w := p.getD 0 0
  let (cfg, rx, tx, x24) := tdmWords x p
  if fieldOf w 31 20 ≠ 0 || tdmShapeBad (tdmCfgOf cfg rx tx x24) then some 1
  else if fieldOf (p.getD 1 0) 31 16 ≠ 0 then some 2
  else if x && (decide (fieldOf (p.getD 4 0) 31 2 ≠ 0) || (bitOf (p.getD 4 0) 0 && !(bitOf w 5))) then some 5
  else none

/-- The parameter word that first names a value other than the one in force; 0 where a value that the basic form implies
differs (R213, R597). -/
def tdmDiffers (x : Bool) (s : State) (n : Nat) (v : Word × Word × Word × Word) : Option Nat :=
  let old := s.reg (Reg.TDM_CFG n)
  let high := fun (k : Nat) => if x then k else 0
  if fieldOf old 13 1 ≠ fieldOf v.1 13 1 || fieldOf old 16 15 ≠ fieldOf v.1 16 15 then some 1
  else if s.reg (Reg.TDM_X24 n) ≠ v.2.2.2 then some 2
  else if s.reg (Reg.TDM_RX_MASK n) ≠ v.2.1 then some (high 3)
  else if s.reg (Reg.TDM_TX_MASK n) ≠ v.2.2.1 then some (high 4)
  else if bitOf old 14 ≠ bitOf v.1 14 || bitOf old 17 ≠ bitOf v.1 17 then some (high 5)
  else none

/-- `TDM_CONFIG` at its commit point (R597). -/
def commitTdmConfig (x : Bool) (p : List Word) (s : State) : State × Res :=
  let n := fieldOf (p.getD 0 0) 3 0
  let (cfg, rx, tx, x24) := tdmWords x p
  let diff := tdmDiffers x s n (cfg, rx, tx, x24)
  let en := bitOf cfg 0
  if tdmRateBad s.rateCode (tdmCfgOf cfg rx tx x24) then (s, .fail .badParam 1)
  else if s.tdmEnabled n && diff.isSome then (s, .fail .staleWrite (diff.getD 0))
  else
    let changed := diff.isSome || decide (en ≠ s.bit (Reg.TDM_CFG n) 0)
    let s1 := (((s.setReg (Reg.TDM_CFG n) cfg).setReg (Reg.TDM_RX_MASK n) rx).setReg (Reg.TDM_TX_MASK n) tx).setReg
      (Reg.TDM_X24 n) x24
    if en = s.tdmWanted n then (s1, .ok [s1.tdmStatus n, 0] changed)
    else (s1.tdmWant n en, .later (.tdm n) [] changed)

/-- `TDM_RESTART`, checks of the packet alone (R598). -/
def badTdmRestart (x : Bool) (p : List Word) : Option Nat :=
  if p.length ≠ 1 then some 0
  else if fieldOf (p.getD 0 0) 31 (if x then 5 else 4) ≠ 0 then some 1 else none

/-- `TDM_RESTART` at its commit point (R595, R598). -/
def commitTdmRestart (x : Bool) (p : List Word) (s : State) : State × Res :=
  let w := p.getD 0 0
  let n := fieldOf w 3 0
  if !(s.tdmEnabled n) then (s, .fail .badParam 1)
  else if (s.tdmPort n).ending || (s.tdmPort n).wants.any fun e => !e.2 then (s, .fail .aborted)
  else (s.tdmHaltAt n (x && bitOf w 4), .later (.tdm n) [])

end Sys2Proof.Machine
end

