-- ==== Sys2Proof/Machine/Obien.lean ====
section
/-! DEFINITION. The Obien link: bring-up and topology, frames, time transfer, audio lanes, relay sums and breaks
(R601 to R620, R624 to R631). -/
namespace Sys2Proof.Machine

/-! ## Frames (R606, R607) -/

/-- A frame as its fields (R606); the payload is bytes 8 to 59. -/
structure OblFrame where
  typ : Nat
  upw : Bool
  origin : Nat
  flags : Nat
  index : Nat
  stroke : Nat
  payload : List Byte
  deriving DecidableEq, Repr

/-- The 64 bytes of a frame (R606). -/
def oblBytes (f : OblFrame) : List Byte :=
  let body := beBytes 1 (16 * f.typ + 8 * b2n f.upw + f.origin % 8) ++ beBytes 1 f.flags ++ beBytes 2 f.index
    ++ beBytes 4 f.stroke ++ (f.payload ++ List.replicate (52 - f.payload.length) 0).take 52
  body ++ beBytes 4 (crc32c body)

/-- The frame in 64 bytes; none where its CRC fails (R607). -/
def readObl (bs : List Byte) : Option OblFrame :=
  if bs.length ≠ 64 || crc32c (bs.take 60) ≠ beAt bs 60 4 then none
  else
    let b0 := beAt bs 0 1
    some { typ := b0 / 16, upw := b0.testBit 3, origin := b0 % 8, flags := beAt bs 1 1, index := beAt bs 2 2,
           stroke := beAt bs 4 4, payload := slice bs 8 52 }

/-- Every field of a frame lies in its range (R607). -/
def oblFieldsOk (f : OblFrame) : Bool :=
  match f.typ with
  | 0 => f.flags = 0 && f.index = 0
  | 1 => f.flags = 0 && f.index = 0 && decide (beAt f.payload 20 1 % 8 ≠ 7)
  | 2 => decide (f.flags < 2) && decide (f.index < 8) && (let r := beAt f.payload 0 1 / 64; decide (r = 1) || decide (r = 2))
      && decide (beAt f.payload 1 1 % 8 ≠ 7)
      && (List.range 64).all fun i =>
        let b := beAt f.payload (20 + i / 2) 1
        let o := if i % 2 = 0 then b / 16 else b % 16
        decide (o < 8) || decide (o = 15)
  | 3 => decide (f.flags < 2)
  | 4 => decide (f.flags < 8) && (decide (f.flags % 4 = 1) || decide (f.flags % 4 = 2)) && decide (f.index + f.flags % 4 ≤ 512)
      && (!(f.flags.testBit 2) || decide (f.index % 2 = 0))
  | 5 => decide (f.flags < 2) && decide (f.index < 512)
  | 6 => decide (f.flags < 2) && decide (f.index < 512)
  | 7 => decide (f.flags < 4) && decide (f.index % 8 = 0) && decide (1 ≤ f.index / 8192) && decide (1 ≤ f.index / 8 % 16)
      && decide (f.index / 8 % 16 ≤ 13) && decide (f.stroke < 128)
  | _ => false

/-! ## Ports, sides and reach (R601 to R604, R626, R628) -/

/-- Change Obien port `q`. -/
def State.onObl (s : State) (q : Nat) (f : OblPort → OblPort) : State :=
  { s with obl := { s.obl with ports := listMod s.obl.ports q f } }

/-- The port on a Seat's far side. -/
def State.farSide (s : State) : Nat := 1 - s.coxSide

/-- The die identity of the factory record; zero where the record is bad (R635, R636). -/
def State.dieId (s : State) : Nat :=
  if s.otpBad = 0 then (tgetD s.otp 3 0).toNat * 2 ^ 32 + (tgetD s.otp 2 0).toNat else 0

/-- The position of the Halyn: 0 on a Cox (R23, R603). -/
def State.oblPos (s : State) : Nat := if s.role = 2 then s.obl.pos else 0

/-- POS_VALID: 1 on a Cox (R631). -/
def State.oblPosValid (s : State) : Bool := decide (s.role = 1) || (decide (s.role = 2) && s.obl.posValid)

/-- The bit of position `p`. -/
def posBit (p : Nat) : BitVec 8 := (1 : BitVec 8) <<< (p % 8)

/-- OBL_STATUS.SEATS: the positions reached through ports in RUN, with the own bit (R631). -/
def State.seats (s : State) : BitVec 8 :=
  if s.role = 0 then 0 else posBit s.oblPos ||| (s.oblPort 0).reach ||| (s.oblPort 1).reach

/-- Port `q` of the Cox leads to an arm: it is in RUN and reaches a Seat, and for the UP port one that the DN port does not
reach (R602, R627). -/
def State.isArm (s : State) (q : Nat) : Bool :=
  s.oblRun q && (if q = 1 then decide ((s.oblPort 1).reach ≠ 0)
    else decide ((s.oblPort 0).reach &&& ~~~((s.oblPort 1).reach) ≠ 0))

/-- A port of the Cox through which position `p` is reached. -/
def State.portTo (s : State) (p : Nat) : Option Nat :=
  [1, 0].find? fun q => s.oblRun q && ((s.oblPort q).reach &&& posBit p) != 0

/-- Put 64 bytes on the line of port `q`; a near-end loopback returns them to its receiver as well (R663). -/
def State.oblPut (s : State) (q : Nat) (bs : List Byte) : State :=
  let s1 := { s with obl := { s.obl with sent := s.obl.sent ++ [(q, bs)] } }
  if s.nearLoop (2 + q) then s1.onObl q fun p => { p with loop := p.loop ++ [bs] } else s1

/-- What the receiver of port `q` is given where a frame of 64 bytes arrives at its balls: with a near-end loopback the
oldest frame sent, in place of them; with the far-end one they are sent back as well (R663). -/
def oblReceive (q : Nat) (bs : List Byte) (f : List Byte → State → State) (s : State) : State :=
  if s.nearLoop (2 + q) then
    match (s.oblPort q).loop with
    | [] => s
    | b :: rest => f b (s.onObl q fun p => { p with loop := rest })
  else f bs (if s.tst.points.getD (2 + q) 0 = 3 then s.oblPut q bs else s)

/-- Send a frame on port `q`: formed here, traveling as the port's side says (R606). -/
def State.oblSend (s : State) (q typ flags index stroke : Nat) (payload : List Byte) : State :=
  let upw := decide (s.role = 2) && decide (q = s.coxSide)
  let f : OblFrame := { typ := typ, upw := upw, origin := s.oblPos, flags := flags, index := index, stroke := stroke,
                        payload := payload }
  s.oblPut q (oblBytes f)

/-- Forward a received frame on port `q`, with the payload given (R609). -/
def State.oblForward (s : State) (q : Nat) (f : OblFrame) : State :=
  s.oblPut q (oblBytes { f with upw := decide (s.role = 2) && decide (q = s.coxSide) })

/-- OBL_STATUS.AUDIO: the Halyn carries cascade audio (R628, R631). -/
def State.oblAudio (s : State) : Bool :=
  if s.role = 1 then !s.obl.conflict
  else decide (s.role = 2) && s.obl.posValid && !s.obl.conflict && !s.obl.mismatch
    && decide (-1000 ≤ s.obl.hopErr) && decide (s.obl.hopErr ≤ 1000)

/-- What port `q` no longer reaches once it has left RUN, and what that breaks (R626). -/
def oblBreak (q : Nat) (s : State) : State :=
  let lost := (s.oblPort q).reach &&& ~~~((s.oblPort (1 - q)).reach)
  let s1 := s.onObl q fun p => { p with reach := 0, heard := 0 }
  if s.role = 1 then
    let s2 := if q = 0 then { s1 with obl := { s1.obl with ring := false } } else s1
    if lost = 0 then s2 else s2.flag Reg.OBL_EVENT 4
  else if s.role = 2 && decide (q = s.coxSide) then
    let s2 := { s1 with obl := { s1.obl with coxId := 0, cut := false } }
    if s.obl.ring && s.oblRun (1 - q) then s2 else s2.flag Reg.OBL_EVENT 9
  else s1

/-- Port `q` leaves its state for `st`; leaving RUN is a break, and takes reference 4 with it (R390, R394, R605, R626). -/
def State.oblLeave (s : State) (q st cause : Nat) : State :=
  let run := s.oblRun q
  let s1 := s.onObl q fun p => { p with state := st, cause := cause, agree := 0, delays := [], asked := none, crcRun := 0 }
  if run then (oblBreak q s1).trackRefs else s1

/-- Port `q` loses its link, or its peer leaves (R605, R629). -/
def oblLoss (q : Nat) (leaving : Bool) (s : State) : State :=
  let p := s.oblPort q
  if p.state = 0 then s else
  let s1 := (s.oblLeave q 1 0).bump (Reg.OBL_DOWN_COUNT q)
  let s2 := if p.state = 4 then (s1.flag Reg.OBL_EVENT 1).onObl q fun p => { p with peerLeaving := leaving }
    else if leaving then s1.onObl q fun p => { p with peerLeaving := true } else s1
  s2

/-- The enables of R601 and the modes decide which ports are OFF (R605); a reference may go with them (R390, R394). -/
def oblPower (s : State) : State :=
  State.trackRefs <| [0, 1].foldl (fun s q =>
    let on := decide (s.role ≠ 0) && s.bit Reg.OBL_CFG q && clocked s.mode
    if !on then (if (s.oblPort q).state = 0 then s else s.oblLeave q 0 0)
    else if (s.oblPort q).state = 0 then s.onObl q fun p => { p with state := 1 } else s) s

/-! ## LINK frames (R603, R604, R608, R624) -/

/-- The role code of R80: 1 Cox, 2 Seat. -/
def linkPayload (s : State) (chunk : Nat) (owners : Nat → Option Nat) : List Byte :=
  let cox := if s.role = 1 then s.dieId else s.obl.coxId
  let nibble := fun (l : Nat) => (owners l).getD 15
  beBytes 1 (64 * s.role + 32 * b2n s.oblPosValid + 8 * b2n s.obl.ring + s.oblPos) ++ beBytes 1 (8 * b2n s.s16 + s.rateCode)
    ++ beBytes 1 s.cmd.cause ++ beBytes 1 s.cmd.restarts ++ beBytes 8 s.dieId ++ beBytes 8 cox
    ++ (List.range 32).map fun i => BitVec.ofNat 8 (16 * nibble (64 * chunk + 2 * i) + nibble (64 * chunk + 2 * i + 1))

/-- What a LINK frame says (R608). -/
def linkInfo (f : OblFrame) : LinkInfo :=
  let b0 := beAt f.payload 0 1
  let b1 := beAt f.payload 1 1
  { role := b0 / 64, posValid := b0.testBit 5, ring := b0.testBit 3, pos := b0 % 8, s16 := b1.testBit 3, rate := b1 % 8,
    lastCause := beAt f.payload 2 1, restarts := beAt f.payload 3 1, die := beAt f.payload 4 8, cox := beAt f.payload 12 8 }

/-- The 64 owners of a LINK frame. -/
def linkOwners (f : OblFrame) : List Nat :=
  (List.range 64).map fun i => let b := beAt f.payload (20 + i / 2) 1; if i % 2 = 0 then b / 16 else b % 16

/-- The owner table with `os` from lane `first`; an owner above 7 is none (R616). -/
def setOwners (t : Table Nat) (first : Nat) (os : List Nat) : Table Nat :=
  (List.range os.length).foldl (fun t i =>
    let o := os.getD i 15
    if o < 8 then tset t (first + i) o else terase t (first + i)) t

/-- The owner of a lane, once the changes that wait have applied. -/
def State.ownerSoon (s : State) (l : Nat) : Option Nat :=
  s.obl.ownersNext.foldl (fun o e => if e.2.1 ≤ l && l < e.2.1 + e.2.2.length then
    (let x := e.2.2.getD (l - e.2.1) 15; if x < 8 then some x else none) else o) (tget s.obl.owners l)

/-- The stroke from which the owner table of a LINK frame applies. -/
def State.ownerStroke (s : State) : Nat :=
  (s.mck.stroke + (s.obl.ownersNext.map Prod.fst).foldl Nat.max 0) % 2 ^ 32

/-- Send LINK chunk `c` on port `q`. -/
def State.sendLink (s : State) (q c : Nat) (leaving : Bool := false) : State :=
  s.oblSend q 2 (b2n leaving) c s.ownerStroke (linkPayload s c s.ownerSoon)

/-- A peer's LINK frame shows a conflict (R604). -/
def State.linkConflict (s : State) (q : Nat) (i : LinkInfo) : Bool :=
  if s.role = 1 then decide (i.role = 1) || (decide (i.cox ≠ 0) && decide (i.cox ≠ s.dieId))
  else
    let o := s.oblPort (1 - q)
    decide (i.cox ≠ 0) && decide (2 ≤ o.state) && decide (o.peer.cox ≠ 0) && decide (o.peer.cox ≠ i.cox)

/-- CONFLICT is set: nothing but LINK frames flows, and totals and lanes are dropped (R604). -/
def oblConflict (s : State) : State :=
  let s1 := { s with obl := { s.obl with conflict := true, lanes := [], totals := [], gather := [] } }
  if s.obl.conflict then s1 else s1.flag Reg.OBL_EVENT 2

/-- The position that the UP peer implies for a Seat (R603). -/
def impliedPos (i : LinkInfo) : Option Nat :=
  if i.role = 1 then some 1 else if i.posValid then some (i.pos + 1) else none

/-- The check of R603 on a Seat's UP port: the cause that blocks it, 0 for none. -/
def State.posCause (s : State) (q : Nat) (i : LinkInfo) : Nat :=
  if s.role ≠ 2 || q ≠ 0 then 0 else
  match impliedPos i with
  | none => 0
  | some p => if 7 < p then 2 else if s.obl.posValid && decide (s.obl.pos ≠ p) then 3 else 0

/-- A Seat learns its position from its UP peer (R603). -/
def State.learnPos (s : State) (q : Nat) (i : LinkInfo) : State :=
  if s.role ≠ 2 || q ≠ 0 || s.obl.posValid then s else
  match impliedPos i with
  | some p => if p ≤ 7 then { s with obl := { s.obl with pos := p, posValid := true } } else s
  | none => s

/-- A change of LAST_CAUSE or RESTARTS in a Seat's LINK frames is a restart of that Seat (R624). -/
def State.seatRestart (s : State) (p : Nat) (i : LinkInfo) : State :=
  match tget s.obl.seatInfo p with
  | none => s
  | some o =>
    if o.lastCause = i.lastCause && o.restarts = i.restarts then s
    else
      let n := satNat 65535 (tgetD s.obl.seatRestarts p 0 + 1)
      ({ s with obl := { s.obl with seatRestarts := tset s.obl.seatRestarts p n } }).flag Reg.OBL_EVENT 5

/-- The positions that a LINK frame of position `p` on port `q` shows to be reached: on a Seat's Cox side also those between
the peer and the Cox. -/
def State.shownReach (s : State) (q p : Nat) (i : LinkInfo) : BitVec 8 :=
  if s.role = 2 && decide (q = s.coxSide) && decide (i.cox ≠ 0) then
    posBit p ||| 1 ||| (if q = 0 then BitVec.ofNat 8 (2 ^ (p + 1) - 1) else 0)
  else posBit p

/-- Note a position heard through port `q` in RUN; at the Cox a Seat that was not reached joins (R628). -/
def State.oblHear (s : State) (q p : Nat) (i : LinkInfo) : State :=
  if !(s.oblRun q) then s else
  let new := decide ((s.seats &&& posBit p) = 0)
  let m := s.shownReach q p i
  let s1 := s.onObl q fun o => { o with reach := o.reach ||| m, heard := o.heard ||| m }
  if s.role ≠ 1 || i.role ≠ 2 || !i.posValid then s1
  else
    let s2 := if new then s1.flag Reg.OBL_EVENT 3 else s1
    let s3 := s2.seatRestart p i
    let s4 := { s3 with obl := { s3.obl with seatInfo := tset s3.obl.seatInfo p i } }
    if q = 0 then { s4 with obl := { s4.obl with ring := true } } else s4

/-- A chunk of owners from the Cox side: it applies from the stroke named, or at once where that is not to come
(R608, R616). -/
def State.takeOwners (s : State) (f : OblFrame) : State :=
  let d := sgn 32 (2 ^ 32 + f.stroke - s.mck.stroke % 2 ^ 32)
  let os := linkOwners f
  if 0 < d then
    let rest := s.obl.ownersNext.filter fun e => decide (e.2.1 ≠ 64 * f.index)
    { s with obl := { s.obl with ownersNext := rest ++ [(d.toNat, 64 * f.index, os)] } }
  else { s with obl := { s.obl with owners := setOwners s.obl.owners (64 * f.index) os } }

/-- A rate or stroke size of the Cox that differs from the Seat's own (R628). -/
def State.coxRates (s : State) (rate : Nat) (s16 : Bool) : State :=
  let bad := decide (rate ≠ s.rateCode) || decide (s16 ≠ s.s16)
  let s1 := { s with obl := { s.obl with mismatch := bad, coxRate := rate, coxS16 := s16 } }
  if bad && !s.obl.mismatch then s1.flag Reg.OBL_EVENT 7 else s1

/-- A Seat hears on its Cox side whether its peer still leads to the Cox: a peer whose own Cox side is this port, or that
follows no Cox, does not. A path that ends so is a break, and takes reference 4 with it (R626, R627). -/
def State.coxPath (s : State) (lost : Bool) : State :=
  let cut := lost && (s.obl.cut || decide (s.obl.coxId ≠ 0))
  let s1 := { s with obl := { s.obl with cut := cut } }
  let s2 := if cut && !s.obl.cut && !s1.coxSwitches then s1.flag Reg.OBL_EVENT 9 else s1
  if cut = s.obl.cut then s2 else s2.trackRefs

/-- A LINK frame that the peer of port `q` formed itself (R603 to R605). -/
def linkFromPeer (q : Nat) (f : OblFrame) (i : LinkInfo) (s : State) : State :=
  let p := s.oblPort q
  let same := decide (i.role = p.peer.role) && decide (i.pos = p.peer.pos) && decide (i.cox = p.peer.cox)
  let agree := if same then p.agree + 1 else 1
  let s1 := s.onObl q fun p => { p with peer := i, agree := agree, peerUp := f.upw }
  if s1.linkConflict q i then oblConflict (if p.state = 5 then s1.onObl q fun p => { p with cause := 1 } else s1.oblLeave q 5 1)
  else
    let cause := s1.posCause q i
    if cause ≠ 0 && (decide (p.state ≠ 2) || decide (4 ≤ agree)) then
      (if p.state = 5 then s1 else s1.oblLeave q 5 cause)
    else if p.state = 2 && decide (agree < 4) then s1
    else
      let s2 := s1.learnPos q i
      let s3 := if p.state = 2 then s2.onObl q fun p => { p with state := 3, delays := [] } else s2
      if s3.role = 2 && decide (q = s3.coxSide) && decide (3 ≤ (s3.oblPort q).state) && decide ((s3.oblPort q).state ≠ 5) then
        let s4 := s3.coxPath (decide (i.cox = 0) || f.upw)
        let s5 := { s4 with obl := { s4.obl with coxId := i.cox, ring := i.ring } }
        s5.takeOwners f
      else s3

/-- A LINK frame arrives on port `q` (R603 to R605, R608). Frames that travel toward the Cox and that a farther Seat formed
are forwarded. -/
def linkIn (q : Nat) (f : OblFrame) (s : State) : State :=
  let p := s.oblPort q
  let i := linkInfo f
  if p.state < 2 then s
  else if f.flags % 2 = 1 && !(p.state = 4 && i.pos ≠ p.peer.pos && f.upw) then oblLoss q true s
  else
    let mine := p.state ≠ 4 || !f.upw || decide (i.pos = p.peer.pos)
    let s1 := if mine then linkFromPeer q f i s else s
    let s2 := s1.oblHear q i.pos i
    if s.role = 2 && q = s.farSide && f.upw && s.oblRun q && s.oblRun s.coxSide then s2.oblForward s.coxSide f else s2

/-! ## DELAY exchanges (R605, R610) -/

/-- A signed register value. -/
def State.signedReg (s : State) (a : Nat) : Int := sgn 32 (s.reg a).toNat

/-- OBL_FAC_DELAY[q], in ps (R635). -/
def State.oblFac (s : State) (q : Nat) : Int := if s.otpBad = 0 then sgn 32 (tgetD s.otp (32 + q) 0).toNat else 0

/-- The stamps of a frame sent and received now on port `q`, in Course Time (R610). -/
def State.oblTx (s : State) (q : Nat) : Nat := unsgn 64 ((s.ntu.course : Int) + roundDiv (s.oblFac q) 1000)
def State.oblRx (s : State) (q : Nat) : Nat := unsgn 64 ((s.ntu.course : Int) - roundDiv (s.oblFac q) 1000)

/-- D of R610 in ps: the mean of the last 16 exchanges. -/
def oblMean (ds : List Int) : Int := if ds = [] then 0 else roundDiv ds.sum ds.length

/-- OBL_DELAY[q]. -/
def State.oblDelay (s : State) (q : Nat) : Int := oblMean (s.oblPort q).delays

/-- The delay applied toward a port: D and the user's asymmetry (R610). -/
def State.oblApplied (s : State) (q : Nat) : Int := s.oblDelay q + s.signedReg (Reg.OBL_USR_ASYM q)

/-- Send a DELAY request on port `q` (R610). -/
def oblAsk (q : Nat) (s : State) : State :=
  let p := s.oblPort q
  if p.state ≠ 3 && p.state ≠ 4 then s else
  (s.oblSend q 3 0 p.nextId 0 []).onObl q fun p => { p with asked := some (p.nextId, s.oblTx q), nextId := (p.nextId + 1) % 65536 }

/-- The 16 exchanges agree within 4 ns (R605). -/
def delaysAgree (ds : List Int) : Bool :=
  decide (16 ≤ ds.length) && ds.all fun a => ds.all fun b => decide (a - b ≤ 4000)

/-- The parts of a packet of `n` words that its TUNNEL frames carry: first word and number of words (R622). -/
def tunnelParts (n : Nat) : List (Nat × Nat) :=
  (List.range ((n + 12) / 13)).map fun i => (13 * i, Nat.min 13 (n - 13 * i))

/-- Send a packet on port `q` in TUNNEL frames (R622). -/
def State.oblTunnel (s : State) (q seat token : Nat) (reply : Bool) (ws : List Word) : State :=
  (tunnelParts ws.length).foldl (fun s e =>
    let last := decide (e.1 + e.2 = ws.length)
    s.oblSend q 7 (b2n last + 2 * b2n reply) (8192 * seat + 128 * e.1 + 8 * e.2) token
      (((ws.drop e.1).take e.2).flatMap fun w => beBytes 4 w.toNat)) s

/-- A Seat sends an inner reply on its Cox side, or holds it while that side is down (R621, R623). -/
def oblReply (token : Nat) (ws : List Word) (s : State) : State :=
  if s.oblRun s.coxSide && !s.obl.conflict then s.oblTunnel s.coxSide s.oblPos token true ws
  else { s with obl := { s.obl with heldReplies := s.obl.heldReplies ++ [(token, ws)] } }

/-- Send the replies that were held (R623). -/
def oblFlushReplies (s : State) : State :=
  s.obl.heldReplies.foldl (fun s e => oblReply e.1 e.2 s) { s with obl := { s.obl with heldReplies := [] } }

/-- Port `q` reaches RUN (R603, R605, R623, R628). -/
def oblEnterRun (q : Nat) (s : State) : State :=
  let s1 := (s.onObl q fun p => { p with state := 4, peerLeaving := false }).flag Reg.OBL_EVENT 0
  let peer := (s1.oblPort q).peer
  let s2 := (s1.oblHear q peer.pos peer).trackRefs
  if s2.role = 2 && decide (q = s2.coxSide) then oblFlushReplies s2 else s2

/-- A DELAY frame arrives on port `q` (R610). -/
def delayIn (q : Nat) (f : OblFrame) (s : State) : State :=
  let p := s.oblPort q
  if p.state ≠ 3 && p.state ≠ 4 then s
  else if f.flags % 2 = 0 then
    s.oblSend q 3 1 f.index 0 (beBytes 8 (s.oblRx q) ++ beBytes 8 (s.oblTx q))
  else match p.asked with
    | none => s
    | some (id, t1) =>
      if id ≠ f.index then s else
      let t2 := beAt f.payload 0 8
      let t3 := beAt f.payload 8 8
      let d : Int := (((s.oblRx q : Int) - t1) - ((t3 : Int) - t2)) * 500
      let ds := (d :: p.delays).take 16
      let s1 := s.onObl q fun p => { p with asked := none, delays := ds }
      if p.state = 3 && delaysAgree ds then oblEnterRun q s1 else s1

/-! ## Time transfer (R611 to R614, R627) -/

/-- The payload of a SYNC frame at the boundary that begins the stroke in progress; `move` is a grid move at its end
(R611, R614). -/
def syncPayload (s : State) (move : Option (Int × Int)) : List Byte :=
  let (q, r) := move.getD (0, 0)
  beBytes 8 s.mck.strokeTick ++ beBytes 4 (s.mck.stroke / 2 ^ 32) ++ beBytes 4 (satWord s.phaseErr).toNat
    ++ beBytes 4 (s.reg Reg.NTU_LAST_STEP_SIZE).toNat ++ beBytes 1 (16 * s.ntu.epoch + 8 * b2n s.ntu.valid + s.rateCode)
    ++ beBytes 1 (128 * b2n s.s16 + 64 * b2n move.isSome) ++ beBytes 2 0 ++ beBytes 4 (unsgn 32 q) ++ beBytes 4 (unsgn 32 r)
    ++ beBytes 8 s.dieId ++ beBytes 4 0

/-- The Seat's Network Time under a SYNC whose boundary it places at Course Time `tb` (R612). -/
def syncTime (f : OblFrame) (tb : Int) (s : State) : State :=
  let tick := beAt f.payload 0 8
  let b20 := beAt f.payload 20 1
  let size := sgn 32 (beAt f.payload 16 4)
  let epoch := b20 / 16
  let goal : Int := (tick : Int) + ((s.ntu.course : Int) - tb)
  let off : Int := goal - s.tick64
  if !(b20.testBit 3) then s
  else if !s.obl.syncSeen then
    stepBy off { s with obl := { s.obl with syncSeen := true, coxEpoch := epoch } }
  else if epoch ≠ s.obl.coxEpoch then
    let s1 := { s with obl := { s.obl with coxEpoch := epoch } }
    if size < 2 ^ 31 - 1 && -(2 ^ 31 - 1) < size then stepBy size s1 else stepBy off s1
  else if 1000 < off || off < -1000 then stepBy off s
  else
    let (x, s1) := s.takeInt
    { s1 with ntu := { s1.ntu with rate := clampI (-549755814) 549755814 x } }

/-- The Seat's grid under a SYNC: the error of the hop and the Cox's stroke number (R612, R615). -/
def syncGrid (f : OblFrame) (tb : Int) (s : State) : State :=
  if !s.mck.grid then s else
  let k : Int := (beAt f.payload 8 4 * 2 ^ 32 + f.stroke : Nat)
  let d : Int := (s.mck.strokeAt : Int) - tb
  let ns := s.strokeSize * 1000000000 / s.coreRate
  let q := roundDiv d ns
  { s with mck := { s.mck with stroke := (k + q).toNat }, obl := { s.obl with hopErr := d - q * ns } }

/-- A SYNC frame arrives on port `q` (R611 to R614, R627): a Seat forwards it with its delay added to CORR, and follows
Cox time. -/
def syncIn (q : Nat) (f : OblFrame) (s : State) : State :=
  if s.role ≠ 2 || q ≠ s.coxSide || !(s.oblRun q) then s else
  let corr := beAt f.payload 40 4
  let add := s.oblApplied q
  let fwd := { f with payload := f.payload.take 40 ++ beBytes 4 (unsgn 32 ((corr : Int) + add)) ++ f.payload.drop 44 }
  let s1 := if s.oblRun s.farSide then s.oblForward s.farSide fwd else s
  let s2 := s1.coxRates (beAt f.payload 20 1 % 8) (beAt f.payload 21 1 / 128 = 1)
  if !s2.timeFollow then s2 else
  let tb : Int := (s2.oblRx q : Int) - roundDiv ((corr : Int) + add) 1000
  let s3 := syncTime f tb (syncGrid f tb { s2 with obl := { s2.obl with frozen := false } })
  let move := (beAt f.payload 21 1).testBit 6 && decide (s3.mck.sel = some 4)
  tdmTrim { s3 with obl := { s3.obl with
      coxPhase := sgn 32 (beAt f.payload 12 4),
      move := if move then some (sgn 32 (beAt f.payload 24 4), sgn 32 (beAt f.payload 28 4)) else none } }

/-! ## Lanes (R616 to R618) -/

/-- What the owner sends of its lanes in the stroke in progress: lane, groups and PAIR, by lane. -/
def State.laneOut (s : State) : List (Nat × List Group × Bool) :=
  let pos := s.oblPos
  let mine := fun (l : Nat) => decide (tget s.obl.owners l = some pos)
  let lost := fun (id : Nat) (gs : List Group) => if has s.drv.badSinks id then (lostStroke s.strokeGroups).groups else gs
  (s.drv.sinks.filter fun e => decide (0xE00 ≤ e.1)).flatMap fun e =>
    let l := e.1 - 0xE00
    let partner := tget s.drv.sinks (e.1 - 1)
    if l % 2 = 1 && (match partner with | some st => st.odd.isSome | none => false) then []
    else if !(mine l) then []
    else match e.2.odd with
      | some os => if mine (l + 1) then [(l, lost e.1 e.2.groups, true), (l + 1, lost e.1 os, false)]
        else [(l, lost e.1 e.2.groups, false)]
      | none => [(l, lost e.1 e.2.groups, false)]

/-- Pack lanes into frames: two consecutive ones where strokes have eight samples; a pair's even lane stands first
(R607, R618). -/
def packLanes (two : Bool) : List (Nat × List Group × Bool) → List (List (Nat × List Group × Bool))
  | [] => []
  | [a] => [[a]]
  | a :: b :: rest =>
    if two && decide (b.1 = a.1 + 1) && !b.2.2 then [a, b] :: packLanes two rest
    else [a] :: packLanes two (b :: rest)

/-- The payload of a LANE frame: each lane's groups and their CRC (R618). -/
def lanePayload (ls : List (Nat × List Group × Bool)) : List Byte :=
  ls.flatMap fun l => strokeBytes l.2.1 ++ beBytes 4 (strokeCrc l.2.1)

/-- Send the LANE frames of the stroke in progress on the ports in RUN, and loop the own lanes back (R617, R618). -/
def oblSendLanes (s : State) : State :=
  if s.role = 0 || !s.oblAudio then s else
  let out := s.laneOut
  let ids := (s.drv.badSinks.filter fun id => decide (0xE00 ≤ id) && out.any fun l => decide (l.1 = id - 0xE00))
  let s1 := ids.foldl (fun s id => s.raise 2 13 (w32 (id + 4096))) s
  let k := s.mck.stroke % 2 ^ 32
  let lanes := out.foldl (fun t l => tset t (2 * l.1 + k % 2) { stroke := k, groups := l.2.1, pair := l.2.2, good := true }) s1.obl.lanes
  let s2 := { s1 with obl := { s1.obl with lanes := lanes } }
  [0, 1].foldl (fun s q =>
    if !(s.oblRun q) then s else
    (packLanes (!s.s16) out).foldl (fun s ls =>
      match ls with
      | [] => s
      | l :: _ => s.oblSend q 4 (ls.length + 4 * b2n l.2.2) l.1 k (lanePayload ls)) s) s2

/-- A LANE frame arrives on port `q`: its entries wait for the next Catch, and it goes on away from its side
(R617, R618). -/
def laneIn (q : Nat) (f : OblFrame) (s : State) : State :=
  if !(s.oblRun q) || s.obl.conflict || s.role = 0 || f.origin = s.oblPos then s else
  let g := s.strokeGroups
  let size := 21 * g + 4
  let n := f.flags % 4
  if s.s16 && n ≠ 1 then s.bump Reg.OBL_BAD else
  let lanes := (List.range n).foldl (fun t i =>
    let l := f.index + i
    let bs := slice f.payload (i * size) size
    if tget s.obl.owners l ≠ some f.origin then t
    else tset t (2 * l + f.stroke % 2) { stroke := f.stroke, groups := groupsAt bs 0 g, pair := i = 0 && f.flags.testBit 2,
                                         good := crc32c (bs.take (21 * g)) = beAt bs (21 * g) 4 }) s.obl.lanes
  let s1 := { s with obl := { s.obl with lanes := lanes } }
  let through := if s.role = 2 then s.oblRun (1 - q) else s.isArm 0 && s.isArm 1
  if through then s1.oblForward (1 - q) f else s1

/-- What inbound source 0xE00 + `l` delivers at the Catch, and whether its check fails (R15, R616, R617). -/
def State.laneSource (s : State) (l : Nat) : Option (Stroke × Bool) :=
  let k := s.obl.laneStroke
  let entry := fun (l k : Nat) => match tget s.obl.lanes (2 * l + k % 2) with
    | some e => if e.stroke = k then some e else none
    | none => none
  match tget s.obl.owners l with
  | none => none
  | some o =>
    match entry l k with
    | some e =>
      let odd := if e.pair then (entry (l + 1) k) else none
      let bad := !e.good || (match odd with | some x => !x.good | none => false)
      if bad then some (lostStroke s.strokeGroups, true)
      else some ({ groups := e.groups, odd := odd.map LaneIn.groups }, false)
    | none =>
      if o = s.oblPos then none
      else if ((s.seats &&& posBit o) = 0) || (entry l ((2 ^ 32 + k - 1) % 2 ^ 32)).isSome then
        some (lostStroke s.strokeGroups, false)
      else none

/-- The odd lane of a pair that this stroke carries: its source reads as silence (R19). -/
def State.laneOdd (s : State) (l : Nat) : Bool :=
  decide (l % 2 = 1) && (match tget s.obl.lanes (2 * (l - 1) + s.obl.laneStroke % 2) with
    | some e => e.pair && decide (e.stroke = s.obl.laneStroke)
    | none => false)

/-- The Catch of the inbound lanes, and of the totals of the cascade buses (R562, R604, R617). -/
def oblCatch (s0 : State) : Table Stroke × State :=
  let s := { s0 with obl := { s0.obl with taken := s0.obl.totals } }
  if s.role = 0 || s.obl.conflict then ([], s) else
  s.obl.owners.foldl (fun (a : Table Stroke × State) e =>
    if s.laneOdd e.1 then a else
    match s.laneSource e.1 with
    | none => a
    | some (st, bad) => (a.1 ++ [(0xE00 + e.1, st)], if bad then a.2.raise 2 13 (w32 (0xE00 + e.1)) else a.2)) ([], s)

/-! ## Relay sums (R562, R563, R619, R620) -/

/-- Sample `i` of a relay sum, kept modulo 2^48 and read as signed (R620). -/
def sum48 (bs : List Byte) (i : Nat) : Int := sgn 48 (beAt bs (6 * i) 6)

/-- The payload of a relay frame: eight sums, N and MASK (R620). -/
def relayPayload (sums : List Int) (n : Nat) (mask : BitVec 8) : List Byte :=
  ((List.range 8).flatMap fun i => beBytes 6 (unsgn 48 (sums.getD i 0))) ++ beBytes 3 n ++ beBytes 1 mask.toNat

/-- Half `h` of a Halyn's own partial for bus `b`, with its bit in MASK; zeros with no bit where the bus is not one of its
cascade buses (R562, R619). -/
def State.ownPartial (s : State) (b h : Nat) : List Int × Nat × BitVec 8 :=
  match tget s.obl.partials b with
  | some r => ((r.sums.drop (8 * h)).take 8, r.n, posBit s.oblPos)
  | none => (List.replicate 8 0, 0, 0)

/-- Add two lists of eight sums modulo 2^48. -/
def add48 (a b : List Int) : List Int := (List.range 8).map fun i => sgn 48 (unsgn 48 (a.getD i 0 + b.getD i 0))

/-- Halves of a bus in the order of RELAY_UP frames (R619). -/
def State.halves (s : State) : Nat := if s.s16 then 2 else 1

/-- The stroke whose partials move now. -/
def State.relayStroke (s : State) : Nat := s.obl.laneStroke

/-- Send the Seat's own RELAY_UP frame for place `i` of the order (R619). -/
def sendOwnUp (s : State) (i : Nat) : State :=
  let b := i / s.halves
  let h := i % s.halves
  let (sums, n, mask) := s.ownPartial b h
  s.oblSend s.coxSide 5 h b s.relayStroke (relayPayload sums n mask)

/-- Send own frames for the places `a` to `b` − 1. -/
def sendOwnRange (a b : Nat) (s : State) : State := (List.range (b - a)).foldl (fun s i => sendOwnUp s (a + i)) s

/-- A Seat originates the RELAY_UP frames of its arm: its far side is not in RUN, or leads back to the Cox (R619). -/
def State.relayOrigin (s : State) : Bool :=
  !(s.oblRun s.farSide) || decide ((s.oblPort s.farSide).peer.role = 1)

/-- The bus is one of the Halyn's cascade buses. -/
def State.isCascade (s : State) (b : Nat) : Bool :=
  match tget s.activeBank.buses b with
  | some x => x.cascade
  | none => false

/-- Put half `h` of a bus total into the totals, and take n_cascade (R562, R563). -/
def State.putTotal (s : State) (b h stroke : Nat) (sums : List Int) (n : Nat) (mask : BitVec 8) : State :=
  let size := s.strokeSize
  let old := match tget s.obl.totals b with
    | some t => if t.stroke = stroke then t else { stroke := stroke, sums := List.replicate size 0, n := n, mask := mask }
    | none => { stroke := stroke, sums := List.replicate size 0, n := n, mask := mask }
  let new : RelaySum := { old with
    sums := (List.range size).map fun i => if i / 8 = h then sums.getD (i % 8) 0 else old.sums.getD i 0,
    n := n, mask := mask, halves := old.halves ||| ((1 : BitVec 2) <<< h) }
  let dyns := if s.isCascade b then tset s.drv.dyns b { tgetD s.drv.dyns b {} with nCascade := n } else s.drv.dyns
  { s with obl := { s.obl with totals := tset s.obl.totals b new }, drv := { s.drv with dyns := dyns } }

/-- The Cox totals half `h` of bus `b` once every arm has brought it, and sends the total on every arm (R619). -/
def coxTotal (b h : Nat) (s : State) : State :=
  let arms := [0, 1].filter s.isArm
  let key := fun (q : Nat) => 1024 * q + 2 * b + h
  if !(arms.all fun q => match tget s.obl.gather (key q) with | some g => decide (g.stroke = s.relayStroke) | none => false) then s
  else
    let own := s.ownPartial b h
    let tot := arms.foldl (fun (a : List Int × Nat × BitVec 8) q =>
      match tget s.obl.gather (key q) with
      | some g => (add48 a.1 g.sums, a.2.1 + g.n, a.2.2 ||| g.mask)
      | none => a) own
    let s1 := arms.foldl (fun s q => s.oblSend q 6 h b s.relayStroke (relayPayload tot.1 tot.2.1 tot.2.2)) s
    s1.putTotal b h s.relayStroke tot.1 tot.2.1 tot.2.2

/-- A RELAY_UP frame arrives on port `q` (R619). -/
def relayUpIn (q : Nat) (f : OblFrame) (s : State) : State :=
  if !(s.oblRun q) || s.obl.conflict || f.stroke ≠ s.relayStroke then s else
  let b := f.index
  let h := f.flags % 2
  let sums := (List.range 8).map (sum48 f.payload)
  let n := beAt f.payload 48 3
  let mask : BitVec 8 := BitVec.ofNat 8 (beAt f.payload 51 1)
  if s.role = 1 then
    if !(s.isArm q) then s
    else if !(s.isCascade b) then (if mask = 0 then s else s.flag Reg.DRV_EVENT 3)
    else
      let g : RelaySum := { stroke := f.stroke, sums := sums, n := n, mask := mask }
      coxTotal b h { s with obl := { s.obl with gather := tset s.obl.gather (1024 * q + 2 * b + h) g } }
  else if s.role ≠ 2 || q ≠ s.farSide || !(s.oblRun s.coxSide) then s
  else
    let i := b * s.halves + h
    if i < s.obl.relayNext then s else
    let s1 := if s.oblAudio then sendOwnRange s.obl.relayNext i s else s
    let own := if s.oblAudio then s.ownPartial b h else (List.replicate 8 0, 0, 0)
    let out := relayPayload (add48 sums own.1) (n + own.2.1) (mask ||| own.2.2)
    let s2 := s1.oblForward s.coxSide { f with payload := out }
    { s2 with obl := { s2.obl with relayNext := i + 1 } }

/-- A RELAY_DN frame arrives on port `q`: a Seat takes the total and passes it on away from the Cox (R619). -/
def relayDnIn (q : Nat) (f : OblFrame) (s : State) : State :=
  if s.role ≠ 2 || q ≠ s.coxSide || !(s.oblRun q) || s.obl.conflict then s else
  let s1 := s.putTotal f.index (f.flags % 2) f.stroke ((List.range 8).map (sum48 f.payload)) (beAt f.payload 48 3)
    (BitVec.ofNat 8 (beAt f.payload 51 1))
  if s.oblRun s.farSide then s1.oblForward s.farSide f else s1

/-- At the Finish the engine hands its partials and open counts over; a Seat sends its own frames for the places of the
order that its far side has left open (R562, R619). -/
def oblFinish (s : State) : State :=
  if s.role = 0 then s else
  let total := 512 * s.halves
  let flush := decide (s.role = 2) && s.oblAudio && !s.obl.conflict && s.oblRun s.coxSide && !s.relayOrigin
  let s1 := if flush then sendOwnRange s.obl.relayNext total s else s
  let totals := match s.drv.hist with | r :: _ => if s.drv.running then r.totals else [] | [] => []
  let parts := (totals.filter fun e => s.isCascade e.1).map fun e =>
    (e.1, ({ stroke := s.mck.stroke % 2 ^ 32, sums := e.2, n := (tgetD s.drv.dyns e.1 {}).nLocal,
             mask := posBit s.oblPos } : RelaySum))
  { s1 with obl := { s1.obl with partials := parts, relayNext := total } }

/-- The relay frames of a boundary: the farthest Seat of an arm sends its frames in order, and a Cox without an arm takes
its own partials as the totals (R563, R619). -/
def oblRelayBoundary (s : State) : State :=
  if s.obl.conflict || !s.oblAudio then s
  else if s.role = 2 then
    if !(s.oblRun s.coxSide) || !s.relayOrigin then s else sendOwnRange 0 (512 * s.halves) s
  else if s.isArm 0 || s.isArm 1 then s
  else s.obl.partials.foldl (fun s e => (List.range s.halves).foldl (fun s h => coxTotal e.1 h s) s) s

/-! ## Stroke boundaries and rows -/

/-- Owner changes whose stroke has come apply (R616, R632). -/
def oblOwnersDue (s : State) : State :=
  let due := s.obl.ownersNext.filter fun e => decide (e.1 ≤ 1)
  let later := (s.obl.ownersNext.filter fun e => decide (1 < e.1)).map fun e => (e.1 - 1, e.2)
  { s with obl := { s.obl with owners := due.foldl (fun t e => setOwners t e.2.1 e.2.2) s.obl.owners, ownersNext := later } }

/-- A Seat that the Cox has not heard for a whole stroke, and that is no neighbour, is no longer reached (R626). -/
def oblForget (s : State) : State :=
  let keep := fun (p : OblPort) => p.reach &&& (p.heard ||| posBit p.peer.pos)
  let s1 := { s with obl := { s.obl with ports := s.obl.ports.map fun p => { p with reach := keep p, heard := 0 } } }
  if s.role = 1 && decide (s.seats &&& ~~~s1.seats ≠ 0) then s1.flag Reg.OBL_EVENT 4 else s1

/-- The boundary that begins the stroke in progress; `old` is the number of the stroke that ended, and `move` a grid move at
the end of the one that begins (R608, R609, R611, R614, R617, R619). -/
def oblBoundary (old : Nat) (move : Option (Int × Int)) (s : State) : State :=
  if s.role = 0 then s else
  let s1 := oblForget (oblOwnersDue s)
  let s2 := { s1 with obl := { s1.obl with laneStroke := old % 2 ^ 32, relayNext := 0, gather := [] } }
  let s3 := if s.role = 1 then
      [0, 1].foldl (fun s q => if s.oblRun q then s.oblSend q 1 0 0 (s.mck.stroke % 2 ^ 32) (syncPayload s move) else s) s2
    else s2
  let s4 := oblSendLanes (oblRelayBoundary s3)
  [0, 1].foldl (fun s q =>
    if 2 ≤ (s.oblPort q).state then (List.range 8).foldl (fun s c => s.sendLink q c) s else s) s4

/-- While the grid is stopped, a LINK frame leaves every port in IDENT or later once 20 µs have passed since the last
(R608). -/
def oblLinksDue (s : State) : State :=
  if s.role = 0 || !(clocked s.mode) || s.mck.grid || decide (s.ntu.course < s.obl.linkAt + 20000) then s else
  let s1 := [0, 1].foldl (fun s q => if 2 ≤ (s.oblPort q).state then s.sendLink q s.obl.linkChunk else s) s
  { s1 with obl := { s1.obl with linkAt := s.ntu.course, linkChunk := (s.obl.linkChunk + 1) % 8 } }

/-- What an empty queue gives: time passes, and LINK frames fall due (R608). -/
def idleTick (s : State) : State := settle (oblLinksDue (passTick s))

/-- A frame that arrives on port `q`, by its TYPE; TUNNEL frames are handled with the commands (R606, R607). -/
def oblFrameIn (q : Nat) (bs : List Byte) (s : State) : State :=
  if s.role = 0 || decide (2 ≤ q) || decide ((s.oblPort q).state < 2) then s else
  match readObl bs with
  | none =>
    let s1 := (s.bump (Reg.OBL_CRC_ERR q)).onObl q fun p => { p with crcRun := p.crcRun + 1 }
    if 16 ≤ (s1.oblPort q).crcRun then oblLoss q false s1 else s1
  | some f =>
    let s1 := s.onObl q fun p => { p with crcRun := 0 }
    if !(oblFieldsOk f) then s1.bump Reg.OBL_BAD else
    match f.typ with
    | 1 => syncIn q f s1
    | 2 => linkIn q f s1
    | 3 => delayIn q f s1
    | 4 => laneIn q f s1
    | 5 => relayUpIn q f s1
    | 6 => relayDnIn q f s1
    | _ => s1

/-- The frame rows: what port `q` receives (R606, R663). -/
def oblArrives (q : Nat) (bs : List Byte) (s : State) : State :=
  if s.role = 0 || decide (2 ≤ q) || decide ((s.oblPort q).state < 2) then s else oblReceive q bs (oblFrameIn q) s

/-- OBL_TRAIN_COMPLETE: both lanes of a port have block lock and deskew (R605). -/
def execOblTrainComplete (port : Nat) (s : State) : Host.Outcome State Fault Refusal :=
  let s0 := fresh s
  .next (settle (if (s.oblPort port).state = 1 then
    (s0.onObl port fun p => { p with state := 2, agree := 0, peer := {}, crcRun := 0 }).sendLink port 0 else s0))

/-- OBL_LINK_FRAME: a LINK frame is received (R608). -/
def execOblLinkFrame (port : Nat) (bytes : List Byte) (s : State) : Host.Outcome State Fault Refusal :=
  .next (settle (oblArrives port bytes (fresh s)))

/-- OBL_BLOCKED_CLEAR: the blocking cause has been absent for 100 ms (R605); cause POSITION stays until RELEARN (R603). -/
def execOblBlockedClear (port : Nat) (s : State) : Host.Outcome State Fault Refusal :=
  let s0 := fresh s
  let p := s.oblPort port
  .next (settle (if decide (p.state = 5) && decide (p.cause ≠ 3) && !(s.linkConflict port p.peer)
      && decide (s.posCause port p.peer ≠ 2) then
    s0.onObl port fun p => { p with state := 3, cause := 0, delays := [] } else s0))

/-- OBL_DELAY_TIMER: a port in TIME or RUN sends a DELAY request (R610). -/
def execOblDelayTimer (port : Nat) (s : State) : Host.Outcome State Fault Refusal :=
  .next (settle (oblAsk port (fresh s)))

/-- OBL_DELAY_FRAME: a DELAY request or response is received (R610). -/
def execOblDelayFrame (dt port : Nat) (bytes : List Byte) (s : State) : Host.Outcome State Fault Refusal :=
  .next (settle (oblArrives port bytes ((fresh s).advance dt)))

/-- OBL_LINK_LOSS: an Obien port loses lock or frames, or its peer leaves (R605). -/
def execOblLinkLoss (port : Nat) (leaving : Bool) (s : State) : Host.Outcome State Fault Refusal :=
  .next (settle (oblLoss port leaving (fresh s)))

/-- OBL_SYNC_RECEIVED: a SYNC frame is received (R612). -/
def execOblSyncReceived (dt port : Nat) (bytes : List Byte) (s : State) : Host.Outcome State Fault Refusal :=
  .next (settle (oblArrives port bytes ((fresh s).advance dt)))

/-- OBL_LANE_FRAME: a LANE frame is received (R617). -/
def execOblLaneFrame (port : Nat) (bytes : List Byte) (s : State) : Host.Outcome State Fault Refusal :=
  .next (settle (oblArrives port bytes (fresh s)))

/-- OBL_RELAY_UP: a RELAY_UP frame is received (R619). -/
def execOblRelayUp (port : Nat) (bytes : List Byte) (s : State) : Host.Outcome State Fault Refusal :=
  .next (settle (oblArrives port bytes (fresh s)))

/-- OBL_RELAY_DN: a RELAY_DN frame is received (R619). -/
def execOblRelayDn (port : Nat) (bytes : List Byte) (s : State) : Host.Outcome State Fault Refusal :=
  .next (settle (oblArrives port bytes (fresh s)))

/-- OBL_CONFLICT_CLEAR: no conflict has been seen for 100 ms (R604). -/
def execOblConflictClear (s : State) : Host.Outcome State Fault Refusal :=
  let s0 := fresh s
  .next (settle (oblFlushReplies { s0 with obl := { s0.obl with conflict := false } }))

/-- The Cox side of a Seat in a ring moves to the port that leads to the Cox: to DN where UP does not lead there any more, and
back to UP where it does again (R627). -/
def coxSideSwitch (s : State) : State :=
  let p := s.oblPort 0
  let go := if s.obl.coxDn then s.oblRun 0 && !p.peerUp && decide (p.peer.cox ≠ 0)
    else s.obl.ring && (s.obl.cut || !(s.oblRun 0)) && s.oblRun 1
  if s.role ≠ 2 || !go then s else
  let q := if s.obl.coxDn then 0 else 1
  let s1 := { s with obl := { s.obl with coxDn := !s.obl.coxDn, frozen := true, cut := false,
                                         coxId := (s.oblPort q).peer.cox } }
  (s1.flag Reg.OBL_EVENT 6).trackRefs

/-- OBL_COX_SIDE_SWITCH: a Seat in a ring switches its Cox side after a break, or back on repair (R627). -/
def execOblCoxSideSwitch (s : State) : Host.Outcome State Fault Refusal :=
  .next (settle (coxSideSwitch (fresh s)))

/-- RELEARN: the latched position is cleared, and a port blocked for POSITION goes on (R603, R605, R631). -/
def oblRelearn (s : State) : State :=
  if s.role ≠ 2 then s else
  let on := fun (p : OblPort) => if p.state = 5 && p.cause = 3 then { p with state := 3, cause := 0, delays := [] } else p
  { s with obl := { s.obl with pos := 0, posValid := false, ports := s.obl.ports.map on } }

/-- LINK frames with LEAVING on each port in RUN, at the commit of a request for WATCH or MOORED (R629). -/
def oblLeaving (s : State) : State :=
  [0, 1].foldl (fun s q => if s.oblRun q then s.sendLink q 0 true else s) s

/-- The wake pattern on port `q`, where it is not in RUN (R625). -/
def State.oblWake (s : State) (q : Nat) : State :=
  if s.oblRun q then s else { s with obl := { s.obl with waked := s.obl.waked ||| ((1 : BitVec 2) <<< q) } }

/-- A Seat with WAKE_FWD that returns from WATCH to QUIET passes the wake pattern on (R625). -/
def oblWakeForward (s : State) : State :=
  if s.role = 2 && s.bit Reg.OBL_CFG 3 then s.oblWake s.farSide else s

/-! ## Registers (R631) -/

/-- OBL_STATUS. -/
def State.oblStatus (s : State) : Word :=
  w32 (s.oblPos + 2 ^ 3 * b2n s.oblPosValid + 2 ^ 4 * s.role + 2 ^ 6 * b2n s.obl.conflict + 2 ^ 7 * b2n s.obl.ring
    + 2 ^ 8 * b2n s.timeFollow + 2 ^ 9 * b2n s.oblAudio + 2 ^ 10 * b2n s.obl.mismatch + 2 ^ 11 * b2n s.obl.coxDn
    + 2 ^ 16 * s.seats.toNat)

/-- OBL_PORT_STATUS[q]. -/
def State.oblPortStatus (s : State) (q : Nat) : Word :=
  let p := s.oblPort q
  w32 (p.state + 2 ^ 3 * p.cause + 2 ^ 6 * b2n p.peerLeaving + 2 ^ 8 * p.peer.pos + 2 ^ 11 * b2n p.peer.posValid
    + 2 ^ 12 * p.peer.role)

/-- OBL_COX_ID: the identity of the Cox followed, the own one on a Cox. -/
def State.oblCoxId (s : State) : Nat := if s.role = 1 then s.dieId else s.obl.coxId

/-- OBL_HOP_ERR; 0 on a Cox. -/
def State.oblHopErr (s : State) : Word := if s.role = 2 then satWord s.obl.hopErr else 0

/-- OBL_SEAT_STATUS[p]; zero on a Seat. -/
def State.seatStatus (s : State) (p : Nat) : Word :=
  if s.role ≠ 1 then 0 else
  let here := decide ((s.seats &&& posBit p) ≠ 0)
  let i := tgetD s.obl.seatInfo p {}
  let mis := here && (decide (i.rate ≠ s.rateCode) || decide (i.s16 ≠ s.s16))
  let audio := here && i.posValid && !mis && decide (i.cox = s.dieId)
  w32 (b2n here + 2 * b2n audio + 4 * b2n mis + 2 ^ 8 * i.lastCause + 2 ^ 16 * tgetD s.obl.seatRestarts p 0)

/-- OBL_LANE_OWNER[i]. -/
def State.laneOwners (s : State) (i : Nat) : Word :=
  w32 ((List.range 8).foldl (fun n j => n + 2 ^ (4 * j) * ((tget s.obl.owners (8 * i + j)).getD 15)) 0)

end Sys2Proof.Machine
end

