-- ==== Sys2Proof/Machine/Repair.lean ====
section
/-! DEFINITION. Detection and repair in buffer memory: corrected errors, double-bit errors, the scrubber, bank
migration, and the memory view (R252 to R265, R284, R288, R289, R292). -/
namespace Sys2Proof.Machine

/-! ## Migration (R260 to R264) -/

/-- BUF_REPAIR_CFG.CE_THRESH; 0 acts as 1 (R291). -/
def State.ceThresh (s : State) : Nat :=
  let t := s.regField Reg.BUF_REPAIR_CFG 15 8
  if t = 0 then 1 else t

/-- Whether the policy of BUF_REPAIR_CFG lets a trigger start a migration (R260). -/
def State.repairOn (s : State) (t : Trigger) : Bool :=
  match t with
  | .corrected => s.bit Reg.BUF_REPAIR_CFG 0
  | .uncorrectable => s.bit Reg.BUF_REPAIR_CFG 2

/-- A spare that the trigger may use remains (R260): the last one serves corrected errors only with AUTO_LAST. -/
def State.spareFor (s : State) (t : Trigger) : Bool :=
  match t with
  | .corrected => decide (2 ≤ s.spareBanks.length)
      || (decide (s.spareBanks.length = 1) && s.bit Reg.BUF_REPAIR_CFG 1)
  | .uncorrectable => decide (s.spareBanks ≠ [])

/-- Start a migration of logical bank `l` to the lowest-numbered spare, at the very next boundary: R32 names no migration
(R261). -/
def State.startMigration (s : State) (l : Nat) : State :=
  match (s.buf.map[l]?).join, s.spareBanks with
  | some src, t :: _ =>
    { s with buf := { s.buf with mig := some { logical := l, source := src, target := t } } }
  | _, _ => s

/-- A trigger finds no spare it may use: the event, and the fault with the logical bank (R260, R641). -/
def State.noSpare (s : State) (l : Nat) : State := (s.flag Reg.BUF_EVENT 5).raise 11 5 (w32 l)

/-- An automatic trigger for logical bank `l` (R260, R262): held while a migration runs, discarded for the bank being
migrated. -/
def State.trigger (s : State) (l : Nat) (t : Trigger) : State :=
  if !(s.repairOn t) then s else
  match s.buf.mig with
  | some m =>
    if m.logical = l then s
    else { s with buf := { s.buf with pendTrig := s.buf.pendTrig ++ [(l, t)] } }
  | none => if s.spareFor t then s.startMigration l else s.noSpare l

/-- The pending triggers once a migration has completed (R262): the lowest-numbered bank that R260 still permits starts,
and the rest of the set is discarded. -/
def State.takePending (s : State) : List (Nat × Trigger) → State
  | [] => s
  | (l, t) :: rest =>
    if !(s.repairOn t) then s.takePending rest
    else if s.spareFor t then s.startMigration l
    else (s.noSpare l).takePending rest

/-- Retire physical bank `p`, in the always-on mask and at once (R261, R264, R265). -/
def State.retire (s : State) (p : Nat) : State :=
  { s with buf := { s.buf with retired := s.buf.retired ||| (1 <<< p), out := s.buf.out ||| (1 <<< p) } }

/-- The body word of `BANK_REPAIR` (R288). -/
def repairBody (logical fromBank toBank spares reason : Nat) : List Word :=
  [w32 (logical + 2 ^ 8 * fromBank + 2 ^ 16 * toBank + 2 ^ 22 * satNat 3 spares + 2 ^ 24 * reason)]

/-- The remap: L maps to T, S is retired, and the command that asked for it completes (R261, R288). -/
def State.remap (s : State) (m : Migration) : State :=
  let s1 := { s with buf := { s.buf with mig := none, map := listMod s.buf.map m.logical fun _ => some m.target } }
  let s2 := (s1.retire m.source).flag Reg.BUF_EVENT 4
  let s3 := s2.finish (fun f => decide (f = .migrate m.logical)) fun _ =>
    repairBody m.logical m.source m.target s2.spareBanks.length 0
  let todo := s3.buf.pendTrig.mergeSort fun a b => decide (a.1 ≤ b.1)
  { s3 with buf := { s3.buf with pendTrig := [] } }.takePending todo

/-- A stroke boundary as a migration sees it: its start, or its remap (R261). -/
def migBoundary (s : State) : State :=
  match s.buf.mig with
  | none => s
  | some m =>
    match m.phase with
    | .accepted =>
      if m.wait ≤ 1 then
        ({ s with buf := { s.buf with mig := some { m with phase := .copying, wait := 0 } } }).flag Reg.BUF_EVENT 3
      else { s with buf := { s.buf with mig := some { m with wait := m.wait - 1 } } }
    | .copying => s
    | .remap => s.remap m

/-- One copy step: 256 words; known double-bit errors are copied poisoned (R261). -/
def migCopy (s : State) : State :=
  match s.buf.mig with
  | none => s
  | some m =>
    match m.phase with
    | .copying =>
      let c := m.copied + 256
      let bad := (s.buf.poison.filter fun e => decide (e.1 = m.source) && decide (m.copied ≤ e.2) && decide (e.2 < c)).map
        fun e => (m.target, e.2)
      let m' := { m with copied := c, phase := if 65536 ≤ c then .remap else .copying }
      { s with buf := { s.buf with mig := some m', poison := s.buf.poison ++ bad.filter fun e => !(has s.buf.poison e) } }
    | _ => s

/-- MIGRATION_STEP_GRID_STOPPED: with the grid stopped, BUF takes one step of a migration (R261). It pauses in WATCH. R261
starts and remaps at stroke boundaries, of which a stopped grid has none: each takes one step of its own here
(DESIGN CHOICE). -/
def execMigrationStepGridStopped (s : State) : Host.Outcome State Fault Refusal :=
  .next (settle (
    let s0 := fresh s
    if s.mck.grid || !(clocked s.mode) then s0 else
    match s0.buf.mig with
    | none => s0
    | some m =>
      match m.phase with
      | .accepted => migBoundary { s0 with buf := { s0.buf with mig := some { m with wait := 1 } } }
      | .copying => migCopy s0
      | .remap => migBoundary s0))

/-! ## Detected errors (R253) -/

/-- Record a detection in BUF_ECC_LAST (R291). -/
def State.eccLast (s : State) (p w : Nat) (ded : Bool) : State :=
  s.setReg Reg.BUF_ECC_LAST (w32 (2 ^ 31 + 2 ^ 30 * b2n ded + 2 ^ 6 * w + p))

/-- A corrected error on a read (R253). -/
def State.ceFound (s : State) (p w : Nat) : State :=
  ((s.eccLast p w false).bump Reg.BUF_CE_COUNT).flag Reg.BUF_EVENT 1

/-- A double-bit error on a read: counted, recorded, and raised as MEM_DED; the bank it lies in may migrate
(R253, R260). -/
def State.dedFound (s : State) (p w : Nat) : State :=
  let s1 := ((s.eccLast p w true).bump Reg.BUF_DED_COUNT).flag Reg.BUF_EVENT 2
  let known := if has s1.buf.poison (p, w) then s1.buf.poison else s1.buf.poison ++ [(p, w)]
  let deds := tset s1.buf.deds p (satNat 255 (tgetD s1.buf.deds p 0 + 1))
  let s2 := { s1 with buf := { s1.buf with deds := deds, poison := known } }
  let s3 := s2.raise 3 5 (s2.reg Reg.BUF_ECC_LAST)
  match s3.carried p with
  | some l => s3.trigger l .uncorrectable
  | none => s3

/-- What detection finds in a word read from queue `q`: a corrected error, or a double-bit error that sets Q_EVENT.ECC
(R253). -/
def queueEcc (q : Nat) (ecc : Option Ecc) (s : State) : State :=
  match ecc with
  | none => s
  | some e => if e.ded then (s.onQueue q fun x => qFlag x 7).dedFound e.bank e.word else s.ceFound e.bank e.word

/-- Payload bytes with the bits of `flips` changed from byte `off`. -/
def flipBytes (off : Nat) (flips : Word) (data : List Byte) : List Byte :=
  data.zipIdx.map fun e =>
    if off ≤ e.2 && decide (e.2 < off + 4) then e.1 ^^^ flips.extractLsb' (8 * (e.2 - off)) 8 else e.1

/-- A double-bit error is not corrected: the item at RP of queue `q` is delivered as read (R253). -/
def qUpset (ecc : Option Ecc) (q : Queue) : Queue :=
  match ecc with
  | some e => if e.ded then
      { q with items := listMod q.items q.rpItem fun it => { it with data := flipBytes e.off e.flips it.data } } else q
  | none => q

/-- A scrub pass of physical bank `p`: `ces` and `deds` are the words found with a single-bit and with a double-bit error,
in rising order (R254, R260, R265). -/
def scrubPass (p : Nat) (ces deds : List Nat) (s : State) : State :=
  if 42 ≤ p || !(clocked s.mode) then s else
  let known := s.buf.poison.filter fun e => decide (e.1 ≠ p)
  let s0 := { s with buf := { s.buf with poison := known, cePass := tput s.buf.cePass p ces.length 0 } }
  let s1 := ces.foldl (fun s w => s.ceFound p w) s0
  let s2 := deds.foldl (fun s w => s.dedFound p w) s1
  match s.carried p with
  | some l => if s.ceThresh ≤ ces.length then s2.trigger l .corrected else s2
  | none =>
    if has s.spareBanks p && (decide (s.ceThresh ≤ ces.length) || decide (deds ≠ [])) then
      (s2.retire p).flag Reg.BUF_EVENT 6
    else s2

/-- SCRUB_PASS_COMPLETE: the scrubber has read every word of a bank (R254). -/
def execScrubPassComplete (bank : Nat) (corrected uncorrectable : List Nat) (s : State) :
    Host.Outcome State Fault Refusal :=
  .next (settle (scrubPass bank corrected uncorrectable (fresh s)))

/-! ## The memory view (R284) -/

/-- The logical byte address that the memory view shows at byte address `a` of the window (R284). -/
def State.viewAddr (s : State) (a : Nat) : Nat := 16384 * s.regField Reg.BUF_APER_BASE 10 0 + (a - 0xC4000)

/-- Whether a logical byte address lies in a present bank. -/
def State.memPresent (s : State) (o : Nat) : Bool := ((s.buf.map[o / 524288]?).join).isSome

/-- The byte of buffer memory at a logical address. -/
def State.memByte (s : State) (o : Nat) : Byte := tgetD s.buf.mem o 0

/-- Write one byte of buffer memory. -/
def State.setMemByte (s : State) (o : Nat) (b : Byte) : State :=
  { s with buf := { s.buf with mem := tput s.buf.mem o b 0 } }

/-- The physical bank and word of a logical byte address. -/
def State.physWord (s : State) (o : Nat) : Nat × Nat :=
  ((((s.buf.map[o / 524288]?).join).getD 63), o % 524288 / 8)

/-- The allocations that take memory: the queues with their sizes, and the streams (R256, R257). -/
def State.layout (s : State) : List (Nat × Nat) × List Nat :=
  (s.buf.queues.map fun e => (e.1, e.2.sizeKib),
   (s.srx.streams.map fun e => e.2.alloc) ++ s.stx.streams.map fun e => e.2.alloc)

/-- What a byte of the logical store belongs to (R256). -/
def State.placedAt (s : State) (o : Nat) : Config.Placed := Config.placed s.layout.1 s.layout.2 o

/-- The bytes of an item as its queue's memory holds them (R266). -/
def itemBytes (it : Item) : List Byte :=
  let all := leBytes 4 (itemHeader it).toNat ++ it.data
  all ++ List.replicate (itemTaken it - all.length) 0

/-- The byte of the retained items at distance `k` from FP. -/
def itemsByte : Nat → List Item → Option Byte
  | _, [] => none
  | k, it :: l => if k < itemTaken it then some ((itemBytes it).getD k 0) else itemsByte (k - itemTaken it) l

/-- Write the byte of the retained items at distance `k` from FP: a payload byte. A header word is not written so. -/
def itemsSet (b : Byte) : Nat → List Item → List Item
  | _, [] => []
  | k, it :: l =>
    if k < itemTaken it then (if 4 ≤ k then { it with data := listMod it.data (k - 4) fun _ => b } else it) :: l
    else it :: itemsSet b (k - itemTaken it) l

/-- The distance from FP of byte `off` of a queue's memory (R267). -/
def qDistance (q : Queue) (off : Nat) : Nat := (off + qCap q - q.fp % max 1 (qCap q)) % max 1 (qCap q)

/-- The byte that the memory view shows at a logical address: what the TEST mode has written to memory that nothing
occupies, the byte of a queue, or a byte of another allocation, whose form in memory is not stated; `free` is its free
value. -/
def State.viewByte (s : State) (free o : Nat) : Byte :=
  match s.placedAt o with
  | .open => s.memByte o
  | .queue n off =>
    match (s.queueView n).bind fun q => itemsByte (qDistance q off) q.items with
    | some b => b
    | none => BitVec.ofNat 8 (Config.freeNat free)
  | .other => BitVec.ofNat 8 (Config.freeNat free)

/-- Write a byte through the memory view (R284). -/
def State.setViewByte (s : State) (o : Nat) (b : Byte) : State :=
  let s1 := s.setMemByte o b
  match s.placedAt o with
  | .queue n off =>
    { s1 with buf := { s1.buf with queues := tmod s1.buf.queues n fun q => { q with items := itemsSet b (qDistance q off) q.items } } }
  | _ => s1

/-- The word that the memory view shows at a logical address. -/
def State.viewWord (s : State) (o : Nat) : Word := w32 (leNat ((List.range 4).map fun i => s.viewByte (s.free + i) (o + i)))

/-- Read a word through the memory view (R253, R284): a single-bit error is corrected and counted, a double-bit error is
delivered as read, and what a word found bad before reads as is free. -/
def viewRead (a : Nat) (ecc : Option Ecc) (s : State) : Word × State :=
  let o := s.viewAddr (a / 4 * 4)
  if !(s.memPresent o) then (0, s.flag Reg.BUF_ERR 1) else
  let w := s.viewWord o
  let s1 := { s with free := s.free + 4 }
  let e := s.physWord o
  if has s.buf.poison e then (s1.takeWord.1, s1.takeWord.2.dedFound e.1 e.2)
  else match ecc with
    | none => (w, s1)
    | some x => if x.ded then (w ^^^ x.flips, s1.dedFound e.1 e.2) else (w, s1.ceFound e.1 e.2)

/-- The words that a write to logical address `o` stores: its physical word, and while a migration copies its bank the
same word of the target (R261). -/
def State.writtenWords (s : State) (o : Nat) : List (Nat × Nat) :=
  let e := s.physWord o
  match s.buf.mig with
  | some m => if m.logical = o / 524288 && decide (m.phase ≠ .accepted) then [e, (m.target, e.2)] else [e]
  | none => [e]

/-- Write the enabled bytes of a word through the memory view: only in TEST, and within the present banks (R284). The words
stored have good check bits. -/
def viewWrite (a : Nat) (be : BitVec 4) (v : Word) (s : State) : State :=
  let o := s.viewAddr (a / 4 * 4)
  if s.mode ≠ .test || !(s.memPresent o) then s.flag Reg.BUF_ERR 1 else
  let es := s.writtenWords o
  let s1 := (List.range 4).foldl (fun s i =>
    if be.getLsbD i then s.setViewByte (o + i) (v.extractLsb' (8 * i) 8) else s) s
  { s1 with buf := { s1.buf with poison := s1.buf.poison.filter fun x => !(has es x) } }

/-! ## BANK_REPAIR, BANK_STATUS and BUF_BANK_MAP (R288, R289, R292) -/

/-- `BANK_REPAIR`, checks of the packet alone (R288). -/
def badBankRepair (x : Bool) (p : List Word) : Option Nat :=
  let w := p.getD 0 0
  if p.length ≠ 1 then some 0
  else if fieldOf w 31 (if x then 7 else 6) ≠ 0 then some 1
  else if !(x && bitOf w 6) && decide (39 < fieldOf w 5 0) then some 1 else none

/-- Clear the retired mask, which takes effect at the next BOOT (R264). -/
def State.unretire (s : State) : State := { s with buf := { s.buf with retired := 0 } }

/-- `BANK_REPAIR` at its commit point (R288). -/
def commitBankRepair (x : Bool) (p : List Word) (s : State) : State × Res :=
  let w := p.getD 0 0
  let l := fieldOf w 5 0
  let n := s.spareBanks.length
  if x && bitOf w 6 then (s.unretire, .ok (repairBody l 0x3F 0x3F n 0))
  else if ((s.buf.map[l]?).join).isNone then (s, .fail .refused 0 (repairBody l 0x3F 0x3F n 3))
  else if s.buf.mig.isSome then (s, .fail .refused 0 (repairBody l 0x3F 0x3F n 1))
  else if s.spareBanks = [] then (s, .fail .refused 0 (repairBody l 0x3F 0x3F n 2))
  else (s.startMigration l, .later (.migrate l) [])

/-- `BANK_STATUS`, checks of the packet alone (R289). -/
def badBankStatus (x : Bool) (p : List Word) : Option Nat :=
  if p.length ≠ 1 then some 0
  else if fieldOf (p.getD 0 0) 31 (if x then 1 else 0) ≠ 0 then some 1 else none

/-- BUF_MIGRATE (R291); PHASE is 0 until the start boundary. -/
def State.migWord (s : State) : Word :=
  match s.buf.mig with
  | none => 0x003F3F3F
  | some m => w32 (m.logical + 2 ^ 8 * m.source + 2 ^ 16 * m.target
      + 2 ^ 22 * (match m.phase with | .accepted => 0 | .copying => 1 | .remap => 2))

/-- Words copied in the migration in progress (R289, R291). -/
def State.migCopied (s : State) : Nat := match s.buf.mig with | some m => m.copied | none => 0

/-- The word of `BANK_STATUS` for a physical bank (R289). -/
def State.bankWord (s : State) (p : Nat) : Word :=
  let mig := s.buf.mig
  let st := if mig.any fun m => decide (m.source = p) then 3
    else if mig.any fun m => decide (m.target = p) then 4
    else if (s.carried p).isSome then 0
    else if s.isRetired p then 2 else 1
  w32 (st + 2 ^ 4 * (s.carried p).getD 0x3F + 2 ^ 16 * satNat 255 (tgetD s.buf.cePass p 0)
    + 2 ^ 24 * satNat 255 (tgetD s.buf.deds p 0))

/-- The body of `BANK_STATUS` (R289). -/
def bankBody (s : State) : List Word :=
  let (l, a, b) : Nat × Nat × Nat := match s.buf.mig with
    | none => (0x3F, 0x3F, 0x3F)
    | some m => (m.logical, m.source, m.target)
  [w32 (l + 2 ^ 8 * a + 2 ^ 16 * b + 2 ^ 22 * satNat 3 s.spareBanks.length + 2 ^ 24 * s.banksPresent), w32 s.migCopied]
    ++ (List.range 42).map s.bankWord

/-- `BANK_STATUS` at its commit point; CLEAR acts after the snapshot (R289). -/
def commitBankStatus (x : Bool) (p : List Word) (s : State) : State × Res :=
  (if x && bitOf (p.getD 0 0) 0 then { s with buf := { s.buf with cePass := [], deds := [] } } else s, .ok (bankBody s))

/-- A keyed write of BUF_BANK_MAP (R292): a refused action sets BUF_ERR.MAP and changes nothing. -/
def bankMapWrite (v : Word) (s : State) : State :=
  let l := fieldOf v 5 0
  if fieldOf v 15 8 = 2 then s.unretire
  else if fieldOf v 15 8 ≠ 1 || ((s.buf.map[l]?).join).isNone || s.buf.mig.isSome || s.spareBanks = [] then
    s.flag Reg.BUF_ERR 2
  else s.startMigration l

/-- A migration copies, and its steps run in Recovery (R97, R261). -/
def State.migStepping (s : State) : Bool :=
  (match s.buf.mig with | some m => decide (m.phase = .copying) | none => false) && decide (s.mck.part = .recovered)

/-- BUF_STATUS (R291). Before the clear is done R290 gives its reset value as 0 and R291 SPARES 2 and PRESENT 40: the model
shows the fields of R291 (DESIGN CHOICE). -/
def State.bufStatus (s : State) : Word :=
  w32 (b2n s.buf.ready + 2 * b2n s.buf.mig.isSome + 4 * satNat 3 s.spareBanks.length + 16 * s.banksPresent)

/-- BUF_MAP[i] (R291). -/
def State.bufMapWord (s : State) (i : Nat) : Word :=
  w32 (((List.range 5).map fun j => 2 ^ (6 * j) * (((s.buf.map[5 * i + j]?).join).getD 0x3F)).sum)

/-- BUF_Q_PEND[i] (R280, R291). -/
def State.qPendWord (s : State) (i : Nat) : Word :=
  w32 (bitsOfList ((List.range 32).filter fun j => s.qPending (32 * i + j)))

end Sys2Proof.Machine
end

