-- ==== Sys2Proof/Machine/Patch.lean ====
section
/-! DEFINITION. Signed patches, the factory record as it is read, and the test commands (R635 to R637, R650 to R657,
R662 to R664, R669). -/
namespace Sys2Proof.Machine

/-! ## The factory record (R635 to R637) -/

/-- CMD_OTP_DATA: the word as programmed, while the raw path is open (R637). -/
def State.otpData (s : State) : Word :=
  if s.pmu.otpOpen then tgetD s.otp (s.regField Reg.CMD_OTP_ADDR 9 0) 0 else 0

/-- The words 0 to `n` − 1 of a record. -/
def recordWords (t : Table Word) (n : Nat) : List Word := (List.range n).map fun i => tgetD t i 0

/-- The checks of R636 in their order, as FACTORY_RECORD's DETAIL codes the first that fails; 0 where all pass. -/
def recordCheck (t : Table Word) : Nat :=
  if tgetD t 0 0 ≠ 0x48465201 then 1
  else if fieldOf (tgetD t 1 0) 15 0 ≠ 1 || fieldOf (tgetD t 1 0) 31 16 ≠ 1024 then 2
  else if tgetD t 1023 0 ≠ checkWord (recordWords t 1023) then 3 else 0

/-! ## SHA-256 and ECDSA P-256 (R651) -/

/-- The round constants of SHA-256. PRESUMED: R651 names the hash and does not repeat its standard. -/
def shaK : List Word :=
  [0x428a2f98, 0x71374491, 0xb5c0fbcf, 0xe9b5dba5, 0x3956c25b, 0x59f111f1, 0x923f82a4, 0xab1c5ed5] ++
  [0xd807aa98, 0x12835b01, 0x243185be, 0x550c7dc3, 0x72be5d74, 0x80deb1fe, 0x9bdc06a7, 0xc19bf174] ++
  [0xe49b69c1, 0xefbe4786, 0x0fc19dc6, 0x240ca1cc, 0x2de92c6f, 0x4a7484aa, 0x5cb0a9dc, 0x76f988da] ++
  [0x983e5152, 0xa831c66d, 0xb00327c8, 0xbf597fc7, 0xc6e00bf3, 0xd5a79147, 0x06ca6351, 0x14292967] ++
  [0x27b70a85, 0x2e1b2138, 0x4d2c6dfc, 0x53380d13, 0x650a7354, 0x766a0abb, 0x81c2c92e, 0x92722c85] ++
  [0xa2bfe8a1, 0xa81a664b, 0xc24b8b70, 0xc76c51a3, 0xd192e819, 0xd6990624, 0xf40e3585, 0x106aa070] ++
  [0x19a4c116, 0x1e376c08, 0x2748774c, 0x34b0bcb5, 0x391c0cb3, 0x4ed8aa4a, 0x5b9cca4f, 0x682e6ff3] ++
  [0x748f82ee, 0x78a5636f, 0x84c87814, 0x8cc70208, 0x90befffa, 0xa4506ceb, 0xbef9a3f7, 0xc67178f2]

/-- The initial hash value of SHA-256. -/
def shaInit : List Word := [0x6a09e667, 0xbb67ae85, 0x3c6ef372, 0xa54ff53a, 0x510e527f, 0x9b05688c, 0x1f83d9ab, 0x5be0cd19]

/-- Rotate right. -/
def rotr (x : Word) (n : Nat) : Word := x.rotateRight n

/-- One round of SHA-256 on the eight working words. -/
def shaRound (st : List Word) (kw : Word) : List Word :=
  match st with
  | [a, b, c, d, e, f, g, h] =>
    let s1 := rotr e 6 ^^^ rotr e 11 ^^^ rotr e 25
    let t1 := h + s1 + ((e &&& f) ^^^ (~~~e &&& g)) + kw
    let s0 := rotr a 2 ^^^ rotr a 13 ^^^ rotr a 22
    let t2 := s0 + ((a &&& b) ^^^ (a &&& c) ^^^ (b &&& c))
    [t1 + t2, a, b, c, d + t1, e, f, g]
  | _ => st

/-- The message schedule, newest word first, extended by `n` words. -/
def shaExtend : Nat → List Word → List Word
  | 0, w => w
  | n + 1, w =>
    let x := w.getD 14 0
    let y := w.getD 1 0
    let s0 := rotr x 7 ^^^ rotr x 18 ^^^ (x >>> 3)
    let s1 := rotr y 17 ^^^ rotr y 19 ^^^ (y >>> 10)
    shaExtend n ((w.getD 15 0 + s0 + w.getD 6 0 + s1) :: w)

/-- One block of SHA-256. -/
def shaBlock (h : List Word) (block : List Byte) : List Word :=
  let w := ((List.range 16).map fun i => w32 (beAt block (4 * i) 4)).reverse
  let sched := (shaExtend 48 w).reverse
  let out := (List.zipWith (· + ·) shaK sched).foldl shaRound h
  List.zipWith (· + ·) h out

/-- The blocks of a padded message, at most `fuel` of them. -/
def shaBlocks : Nat → List Word → List Byte → List Word
  | 0, h, _ => h
  | n + 1, h, bs => if bs = [] then h else shaBlocks n (shaBlock h (bs.take 64)) (bs.drop 64)

/-- SHA-256 of a list of bytes, as a number of 256 bits. -/
def sha256 (bs : List Byte) : Nat :=
  let n := bs.length
  let pad := (119 - n % 64) % 64
  let m := bs ++ [0x80] ++ List.replicate pad 0 ++ beBytes 8 (8 * n)
  (shaBlocks (n / 64 + 2) shaInit m).foldl (fun a w => a * 2 ^ 32 + w.toNat) 0

/-- The field and order of P-256, its coefficient b and its base point. PRESUMED, as the standard has them. -/
def p256 : Nat := 0xffffffff00000001000000000000000000000000ffffffffffffffffffffffff
def n256 : Nat := 0xffffffff00000000ffffffffffffffffbce6faada7179e84f3b9cac2fc632551
def b256 : Nat := 0x5ac635d8aa3a93e7b3ebbd55769886bc651d06b0cc53b0f63bce3c3e27d2604b
def g256 : Nat × Nat :=
  (0x6b17d1f2e12c4247f8bce6e563a440f277037d812deb33a0f4a13945d898c296,
   0x4fe342e2fe1a7f9b8ee7eb4a7c0f9e162bce33576b315ececbb6406837bf51f5)

/-- b^e mod m, for an exponent of at most `fuel` bits. -/
def powMod : Nat → Nat → Nat → Nat → Nat
  | 0, _, _, m => 1 % m
  | n + 1, b, e, m =>
    let r := powMod n (b * b % m) (e / 2) m
    if e % 2 = 1 then r * b % m else r

/-- The inverse of `a` modulo the prime `m` of 256 bits. -/
def invMod (a m : Nat) : Nat := powMod 256 (a % m) (m - 2) m

/-- Add two points of P-256; none is the point at infinity. -/
def ecAdd (a b : Option (Nat × Nat)) : Option (Nat × Nat) :=
  match a, b with
  | none, q => q
  | q, none => q
  | some (x1, y1), some (x2, y2) =>
    if x1 = x2 && (y1 + y2) % p256 = 0 then none else
    let l := if x1 = x2 then (3 * x1 * x1 + (p256 - 3)) * invMod (2 * y1) p256 % p256
             else (y2 + p256 - y1) * invMod (x2 + p256 - x1) p256 % p256
    let x := (l * l + 2 * p256 - x1 - x2) % p256
    some (x, (l * (x1 + p256 - x) + p256 - y1) % p256)

/-- k times a point, for a k of at most `fuel` bits. -/
def ecMul : Nat → Nat → Option (Nat × Nat) → Option (Nat × Nat)
  | 0, _, _ => none
  | n + 1, k, q =>
    let r := ecMul n (k / 2) (ecAdd q q)
    if k % 2 = 1 then ecAdd r q else r

/-- Whether (r, t) is a signature of the hash `e` under the public key (x, y): ECDSA over P-256 (R651). -/
def ecdsaValid (x y r t e : Nat) : Bool :=
  if r = 0 || n256 ≤ r || t = 0 || n256 ≤ t || p256 ≤ x || p256 ≤ y then false
  else if y * y % p256 ≠ (x * x * x + (p256 - 3) * x + b256) % p256 then false
  else
    let w := invMod t n256
    match ecAdd (ecMul 256 (e * w % n256) (some g256)) (ecMul 256 (r * w % n256) (some (x, y))) with
    | none => false
    | some (px, _) => decide (px % n256 = r)

/-! ## Patch images (R650, R651, R657) -/

/-- The bytes of words `o` to `o` + n − 1 of an image, in memory order. -/
def imageBytes (ws : List Word) (o n : Nat) : List Byte := wordBytes ((ws.drop o).take n)

/-- Step 1 of R651: MAGIC, the ROM level, LENGTH and CODE_LEN, in this order; 1 where all hold. A LEVEL or a reserved bit that
R650 does not allow is a bad header too (DEDUCED). -/
def patchHeader (ws : List Word) : Nat :=
  let n := ws.length
  let w1 := ws.getD 1 0
  if ws.getD 0 0 ≠ 0x484C5054 then 2
  else if fieldOf w1 15 8 ≠ 1 || fieldOf w1 23 16 ≠ 3 then 3
  else if (ws.getD 2 0).toNat ≠ n || n < 36 || 49152 < n || (ws.getD 3 0).toNat ≠ n - 36 || fieldOf w1 7 0 = 0
      || fieldOf w1 31 24 ≠ 0 then 2
  else 1

/-- Steps 2 and 3 of R651: the key hash, then the signature. -/
def patchSigned (keyHash : List Word) (ws : List Word) : Nat :=
  let n := ws.length
  if sha256 (imageBytes ws 4 16) ≠ beNat (wordBytes keyHash) then 4
  else if ecdsaValid (beNat (imageBytes ws 4 8)) (beNat (imageBytes ws 12 8))
      (beNat (imageBytes ws (n - 16) 8)) (beNat (imageBytes ws (n - 8) 8)) (sha256 (imageBytes ws 0 (n - 16))) then 1
  else 5

/-- The result of verifying an image, as R657 codes it. -/
def patchVerify (keyHash : List Word) (ws : List Word) : Nat :=
  if patchHeader ws ≠ 1 then patchHeader ws else patchSigned keyHash ws

/-- KEY_HASH of the record in use: words 256 to 263 (R635, R636). -/
def State.keyHash (s : State) : List Word := (List.range 8).map fun i => s.record (256 + i)

/-- The inactive bank's number, and the banks by number (R650). -/
def State.idleBank (s : State) : Nat := 1 - s.patch.active
def State.patchBank (s : State) (b : Nat) : PatchBank := s.patch.banks.getD b {}
def State.inactive (s : State) : PatchBank := s.patchBank s.idleBank

/-- LEVEL of the image in a bank. -/
def PatchBank.level (b : PatchBank) : Nat := fieldOf (b.words.getD 1 0) 7 0

/-- Change the inactive bank. -/
def State.onInactive (s : State) (f : PatchBank → PatchBank) : State :=
  { s with patch := { s.patch with banks := listMod s.patch.banks s.idleBank f } }

/-- GLB_ROM.PATCH and CMD_PATCH_STATUS.ACTIVE: the level in force, which changes when CMD_READY is set (R652). -/
def State.romPatch (s : State) : Nat := if s.patch.busy then s.patch.before else s.patch.level

/-- CMD_PATCH_STATUS (R669). -/
def State.patchStatus (s : State) : Word :=
  let b := s.inactive
  w32 (s.romPatch + 2 ^ 8 * (if b.staged then b.level else 0) + 2 ^ 16 * b2n b.staged + 2 ^ 17 * b2n s.patch.busy
    + 2 ^ 18 * s.patch.active + 2 ^ 19 * s.patch.lastResult)

/-! ## PATCH_LOAD (R655) -/

/-- The body word of `PATCH_LOAD` (R655). -/
def State.loadBody (s : State) (result : Nat) : List Word :=
  let b := s.inactive
  [w32 (b2n b.staged + 2 * result + 2 ^ 8 * b.level + 2 ^ 16 * b.words.length)]

/-- Record a result in LAST_RESULT (R657). -/
def State.patchResult (s : State) (r : Nat) : State := { s with patch := { s.patch with lastResult := r } }

/-- `PATCH_LOAD`, checks of the packet alone (R655). -/
def badPatchLoad (x : Bool) (p : List Word) : Option Nat :=
  if p.length < (if x then 3 else 2) || 63 < p.length then some 0 else
  let w := p.getD 0 0
  if fieldOf w 31 18 ≠ 0 || (bitOf w 16 && fieldOf w 15 0 ≠ 0) then some 1
  else if x && !(bitOf w 17) && p.getD 1 0 ≠ 0 then some 2 else none

/-- `PATCH_LOAD` at its commit point: the write into the inactive bank; a LAST chunk is then verified (R651, R655). -/
def commitPatchLoad (x : Bool) (p : List Word) (s : State) : State × Res :=
  let w := p.getD 0 0
  let data := p.drop (if x then 2 else 1)
  let had := if bitOf w 16 then [] else s.inactive.words
  if fieldOf w 15 0 ≠ had.length then
    let s1 := s.patchResult 7
    (s1, .fail .refused 0 (s1.loadBody 7))
  else if 49152 < had.length + data.length then
    let s1 := s.patchResult 8
    (s1, .fail .refused 0 (s1.loadBody 8))
  else
    let s1 := s.onInactive fun b => { words := had ++ data, staged := b.staged && !(bitOf w 16) }
    let gen := decide (s1.patch.banks ≠ s.patch.banks)
    if bitOf w 17 then ({ s1 with patch := { s1.patch with verifying := true } }, .later .verify [] gen)
    else (s1, .ok (s1.loadBody 0) gen)

/-- The image check word that the LAST chunk's command asks for, where it is expert (R655). -/
def imageCrcBad (f : Flight) (ws : List Word) : Bool := f.x && decide (f.params.getD 1 0 ≠ checkWord ws)

/-- Verification of the inactive bank completes: the bank is staged or not, and its `PATCH_LOAD` is answered
(R651, R655). -/
def patchVerified (s : State) : State :=
  let fs := s.cmd.flights.filter fun f => decide (f.fin = .verify)
  let ws := s.inactive.words
  let r := if fs.any (fun f => imageCrcBad f ws) then 6 else patchVerify s.keyHash ws
  let s1 := s.onInactive fun b => { b with staged := decide (r = 1) }
  let s2 := { s1 with patch := { s1.patch with verifying := false, lastResult := r } }
  fs.foldl (fun s f => s.answer f (if r = 1 then .ok else .refused) 0 (s.loadBody r)) s2

/-- PATCH_VERIFY_DONE: verification of the inactive patch bank completes (R651). -/
def execPatchVerifyDone (s : State) : Host.Outcome State Fault Refusal :=
  .next (settle (if s.patch.verifying then patchVerified (fresh s) else fresh s))

/-! ## PATCH_SWAP (R652, R653, R656, R657) -/

/-- `PATCH_SWAP`, checks of the packet alone (R656). -/
def badPatchSwap (x : Bool) (p : List Word) : Option Nat :=
  if p.length ≠ 1 then some 0
  else if fieldOf (p.getD 0 0) 31 (if x then 1 else 0) ≠ 0 then some 1 else none

/-- The change of bank in force: the staged bank becomes active, or the ROM runs alone; the Command Processor is about
to restart (R652). -/
def State.patchChange (s : State) (revert : Bool) : State :=
  let pt := { s.patch with before := s.romPatch, prevActive := s.patch.active, rollback := false, busy := true }
  if revert then { s with patch := { pt with level := 0 } }
  else
    let lvl := s.inactive.level
    { s with patch := { pt with level := lvl, active := s.idleBank,
                                banks := listMod (listMod s.patch.banks s.idleBank fun b => { b with staged := false })
                                  s.patch.active fun b => { b with staged := false } } }

/-- The body word of `PATCH_SWAP` (R656). -/
def State.patchSwapBody (s : State) : List Word :=
  [w32 (s.patch.level + 2 ^ 8 * s.patch.before + 2 ^ 16 * b2n s.patch.rollback)]

/-- `PATCH_SWAP` at its commit point; the restart follows at once (R656). -/
def commitPatchSwap (x : Bool) (p : List Word) (s : State) : State × Res :=
  let revert := x && bitOf (p.getD 0 0) 0
  if revert then
    if s.patch.level = 0 then (s, .ok [0]) else (s.patchChange true, .later .patchSwap [] true)
  else if s.inactive.staged then (s.patchChange false, .later .patchSwap [] true)
  else (s, .fail .refused 0 [1])

/-- A keyed write of CMD_PATCH_SWAP: the same swap without a tag; ignored with nothing to change (R657). -/
def patchKeyed (revert : Bool) (s : State) : State :=
  if revert && s.patch.level = 0 then s
  else if !revert && !s.inactive.staged then s
  else ((s.patchChange revert).genUp).cmdRestart 5

/-- The swapped-in bank has not become ready: the previous bank is active again, the rolled-back bank is not staged, and
the Command Processor restarts (R653). -/
def patchRolledBack (s : State) : State :=
  let s1 := s.raiseAs 7 0 (w32 s.patch.level) false 3
  let pt := s1.patch
  let s2 := { s1 with patch := { pt with level := pt.before, active := pt.prevActive, rollback := true, banks :=
    if pt.active = pt.prevActive then pt.banks else listMod pt.banks pt.active fun b => { b with staged := false } } }
  s2.cmdRestart 6

/-- PATCH_ROLLBACK: CMD_READY is not set within 2 ms of a swap (R653). -/
def execPatchRollback (s : State) : Host.Outcome State Fault Refusal :=
  .next (settle (if s.patch.busy && s.cmd.restarting && !s.patch.rollback then patchRolledBack (fresh s) else fresh s))

/-- CMD_READY is set again: a swap or rollback ends and its `PATCH_SWAP` is answered (R652, R656). -/
def State.patchReady (s : State) : State :=
  if !s.patch.busy then s else
  let s1 := { s with patch := { s.patch with busy := false } }
  s1.finish (fun f => decide (f = .patchSwap)) fun _ => s1.patchSwapBody

/-! ## LOOPBACK and BIST (R662 to R664) -/

/-- `LOOPBACK`, checks of the packet alone (R663). -/
def badLoopback (p : List Word) : Option Nat :=
  if p.length ≠ 1 then some 0 else
  let w := p.getD 0 0
  if fieldOf w 31 5 ≠ 0 || 3 < fieldOf w 2 0 then some 1 else none

/-- `BIST`, checks of the packet alone (R664). -/
def badBist (x : Bool) (p : List Word) : Option Nat :=
  if p.length ≠ 1 then some 0 else
  let w := p.getD 0 0
  if fieldOf w 15 2 ≠ 0 then some 1
  else if x then (if fieldOf w 31 16 = 0 || 10000 < fieldOf w 31 16 then some 1 else none)
  else if fieldOf w 31 16 ≠ 0 then some 1 else none

/-- `BIST` at its commit point: the tests start (R664). -/
def commitBist (p : List Word) (s : State) : State × Res :=
  if s.mode ≠ .test then (s, .fail .wrongMode) else
  ({ s with tst := { s.tst with bist := some (p.getD 0 0) } }, .later .bist [])

/-- The tests finish: a spare that failed is retired, and the reply is made (R265, R664). -/
def bistDone (w : Word) (failing : BitVec 42) (errors : List Nat) (s : State) : State :=
  let bad := s.spareBanks.filter fun p => bitOf w 0 && failing.getLsbD p
  let s1 := bad.foldl (fun s p => s.retire p) { s with tst := { s.tst with bist := none } }
  let m := bitsOfList bad
  let errs := (List.range 4).map fun i => w32 (satNat 0xFFFFFFFF (if bitOf w 1 then errors.getD i 0 else 0))
  s1.finish (fun f => decide (f = .bist)) fun _ => [w32 (m % 2 ^ 32), w32 (m / 2 ^ 32)] ++ errs

/-- BIST_COMPLETE: the march and PRBS tests that `BIST` started finish (R664). -/
def execBistComplete (failing : BitVec 42) (errors : List Nat) (s : State) : Host.Outcome State Fault Refusal :=
  .next (settle (match s.tst.bist with
    | some w => bistDone w failing errors (fresh s)
    | none => fresh s))

end Sys2Proof.Machine
end

