-- ==== Sys2Proof/Machine/HostPath.lean ====
section
/-! DEFINITION. The host path: PCIe link events, the enables of the audio rings, what stops when the path is lost, the
fit of the rings, and the readiness of the Command Processor with its RESTART_MARKER replies (R180, R189, R193, R198,
R199, R236, R238). -/
namespace Sys2Proof.Machine

/-! ## Audio rings (R193, R198, R209) -/

/-- Ring `i`, 0 to 31. -/
def State.ring (s : State) (i : Nat) : Ring := s.hif.rings.getD i {}

/-- Change ring `i`. -/
def State.onRing (s : State) (i : Nat) (f : Ring → Ring) : State :=
  { s with hif := { s.hif with rings := s.hif.rings.modify i f } }

/-- EN of ring `i` as its register holds it. -/
def State.ringEn (s : State) (i : Nat) : Bool := s.bit (Reg.HIF_RING_CFG i) 0

/-- Ring `i` is enabled, or its enable or disable waits for a boundary: its RWD fields hold (R143, R198). -/
def State.ringOn (s : State) (i : Nat) : Bool := s.ringEn i || (s.ring i).live || (s.ring i).want.isSome

/-- Ring `i` carries playback (R193). -/
def ringPlays (i : Nat) : Bool := i < 16

/-- The settings of a ring (R209). -/
structure RingCfg where
  base : Nat
  s20 : Bool
  logN : Nat
  first : Nat
  count : Nat
  vec : Nat
  deriving DecidableEq, Repr

/-- The settings of ring `i` with `w` in HIF_RING_CFG. On the parallel host bus BASE_HI is ignored (R199). -/
def State.ringCfgOf (s : State) (i : Nat) (w : Word) : RingCfg :=
  { base := (s.reg (Reg.HIF_RING_BASE_LO i)).toNat
      + (if s.pmu.straps.hostSel then 0 else (s.reg (Reg.HIF_RING_BASE_HI i)).toNat * 2 ^ 32)
    s20 := bitOf w 1, logN := fieldOf w 7 4, first := fieldOf w 17 8, count := fieldOf w 24 18, vec := fieldOf w 29 25 }

/-- The settings of ring `i`. -/
def State.ringCfg (s : State) (i : Nat) : RingCfg := s.ringCfgOf i (s.reg (Reg.HIF_RING_CFG i))

/-- Bytes of one entry of a ring (R194, R195). -/
def ringEntryBytes (size : Nat) (c : RingCfg) : Nat :=
  16 + (if c.s20 then c.count * (21 * size / 8) else 4 * size * c.count)

/-- The distance between entries (R194). -/
def ringStride (size : Nat) (c : RingCfg) : Nat := (ringEntryBytes size c + 63) / 64 * 64

/-- Two rings share a channel. -/
def ringsMeet (a b : RingCfg) : Bool := decide (a.first < b.first + b.count) && decide (b.first < a.first + a.count)

/-- An EN set on ring `i`, with `w` in HIF_RING_CFG, is refused (R193). On PCIe too a ring must end within the 1024 host
channels of R17: R193 states a limit of FIRST + COUNT for the parallel host bus alone (DESIGN CHOICE). -/
def State.ringRefused (s : State) (i : Nat) (w : Word) : Bool :=
  let c := s.ringCfgOf i w
  let others := (List.range 32).filter fun j => decide (j ≠ i) && decide (ringPlays j = ringPlays i) && s.ringEn j
  let par := s.pmu.straps.hostSel
  decide (c.base % 64 ≠ 0) || decide (c.logN < 2) || decide (12 < c.logN) || decide (c.count < 1) || decide (64 < c.count)
    || decide (1024 < c.first + c.count)
    || (others.any fun j => ringsMeet c (s.ringCfg j))
    || (par && (decide (256 < c.first + c.count) || decide (c.base < 0x90000)
        || decide (0xC0000 < c.base + ringStride s.strokeSize c * 2 ^ c.logN)))

/-- Ask for EN of ring `i` to become `en`, from the boundary of R32 (R198). -/
def State.ringWant (s : State) (i : Nat) (en : Bool) : State :=
  s.onRing i fun r => { r with want := if r.live = en then none else some (s.boundaryWait, en) }

/-- A write of HIF_RING_CFG whose RWD fields are already merged: a refused enable leaves EN clear (R193). -/
def ringEnWrite (i : Nat) (w : Word) (s : State) : State :=
  let en := bitOf w 0
  if en && !(s.ringEn i) && s.ringRefused i w then
    (s.setReg (Reg.HIF_RING_CFG i) (withField w 0 0 0)).flag Reg.HIF_ERR 4
  else
    let s1 := s.setReg (Reg.HIF_RING_CFG i) w
    if en = s.ringEn i then s1 else s1.ringWant i en

/-- The waiting enable or disable of one ring at the boundary that begins stroke `k` (R198). -/
def ringStep (k : Nat) (plays : Bool) (r : Ring) : Ring :=
  match r.want with
  | none => r
  | some (w, en) =>
    if 1 < w then { r with want := some (w - 1, en) }
    else { r with want := none, live := en, start := if plays then k + 1 else k, play := none, run := none }

/-- Ring enables and disables at the boundary that begins stroke `k` (R198). -/
def ringBoundary (k : Nat) (s : State) : State :=
  { s with hif := { s.hif with rings := s.hif.rings.zipIdx.map fun e => ringStep k (ringPlays e.2) e.1 } }

/-- Ring `i` is to stop: EN clears, and it stops at the very next boundary, or at once with no grid (R180, R198). -/
def State.ringStop (s : State) (i : Nat) : State :=
  let s1 := s.setField (Reg.HIF_RING_CFG i) 0 0 0
  if s.mck.grid then s1.onRing i fun r => { r with want := if r.live then some (1, false) else none } else s1.onRing i fun r => { r with live := false, want := none, play := none }

/-- Every ring stops (R100 row 11, R180). -/
def State.stopRings (s : State) : State := ((List.range 32).filter s.ringOn).foldl State.ringStop s

/-! ## The host path lost (R180) -/

/-- The PCIe endpoint is the host path (R176). -/
def State.pcie (s : State) : Bool := !s.pmu.straps.hostSel

/-- Host path lost: rings and the command transport stop, and RING_STOP records it (R180, R204). -/
def hostPathLost (s : State) : State :=
  if !s.pcie then s else
  let on := ((List.range 32).any s.ringOn) || s.bit Reg.HIF_Q_CFG 0
  let s1 := s.stopRings.setField Reg.HIF_Q_CFG 0 0 0
  if on then s1.flag Reg.HIF_EVENT 4 else s1

/-- The PCIe link is down; `keep` holds configuration space, as across WATCH (R110, R180). -/
def linkGone (keep : Bool) (s : State) : State :=
  let h := { s.hif with linkUp := false, training := false, width := 0, speed := 0 }
  if keep then { s with hif := h }
  else { s with hif := { h with msixEn := false, bme := false, d3hot := false, funcMask := false, vecMask := 0xFFFFFFFF,
                                pba := 0, msixTable := [], cfg := [] } }

/-- The link trains when HIF is up in a mode with the PCIe SerDes powered and PE_PERST_N is high (R54, R88, R176). -/
def linkTrain (s : State) : State :=
  if s.pcie && s.hif.up && s.hif.perstN && clocked s.mode && !s.hif.linkUp then
    { s with hif := { s.hif with training := true } } else s

/-! ## Posting of replies (R180, R189 to R191) -/

/-- The reply ring is full (R189). -/
def State.rqFull (s : State) : Bool :=
  let n := 2 ^ s.regField Reg.HIF_Q_CFG 11 8
  decide ((s.hif.rqTail + 1) % n = s.regField Reg.HIF_RQ_HEAD 15 0)

/-- A reply for path `p` can be posted (R180, R190, R191). -/
def State.canPost (s : State) (p : Path) : Bool :=
  s.hif.up && clocked s.mode
    && (decide (p = .mgmt) || !s.pcie || (s.dmaOn && s.bit Reg.HIF_Q_CFG 0 && !s.rqFull))

/-! ## Readiness (R172, R236, R238) -/

/-- The replies with LOST that follow a marker on path `p` (R238). -/
def State.lostOn (s : State) (p : Path) : Nat :=
  (s.cmd.after.filter fun r => decide (r.src = .path p) && decide (r.status = .lost)).length

/-- The RESTART_MARKER reply of path `p` (R238). -/
def State.marker (s : State) (p : Path) : Reply :=
  { src := .path p, op := 0xFF, tag := 0, status := .ok, c := true, gen8 := s.cmd.gen.toNat % 256, frees := false
    body := [w32 (s.cmd.cause + 2 ^ 8 * s.patch.level + 2 ^ 16 * s.cmd.restarts), s.cmd.gen,
             w32 (s.lostOn p), s.cmd.restartTick] }

/-- CMD_READY rises after a start or a restart: the markers go before every other reply (R172, R236). -/
def makeReady (s : State) : State :=
  let s1 := s.patchReady
  let s2 := { s1 with cmd := { s1.cmd with
    ready := true, restarting := false, after := [], image := [], imageAt := none, imageStop := false
    held := s1.cmd.held ++ [s1.marker .host, s1.marker .mgmt] ++ s1.cmd.after } }
  (s2.flag Reg.HIF_EVENT 0).flag Reg.CMD_EVENT 0

end Sys2Proof.Machine
end

