-- ==== Sys2Proof/Machine/PcieCfg.lean ====
section
/-! DEFINITION. The PCIe endpoint as the host sees it beside BAR0: configuration space with its capabilities, the limits
of the endpoint's own requests, and BAR2 with the MSI-X table and the Pending Bit Array (R177 to R180, R201, R203).
Chapter 5 names the fields; their places are those of the PCI and PCI Express specifications (PRESUMED), and the offsets of
the capabilities within configuration space are the model's (DESIGN CHOICE). -/
namespace Sys2Proof.Machine

/-! ## The two enables and the power state that software changes (R180) -/

/-- Bus Master Enable is written `on`: a clearing after it was set loses the host path (R180). -/
def setBme (on : Bool) (s : State) : State :=
  let s1 := { s with hif := { s.hif with bme := on } }
  if s.hif.bme && !on then hostPathLost s1 else s1

/-- The function enters or leaves D3hot: entering loses the host path (R180). -/
def setD3hot (on : Bool) (s : State) : State :=
  let s1 := { s with hif := { s.hif with d3hot := on } }
  if on && !s.hif.d3hot then hostPathLost s1 else s1

/-! ## MSI-X (R178, R201, R203) -/

/-- A vector as a mask of the table. -/
def vectorBit (v : Nat) : BitVec 32 := 1 <<< v

/-- The messages held by a Pending Bit whose vector is masked no more are sent (R201). -/
def msixRelease (s : State) : State :=
  if !(s.hif.msixEn && s.dmaOn) then s else
  let due := (List.range 32).filter fun v => s.hif.pba.getLsbD v && !(s.vecMasked v)
  let kept := due.foldl (fun (m : BitVec 32) v => m &&& ~~~(vectorBit v)) s.hif.pba
  due.foldl State.message { s with hif := { s.hif with pba := kept } }

/-- MSI-X Enable and Function Mask are written (R203). -/
def msixControl (en mask : Bool) (s : State) : State :=
  msixRelease { s with hif := { s.hif with msixEn := en, funcMask := mask } }

/-- The vectors of `m` are unmasked in the table (R201). -/
def unmaskVectors (m : BitVec 32) (s : State) : State :=
  msixRelease { s with hif := { s.hif with vecMask := s.hif.vecMask &&& ~~~m } }

/-- A word of BAR2 (R178): four words for each vector of the table, its mask in the last, and the Pending Bit Array. -/
def State.bar2Word (s : State) (a : Nat) : Word :=
  if a < 0x200 then
    if a % 16 = 12 then w32 (b2n (s.hif.vecMask.getLsbD (a / 16))) else tgetD s.hif.msixTable (a / 4) 0
  else if a = 0x2000 then s.hif.pba
  else 0

/-- A write to BAR2, under its byte enables: the table alone is writable (R178). -/
def bar2Write (a : Nat) (m v : Word) (s : State) : State :=
  if 0x200 ≤ a then s
  else
    let w := (s.bar2Word a &&& ~~~m) ||| (v &&& m)
    if a % 16 ≠ 12 then { s with hif := { s.hif with msixTable := tput s.hif.msixTable (a / 4) w 0 } }
    else if bitOf w 0 then { s with hif := { s.hif with vecMask := s.hif.vecMask ||| vectorBit (a / 16) } }
    else unmaskVectors (vectorBit (a / 16)) s

/-! ## Configuration space (R177 to R179) -/

/-- The vendor ID: that of the factory record, or of ROM where the record fails its check (R177, R636). -/
def State.vendorId (s : State) : Nat :=
  if s.otpBad = 0 then fieldOf (s.record 4) 31 16 else Config.firmware 6 % 2 ^ 16

/-- The bits of a word of configuration space that the host writes and that no other field of State holds: the command
register, the cache line size, BAR0 of 1 MiB, BAR2 of 16 KiB, the interrupt line, and the device and link controls. -/
def cfgBits (a : Nat) : Word :=
  match a with
  | 0x04 => 0x0542 | 0x0C => 0xFF | 0x10 => 0xFFF00000 | 0x14 => 0xFFFFFFFF | 0x18 => 0xFFFFC000 | 0x1C => 0xFFFFFFFF
  | 0x3C => 0xFF | 0x58 => 0x70EF | 0x60 => 0xC2
  | _ => 0

/-- Those bits after reset: Max_Read_Request_Size is 512 bytes. -/
def cfgReset (a : Nat) : Word := if a = 0x58 then 0x2000 else 0

/-- Those bits now. -/
def State.cfgHeld (s : State) (a : Nat) : Word := tgetD s.hif.cfg a (cfgReset a)

/-- The part of a word that no write changes, or that another field of State holds: the identity, one function with no
interrupt pin and the capability list; Power Management; PCI Express with 256 bytes of payload, 8-bit tags in use, no
Function Level Reset, 8.0 GT/s on two lanes and ASPM L1 alone; MSI-X with 32 vectors in BAR2; and Advanced Error
Reporting. -/
def State.cfgFixed (s : State) (a : Nat) : Word :=
  match a with
  | 0x00 => w32 (0x20480000 + s.vendorId)
  | 0x04 => w32 (0x00100000 + 4 * b2n s.hif.bme)
  | 0x08 => 0x040100B0
  | 0x10 => 4 | 0x18 => 4
  | 0x2C => w32 (0x20480000 + s.vendorId)
  | 0x34 => 0x40
  | 0x40 => 0x00035001
  | 0x44 => w32 (8 + 3 * b2n s.hif.d3hot)
  | 0x50 => 0x00029010
  | 0x54 => 0x00008021
  | 0x58 => 0x0100
  | 0x5C => 0x00000823
  | 0x60 => w32 (if s.hif.linkUp then 2 ^ 16 * s.hif.speed.toNat + 2 ^ 20 * s.hif.width.toNat else 0)
  | 0x90 => w32 (0x001F0011 + 2 ^ 30 * b2n s.hif.funcMask + 2 ^ 31 * b2n s.hif.msixEn)
  | 0x94 => 0x00000002
  | 0x98 => 0x00002002
  | 0x100 => 0x00020001
  | _ => 0

/-- A word of configuration space (R177 to R179). -/
def State.cfgWord (s : State) (a : Nat) : Word := s.cfgFixed a ||| s.cfgHeld a

/-- A write to configuration space, under its byte enables: Bus Master Enable, the power state and the MSI-X control act,
and the rest is held (R178 to R180, R203). PMCSR takes D0 and D3hot alone. -/
def cfgWrite (a : Nat) (m v : Word) (s : State) : State :=
  let w := (s.cfgWord a &&& ~~~m) ||| (v &&& m)
  let s1 := if cfgBits a = 0 then s else
    { s with hif := { s.hif with cfg := tput s.hif.cfg a (w &&& cfgBits a) (cfgReset a) } }
  if a = 0x04 then setBme (bitOf w 2) s1
  else if a = 0x44 then
    if fieldOf w 1 0 = 0 then setD3hot false s1 else if fieldOf w 1 0 = 3 then setD3hot true s1 else s1
  else if a = 0x90 then msixControl (bitOf w 31) (bitOf w 30) s1
  else s1

/-! ## The endpoint's own requests (R179) -/

/-- Bytes of one read request at most: 512, and never more than Max_Read_Request_Size (R179). -/
def State.readRequestMax (s : State) : Nat := min 512 (2 ^ (7 + fieldOf (s.cfgWord 0x58) 14 12))

/-- Bytes of one write request at most: 256, and never more than the Max_Payload_Size in force (R179). -/
def State.payloadMax (s : State) : Nat := min 256 (2 ^ (7 + fieldOf (s.cfgWord 0x58) 7 5))

/-- The requests that cover `n` bytes from address `a`, each of at most `most` bytes: address and length. -/
def requestsOf (most : Nat) : Nat → Nat → Nat → List (Nat × Nat)
  | 0, _, _ => []
  | fuel + 1, a, n => if n = 0 then [] else (a, min most n) :: requestsOf most fuel (a + min most n) (n - most)

/-- The read requests by which the endpoint fetches `n` bytes from host address `a` (R179). -/
def State.hostReads (s : State) (a n : Nat) : List (Nat × Nat) := requestsOf s.readRequestMax n a n

/-- The attributes of a request of the endpoint: Relaxed Ordering and No Snoop, which it never sets (R179). -/
def requestAttributes : Bool × Bool := (false, false)

/-- The tags of the endpoint's requests have 8 bits (R179). -/
def requestTagBits : Nat := 8

/-! ## A request of the host by what it reaches (R155, R178) -/

/-- A request over 8 bytes to the register windows: Completer Abort, no access, and HIF_ERR.WIDE (R155). -/
def wideRequest (s : State) : State :=
  let s1 := if s.hif.up && clocked s.mode then s.flag Reg.HIF_ERR 1 else s
  { s1 with bus := { s1.bus with rdata := [], abort := true } }

/-- A write request of the host that is not an access of BAR0 (R155, R178). -/
def pcieWrite (req : PcieReq) (a : Nat) (m v : Word) (s : State) : State :=
  match req with
  | .bar2 => if s.hif.linkUp && a < 0x4000 then bar2Write (a / 4 * 4) m v s else s
  | .config => if s.hif.linkUp && a < 0x1000 then cfgWrite (a / 4 * 4) m v s else s
  | _ => wideRequest s

/-- The word of a read request of the host that is not an access of BAR0 (R178). -/
def State.pcieWord (s : State) (req : PcieReq) (a : Nat) : Word :=
  if !s.hif.linkUp then 0 else
  match req with
  | .bar2 => s.bar2Word (a / 4 * 4)
  | .config => s.cfgWord (a / 4 * 4)
  | _ => 0

end Sys2Proof.Machine
end

