-- ==== Sys2Proof/Machine/Frames.lean ====
section
/-! DEFINITION. Ethernet, IP, UDP, RTP and AAF headers as the ports, SRX, STX and the firmware read and write them, the
port counters, and entry into the egress queues (R297, R301, R312, R439 to R453). -/
namespace Sys2Proof.Machine

/-! ## Reading a frame -/

/-- The fields of a received frame that the units use; offsets count from the destination address. -/
structure Parsed where
  dst : Nat
  src : Nat
  tagged : Bool
  tci : Nat
  etype : Nat
  /-- Offset of the first byte after the EtherType. -/
  l3 : Nat
  ip4 : Bool := false
  ip6 : Bool := false
  /-- IPv4 with MF set or a fragment offset. -/
  frag : Bool := false
  ipSrc : Nat := 0
  ipDst : Nat := 0
  udp : Bool := false
  /-- The UDP length lies within the frame. -/
  udpOk : Bool := false
  sport : Nat := 0
  dport : Nat := 0
  /-- The UDP payload. -/
  payload : List Byte := []
  deriving DecidableEq, Repr

/-- Read UDP at offset `o` of a frame. -/
def parseUdp (bs : List Byte) (o : Nat) (p : Parsed) : Parsed :=
  let len := beAt bs (o + 4) 2
  { p with udp := true, udpOk := decide (8 ≤ len) && decide (o + len + 4 ≤ bs.length), sport := beAt bs o 2,
           dport := beAt bs (o + 2) 2, payload := slice bs (o + 8) (len - 8) }

/-- Read the headers of a frame, destination address to FCS (R297, R440). -/
def parseFrame (bs : List Byte) : Parsed :=
  let tagged := decide (beAt bs 12 2 = 0x8100)
  let o := if tagged then 18 else 14
  let et := beAt bs (o - 2) 2
  let p : Parsed := { dst := beAt bs 0 6, src := beAt bs 6 6, tagged := tagged,
                      tci := if tagged then beAt bs 14 2 else 0, etype := et, l3 := o }
  if et = 0x0800 && decide (beAt bs o 1 / 16 = 4) then
    let ihl := 4 * (beAt bs o 1 % 16)
    let fr := beAt bs (o + 6) 2
    let q := { p with ip4 := true, frag := decide (fr % 2 ^ 14 ≠ 0), ipSrc := beAt bs (o + 12) 4,
                      ipDst := beAt bs (o + 16) 4 }
    if beAt bs (o + 9) 1 = 17 then parseUdp bs (o + ihl) q else q
  else if et = 0x86DD && decide (beAt bs o 1 / 16 = 6) then
    let q := { p with ip6 := true, ipSrc := beAt bs (o + 8) 16, ipDst := beAt bs (o + 24) 16 }
    if beAt bs (o + 6) 1 = 17 then parseUdp bs (o + 40) q else q
  else p

/-- An RTP header and its payload (R440). -/
structure Rtp where
  pt : Nat
  seq : Nat
  ts : Nat
  ssrc : Nat
  payload : List Byte
  deriving DecidableEq, Repr

/-- Read an RTP packet; none where R440 discards it. -/
def parseRtp (u : List Byte) : Option Rtp :=
  let b0 := beAt u 0 1
  let ext := 12 + 4 * (b0 % 16)
  let start := if b0.testBit 4 then ext + 4 + 4 * beAt u (ext + 2) 2 else ext
  let body := u.drop start
  let pad := if b0.testBit 5 then (match body.getLast? with | some b => b.toNat | none => 1) else 0
  if b0 / 64 ≠ 2 || u.length < start || body.length < pad then none
  else some { pt := beAt u 1 1 % 128, seq := beAt u 2 2, ts := beAt u 4 4, ssrc := beAt u 8 4,
              payload := body.take (body.length - pad) }

/-- An AAF frame's fields (R451, R452); the placing of the bytes is that of IEEE 1722-2016. -/
structure Aaf where
  subtype : Nat
  sv : Bool
  version : Nat
  mr : Bool
  tv : Bool
  seq : Nat
  streamId : Nat
  ts : Nat
  format : Nat
  nsr : Nat
  chans : Nat
  depth : Nat
  len : Nat
  sp : Bool
  payload : List Byte
  deriving DecidableEq, Repr

/-- Read an AAF frame whose AVTP bytes begin at offset `o`. -/
def parseAaf (bs : List Byte) (o : Nat) : Aaf :=
  let b1 := beAt bs (o + 1) 1
  let len := beAt bs (o + 20) 2
  { subtype := beAt bs o 1, sv := b1.testBit 7, version := b1 / 16 % 8, mr := b1.testBit 3, tv := b1.testBit 0,
    seq := beAt bs (o + 2) 1, streamId := beAt bs (o + 4) 8, ts := beAt bs (o + 12) 4, format := beAt bs (o + 16) 1,
    nsr := beAt bs (o + 17) 1 / 16, chans := beAt bs (o + 17) 2 % 1024, depth := beAt bs (o + 19) 1, len := len,
    sp := (beAt bs (o + 22) 1).testBit 4, payload := slice bs (o + 24) len }

/-! ## Writing a frame -/

/-- One bit step of the reflected CRC-32 of IEEE 802.3. -/
def fcsStep (c : Nat) : Nat := if c % 2 = 1 then (c / 2) ^^^ 0xEDB88320 else c / 2

/-- One byte into the CRC-32 register. -/
def fcsByte (c : Nat) (b : Byte) : Nat :=
  let x := c ^^^ b.toNat
  fcsStep (fcsStep (fcsStep (fcsStep (fcsStep (fcsStep (fcsStep (fcsStep x)))))))

/-- The frame check sequence of a frame without it, as its four bytes. -/
def fcsBytes (bs : List Byte) : List Byte := leBytes 4 ((bs.foldl fcsByte 0xFFFFFFFF) ^^^ 0xFFFFFFFF)

/-- A frame with its padding to 64 bytes and its FCS (R303). -/
def wireFrame (bs : List Byte) : List Byte :=
  let padded := bs ++ List.replicate (60 - bs.length) 0
  padded ++ fcsBytes padded

/-- The one's complement sum of 16-bit words of a list of bytes. -/
def sum16 : List Byte → Nat
  | a :: b :: t => a.toNat * 256 + b.toNat + sum16 t
  | [a] => a.toNat * 256
  | [] => 0

/-- Fold a sum to 16 bits with end-around carry. -/
def fold16 (n : Nat) : Nat := let a := n % 65536 + n / 65536; let b := a % 65536 + a / 65536; b % 65536 + b / 65536

/-- The Internet checksum of a sum. -/
def inetSum (n : Nat) : Nat := 65535 - fold16 n

/-- An IPv4 header without options, with its checksum. -/
def ip4Header (dscp ttl len src dst : Nat) : List Byte :=
  let front := beBytes 1 0x45 ++ beBytes 1 (4 * dscp) ++ beBytes 2 len ++ beBytes 4 0 ++ beBytes 1 ttl ++ beBytes 1 17
  let back := beBytes 4 src ++ beBytes 4 dst
  front ++ beBytes 2 (inetSum (sum16 front + sum16 back)) ++ back

/-- An IPv6 header without extension headers. -/
def ip6Header (dscp hops len src dst : Nat) : List Byte :=
  beBytes 4 (6 * 2 ^ 28 + dscp * 2 ^ 22) ++ beBytes 2 len ++ beBytes 1 17 ++ beBytes 1 hops ++ beBytes 16 src ++ beBytes 16 dst

/-- A UDP header, with the checksum over the pseudo-header that `pseudo` sums (R439). -/
def udpHeader (pseudo sport dport : Nat) (body : List Byte) : List Byte :=
  let len := 8 + body.length
  let c := inetSum (pseudo + 17 + len + sport + dport + len + sum16 body)
  beBytes 2 sport ++ beBytes 2 dport ++ beBytes 2 len ++ beBytes 2 (if c = 0 then 65535 else c)

/-- The 802.1Q tag and the EtherType. -/
def tagAndType (tag : Option Nat) (et : Nat) : List Byte :=
  match tag with
  | some t => beBytes 2 0x8100 ++ beBytes 2 t ++ beBytes 2 et
  | none => beBytes 2 et

/-- A whole UDP frame from the destination address to the end of the payload. -/
def udpFrame (dmac smac : Nat) (tag : Option Nat) (v6 : Bool) (dscp ttl src dst sport dport : Nat) (body : List Byte) :
    List Byte :=
  let pseudo := sum16 (beBytes 16 src) + sum16 (beBytes 16 dst)
  let udp := udpHeader pseudo sport dport body ++ body
  beBytes 6 dmac ++ beBytes 6 smac ++ (if v6 then tagAndType tag 0x86DD ++ ip6Header dscp ttl udp.length src dst
    else tagAndType tag 0x0800 ++ ip4Header dscp ttl (20 + udp.length) src dst) ++ udp

/-! ## The ports as the other units use them -/

/-- Change port `p`. -/
def State.onPort (s : State) (p : Nat) (f : NetPort → NetPort) : State := { s with np := listMod s.np p f }

/-- The address of port `p` (R317). -/
def State.portMac (s : State) (p : Nat) : Nat :=
  s.regField (Reg.NP_MAC_HI p) 15 0 * 2 ^ 32 + (s.reg (Reg.NP_MAC_LO p)).toNat

/-- The link-local address of port `p`, from its MAC address (R354). -/
def State.linkLocal (s : State) (p : Nat) : Nat :=
  let m := s.portMac p
  let hi := (m / 2 ^ 24) ^^^ 0x020000
  0xFE80 * 2 ^ 112 + hi * 2 ^ 40 + 0xFFFE * 2 ^ 24 + m % 2 ^ 24

/-- Add `n` to counter `i` of port `p`: the extension carries, and crossing half range is noted (R312, R313). -/
def State.stat (s : State) (p i : Nat) (n : Nat := 1) : State :=
  if n = 0 || s.mode = .watch || s.mode = .moored then s else
  let old := (s.reg (Reg.NP_STAT p i)).toNat
  let new := old + n
  let s1 := s.setReg (Reg.NP_STAT p i) (w32 new)
  let s2 := if 2 ^ 32 ≤ new then s1.setReg (Reg.NP_STAT_EXT p i) (s1.reg (Reg.NP_STAT_EXT p i) + 1) else s1
  if old < 2 ^ 31 && 2 ^ 31 ≤ new then
    let a := if i < 32 then Reg.NP_STAT_HALF_LO p else Reg.NP_STAT_HALF_HI p
    if s2.bit a (i % 32) then s2 else (s2.flag a (i % 32)).flag (Reg.NP_EVENT p) 2
  else s2

/-- The mode in force of port `p`: its field changes only while the port is disabled (R293, R317). -/
def State.portMode (s : State) (p : Nat) : Nat := s.regField (Reg.NP_CFG p) 2 1

/-- The data rate of port `p` in bits per second (R293). -/
def State.portRate (s : State) (p : Nat) : Nat :=
  match s.portMode p with
  | 0 => 10000000000
  | 1 => 2500000000
  | _ => 1000000000

/-- Picoseconds as whole nanoseconds: the nearest, halves away from zero (R360). -/
def roundPs (ps : Int) : Int := if 0 ≤ ps then (ps + 500) / 1000 else -((-ps + 500) / 1000)

/-- NTU_FAC_TX (d = 0) and NTU_FAC_RX (d = 1) of port `p`, for the mode in force (R360, R635). -/
def State.facTs (s : State) (p d : Nat) : Word := s.record (16 + 8 * p + 2 * s.portMode p + d)

/-- The Course Time, in tenths of a nanosecond, until which egress queue `q` of port `p` is paused: the later of its timers
that run and that hold it (R309, R310). NPx_Q_PCP gives a queue its priority here; no tag takes its PCP from it, since
R493's templates and R472's headers are sent as written. -/
def State.pausedUntil (s : State) (p q : Nat) : Nat :=
  let np := s.port p
  let c := s.regField (Reg.NP_Q_PCP p) (3 * q + 2) (3 * q)
  if (q = 4 || q = 5 || q = 6) && !(s.bit (Reg.NP_PAUSE_CTRL p) 2) then 0
  else Nat.max (if np.linkPause then np.pauseUntil else 0) (if np.pfc.getLsbD c then np.pfcUntil.getD c 0 else 0)

/-- Egress queue `q` of port `p` is paused: a timer that holds it has not run out (R310). -/
def State.txPaused (s : State) (p q : Nat) : Bool := decide (10 * s.ntu.course < s.pausedUntil p q)

/-- The time in ns that `n` bytes take at the rate of port `p`, rounded down (R293). -/
def State.byteNs (s : State) (p n : Nat) : Nat := 8 * n * 1000000000 / s.portRate p

/-- The slope of shaped queue 5 or 4, in units of 1/1024 of the data rate (R305). -/
def State.slope (s : State) (p q : Nat) : Nat :=
  satNat 1024 (s.regField (if q = 5 then Reg.NP_CBS_A p else Reg.NP_CBS_B p) 10 0)

/-- How far Network Time, as the launch gate of port `p` sees it, lies past the launch time of frame `f`; the gate adds the
factory part of the compensation alone (R306, R360). -/
def State.pastLaunch (s : State) (p : Nat) (f : TxFrame) : Int :=
  (s.tick64 : Int) + roundPs (sgn 32 (s.facTs p 0).toNat) - f.launch

/-- The launch gate of the head frame is open (R306). -/
def State.launched (s : State) (p : Nat) (f : TxFrame) : Bool := decide (0 ≤ s.pastLaunch p f)

/-- Course Time from which the head frame `f` of queue `q` has waited to be sent: not during the queue's own frame, not
before its launch time, and not while the queue is paused (R305, R306, R310). -/
def State.waitsFrom (s : State) (p q free : Nat) (f : TxFrame) : Int :=
  max (max (free : Int) ((s.ntu.course : Int) - s.pastLaunch p f)) (((s.pausedUntil p q + 9) / 10 : Nat) : Int)

/-- The credit of a shaped queue brought to this instant: it grows while the queue holds an eligible head frame that is not
being sent, and a positive credit without one is lost (R305, R310). The queue's own frame was charged as it began. -/
def State.creditWait (s : State) (p q : Nat) (c : Int) : Int :=
  let np := s.port p
  let own : Bool := match np.sending with | some (k, _) => decide (k = q) | none => false
  let free := if own then Nat.max np.creditAt np.txUntil else np.creditAt
  let lost := if 0 < c then 0 else c
  if own && decide (s.ntu.course ≤ free) then c else
  match np.egress.getD q [] with
  | [] => lost
  | f :: _ =>
    let from_ := s.waitsFrom p q free f
    let c0 := if (free : Int) < from_ then lost else c
    if from_ < s.ntu.course then
      c0 + (s.slope p q : Int) * s.portRate p * ((s.ntu.course : Int) - from_) / 1000000000
    else c0

/-- Bring the shaper credits of port `p` to this instant (R305). -/
def creditStep (p : Nat) (s : State) : State :=
  let np := s.port p
  let a := s.creditWait p 5 np.creditA
  let b := s.creditWait p 4 np.creditB
  s.onPort p fun np => { np with creditA := a, creditB := b, creditAt := s.ntu.course }

/-- The depth of an egress queue in frames (R301). -/
def egressDepth (q : Nat) : Nat :=
  match q with
  | 7 => 16 | 6 => 32 | 5 => 64 | 4 => 64 | _ => 1

/-- A change to WATCH or MOORED is committed and not yet in force (R315). -/
def State.goingDown (s : State) : Bool :=
  (match s.pmu.modeNext with | some m => !(clocked m) | none => false)
    || (match s.pmu.req with | some r => decide (r.stage ≠ .asking) && !(clocked r.target) | none => false)

/-- The egress queues take a frame of kind `k`: before the first entry to SERVICE only what the host places there and the PTP
messages of firmware (R94), and after the commit of a change to WATCH or MOORED none (R315). -/
def State.takesFrame (s : State) (k : TxKind) : Bool :=
  !s.goingDown && (s.pmu.firstService || match k with | .hostItem _ _ => true | .ptp => true | _ => false)

/-- Offer a frame to egress queue `q` of port `p`; the flag says whether it entered. A full queue or a disabled port takes
none (R94, R301, R315, R498). -/
def State.egress (s : State) (p q : Nat) (f : TxFrame) : State × Bool :=
  let np := s.port p
  let l := np.egress.getD q []
  if !np.live || egressDepth q ≤ l.length || !(s.takesFrame f.kind) then (s, false)
  else ((creditStep p s).onPort p fun np => { np with egress := listMod np.egress q fun l => l ++ [f] }, true)

/-- The largest frame that port `p` carries, with its FCS (R297, R317). -/
def State.maxFrame (s : State) (p : Nat) : Nat := s.regField (Reg.NP_MAX_FRAME p) 13 0

/-! ## Time-stamps and sample counts -/

/-- The number congruent to `t` modulo 2^b that lies within half of 2^b around `near` (R353, R441). -/
def extendNear (b : Nat) (t : Nat) (near : Int) : Int := near + sgn b (unsgn b ((t : Int) - near))

/-- The sample count of an RTP packet's first sample (R441). -/
def rtpCount (ts offset rate tick : Nat) : Int :=
  extendNear 32 (2 ^ 32 + ts - offset % 2 ^ 32) ((tick * rate / 1000000000 : Nat) : Int)

/-- The duration of a stroke in ns, rounded down. -/
def State.strokeNs (s : State) : Nat := s.strokeSize * 1000000000 / s.coreRate

/-- Course Time still to run until the start of the Recovery phase of the stroke `d` strokes after the one in progress
(R29). -/
def State.untilRecovery (s : State) (d : Int) : Int :=
  ((s.mck.strokeAt : Int) - s.ntu.course) + (d * 32 + 30) * (s.strokeSize * 1000000000 : Nat) / (32 * (s.coreRate : Int))

end Sys2Proof.Machine
end

