-- ==== Sys2Proof/Machine/Ral.lean ====
section
/-! DEFINITION. The definition of a receive stream as its words give it, and the Rate Aligner: states, load, filter and
commands (R457, R481, R524 to R542). -/
namespace Sys2Proof.Machine

/-! ## The definition of a receive stream (R481) -/

/-- Definition word `i`, numbered from 1. -/
def RxStream.word (r : RxStream) (i : Nat) : Word := r.words.getD (i - 1) 0

def RxStream.format (r : RxStream) : Nat := fieldOf (r.word 1) 11 9
def RxStream.rateCode (r : RxStream) : Nat := fieldOf (r.word 1) 15 12
def RxStream.chans (r : RxStream) : Nat := fieldOf (r.word 1) 22 16
/-- Samples of an HLF block's stroke (R442). -/
def RxStream.blockSize (r : RxStream) : Nat := if bitOf (r.word 1) 23 then 16 else 8
def RxStream.async (r : RxStream) : Bool := bitOf (r.word 1) 26
def RxStream.latency (r : RxStream) : Nat := fieldOf (r.word 2) 25 16
def RxStream.x24 (r : RxStream) : Word := r.word 3
def RxStream.learn (r : RxStream) : Bool := bitOf (r.word 4) 7
def RxStream.dither (r : RxStream) : Bool := bitOf (r.word 7) 3
/-- ANCHOR = ARRIVAL; an asynchronous stream always anchors so (R476). -/
def RxStream.arrival (r : RxStream) : Bool := bitOf (r.word 7) 4 || r.async
/-- PORTS in force: bit p (R466, R488). -/
def RxStream.ports (r : RxStream) : Nat := fieldOf r.ctrl 9 8
def RxStream.onPort (r : RxStream) (p : Nat) : Bool := r.ports.testBit p
/-- The stream counts as enabled (R454). -/
def RxStream.enabled (r : RxStream) : Bool :=
  match r.state with
  | .waiting => true | .running => true | .draining => true | _ => false
/-- The stream accepts frames (R460). -/
def RxStream.accepting (r : RxStream) : Bool :=
  match r.state with
  | .waiting => true | .running => true | _ => false
/-- Positions 2j and 2j + 1 are an exact-24 pair. -/
def RxStream.pair (r : RxStream) (j : Nat) : Bool := decide (j < 32) && bitOf r.x24 j
/-- Position `c` is the even one of a pair. -/
def RxStream.isEven (r : RxStream) (c : Nat) : Bool := decide (c % 2 = 0) && r.pair (c / 2)
/-- Position `c` is the odd one of a pair. -/
def RxStream.isOdd (r : RxStream) (c : Nat) : Bool := decide (c % 2 = 1) && r.pair (c / 2)

/-- The positions that start a wire channel: all but the odd ones of pairs (R457). -/
def RxStream.wire (r : RxStream) : List Nat := (List.range r.chans).filter fun c => !(r.isOdd c)

/-- Code of SRX_STREAM_STATUS.STATE (R455). -/
def srxStateCode : SrxState → Nat
  | .undefined => 0 | .disabled => 1 | .waiting => 2 | .running => 3 | .draining => 4

/-- Change receive stream `n`, where it is defined. -/
def State.onRx (s : State) (n : Nat) (f : RxStream → RxStream) : State :=
  { s with srx := { s.srx with streams := tmod s.srx.streams n f } }

/-! ## Which streams convert, and their load (R524, R529, R536) -/

/-- The stream passes through the Rate Aligner at a core rate (R459, R524). -/
def RxStream.converts (r : RxStream) (code : Nat) : Bool := decide (r.rateCode ≠ code) || r.async

/-- Multiply-accumulates of one output sample, T (R529). -/
def ralT (rate core : Nat) : Nat := if rate ≤ core then 64 else (64 * rate + core - 1) / core

/-- T of a stream at the core rate with a code. -/
def RxStream.taps (r : RxStream) (code : Nat) : Nat := ralT (rateHz r.rateCode) (rateHz code)

/-- The load of a stream in MAC/s (R536). -/
def RxStream.load (r : RxStream) (code : Nat) : Nat :=
  if r.converts code then r.chans * r.taps code * rateHz code else 0

/-- The cap of the load (R536). -/
def ralCap : Nat := 7680000000

/-- The load of all defined converting streams (R536). -/
def ralLoadOf (code : Nat) (streams : Table RxStream) : Nat := (streams.map fun e => e.2.load code).sum

/-- Code of RAL_STREAM_STATUS.STATE (R532). -/
def ralStateCode : RalState → Nat
  | .bypass => 0 | .idle => 1 | .acquire => 2 | .locked => 3 | .hold => 4 | .shed => 5

/-- The Rate Aligner's part of stream `n`. -/
def State.ralOf (s : State) (n : Nat) : RalStream := tgetD s.ral n {}

/-- Change the Rate Aligner's part of stream `n`. -/
def State.onRal (s : State) (n : Nat) (f : RalStream → RalStream) : State := { s with ral := tmod s.ral n f }

/-- The Rate Aligner event of stream `n` is pending (R541). -/
def State.ralPending (s : State) (n : Nat) : Bool :=
  decide ((s.ralOf n).event &&& (s.ralOf n).eventEn ≠ 0)

/-- Set Rate Aligner event `i` of stream `n` (R541). -/
def State.ralFlag (s : State) (n i : Nat) : State :=
  s.withPend (fun s => s.ralPending n) Reg.RAL_EVENT 0 fun s => s.onRal n fun r => { r with event := r.event ||| (1 <<< i) }

/-! ## States (R532, R537) -/

/-- The numbers of the converting streams that the load rule admits, in ascending order (R537). -/
def ralAdmitted (code : Nat) : Table RxStream → Nat → List Nat
  | [], _ => []
  | (n, r) :: t, total =>
    if !(r.converts code) then ralAdmitted code t total
    else if total + r.load code ≤ ralCap then n :: ralAdmitted code t (total + r.load code)
    else []

/-- Admission of one stream (R532, R537). -/
def ralAdmit (ok : List Nat) (s : State) (e : Nat × RxStream) : State :=
  let n := e.1
  if !(e.2.converts s.rateCode) then s.onRal n fun r => { r with state := .bypass, eps := 0, hist := [], out := [] }
  else if has ok n then
    match (s.ralOf n).state with
    | .bypass => s.onRal n fun r => { r with state := .idle, lfsr := 1 + n }
    | .shed => s.onRal n fun r => { r with state := .idle }
    | _ => s
  else if (s.ralOf n).state = .shed then s
  else
    ((s.onRal n fun r => { r with state := .shed, hist := [], out := [] }).ralFlag n 4).flag Reg.RAL_EVENT 1

/-- Admission is evaluated at each commit of `SRX_DEFINE` and at each change of core rate (R537). -/
def ralEvaluate (s : State) : State :=
  let ok := ralAdmitted s.rateCode s.srx.streams 0
  s.srx.streams.foldl (ralAdmit ok) s

/-- Stream `n` anchors (R532). -/
def State.ralAnchor (s : State) (n : Nat) (async : Bool) : State :=
  if (s.ralOf n).state = .idle then
    s.onRal n fun r => { r with state := if async then .acquire else .locked, hist := [], out := [] }
  else s

/-- A re-anchor, a disable taking effect or entry to ISLAND, as the Rate Aligner sees it (R532). -/
def State.ralRelease (s : State) (n : Nat) : State :=
  match (s.ralOf n).state with
  | .locked => (s.onRal n fun r => { r with state := .idle, hist := [], out := [] }).ralFlag n 1
  | .acquire | .hold => s.onRal n fun r => { r with state := .idle, hist := [], out := [] }
  | _ => s

/-- RANGE in 10^-12; 0 acts as 1 and values above 100 act as 100 (R542). -/
def ralRange (ctrl : Word) : Int :=
  let v := fieldOf ctrl 15 8
  let k : Nat := if v = 0 then 1 else if 100 < v then 100 else v
  10000000 * (k : Int)

/-- A frame of stream `n` is accepted: HOLD ends; the loop of an asynchronous stream takes a new estimate of ε, whose value
the loop's gains give and the manual does not, held within RANGE, and moves the read position by at most one sample
(R531, R532). -/
def State.ralAccepted (s : State) (n : Nat) (async : Bool) : State :=
  match (s.ralOf n).state with
  | .hold => s.onRal n fun r => { r with state := .locked }
  | .acquire | .locked =>
    if !async then s else
    let (e, s1) := s.takeInt
    let (d, s2) := s1.takeInt
    let lim := ralRange (s.ralOf n).ctrl
    let s3 := (s2.onRal n fun r => { r with eps := clampI (-lim) lim e }).onRx n fun r =>
      { r with delta := r.delta + clampI (-1) 1 d }
    if e < -lim || lim < e then s3.ralFlag n 3 else s3
  | _ => s

/-- RAL_LOCK: the ratio loop of an asynchronous stream settles (R532). -/
def execRalLock (stream : Nat) (s : State) : Host.Outcome State Fault Refusal :=
  let s0 := fresh s
  .next (settle (if (s.ralOf stream).state = .acquire then
    (s0.onRal stream fun r => { r with state := .locked }).ralFlag stream 0 else s0))

/-- RAL_HOLD: a locked converting stream has had no frame for 10 ms (R532). -/
def execRalHold (stream : Nat) (s : State) : Host.Outcome State Fault Refusal :=
  let s0 := fresh s
  .next (settle (if (s.ralOf stream).state = .locked then
    (s0.onRal stream fun r => { r with state := .hold }).ralFlag stream 2 else s0))

/-! ## Conversion (R526 to R530, R533) -/

/-- The grid position at which R462 would present the sample with count `m` of a stream directly (R462, R526, R527). -/
def RxStream.gridPos (r : RxStream) (core size : Nat) (m : Int) : Int :=
  m * core / (rateHz r.rateCode : Int) + r.delta + (r.latency * size : Nat)

/-- The first and the last sample count whose grid position lies from `a` to `b`. -/
def RxStream.countSpan (r : RxStream) (core size : Nat) (a b : Int) : Int × Int :=
  let rate : Int := rateHz r.rateCode
  let base := r.delta + (r.latency * size : Nat)
  let lo := -((-(a - base) * rate) / core)
  let hi := ((b - base + 1) * rate + core - 1) / core - 1
  (lo, hi)

/-- The numbers of the input groups that the span of an output group starting at grid position `g` reads: every input
sample within 32 core periods of one of its eight samples (R526). -/
def RxStream.spanGroups (r : RxStream) (core size : Nat) (g : Int) : List Nat :=
  let (lo, hi) := r.countSpan core size (g - 32) (g + 39)
  let a := lo / 8
  let b := hi / 8
  (List.range (b - a + 1).toNat).map fun (i : Nat) => (a + i).toNat

/-- The input groups of position `c` that a span reads; an absent one is silence with MUTE and DISC (R15, R530). -/
def RalStream.reads (l : RalStream) (c : Nat) (ks : List Nat) : List Group :=
  ks.map fun k => tgetD l.hist (64 * k + c) silentDisc

/-- One output group: CONV set, flags ORed over the span, zeros where all the span's samples are zero, and otherwise the
values that the filter gives, which its unstated coefficients leave free (R529, R530). -/
def ralGroup (s : State) (mute : Bool) (ins : List Group) (dith : Bool) (lfsr : Nat) : Group × Nat × State :=
  let allMute := ins.all Group.mute
  let zero := ins.all fun g => (decode g).all fun x => decide (x = 0)
  let (xs, s1) := if allMute || zero then (List.replicate 8 (0 : Int), s)
    else s.takeInts 8 (-8388608) 8388607
  let (g, r) := encodeWith dith xs lfsr
  let g1 := { orFlags g (ins.any Group.disc) (ins.any Group.salv) (ins.any Group.rrw) with conv := true }
  (if allMute || mute then muteGroup g1 else g1, r, s1)

/-- Convert the stroke that begins at grid position `g0` for one position (R526, R527). -/
def ralPosition (r : RxStream) (l : RalStream) (core size : Nat) (g0 : Int) (mute dith : Bool) (c : Nat)
    (acc : List Group × Nat × State) : List Group × Nat × State :=
  (List.range (size / 8)).foldl (fun acc (i : Nat) =>
    let ins := l.reads c (r.spanGroups core size (g0 + 8 * i))
    let (g, lf, s1) := ralGroup acc.2.2 mute ins dith acc.2.1
    (acc.1 ++ [g], lf, s1)) ([], acc.2.1, acc.2.2)

/-- Convert the next stroke of every position of stream `n` (R527): the odd position of a pair stays silent (R525). -/
def ralConvert (n : Nat) (s : State) : State :=
  match tget s.srx.streams n with
  | none => s
  | some r =>
    let l := s.ralOf n
    let size := s.strokeSize
    let g0 : Int := ((if r.async then s.mck.stroke + 1 else s.nextStroke) * size : Nat)
    let working := match l.state with
      | .acquire => true | .locked => true | .hold => true | _ => false
    if !working then s.onRal n fun l => { l with out := [] } else
    let mute := decide (l.state = .acquire) && bitOf l.ctrl 0
    let run := (List.range r.chans).foldl (fun (acc : List (List Group) × Nat × State) c =>
      if r.isOdd c then (acc.1 ++ [List.replicate (size / 8) silent], acc.2) else
      let (gs, lf, s1) := ralPosition r l s.coreRate size g0 mute (bitOf l.ctrl 1) c ([], acc.2.1, acc.2.2)
      (acc.1 ++ [gs], lf, s1)) ([], l.lfsr, s)
    let keep := (r.countSpan s.coreRate size (g0 + size - 40) (g0 + size)).1 / 8
    run.2.2.onRal n fun l => { l with
      out := run.1, lfsr := run.2.1,
      hist := l.hist.filter fun e => decide (keep ≤ ((e.1 / 64 : Nat) : Int)) }

/-! ## Registers and commands (R538 to R542) -/

/-- RAL_STREAM_STATUS; an UNDEFINED stream reads as zero (R541, R542). -/
def State.ralStatusWord (s : State) (n : Nat) : Word :=
  match tget s.srx.streams n with
  | none => 0
  | some r =>
    let st := (s.ralOf n).state
    w32 (ralStateCode st + 2 ^ 3 * b2n r.async + 2 ^ 4 * (if st = .bypass then 0 else r.taps s.rateCode))

/-- RAL_STREAM_RATIO (R542). -/
def State.ralRatio (s : State) (n : Nat) : Word :=
  match tget s.srx.streams n with
  | none => 0
  | some r => if r.async then satWord (s.ralOf n).eps else 0

/-- The converting streams that are not SHED. -/
def State.ralActive (s : State) : Table RxStream :=
  s.srx.streams.filter fun e => match (s.ralOf e.1).state with
    | .bypass => false | .shed => false | _ => true

/-- RAL_STATUS (R542). -/
def State.ralStatus (s : State) : Word :=
  w32 (s.ralActive.length + 2 ^ 10 * (s.ralActive.map fun e => e.2.chans).sum
    + 2 ^ 22 * b2n (s.ral.any fun e => decide (e.2.state = .shed)))

/-- A load in units of 10^6 MAC/s, rounded up. -/
def megaLoad (n : Nat) : Nat := (n + 999999) / 1000000

/-- RAL_LOAD (R542). -/
def State.ralLoadWord (s : State) : Word :=
  w32 (megaLoad (ralLoadOf s.rateCode s.srx.streams) % 2 ^ 13 + 2 ^ 16 * 7680)

/-- RAL_STREAM_PEND[i] (R541). -/
def State.ralPendWord (s : State) (i : Nat) : Word :=
  w32 (bitsOfList ((List.range 32).filter fun j => s.ralPending (32 * i + j)))

/-- `RAL_CONFIG`, checks of the packet alone (R539). -/
def badRalConfig (x : Bool) (p : List Word) : Option Nat :=
  let v := p.getD 1 0
  if p.length ≠ (if x then 2 else 1) then some 0
  else if fieldOf (p.getD 0 0) 31 11 ≠ 0 then some 1
  else if x && (decide (fieldOf v 7 3 ≠ 0) || decide (fieldOf v 31 16 ≠ 0) || decide (fieldOf v 15 8 = 0)
      || decide (100 < fieldOf v 15 8)) then some 2
  else none

/-- `RAL_CONFIG` at its commit point (R538, R539). -/
def commitRalConfig (x : Bool) (p : List Word) (s : State) : State × Res :=
  let w := p.getD 0 0
  let n := fieldOf w 8 0
  match tget s.srx.streams n with
  | none => (s, .fail .badParam 1)
  | some r =>
    let old := (s.ralOf n).ctrl
    let low := fieldOf w 10 9
    let bw := if x then fieldOf (p.getD 1 0) 2 0 else 1
    let range := if x then fieldOf (p.getD 1 0) 15 8 else 50
    let new := w32 (low + 2 ^ 4 * bw + 2 ^ 8 * range)
    if r.enabled && decide (fieldOf old 1 0 ≠ low) then (s, .fail .staleWrite 1)
    else
      let s1 := (s.goodParity (bankedKey Reg.RAL_STREAM_CTRL n)).onRal n fun l => { l with ctrl := new }
      (s1, .ok [s1.ralStatusWord n] (decide (new ≠ old)))

/-- `RAL_QUERY`, checks of the packet alone (R540). -/
def badRalQuery (x : Bool) (p : List Word) : Option Nat :=
  if p.length ≠ 1 then some 0
  else if fieldOf (p.getD 0 0) 31 (if x then 9 else 0) ≠ 0 then some 1 else none

/-- The body of `RAL_QUERY` (R540). -/
def ralBody (s : State) (x : Bool) (n : Nat) : List Word :=
  if !x then [s.ralStatus, s.ralLoadWord]
  else match tget s.srx.streams n with
    | none => [0, 0, 0, 0]
    | some r => [s.ralStatusWord n, (s.ralOf n).ctrl, s.ralRatio n, w32 (megaLoad (r.load s.rateCode) % 2 ^ 13)]

/-- `RAL_QUERY` at its commit point (R540). -/
def commitRalQuery (x : Bool) (p : List Word) (s : State) : State × Res :=
  (s, .ok (ralBody s x (fieldOf (p.getD 0 0) 8 0)))

end Sys2Proof.Machine
end

