-- ==== Sys2Proof/Machine/Srx.lean ====
section
/-! DEFINITION. Receiving streams: frames checked and placed in the jitter buffers, presentation at the Catch, missing
blocks and re-row requests, anchoring, disabling, and the commands (R454 to R488). -/
namespace Sys2Proof.Machine

/-! ## Events and counters (R488) -/

/-- Receive stream `n`. -/
def State.rxStream (s : State) (n : Nat) : RxStream := tgetD s.srx.streams n { state := .undefined }

/-- The event of receive stream `n` is pending (R488). -/
def State.rxPending (s : State) (n : Nat) : Bool :=
  match tget s.srx.streams n with
  | some r => decide (r.event &&& r.eventEn ≠ 0)
  | none => false

/-- Set event `i` of receive stream `n` (R488). -/
def State.rxFlag (s : State) (n i : Nat) : State :=
  s.withPend (fun s => s.rxPending n) Reg.SRX_EVENT 0 fun s => s.onRx n fun r => { r with event := r.event ||| (1 <<< i) }

/-- Add to counter `i` of receive stream `n`, which saturates (R488). -/
def State.rxCount (s : State) (n i : Nat) (k : Nat := 1) : State :=
  if k = 0 then s else s.onRx n fun r => { r with cnt := listMod r.cnt i fun c => satNat 0xFFFFFFFF (c + k) }

/-- Discard a frame as a format error (R460). -/
def State.rxFormatErr (s : State) (n : Nat) : State := (s.rxCount n 5).rxFlag n 4

/-! ## Anchoring (R476, R477) -/

/-- A re-anchor of stream `n`: samples, sequence state and blocks awaiting re-row are dropped (R477). -/
def State.rxFlush (s : State) (n : Nat) : State :=
  (s.onRx n fun r => { r with
    state := .waiting, slots := [], expA := none, expB := none, missing := [], rerowed := [], runA := 0, runB := 0,
    lastMr := none, gap := BitVec.allOnes 64, ssrc := if r.learn then none else r.ssrc, other := none,
    otherMany := false, otherAt := 0 }).ralRelease n

/-- A re-anchor with its event (R477). -/
def State.rxReanchor (s : State) (n : Nat) : State := (s.rxFlush n).rxFlag n 0

/-- Entry to ISLAND, as the receive streams see it: they accept no frame until SERVICE (R84, R455). -/
def srxIslandEntry (s : State) : State :=
  s.srx.streams.foldl (fun s e =>
    if e.2.accepting then (s.rxFlush e.1).onRx e.1 fun r => { r with shut := true } else s) s

/-- SERVICE is entered: the streams that ISLAND has shut re-anchor (R84, R455, R477). -/
def srxIslandReturn (s : State) : State :=
  s.srx.streams.foldl (fun s e =>
    if e.2.accepting && e.2.shut then (s.rxReanchor e.1).onRx e.1 fun r => { r with shut := false } else s) s

/-- The RELEARN_MS of a stream in ns (R461, R481). -/
def RxStream.relearnNs (r : RxStream) : Nat := 1000000 * fieldOf (r.word 9) 15 8

/-- SSRC_RELEARN: no frame with the learned SSRC has come for RELEARN_MS while frames of one other SSRC have: a further SSRC
heard in that time holds it back (R461). -/
def execSsrcRelearn (stream : Nat) (s : State) : Host.Outcome State Fault Refusal :=
  let s0 := fresh s
  let r := s.rxStream stream
  let single := !r.otherMany || decide (r.otherAt + r.relearnNs ≤ s.ntu.course)
  .next (settle (if r.accepting && r.learn && r.ssrc.isSome && r.other.isSome && single then
    (s0.rxReanchor stream).onRx stream fun r => { r with relearn := true } else s0))

/-- SRX_PORT_LOST: one of two selected ports has had no accepted frame for 10 ms while the other has (R466). -/
def execSrxPortLost (stream port : Nat) (s : State) : Host.Outcome State Fault Refusal :=
  let s0 := fresh s
  let r := s.rxStream stream
  let other := if port = 0 then r.accB else r.accA
  .next (settle (if r.accepting && decide (r.ports = 3) && decide (port < 2) && other.isSome then s0.rxFlag stream 8
    else s0))

/-! ## Where a sample goes (R462, R527) -/

/-- The stroke at whose Catch the sample with count `m` is due. -/
def RxStream.due (r : RxStream) (s : State) (m : Int) : Int :=
  let q := r.gridPos s.coreRate s.strokeSize m
  let size : Int := s.strokeSize
  if r.converts s.rateCode then (q - 32 - size) / size else q / size

/-- The slot group of the sample with count `m`, and its place in it. -/
def RxStream.place (r : RxStream) (s : State) (m : Int) : Nat × Nat :=
  let x := if r.converts s.rateCode then m else r.gridPos s.coreRate s.strokeSize m
  ((x / 8).toNat, (x % 8).toNat)

/-- The slot of a group and position. -/
def RxStream.slot (r : RxStream) (g c : Nat) : Slot := tgetD r.slots (64 * g + c) {}

/-! ## Encoding of standard-format samples (R463) -/

/-- The samples of a slot, eight of them, none where nothing is written. -/
def slotSamps (sl : Slot) : List (Option Samp) := (sl.samps ++ List.replicate 8 none).take 8

/-- Encode the samples of a slot; missing ones are zeros and the group carries DISC (R463). -/
def encodeSlot (dith pair : Bool) (sl : Slot) (lfsr : Nat) : Group × Option Group × Nat :=
  let ss := slotSamps sl
  let xs := ss.map fun o => match o with | some x => x.x | none => 0
  let (g, lf) := encodeWith (dith && !pair) xs lfsr
  let g1 := orFlags g (sl.disc || ss.any Option.isNone) sl.salv false
  (g1, if pair then some (oddGroup xs g1) else none, lf)

/-- Encode a slot whose eight samples are all written and firm (R463, R468). -/
def tryEncode (dith pair : Bool) (sl : Slot) (lfsr : Nat) : Slot × Nat :=
  if sl.grp.isSome then (sl, lfsr)
  else if (slotSamps sl).all fun o => match o with | some x => !x.prov | none => false then
    let (g, o, lf) := encodeSlot dith pair sl lfsr
    ({ sl with grp := some g, odd := o, samps := [] }, lf)
  else (sl, lfsr)

/-- Encode the slots of a stream that are complete, stroke by stroke, by position and then in time order (R430). -/
def encodeReady (groups : Nat) (r : RxStream) : RxStream :=
  let keys := (r.slots.map fun e => e.1).mergeSort fun a b =>
    let ka := (a / 64 / groups, a % 64, a / 64)
    let kb := (b / 64 / groups, b % 64, b / 64)
    decide (ka.1 < kb.1) || (decide (ka.1 = kb.1) && (decide (ka.2.1 < kb.2.1)
      || (decide (ka.2.1 = kb.2.1) && decide (ka.2.2 ≤ kb.2.2))))
  keys.foldl (fun r k =>
    let (sl, lf) := tryEncode r.dither (r.isEven (k % 64)) (tgetD r.slots k {}) r.lfsr
    { r with slots := tset r.slots k sl, lfsr := lf }) r

/-! ## Presentation at the Catch (R462 to R464, R478) -/

/-- The content of a slot at its Catch: its group, with the odd one of a pair; none where it is absent (R463). -/
def slotContent (dith pair : Bool) (sl : Slot) (lfsr : Nat) : Option (Group × Option Group) × Nat :=
  match sl.grp with
  | some g => (some (g, sl.odd), lfsr)
  | none =>
    if sl.samps.any Option.isSome then
      let (g, o, lf) := encodeSlot dith pair sl lfsr
      (some (g, o), lf)
    else (none, lfsr)

/-- One group handed over: its flags under R464, and whether it was absent. -/
def handGroup (r : RxStream) (c : Nat) (content : Option (Group × Option Group)) (gapNow : Bool) :
    Group × Option Group × Bool :=
  let mute := bitOf r.ctrl 0
  match content with
  | none => (silentDisc, if r.isEven c then some silentDisc else none, true)
  | some (g, o) =>
    let f := fun (g : Group) =>
      let g1 := orFlags g gapNow false false
      if mute then muteGroup g1 else g1
    (f g, o.map f, false)

/-- Hand over the groups `ks` of position `c`: the groups, the odd groups, and the stream after it with whether any was
absent. -/
def handPosition (r : RxStream) (ks : List Nat) (c : Nat) : Stroke × RxStream × Bool :=
  let run := ks.foldl (fun (acc : List Group × List Group × RxStream × Bool) k =>
    let r := acc.2.2.1
    let (content, lf) := slotContent r.dither (r.isEven c) (r.slot k c) r.lfsr
    let (g, o, absent) := handGroup r c content (r.gap.getLsbD c)
    let gap := if absent then r.gap ||| ((1 : BitVec 64) <<< c) else r.gap &&& ~~~((1 : BitVec 64) <<< c)
    (acc.1 ++ [g], acc.2.1 ++ o.toList, { r with lfsr := lf, gap := gap }, acc.2.2.2 || absent)) ([], [], r, false)
  ({ groups := run.1, odd := if r.isEven c then some run.2.1 else none }, run.2.2.1, run.2.2.2)

/-- Sample `i` of a fade over `size` samples (R478). -/
def fadeAt (size i : Nat) (x : Int) : Int := roundDiv (x * ((size - i : Nat) : Int)) size

/-- The fade of a stroke: decoded, weighted, and encoded again without dither, flags kept (R478). -/
def fadeStroke (st : Stroke) : Stroke :=
  let size := 8 * st.groups.length
  let xs := strokeValues st
  let ys := (List.range size).map fun i => fadeAt size i (xs.getD i 0)
  let enc := (st.groups.zip (eights st.groups.length ys)).map fun p =>
    let e := encode p.2
    ({ p.1 with exp := if p.1.mute then 0 else e.exp, m := if p.1.mute then List.replicate 8 0 else e.m }, p.2)
  { groups := enc.map Prod.fst,
    odd := match st.odd with
      | some _ => some (enc.map fun p => oddGroup p.2 p.1)
      | none => none }

/-- The groups that are due at the Catch of stroke `k`. -/
def RxStream.dueGroups (r : RxStream) (s : State) (k : Nat) : List Nat :=
  let size := s.strokeSize
  if r.converts s.rateCode then
    let a : Int := (k * size + 32 + size : Nat)
    let (lo, hi) := r.countSpan s.coreRate size a (a + size - 1)
    let g0 := lo / 8
    (List.range ((hi + 1) / 8 - g0).toNat).map fun (i : Nat) => (g0 + i).toNat
  else (List.range s.strokeGroups).map fun i => k * s.strokeGroups + i

/-- The strokes that a converting stream hands over: the Rate Aligner's output of the stroke before; in IDLE and SHED its
IDs deliver nothing, under R15 (R527, R533). -/
def ralHand (s : State) (n : Nat) (r : RxStream) : Table Stroke :=
  let l := s.ralOf n
  let on := match l.state with | .acquire => true | .locked => true | .hold => true | _ => false
  (List.range r.chans).filterMap fun c =>
    match (r.map.getD c none) with
    | none => none
    | some id => some (id, if on && decide (l.out ≠ []) then { groups := l.out.getD c [] } else lostStroke s.strokeGroups)

/-- The stroke of position `c` fails its CRC where `bad` holds its ID; the check of an HLF block covers every channel
(R42, R446). -/
def RxStream.failed (r : RxStream) (bad : List Nat) (c : Nat) : Bool :=
  if r.format = 0 then r.map.any fun o => match o with | some id => has bad id | none => false
  else match r.map.getD c none with
    | some id => has bad id
    | none => false

/-- The Catch of one receive stream: what its IDs deliver, and the stream after it. `bad` holds the IDs whose stroke fails
its CRC (R42, R530). -/
def catchRx (bad : List Nat) (acc : Table Stroke × State) (e : Nat × RxStream) : Table Stroke × State :=
  let (n, r) := e
  let s := acc.2
  let k := s.mck.stroke
  let conv := r.converts s.rateCode
  let ks := r.dueGroups s k
  let run := (r.wire).foldl (fun (a : List (Nat × Stroke) × RxStream × Bool) c =>
    let (st, r1, absent) := handPosition a.2.1 ks c
    (a.1 ++ [(c, st)], r1, a.2.2 || absent)) ([], r, false)
  let r1 := run.2.1
  let fade := r.live && decide (r.state = .draining) && (match r.fade with | some f => decide (f ≤ k) | none => true)
  let last := match ks.getLast? with | some g => 64 * (g + 1) | none => 0
  let r2 := { r1 with
    slots := if ks = [] then r1.slots else r1.slots.filter fun e => decide (last ≤ e.1),
    missing := r1.missing.filter fun m => decide ((k : Int) < r.due s m.pos),
    fadeNow := fade }
  let s1 := s.onRx n fun _ => r2
  if !r.live then (acc.1, s1) else
  let s2 := if run.2.2 then (s1.rxCount n 3).rxFlag n 3 else s1
  if conv then
    let ins := run.1.flatMap fun p => (ks.zip p.2.groups).map fun q =>
      (64 * q.1 + p.1, if r.failed bad p.1 then silentDisc else q.2)
    let s3 := s2.onRal n fun l => { l with hist := ins.foldl (fun t x => tset t x.1 x.2) l.hist }
    let s4 := if (r.wire).any fun c => r.failed bad c then s3.ralFlag n 5 else s3
    let outs := (ralHand s n r).map fun x => (x.1, if fade then fadeStroke x.2 else x.2)
    (outs.foldl (fun t x => tset t x.1 x.2) acc.1, s4)
  else
    let outs := run.1.flatMap fun p =>
      match r.map.getD p.1 none with
      | none => []
      | some id => [(id, if fade then fadeStroke p.2 else p.2)]
    (outs.foldl (fun t x => tset t x.1 x.2) acc.1, s2)

/-- The Catch of SRX: the strokes that the network receive sources deliver. In ISLAND every jitter buffer is empty, so each
group is absent: silence with MUTE and DISC, and counted (R15, R28, R464). -/
def srxCatch (bad : List Nat) (s : State) : Table Stroke × State := s.srx.streams.foldl (catchRx bad) ([], s)

/-- The IDs whose strokes an internal failure of source `id` replaces: all those of an HLF stream's block (R446). -/
def State.rxShares (s : State) (id : Nat) : List Nat :=
  match s.srx.streams.find? fun e => e.2.map.any fun o => decide (o = some id) with
  | some e => if e.2.format = 0 && !(e.2.converts s.rateCode) then e.2.map.filterMap (fun o => o) else [id]
  | none => [id]

/-! ## Missing blocks (R469 to R471) -/

/-- Blocks that await re-row, across all streams (R473, R488). -/
def State.rrOutstanding (s : State) : Nat :=
  (s.srx.streams.map fun e =>
    (e.2.missing.filter fun m => (m.toAsk || decide (0 < m.asks)) && !m.gone).length).sum

/-- A block that cannot be asked (R473). -/
def State.rrSkipped (s : State) (k : Nat := 1) : State :=
  if k = 0 then s else (s.bump Reg.SRX_RR_SKIPPED k).flag Reg.SRX_EVENT 1

/-- Time in ns until the re-row deadline of a block (R471). -/
def State.rrTime (s : State) (r : RxStream) (pos : Int) : Int := s.untilRecovery (r.due s pos - 1 - s.mck.stroke)

/-- R471 permits a request for a block now. -/
def State.rrMayAsk (s : State) (r : RxStream) (pos : Int) : Bool :=
  let hdr := if r.lastPort = 0 then r.hdrA else r.hdrB
  bitOf (r.word 7) 1 && bitOf r.ctrl 2 && (match hdr with | some h => h.rr | none => false)
    && decide ((fieldOf (r.word 7) 31 16 * 1000 : Nat) ≤ s.rrTime r pos)

/-- Every selected port has marked the block missing (R470). -/
def allMarked (r : RxStream) (m : Missing) : Bool :=
  (!(r.onPort 0) || m.marks.getLsbD 0) && (!(r.onPort 1) || m.marks.getLsbD 1)

/-- Change every missing block of a stream. -/
def RxStream.onMiss (r : RxStream) (f : Missing → Missing) : RxStream := { r with missing := r.missing.map f }

/-- Change the missing block with sequence number `seq` of stream `n`. -/
def State.onMissing (s : State) (n seq : Nat) (f : Missing → Missing) : State :=
  s.onRx n fun r => { r with missing := r.missing.map fun m => if m.seq = seq then f m else m }

/-- A block is detected missing: it waits to be asked where R471 and the limit of R473 permit. -/
def State.rrDetect (s : State) (n seq : Nat) : State :=
  let r := s.rxStream n
  match r.missing.find? fun m => decide (m.seq = seq) with
  | none => s
  | some m =>
    if m.detected then s else
    let s1 := s.onMissing n seq fun m => { m with detected := true }
    if !(s.rrMayAsk r m.pos) then s1
    else if 1024 ≤ s.rrOutstanding then s1.rrSkipped
    else s1.onMissing n seq fun m => { m with toAsk := true }

/-- The slot of a block is filled: its first group is written (R466). -/
def RxStream.blockFull (r : RxStream) (s : State) (pos : Int) : Bool :=
  (r.slot (r.place s pos).1 0).grp.isSome

/-- Mark a block missing on port `p`, or delivered there with a failed CRC (R469, R470). -/
def State.rrMark (s : State) (n p seq : Nat) (pos : Int) : State :=
  let r := s.rxStream n
  if r.blockFull s pos || decide (r.due s pos ≤ s.mck.stroke) then s else
  let bit : BitVec 2 := if p = 0 then 1 else 2
  let r1 := if r.missing.any fun m => decide (m.seq = seq) then r
    else { r with missing := r.missing ++ [{ seq := seq, pos := pos }] }
  let s1 := (s.onRx n fun _ => r1).onMissing n seq fun m => { m with marks := m.marks ||| bit }
  match (s1.rxStream n).missing.find? fun m => decide (m.seq = seq) with
  | some m => if allMarked r m then s1.rrDetect n seq else s1
  | none => s1

/-- RR_WAIT_EXPIRED: a port that has not reported the block counts as having done so (R470). -/
def execRrWaitExpired (stream seq : Nat) (s : State) : Host.Outcome State Fault Refusal :=
  .next (settle ((fresh s).rrDetect stream seq))

/-- RR_RETRY_EXPIRED: a block still missing RR_RETRY after its first ask is asked once more if R471 holds (R473). -/
def execRrRetryExpired (stream seq : Nat) (s : State) : Host.Outcome State Fault Refusal :=
  let s0 := fresh s
  let r := s.rxStream stream
  .next (settle (match r.missing.find? fun m => decide (m.seq = seq) with
    | none => s0
    | some m => if m.asks = 1 && !m.gone && !m.toAsk && s.rrMayAsk r m.pos then
        s0.onMissing stream seq fun m => { m with toAsk := true } else s0))

/-! ## Accepting a frame (R460 to R469, R474) -/

/-- What a frame brings to its stream once its headers pass. -/
structure MediaIn where
  port : Nat
  stamp : Nat
  /-- Error flags are set and the frame is salvaged (R467, R468). -/
  bad : Bool
  /-- Sample count of the first sample. -/
  count : Int
  /-- Samples of the packet, per channel. -/
  samples : Nat
  seq : Nat
  /-- Modulus of the sequence numbers. -/
  seqMod : Nat
  ssrc : Nat
  /-- HLF blocks: the groups of each position, none where the CRC fails or a group is invalid. -/
  blocks : List (Option (List (List Group))) := []
  /-- Standard formats: for each sample frame, the values of the wire channels. -/
  frames : List (List Int) := []
  mr : Option Bool := none
  hdr : Option PeerHdr := none
  deriving DecidableEq, Repr

/-- The groups of a block, position by position (R444). -/
def parseBlock (chans g : Nat) (bs : List Byte) : Option (List (List Group)) :=
  let n := 21 * chans * g
  if crc32c (bs.take n) ≠ beAt bs n 4 then none
  else
    let gs := (List.range (chans * g)).map fun i => parseGroup (slice bs (21 * i) 21)
    if gs.any Option.isNone then none
    else some ((List.range chans).map fun c => (List.range g).map fun j => ((gs.getD (c * g + j) none)).getD silentDisc)

/-- An HLF payload that passes R445. -/
def readHlf (r : RxStream) (port stamp : Nat) (bad : Bool) (f : Parsed) (t : Rtp) : Option MediaIn :=
  let u := t.payload
  let b0 := beAt u 0 1
  let nblk := beAt u 1 1 % 16
  let size := r.blockSize
  let g := size / 8
  let blen := 21 * r.chans * g + 4
  let seq := beAt u 4 2
  let rate := rateHz r.rateCode
  let ok := decide (b0 / 16 = 1) && decide (b0 % 4 = 0) && decide (beAt u 6 2 / 512 = 0)
    && decide (beAt u 1 1 / 16 = r.rateCode) && decide (b0.testBit 2 = decide (size = 16))
    && decide (beAt u 2 1 = r.chans) && decide (beAt u 3 1 = r.x24.toNat % 256)
    && decide (1 ≤ nblk) && decide (nblk ≤ 6) && decide (u.length = 8 + nblk * blen)
    && decide (t.ts % size = 0) && decide (seq = t.ts / size % 65536)
  if !ok then none else
  some { port := port, stamp := stamp, bad := bad, count := rtpCount t.ts 0 rate stamp, samples := nblk * size,
         seq := seq, seqMod := 65536, ssrc := t.ssrc,
         blocks := (List.range nblk).map fun i => parseBlock r.chans g (slice u (8 + i * blen) blen),
         hdr := some { mac := f.src, ip6 := f.ip6, ip := f.ipSrc, tag := if f.tagged then some f.tci else none,
                       sport := f.sport, txStream := beAt u 6 2 % 512, rr := b0.testBit 3 } }

/-- Bytes of a sample on the wire in a standard format (R449, R451). -/
def wireBytes (format : Nat) : Nat :=
  match format with
  | 1 => 2 | 3 => 2 | 2 => 3 | 4 => 3 | _ => 4

/-- The sample frames of a standard-format payload (R436, R449). -/
def readFrames (format wires : Nat) (u : List Byte) : List (List Int) :=
  let b := wireBytes format
  (List.range (u.length / (b * wires))).map fun i => (List.range wires).map fun w =>
    entryValue (8 * b) (beAt u ((i * wires + w) * b) b)

/-- The length of a standard-format payload is good: a whole number of sample frames, 1 to 192 (R449, R452). -/
def framesOk (format wires len : Nat) : Bool :=
  let b := wireBytes format * wires
  decide (0 < b) && decide (len % b = 0) && decide (1 ≤ len / b) && decide (len / b ≤ 192)

/-- An L16 or L24 payload that passes R449. -/
def readRtp (r : RxStream) (port stamp : Nat) (bad : Bool) (t : Rtp) : Option MediaIn :=
  let wires := r.wire.length
  if !(framesOk r.format wires t.payload.length) then none else
  some { port := port, stamp := stamp, bad := bad, ssrc := t.ssrc, seq := t.seq, seqMod := 65536,
         count := rtpCount t.ts (r.word 6).toNat (rateHz r.rateCode) stamp,
         samples := t.payload.length / (wireBytes r.format * wires), frames := readFrames r.format wires t.payload }

/-- The nsr code of a rate (R451). -/
def nsrCode (rate : Nat) : Nat :=
  match rate with
  | 0 => 0x2 | 1 => 0xA | 2 => 0x3 | 3 => 0x4 | 4 => 0x5 | 5 => 0x6 | _ => 0x7

/-- The AAF format code of a FORMAT (R450). -/
def aafFormat (format : Nat) : Nat := if format = 3 then 4 else if format = 4 then 3 else 2

/-- The transit offset of an AAF stream in ns; 0 means the link latency (R453, R481). -/
def RxStream.transit (r : RxStream) (s : State) : Nat :=
  if r.word 8 = 0 then r.latency * s.strokeSize * 1000000000 / s.coreRate else (r.word 8).toNat

/-- An AAF frame that passes R452. -/
def readAaf (s : State) (r : RxStream) (port stamp : Nat) (bad : Bool) (a : Aaf) : Option MediaIn :=
  let wires := r.wire.length
  let depthOk := if r.format = 3 then decide (a.depth = 16)
    else if r.format = 4 then decide (a.depth = 24) else decide (a.depth = 24) || decide (a.depth = 32)
  let ok := decide (a.subtype = 2) && a.sv && decide (a.version = 0) && a.tv && !a.sp
    && decide (a.streamId = (r.word 6).toNat * 2 ^ 32 + (r.word 5).toNat) && decide (a.format = aafFormat r.format)
    && decide (a.nsr = nsrCode r.rateCode) && decide (a.chans = wires) && depthOk
    && decide (a.payload.length = a.len) && framesOk r.format wires a.len
  if !ok then none else
  let cap := extendNear 32 a.ts (stamp : Int) - r.transit s
  some { port := port, stamp := stamp, bad := bad, ssrc := 0, seq := a.seq, seqMod := 256,
         count := roundDiv (cap * rateHz r.rateCode) 1000000000,
         samples := a.len / (wireBytes r.format * wires), frames := readFrames r.format wires a.payload, mr := some a.mr }

/-- Steps 1 and 2 of R460, with the payload read. -/
def readMedia (s : State) (r : RxStream) (d : RxFrame) : Option MediaIn :=
  let f := parseFrame d.bytes
  let bad := d.fcsErr || d.alignErr || d.symErr
  if 3 ≤ r.format then
    if f.etype ≠ 0x22F0 then none else readAaf s r d.port d.stamp bad (parseAaf (d.bytes.dropLast.dropLast.dropLast.dropLast) f.l3)
  else if !f.udp || !f.udpOk || f.frag then none
  else match parseRtp f.payload with
    | none => none
    | some t =>
      if t.pt ≠ fieldOf (r.word 4) 6 0 then none
      else if r.format = 0 then readHlf r d.port d.stamp bad f t else readRtp r d.port d.stamp bad t

/-- Step 3 of R460: the SSRC passes R461. -/
def ssrcOk (r : RxStream) (m : MediaIn) : Bool :=
  if 3 ≤ r.format then true
  else if r.learn then (match r.ssrc with | some x => decide (x = m.ssrc) | none => true)
  else decide ((r.word 5).toNat = m.ssrc)

/-- The anchor of a stream at frame `m` (R461, R476). -/
def anchorAt (s : State) (r : RxStream) (m : MediaIn) : RxStream :=
  let core := s.coreRate
  let rate : Int := rateHz r.rateCode
  let pos := m.count * core / rate
  let want := ((m.stamp * core / 1000000000 : Nat) : Int) - (m.samples : Int) * core / rate
  let raw := want - pos
  let delta := if !r.arrival then 0 else if r.format = 0 then 8 * roundDiv raw 8 else raw
  { r with state := .running, delta := delta, ssrc := if r.learn then some m.ssrc else r.ssrc,
           gap := BitVec.allOnes 64, expA := none, expB := none, lfsr := r.lfsr }

/-- What placing a frame came to. -/
structure Placed where
  r : RxStream
  /-- First sample count written. -/
  first : Option Int := none
  late : Nat := 0
  dup : Nat := 0
  salvaged : Nat := 0
  crcBad : Nat := 0
  lateRerow : Nat := 0
  /-- Blocks delivered with a failed CRC: sequence number and sample count. -/
  failed : List (Nat × Int) := []
  deriving DecidableEq, Repr

/-- The blocks awaiting re-row lose the one that has come. -/
def RxStream.unmiss (r : RxStream) (seq : Nat) : RxStream :=
  { r with missing := r.missing.filter fun m => decide (m.seq ≠ seq) }

/-- Write a whole block into its slots (R462, R466, R467). -/
def writeBlock (s : State) (r : RxStream) (pos : Int) (salv : Bool) (gs : List (List Group)) : RxStream :=
  let g0 := (r.place s pos).1
  let fl := fun (g : Group) => orFlags g false salv false
  { r with slots := r.wire.foldl (fun t c =>
      (List.range (gs.getD c []).length).foldl (fun t j =>
        let g := fl ((gs.getD c []).getD j silentDisc)
        let o := if r.isEven c then some (fl ((gs.getD (c + 1) []).getD j silentDisc)) else none
        tset t (64 * (g0 + j) + c) { grp := some g, odd := o }) t) r.slots }

/-- The re-row deadline of a block has not passed (R471, R474). -/
def State.rerowInTime (s : State) (r : RxStream) (pos : Int) : Bool :=
  let d := r.due s pos
  decide ((s.mck.stroke : Int) < d - 1) || (decide ((s.mck.stroke : Int) = d - 1) && decide (s.mck.part ≠ .recovered))

/-- Place block `i` of an HLF frame (R462, R466, R467, R474). -/
def placeBlock (s : State) (m : MediaIn) (p : Placed) (i : Nat) : Placed :=
  let r := p.r
  let pos := m.count + (i * r.blockSize : Nat)
  let seq := (m.seq + i) % 65536
  match m.blocks.getD i none with
  | none => { p with crcBad := p.crcBad + 1, failed := p.failed ++ [(seq, pos)] }
  | some gs =>
    if gs.all fun c => c.all Group.rrw then
      if r.blockFull s pos then { p with dup := p.dup + 1 }
      else if s.rerowInTime r pos then
        { p with r := { r.unmiss seq with rerowed := r.rerowed ++ [{ seq := seq, pos := pos, port := m.port, groups := gs,
                                                                            salv := m.bad }] },
                 first := p.first.or (some pos), salvaged := p.salvaged + b2n m.bad }
      else { p with lateRerow := p.lateRerow + 1 }
    else if r.due s pos ≤ s.mck.stroke then { p with late := p.late + 1 }
    else if r.blockFull s pos then { p with dup := p.dup + 1 }
    else { p with r := writeBlock s (r.unmiss seq) pos m.bad gs, first := p.first.or (some pos),
                  salvaged := p.salvaged + b2n m.bad }

/-- Write one sample of a wire channel: a firm sample fills an empty or a provisional place, a provisional one an empty
place (R463, R466, R468). SALV stands while a provisional sample does. The flag says whether it was written. -/
def writeSample (r : RxStream) (g i c : Nat) (x : Int) (prov disc : Bool) : RxStream × Bool :=
  let sl := r.slot g c
  if sl.grp.isSome then (r, false) else
  let ss := slotSamps sl
  let free := match ss.getD i none with | none => true | some y => y.prov && !prov
  if !free then (r, false)
  else
    let ss' := listMod ss i fun _ => some { x := x, prov := prov }
    let sl' := { sl with samps := ss', salv := ss'.any fun o => match o with | some y => y.prov | none => false,
                         disc := sl.disc || disc }
    ({ r with slots := tset r.slots (64 * g + c) sl' }, true)

/-- Place sample frame `i` of a standard-format packet (R462, R463). -/
def placeFrame (s : State) (m : MediaIn) (disc : Bool) (p : Placed) (i : Nat) : Placed :=
  let r := p.r
  let n := m.count + i
  if r.due s n ≤ s.mck.stroke then { p with late := 1 } else
  let (g, j) := r.place s n
  let xs := m.frames.getD i []
  let run := (List.range r.wire.length).foldl (fun (a : RxStream × Bool) w =>
    let (r1, ok) := writeSample a.1 g j (r.wire.getD w 0) (xs.getD w 0) m.bad (disc && p.first.isNone)
    (r1, a.2 || ok)) (r, false)
  { p with r := run.1, first := if run.2 then p.first.or (some n) else p.first }

/-- Some sample of the frame is due beyond the stream's link latency (R462). -/
def tooEarly (s : State) (r : RxStream) (m : MediaIn) : Bool :=
  decide (((s.mck.stroke + r.latency : Nat) : Int) < r.due s (m.count + (m.samples - 1 : Nat)))

/-- Place a frame whole (R462). -/
def placeMedia (s : State) (r : RxStream) (m : MediaIn) : Placed :=
  if r.format = 0 then (List.range m.blocks.length).foldl (placeBlock s m) { r := r }
  else
    let disc := match m.mr, r.lastMr with | some a, some b => decide (a ≠ b) | _, _ => false
    let p := (List.range m.samples).foldl (placeFrame s m disc) { r := { r with lastMr := m.mr.or r.lastMr } }
    let dup := if p.first.isNone && decide (p.late = 0) then 1 else 0
    { p with r := encodeReady s.strokeGroups p.r, dup := dup }

/-- The next expected sequence number of a port. -/
def RxStream.exp (r : RxStream) (p : Nat) : Option Nat := if p = 0 then r.expA else r.expB

/-- Blocks or packets of a frame in its sequence (R469). -/
def MediaIn.span (m : MediaIn) : Nat := if m.blocks = [] then 1 else m.blocks.length

/-- The sequence numbers between the expected one and the frame's first, where the frame is ahead (R469). -/
def seqGap (r : RxStream) (m : MediaIn) : Nat :=
  match r.exp m.port with
  | none => 0
  | some e => let d := (m.seq + m.seqMod - e) % m.seqMod; if d < m.seqMod / 2 then d else 0

/-- The expected number after a frame: past its last block, unless the frame lies behind (R469). -/
def nextExp (r : RxStream) (m : MediaIn) : Nat :=
  match r.exp m.port with
  | none => (m.seq + m.span) % m.seqMod
  | some e => if (m.seq + m.seqMod - e) % m.seqMod < m.seqMod / 2 then (m.seq + m.span) % m.seqMod else e

/-- The margin of an accepted frame in whole µs (R464). -/
def marginUs (s : State) (r : RxStream) (first : Int) : Nat :=
  let d := r.due s first - s.mck.stroke
  let ns := ((s.mck.strokeAt : Int) - s.ntu.course) + d * (s.strokeSize * 1000000000 : Nat) / (s.coreRate : Int)
  satNat 0xFFFE (ns / 1000).toNat

/-- Count the discard of a frame as EARLY or LATE, and re-anchor after REANCHOR_N on every selected port (R477). -/
def State.rxDiscard (s : State) (n p : Nat) : State :=
  let s1 := s.onRx n fun r => if p = 0 then { r with runA := r.runA + 1 } else { r with runB := r.runB + 1 }
  let r := s1.rxStream n
  let lim := fieldOf (r.word 9) 7 0
  if (!(r.onPort 0) || decide (lim ≤ r.runA)) && (!(r.onPort 1) || decide (lim ≤ r.runB)) then s1.rxReanchor n else s1

/-- An accepted frame: the stream after it, its counters, and the missing blocks it reveals (R464, R466 to R470). -/
def State.rxAccept (s : State) (n : Nat) (r0 : RxStream) (m : MediaIn) (p : Placed) : State :=
  let r1 := p.r
  let gap := seqGap r1 m
  let now := s.ntu.course
  let r2 := if m.port = 0 then { r1 with expA := some (nextExp r1 m), accA := some now, hdrA := m.hdr.or r1.hdrA, runA := 0 }
    else { r1 with expB := some (nextExp r1 m), accB := some now, hdrB := m.hdr.or r1.hdrB, runB := 0 }
  let r3 := { r2 with lastPort := m.port, other := none, otherMany := false, relearn := false,
                      margin := match p.first with
                        | some f => Nat.min r2.margin (marginUs s r1 f)
                        | none => r2.margin }
  let anchored := decide (r0.state = .waiting)
  let s1 := s.onRx n fun _ => r3
  let s2 := if anchored then s1.ralAnchor n r3.async else s1
  let s3 := s2.ralAccepted n r3.async
  let s4 := if anchored && r0.relearn then s3.rxFlag n 6 else s3
  let s5 := s4.rxCount n 0 (b2n p.first.isSome)
  let s6 := if p.late = 0 then s5 else (s5.rxCount n 1 p.late).rxFlag n 1
  let s7 := ((((((s6.rxCount n 4 p.dup).stat m.port 38 p.crcBad).stat m.port 40 p.late).stat m.port 41 p.salvaged).stat
    m.port 43 p.lateRerow).stat m.port 39 gap)
  if r3.format ≠ 0 then s7 else
  let lost := (List.range gap).map fun i =>
    let back := gap - i
    ((m.seq + 65536 - back) % 65536, m.count - (back * r3.blockSize : Nat))
  (lost ++ p.failed).foldl (fun s e => s.rrMark n m.port e.1 e.2) s7

/-- A frame with the wrong SSRC: a format error, noted for the relearn of R461. -/
def State.rxWrongSsrc (s : State) (n ssrc : Nat) : State :=
  (s.onRx n fun r =>
    let now := s.ntu.course
    match r.other with
    | some x =>
      if x = ssrc then { r with otherMany := r.otherMany && decide (now < r.otherAt + r.relearnNs) }
      else { r with other := some ssrc, otherMany := true, otherAt := now }
    | none => { r with other := some ssrc, otherAt := now }).rxFormatErr n

/-- A frame delivered to an accepting stream (R460). -/
def rxFrameIn (n : Nat) (d : RxFrame) (s : State) : State :=
  let r := s.rxStream n
  let bad := d.fcsErr || d.alignErr || d.symErr
  if !(r.onPort d.port) then s.rxFormatErr n else
  match readMedia s r d with
  | none => s.rxFormatErr n
  | some m =>
    if !(ssrcOk r m) then s.rxWrongSsrc n m.ssrc
    else if bad && decide (r.format ≠ 0) && !(bitOf r.ctrl 3) then s.rxFormatErr n
    else
      let r1 := if r.state = .waiting then anchorAt s r m else r
      if tooEarly s r1 m then ((s.rxCount n 2).rxFlag n 2).rxDiscard n d.port
      else
        let p := placeMedia s r1 m
        if p.first.isNone && decide (0 < p.late) && decide (p.dup + p.crcBad + p.lateRerow = 0) then
          (((s.rxCount n 1 p.late).rxFlag n 1).stat d.port 40 p.late).rxDiscard n d.port
        else s.rxAccept n r m p

/-- A frame that the Rudder delivers to stream `n` (R456, R460). -/
def srxDeliver (n : Nat) (d : RxFrame) (s : State) : State :=
  if !(s.rxStream n).accepting || decide (s.mode = .island) || (s.rxStream n).shut then (s.bump Reg.SRX_DROP_IDLE).flag Reg.SRX_EVENT 2
  else rxFrameIn n d s

/-- MEDIA_FRAME_ACCEPT: SRX checks the oldest frame delivered to it and places its samples (R460). -/
def execMediaFrameAccept (s : State) : Host.Outcome State Fault Refusal :=
  let s0 := fresh s
  .next (settle (match s.srx.inq with
    | [] => s0
    | d :: rest => srxDeliver d.stream d.frame { s0 with srx := { s0.srx with inq := rest } }))

/-! ## Recovery (R473, R474) -/

/-- Commit the re-rowed blocks of a stream that wait for this Recovery phase (R474). -/
def srxCommitRerow (s : State) (n : Nat) : State :=
  let r := s.rxStream n
  r.rerowed.foldl (fun s b =>
    let r := s.rxStream n
    if r.blockFull s b.pos then s.rxCount n 4
    else ((s.onRx n fun r => writeBlock s r b.pos b.salv b.groups)).stat b.port 42)
    (s.onRx n fun r => { r with rerowed := [] })

/-- Blocks whose deadline passes while they wait to be asked (R473). -/
def srxDropLate (s : State) (n : Nat) : State :=
  let r := s.rxStream n
  let gone := r.missing.filter fun m => m.toAsk && decide (r.due s m.pos ≤ s.nextStroke)
  (s.onRx n fun r => r.onMiss fun m =>
    if m.toAsk && decide (r.due s m.pos ≤ s.nextStroke) then { m with toAsk := false } else m).rrSkipped gone.length

/-- The Recovery phase of SRX. -/
def srxRecovery (s : State) : State :=
  (s.srx.streams.map Prod.fst).foldl (fun s n => srxCommitRerow (srxDropLate s n) n) s

/-! ## Sending a request (R472, R473, R503) -/

/-- Merge ascending sequence numbers into ranges of at most 512 blocks. -/
def mergeSeqs : List Nat → List (Nat × Nat) → List (Nat × Nat)
  | [], acc => acc.reverse
  | q :: qs, (f, c) :: acc =>
    if q = (f + c) % 65536 && decide (c < 512) then mergeSeqs qs ((f, c + 1) :: acc) else mergeSeqs qs ((q, 1) :: (f, c) :: acc)
  | q :: qs, [] => mergeSeqs qs [(q, 1)]

/-- Whether a port has had an accepted frame in the last 10 ms (R472, R488). -/
def State.seenPort (s : State) (r : RxStream) (p : Nat) : Bool :=
  match (if p = 0 then r.accA else r.accB) with
  | some t => decide (s.ntu.course ≤ 10000000 + t)
  | none => false

/-- The port of an ask: REQ_PORT or the only selected port first, the other selected port second, and a silent port passed
over (R472). -/
def State.askPort (s : State) (r : RxStream) (second : Bool) : Nat :=
  let only := if r.ports = 1 then some 0 else if r.ports = 2 then some 1 else none
  match only with
  | some p => p
  | none =>
    let first := if bitOf (r.word 7) 6 then 1 else 0
    let p := if second then 1 - first else first
    if !(s.seenPort r p) && s.seenPort r (1 - p) then 1 - p else p

/-- An address of 16 bytes: IPv4 as ::FFFF:a.b.c.d (R503). -/
def mappedAddr (v6 : Bool) (a : Nat) : Nat := if v6 then a else 0xFFFF * 2 ^ 32 + a

/-- The source IP address of requests on port `p`; an all-zero IPv6 register means the link-local address (R472). -/
def State.rrSource (s : State) (p : Nat) (v6 : Bool) : Nat :=
  if !v6 then (s.reg (Reg.SRX_RR_IP4 p)).toNat
  else
    let a := (List.range 4).foldl (fun n i =>
      n * 2 ^ 32 + (s.reg (if p = 0 then Reg.SRX_RR_IP6_A i else Reg.SRX_RR_IP6_B i)).toNat) 0
    if a = 0 then s.linkLocal p else a

/-- The payload of a re-row frame (R503). -/
def rerowPayload (typ tx rx token addr port : Nat) (ranges : List (Nat × Nat)) : List Byte :=
  beBytes 4 0x484C5252 ++ beBytes 1 (0x10 + typ) ++ beBytes 1 ranges.length ++ beBytes 2 tx ++ beBytes 2 rx
    ++ beBytes 2 token ++ beBytes 16 addr ++ beBytes 2 port ++ beBytes 2 0
    ++ ranges.flatMap fun r => beBytes 2 r.1 ++ beBytes 2 r.2

/-- The blocks of one request: those of the same ask as the oldest waiting, in order, as at most 16 ranges (R472). -/
def askBlocks (r : RxStream) : Bool × List (Nat × Nat) :=
  let wait := r.missing.filter Missing.toAsk
  let second := match wait with | m :: _ => decide (0 < m.asks) | [] => false
  (second, (mergeSeqs ((wait.filter fun m => decide (0 < m.asks) = second).map Missing.seq) []).take 16)

/-- A block lies in one of the ranges. -/
def inRanges (rs : List (Nat × Nat)) (q : Nat) : Bool := rs.any fun r => decide ((q + 65536 - r.1) % 65536 < r.2)

/-- Send the request frame of stream `n` for the blocks that wait (R472, R473). -/
def srxAsk (n : Nat) (s : State) : State :=
  let r := s.rxStream n
  let (second, rs) := askBlocks r
  if rs = [] then s else
  let blocks := (r.missing.filter fun m => m.toAsk && inRanges rs m.seq).length
  let p := s.askPort r second
  let hdr := if p = 0 then r.hdrA else r.hdrB
  let sent := if p = 0 then s.srx.sentA else s.srx.sentB
  let token := if p = 0 then s.srx.tokenA else s.srx.tokenB
  let s0 := s.onRx n fun r => r.onMiss fun m =>
    if m.toAsk && inRanges rs m.seq then { m with toAsk := false } else m
  match hdr with
  | none => s0.rrSkipped blocks
  | some h =>
    let src := s.rrSource p h.ip6
    let sport := s.regField Reg.SRX_RR_CFG 15 0
    if src = 0 || 32 ≤ sent then s0.rrSkipped blocks else
    let last := ((if r.lastPort = 0 then r.hdrA else r.hdrB).getD h).txStream
    let body := rerowPayload 1 last n (token % 65536) (mappedAddr h.ip6 src) sport rs
    let fr := udpFrame h.mac (s.portMac p) h.tag h.ip6 0 64 src h.ip sport (h.sport + 1) body
    let (s1, ok) := s0.egress p 6 { bytes := fr, kind := .rerowAsk }
    if !ok then s0.rrSkipped blocks else
    let asked := fun (q : Nat) => r.missing.any fun m => m.toAsk && decide (m.seq = q) && inRanges rs q
    let s2 := (s1.onRx n fun r => r.onMiss fun m =>
      if asked m.seq then { m with asks := m.asks + 1 } else m).rxCount n 6 blocks
    { s2 with srx := if p = 0 then { s2.srx with sentA := sent + 1, tokenA := token + 1 }
                     else { s2.srx with sentB := sent + 1, tokenB := token + 1 } }

/-- REROW_REQUEST_SEND: SRX sends a request for the missing blocks of a stream (R472). -/
def execRerowRequestSend (stream : Nat) (s : State) : Host.Outcome State Fault Refusal :=
  .next (settle (srxAsk stream (fresh s)))

/-- The blocks of a list of ranges. -/
def rangeSeqs (rs : List (Nat × Nat)) : List Nat :=
  rs.flatMap fun r => (List.range r.2).map fun i => (r.1 + i) % 65536

/-- A GONE reply for receive stream `n`: its blocks are not asked again (R475, R511). -/
def srxGone (n : Nat) (rs : List (Nat × Nat)) (s : State) : State :=
  if !(s.rxStream n).enabled then s else
  ((s.onRx n fun r => r.onMiss fun m =>
    if inRanges rs m.seq then { m with gone := true, toAsk := false } else m).rxCount n 7 (rangeSeqs rs).length).rxFlag n 5

/-! ## Stroke boundaries (R478, R483, R486) -/

/-- A disable takes effect at the boundary that ends the fade stroke (R455, R478). -/
def srxDisableDone (s : State) (e : Nat × RxStream) : State :=
  if !(e.2.fadeNow && decide (e.2.state = .draining)) then s else
  ((s.onRx e.1 fun r => { r with
    state := .disabled, fadeNow := false, fade := none, live := false, enableWait := none, slots := [], missing := [],
    rerowed := [], retarget := [], shut := false }).ralRelease e.1).rxFlag e.1 7

/-- `SRX_DISABLE` commands whose streams have all been disabled complete (R484). -/
def srxDisableFlights (k : Nat) (s : State) : State :=
  let ready := fun (f : Fin) => match f with
    | .rxIdle ns => ns.all fun n => decide ((s.rxStream n).state ≠ .draining)
    | _ => false
  s.finish ready fun f => f.body ++ [stroke32 k]

/-- The stream disables of the boundary that begins stroke `k`. -/
def srxBoundaryOff (k : Nat) (s : State) : State := srxDisableFlights k (s.srx.streams.foldl srxDisableDone s)

/-- A retarget takes effect: the bindings, and the definition words that name them (R485, R486). -/
def RxStream.retargeted (r : RxStream) (p : SrxPending) : RxStream :=
  { r with
    map := p.map
    words := listMod (listMod r.words 1 fun v => withField v 11 0 p.first) 6 fun v => withField v 5 5 (b2n p.mapped) }

/-- The enables and retargets of one stream that a boundary brings into force (R483, R486). -/
def rxEnableStep (r : RxStream) : RxStream :=
  let r1 := match r.enableWait with
    | some w => if w ≤ 1 then { r with live := true, enableWait := none } else { r with enableWait := some (w - 1) }
    | none => r
  let r2 := (r1.retarget.filter fun p => decide (p.wait ≤ 1)).foldl RxStream.retargeted r1
  { r2 with retarget := (r1.retarget.filter fun p => decide (1 < p.wait)).map fun p => { p with wait := p.wait - 1 } }

/-- The stream enables and retargets of a boundary, and the request budget of the new stroke. -/
def srxBoundaryOn (s : State) : State :=
  { s with srx := { s.srx with streams := tmap s.srx.streams rxEnableStep, sentA := 0, sentB := 0 } }

/-! ## SRX_DEFINE (R458, R481, R482) -/

/-- The entry of a map word for position `c`: 16 bits. -/
def mapEntry (ws : List Word) (c : Nat) : Nat :=
  let w := ws.getD (c / 2) 0
  if c % 2 = 0 then fieldOf w 15 0 else fieldOf w 31 16

/-- The binding of each position, from map words or from a first ID. -/
def bindings (mapped : Bool) (first chans : Nat) (ws : List Word) : List (Option Nat) :=
  (List.range chans).map fun c =>
    if mapped then (if (mapEntry ws c).testBit 15 then none else some (mapEntry ws c % 4096)) else some (first + c)

/-- The map words that bindings make (R481, R485). -/
def mapWords (m : List (Option Nat)) : List Word :=
  let e := fun (c : Nat) => match m.getD c none with | some id => id | none => 0x8000
  (List.range 32).map fun w => w32 (e (2 * w) + 2 ^ 16 * e (2 * w + 1))

/-- The bindings that are wrong in themselves, at position `c`: an ID outside the space, one bound twice, or a broken pair
(R458). -/
def bindBad (limit : Nat) (pair : Nat → Bool) (m : List (Option Nat)) (c : Nat) : Bool :=
  let id := m.getD c none
  (match id with | some x => decide (limit ≤ x) || has (m.take c) (some x) | none => false)
    || (pair (c / 2) && decide (c % 2 = 0) && (match id with | some x => decide (x % 2 ≠ 0) | none => false))
    || (pair (c / 2) && decide (c % 2 = 1) && (match m.getD (c - 1) none, id with
        | some a, some b => decide (b ≠ a + 1) | none, none => false | _, _ => true))

/-- The word that holds the binding of position `c`. -/
def bindWord (mapped : Bool) (first0 first : Nat) (c : Nat) : Nat := if mapped then first0 + c / 2 else first

/-- Channels that a FORMAT allows (R457, R491). -/
def chansMax (format : Nat) : Nat := if format = 0 then 16 else 64

/-- A map entry holds reserved bits, or stands beyond CHANNELS without NONE (R481). -/
def entryBad (ws : List Word) (chans c : Nat) : Bool :=
  let e := mapEntry ws c
  decide (e / 2 ^ 12 % 8 ≠ 0) || (decide (chans ≤ c) && !(e.testBit 15))

/-- X24 has a bit at or beyond CHANNELS (R481). -/
def x24Beyond (x24 : Word) (chans : Nat) : Bool :=
  (List.range 32).any fun j => bitOf x24 j && decide (chans ≤ 2 * j + 1)

/-- The first position in order that `p` finds wrong, as the word that holds it. -/
def firstPos (n : Nat) (p : Nat → Bool) (word : Nat → Nat) : Option Nat :=
  ((List.range n).find? p).map word

/-- `SRX_DEFINE`, checks of the packet alone (R457, R458, R481). -/
def badSrxDefine (x : Bool) (p : List Word) : Option Nat :=
  let w := fun (i : Nat) => p.getD (i - 1) 0
  let mapped := x && bitOf (w 7) 5
  let fmt := fieldOf (w 1) 11 9
  let chans := fieldOf (w 1) 22 16
  if p.length ≠ (if x then (if mapped then 41 else 9) else 6) then some 0
  else if fieldOf (w 1) 31 27 ≠ 0 then some 1
  else if chans = 0 then
    if x || decide (fieldOf (w 1) 15 9 ≠ 0) || decide (fieldOf (w 1) 26 23 ≠ 0) then some 1
    else ((List.range 5).find? fun i => decide (w (i + 2) ≠ 0)).map fun i => i + 2
  else if 6 ≤ fmt || decide (6 < fieldOf (w 1) 15 12) || decide (chansMax fmt < chans) || (bitOf (w 1) 23 && decide (fmt ≠ 0))
      || decide (fieldOf (w 1) 25 24 = 0) || (bitOf (w 1) 26 && decide (fmt = 0)) then some 1
  else if fieldOf (w 2) 15 12 ≠ 0 || fieldOf (w 2) 31 26 ≠ 0 then some 2
  else
    let m := bindings mapped (fieldOf (w 2) 11 0) chans (p.drop 9)
    let pr := fun (j : Nat) => decide (j < 32) && bitOf (w 3) j
    let bind := firstPos chans (bindBad 0x800 pr m) (bindWord mapped 10 2)
    if !mapped && bind.isSome then bind
    else if x24Beyond (w 3) chans || (w 3 ≠ 0 && (fmt = 1 || fmt = 3)) then some 3
    else if fieldOf (w 4) 31 8 ≠ 0 || (3 ≤ fmt && fieldOf (w 4) 7 0 ≠ 0) then some 4
    else if fmt = 0 && w 6 ≠ 0 then some 6
    else if !x then none
    else if fieldOf (w 7) 15 7 ≠ 0 || (bitOf (w 7) 1 && fmt ≠ 0) || fieldOf (w 7) 31 16 < 100 || 10000 < fieldOf (w 7) 31 16 then some 7
    else if fmt < 3 && w 8 ≠ 0 then some 8
    else if fieldOf (w 9) 31 16 ≠ 0 || fieldOf (w 9) 7 0 = 0 || fieldOf (w 9) 15 8 = 0 then some 9
    else if mapped then firstPos 64 (fun c => entryBad (p.drop 9) chans c || bindBad 0x800 pr m c) (bindWord true 10 2)
    else none

/-- Definition words 1 to 9 of a command (R481). -/
def srxWords (x : Bool) (p : List Word) : List Word :=
  if x then p.take 9
  else
    let rr := if fieldOf (p.getD 0 0) 11 9 = 0 then 2 else 0
    p.take 6 ++ [w32 (1 + rr + 2 ^ 16 * 400), 0, w32 (8 + 2 ^ 8 * 50)]

/-- An ID that R18 excludes at the core rate in force. -/
def State.idExcluded (s : State) (id : Nat) : Bool := s.fast && decide (0x400 ≤ id)

/-- Another receive stream than `n` holds source `id`, now or from the boundary that a retarget awaits (R458). -/
def State.idHeld (s : State) (n id : Nat) : Bool :=
  s.srx.streams.any fun e => decide (e.1 ≠ n) &&
    (has e.2.map (some id) || e.2.retarget.any fun t => has t.map (some id))

/-- The bindings that the configuration in force forbids, at position `c` (R458). -/
def State.bindTaken (s : State) (n : Nat) (m : List (Option Nat)) (c : Nat) : Bool :=
  match m.getD c none with
  | some id => s.idExcluded id || s.idHeld n id
  | none => false

/-- Receive channels of all streams but `n` (R39, R458). -/
def State.rxChannels (s : State) (n : Nat) : Nat :=
  (s.srx.streams.map fun e => if e.1 = n then 0 else e.2.chans).sum

/-- LATENCY lies from 0.5 ms to 40 ms (R465). -/
def State.latencyOk (s : State) (l : Nat) : Bool :=
  decide (s.coreRate ≤ l * s.strokeSize * 2000) && decide (l * s.strokeSize * 25 ≤ s.coreRate)

/-- The channel limit of R39 for the core rate in force. -/
def State.chanLimit (s : State) : Nat := if s.fast then 1024 else 2048

/-- The definition that a command gives stream `n`, with nothing of a former one but its event enables (R481, R482). -/
def newRxStream (s : State) (x : Bool) (p : List Word) : RxStream :=
  let w1 := p.getD 0 0
  let chans := fieldOf w1 22 16
  let words := srxWords x p
  let v7 := words.getD 6 0
  { words := words, map := bindings (bitOf v7 5) (fieldOf (p.getD 1 0) 11 0) chans (p.drop 9),
    alloc := rxAlloc s chans (fieldOf (p.getD 1 0) 25 16) (fieldOf w1 15 12),
    ssrc := none,
    ctrl := w32 (2 * b2n (bitOf v7 0) + 4 * b2n (bitOf v7 1) + 8 * b2n (bitOf v7 2) + 2 ^ 8 * fieldOf w1 25 24),
    eventEn := (s.rxStream (fieldOf w1 8 0)).eventEn }

/-- Stream `n` with a new definition in the tables of SRX and of the Rate Aligner. -/
def State.rxDefined (s : State) (n : Nat) (r : RxStream) : State :=
  { s.goodParity (bankedKey Reg.SRX_STREAM_CTRL n) |>.goodParity (bankedKey Reg.RAL_STREAM_CTRL n) with
           srx := { s.srx with streams := tset s.srx.streams n r },
           ral := tset s.ral n { event := (s.ralOf n).event, eventEn := (s.ralOf n).eventEn } }

/-- A definition of stream `n` fits the channels of R39, the Rate Aligner and buffer memory (R256, R482, R537). -/
def State.rxFits (s : State) (n : Nat) (r : RxStream) : Bool :=
  decide (s.rxChannels n + r.map.length ≤ s.chanLimit)
    && decide (ralLoadOf s.rateCode (tset s.srx.streams n r) ≤ ralCap)
    && decide ((s.rxDefined n r).memUsed ≤ (s.rxDefined n r).memCap)

/-- Stream `n` becomes undefined (R481). -/
def State.rxUndefined (s : State) (n : Nat) : State :=
  ralEvaluate { s.goodParity (bankedKey Reg.SRX_STREAM_CTRL n) |>.goodParity (bankedKey Reg.RAL_STREAM_CTRL n) with
    srx := { s.srx with streams := terase s.srx.streams n }, ral := terase s.ral n }

/-- The word of a definition that holds a binding which the configuration in force forbids (R458). -/
def State.rxBindWord (s : State) (n : Nat) (r : RxStream) : Option Nat :=
  firstPos r.map.length (s.bindTaken n r.map) (bindWord (bitOf (r.words.getD 6 0) 5) 10 2)

/-- A definition leaves stream `n` as it was. -/
def State.rxSame (s : State) (n : Nat) (r : RxStream) : Bool :=
  match tget s.srx.streams n with
  | some o => decide (o.words = r.words) && decide (o.map = r.map) && decide (o.ctrl = r.ctrl)
  | none => false

/-- `SRX_DEFINE` at its commit point (R481, R482). -/
def commitSrxDefine (x : Bool) (p : List Word) (s : State) : State × Res :=
  let n := fieldOf (p.getD 0 0) 8 0
  let new := newRxStream s x p
  if fieldOf (p.getD 0 0) 22 16 = 0 then
    if (s.rxStream n).enabled then (s, .fail .staleWrite 1)
    else (s.rxUndefined n, .ok [w32 ((s.rxUndefined n).freeKib % 65536)] (thas s.srx.streams n))
  else if !(s.latencyOk (fieldOf (p.getD 1 0) 25 16)) then (s, .fail .badParam 2)
  else match s.rxBindWord n new with
    | some k => (s, .fail .badParam k)
    | none =>
      if (s.rxStream n).enabled then (s, .fail .staleWrite 1)
      else if !(s.rxFits n new) then (s, .fail .noResource 1)
      else
        let s2 := ralEvaluate (s.rxDefined n new)
        (s2, .ok [w32 (s2.freeKib % 65536)] (!(s.rxSame n new)))

/-! ## SRX_ENABLE, SRX_DISABLE (R478, R479, R483, R484) -/

/-- The streams that an enable or a disable names: one in the basic form, a range in the expert form (R483). -/
def namedStreams (x : Bool) (p : List Word) : List Nat :=
  let first := fieldOf (p.getD 0 0) 8 0
  if x then (List.range (fieldOf (p.getD 1 0) 9 0)).map fun i => first + i else [first]

/-- Checks of the packet alone of an enable or a disable whose second word may carry the bits below `hi` (R483). -/
def badRange (hi : Nat) (x : Bool) (p : List Word) : Option Nat :=
  let count := fieldOf (p.getD 1 0) 9 0
  if p.length ≠ (if x then 2 else 1) then some 0
  else if fieldOf (p.getD 0 0) 31 9 ≠ 0 then some 1
  else if x && (decide (fieldOf (p.getD 1 0) 31 hi ≠ 0) || decide (count = 0) || decide (512 < fieldOf (p.getD 0 0) 8 0 + count)) then some 2
  else none

/-- `SRX_ENABLE`, checks of the packet alone. -/
def badSrxEnable (x : Bool) (p : List Word) : Option Nat := badRange 10 x p

/-- An enable of one stream: it waits for frames, and presents from the boundary of R32 (R455, R483). -/
def rxEnable (wait : Nat) (n : Nat) (r : RxStream) : RxStream :=
  { r with state := .waiting, enableWait := some wait, live := false, slots := [], expA := none, expB := none,
           accA := none, accB := none, hdrA := none, hdrB := none, missing := [], rerowed := [], runA := 0, runB := 0,
           ssrc := none, other := none, otherMany := false, relearn := false, lastMr := none, fade := none,
           fadeNow := false, gap := BitVec.allOnes 64, margin := 0xFFFF, delta := 0, lfsr := 1 + n }

/-- `SRX_ENABLE` at its commit point (R479, R483). -/
def commitSrxEnable (x : Bool) (p : List Word) (s : State) : State × Res :=
  let ns := namedStreams x p
  if ns.any fun n => !(thas s.srx.streams n) then (s, .fail .badParam 1)
  else if ns.any fun n => decide ((s.rxStream n).state = .draining) then (s, .start (.rxAt ns))
  else
    let on := ns.filter fun n => decide ((s.rxStream n).state = .disabled)
    let w := w32 (on.length + 2 ^ 10 * (ns.length - on.length))
    if on = [] then let (v, s1) := s.takeWord; (s1, .ok [w, v])
    else
      let wait := s.boundaryWait
      (on.foldl (fun s n => (s.onRx n (rxEnable wait n)).onRal n fun l => { l with lfsr := 1 + n }) s, .later .boundary [w] true)

/-- The stroke of the first Catch to come: the stroke in progress until its Catch is done (R478). -/
def State.nextCatch (s : State) : Nat := if s.mck.part = .boundary then s.mck.stroke else s.mck.stroke + 1

/-- The last stroke in which a position holds a written sample (R478). -/
def RxStream.lastFilled (r : RxStream) (s : State) : Nat :=
  let conv := r.converts s.rateCode
  let at_ := fun (g : Nat) =>
    if conv then (r.gridPos s.coreRate s.strokeSize (8 * g + 7 : Nat) / s.strokeSize).toNat else g / s.strokeGroups
  (r.slots.map fun e => at_ (e.1 / 64)).foldl Nat.max 0

/-- A disable of one enabled stream: it accepts no more frames and drains or fades at once (R478). -/
def rxDrain (s : State) (drain : Bool) (r : RxStream) : RxStream :=
  { r with state := .draining, fade := some (if drain then Nat.max s.nextCatch (r.lastFilled s) else s.nextCatch) }

/-- `SRX_DISABLE`, checks of the packet alone (R484). -/
def badSrxDisable (x : Bool) (p : List Word) : Option Nat :=
  match badRange 12 x p with
  | some n => some n
  | none => if x && decide (fieldOf (p.getD 1 0) 11 10 = 3) then some 2 else none

/-- Disable one receive stream with DRAIN override `ovr`; the flag says whether a disable started. -/
def State.rxDisable (s : State) (ovr n : Nat) : State × Bool :=
  let r := s.rxStream n
  if r.accepting then
    let drain := if ovr = 0 then bitOf r.ctrl 1 else decide (ovr = 1)
    (s.onRx n (rxDrain s drain), true)
  else if r.state = .draining && decide (ovr = 2) then
    (s.onRx n fun r => { r with fade := some (match r.fade with | some f => Nat.min f s.nextCatch | none => s.nextCatch) }, true)
  else (s, false)

/-- `SRX_DISABLE` at its commit point (R478, R479, R484). A drain cut short changes no stored setting (R232). -/
def commitSrxDisable (x : Bool) (p : List Word) (s : State) : State × Res :=
  let ns := namedStreams x p
  let ovr := if x then fieldOf (p.getD 1 0) 11 10 else 0
  if ns.any fun n => !(thas s.srx.streams n) then (s, .fail .badParam 1)
  else
    let run := ns.foldl (fun (a : State × List Nat) n =>
      let (s1, off) := a.1.rxDisable ovr n
      (s1, if off then a.2 ++ [n] else a.2)) (s, [])
    let w := w32 (run.2.length + 2 ^ 10 * (ns.length - run.2.length))
    if run.2 = [] then let (v, s1) := s.takeWord; (s1, .ok [w, v])
    else (run.1, .later (.rxIdle run.2) [w] (run.2.any fun n => (s.rxStream n).accepting))

/-- Every enabled receive stream is disabled with its own DRAIN setting, and commands that had not committed on one end
(R234, R479). -/
def srxDisableAll (s : State) : State := (s.srx.streams.map Prod.fst).foldl (fun s n => (s.rxDisable 0 n).1) s

/-! ## SRX_QUERY (R485, R487, R488) -/

/-- SRX_STREAM_STATUS (R488). -/
def State.rxStatusWord (s : State) (n : Nat) : Word :=
  match tget s.srx.streams n with
  | none => 0
  | some r =>
    let hdr := if r.lastPort = 0 then r.hdrA else r.hdrB
    w32 (srxStateCode r.state + 2 ^ 3 * b2n (s.seenPort r 0) + 2 ^ 4 * b2n (s.seenPort r 1)
      + 2 ^ 5 * b2n (match hdr with | some h => h.rr | none => false) + 2 ^ 6 * b2n r.async
      + 2 ^ 7 * b2n (r.converts s.rateCode) + 2 ^ 8 * r.format + 2 ^ 11 * r.chans + 2 ^ 18 * r.latency)

/-- Definition word `i` as in force: PORTS, DRAIN and SALVAGE_STD are those of SRX_STREAM_CTRL (R485). -/
def RxStream.inForce (r : RxStream) (i : Nat) : Word :=
  let w := r.word i
  if i = 1 then withField w 25 24 r.ports
  else if i = 7 then withField (withField w 0 0 (b2n (bitOf r.ctrl 1))) 2 2 (b2n (bitOf r.ctrl 3))
  else w

/-- SRX_STREAM_SSRC: the SSRC in force, or 0 while none has been learned (R461). -/
def RxStream.ssrcWord (r : RxStream) : Word :=
  if 3 ≤ r.format then 0 else if r.learn then w32 (r.ssrc.getD 0) else r.word 5

/-- The body of `SRX_QUERY` (R485). -/
def srxBody (s : State) (x : Bool) (n : Nat) : List Word :=
  match tget s.srx.streams n with
  | none => List.replicate (if x then 51 else 11) 0
  | some r =>
    [s.rxStatusWord n, r.inForce 1, r.inForce 2, r.inForce 3, r.inForce 4, r.inForce 6,
     if 3 ≤ r.format then r.word 5 else r.ssrcWord, r.inForce 7, r.inForce 8, r.inForce 9, w32 r.margin]
    ++ (if x then r.cnt.map w32 ++ mapWords r.map else [])

/-- `SRX_QUERY`, checks of the packet alone (R485). -/
def badSrxQuery (x : Bool) (p : List Word) : Option Nat :=
  if p.length ≠ 1 then some 0 else if fieldOf (p.getD 0 0) 31 (if x then 10 else 9) ≠ 0 then some 1 else none

/-- `SRX_QUERY` at its commit point; CLEAR acts after the snapshot (R485). -/
def commitSrxQuery (x : Bool) (p : List Word) (s : State) : State × Res :=
  let n := fieldOf (p.getD 0 0) 8 0
  let body := srxBody s x n
  (if x && bitOf (p.getD 0 0) 9 then s.onRx n fun r => { r with cnt := List.replicate 8 0, margin := 0xFFFF } else s, .ok body)

/-! ## SRX_RETARGET (R486) -/

/-- `SRX_RETARGET`, checks of the packet alone (R486). -/
def badSrxRetarget (x : Bool) (p : List Word) : Option Nat :=
  let w := p.getD 0 0
  let mapped := x && bitOf w 9
  if p.length ≠ (if x then (if mapped then 35 else 3) else 2) then some 0
  else if fieldOf w 31 (if x then 12 else 9) ≠ 0 then some 1
  else if fieldOf (p.getD 1 0) 31 12 ≠ 0 || (!mapped && 0x800 ≤ fieldOf (p.getD 1 0) 11 0) then some 2
  else if x && !(bitOf w 10) && p.getD 2 0 ≠ 0 then some 3
  else if mapped then firstPos 64 (fun c => decide (mapEntry (p.drop 3) c / 2 ^ 12 % 8 ≠ 0)
      || (!((mapEntry (p.drop 3) c).testBit 15) && decide (0x800 ≤ mapEntry (p.drop 3) c % 4096))) (bindWord true 4 2)
  else none

/-- `SRX_RETARGET` at its commit point (R486). -/
def commitSrxRetarget (x : Bool) (p : List Word) (s : State) : State × Res :=
  let w := p.getD 0 0
  let n := fieldOf w 8 0
  let mapped := x && bitOf w 9
  match tget s.srx.streams n with
  | none => (s, .fail .aborted)
  | some r =>
    let first := fieldOf (p.getD 1 0) 11 0
    let m := bindings mapped first r.chans (p.drop 3)
    let bad := firstPos (if mapped then 64 else r.chans) (fun c => bindBad 0x800 r.pair m c || s.bindTaken n m c
        || (mapped && entryBad (p.drop 3) r.chans c)) (bindWord mapped 4 2)
    match bad with
    | some k => (s, .fail .badParam k)
    | none =>
      if !r.accepting then (s, .fail .aborted) else
      let newSsrc := x && bitOf w 10
      let ssrcSet := fun (ws : List Word) =>
        if newSsrc then listMod (listMod ws 4 fun _ => p.getD 2 0) 3 fun v => withField v 7 7 0 else ws
      let next : SrxPending := { wait := s.boundaryWait, map := m, first := first, mapped := mapped }
      let soon := r.retarget.foldl RxStream.retargeted r
      let changed := decide (m ≠ soon.map) || decide (ssrcSet (soon.retargeted next).words ≠ soon.words)
      let s1 := s.onRx n fun r => { r with words := ssrcSet r.words, retarget := r.retarget ++ [next] }
      let s2 := if x && bitOf w 11 then s1.rxReanchor n else s1
      (s2, .later .boundary [] changed)

/-! ## Registers (R487, R488) -/

/-- SRX_STATUS (R488). -/
def State.srxStatus (s : State) : Word :=
  w32 (s.srx.streams.length + 2 ^ 10 * tcount s.srx.streams RxStream.enabled + 2 ^ 20 * b2n (decide (s.mode = .island)))

/-- SRX_STREAM_PEND[i] (R488). -/
def State.srxPendWord (s : State) (i : Nat) : Word :=
  w32 (bitsOfList ((List.range 32).filter fun j => s.rxPending (32 * i + j)))

end Sys2Proof.Machine
end

