-- ==== Sys2Proof/Machine/Stx.lean ====
section
/-! DEFINITION. Transmitting streams: header templates, packets built at the Catch and launched, the Re-row store,
enables, disables and the commands (R489 to R502, R513 to R523). -/
namespace Sys2Proof.Machine

/-! ## Streams (R489 to R492, R522, R523) -/

/-- Transmit stream `n`. -/
def State.txStream (s : State) (n : Nat) : TxStream := tgetD s.stx.streams n { state := .undefined }

/-- Change transmit stream `n`. -/
def State.onTx (s : State) (n : Nat) (f : TxStream → TxStream) : State :=
  { s with stx := { s.stx with streams := tmod s.stx.streams n f } }

/-- Definition word `i`, from 1 (R516). -/
def TxStream.word (t : TxStream) (i : Nat) : Word := t.words.getD (i - 1) 0

/-- FORMAT (R491). -/
def TxStream.format (t : TxStream) : Nat := fieldOf (t.word 1) 11 9

/-- CHANNELS, in positions (R491). -/
def TxStream.chans (t : TxStream) : Nat := fieldOf (t.word 1) 18 12

/-- CLASS: 0 A, 1 B (R498). -/
def TxStream.cls (t : TxStream) : Nat := fieldOf (t.word 1) 21 21

/-- PTIME: blocks or samples of a packet (R491). -/
def TxStream.ptime (t : TxStream) : Nat := fieldOf (t.word 2) 19 12

/-- Positions 2j and 2j + 1 are an exact-24 pair (R491). -/
def TxStream.pair (t : TxStream) (j : Nat) : Bool := decide (j < 32) && bitOf (t.word 3) j

/-- W of R500; 0 for a stream without a store. -/
def TxStream.window (t : TxStream) : Nat := fieldOf (t.word 7) 24 16

/-- The ports of STX_STREAM_CTRL: bit p. -/
def TxStream.ports (t : TxStream) : Nat := fieldOf t.ctrl 9 8

/-- Port `p` is selected. -/
def TxStream.onPort (t : TxStream) (p : Nat) : Bool := t.ports.testBit p

/-- The stream counts as enabled (R143, R489). -/
def TxStream.enabled (t : TxStream) : Bool := decide (t.state = .enabled) || decide (t.state = .stopping)

/-- The wire channels: each single position, and the even position of each pair (R434). -/
def TxStream.wire (t : TxStream) : List Nat :=
  (List.range t.chans).filter fun c => !(t.pair (c / 2) && decide (c % 2 = 1))

/-- The code of a state (R490). -/
def stxStateCode : StxState → Nat
  | .undefined => 0 | .disabled => 1 | .enabled => 2 | .stopping => 3 | .serving => 4

/-- The event of transmit stream `n` is pending (R522). -/
def State.txPending (s : State) (n : Nat) : Bool :=
  match tget s.stx.streams n with
  | some t => decide (t.event &&& t.eventEn ≠ 0)
  | none => false

/-- Set event `i` of transmit stream `n` (R522, R523). -/
def State.txFlag (s : State) (n i : Nat) : State :=
  s.withPend (fun s => s.txPending n) Reg.STX_EVENT 0 fun s => s.onTx n fun t => { t with event := t.event ||| (1 <<< i) }

/-- Add to counter `i` of transmit stream `n`, which saturates (R523). -/
def State.txCount (s : State) (n i : Nat) (k : Nat := 1) : State :=
  if k = 0 then s else s.onTx n fun t => { t with cnt := listMod t.cnt i fun c => satNat 0xFFFFFFFF (c + k) }

/-! ## Header templates (R493 to R495) -/

/-- Bytes `v` written over `bs` from offset `o`. -/
def putAt (bs : List Byte) (o : Nat) (v : List Byte) : List Byte := bs.take o ++ v ++ bs.drop (o + v.length)

/-- The template slot of stream `n` for port `p` (R493, R516). -/
def TxStream.slot (t : TxStream) (n p : Nat) : Nat :=
  if bitOf (t.word 6) 18 then (if p = 0 then fieldOf (t.word 6) 8 0 else fieldOf (t.word 6) 17 9) else 512 + 2 * n + p

/-- The template of stream `n` on port `p`. -/
def State.txTemplate (s : State) (n p : Nat) : Option Template := tget s.stx.templates ((s.txStream n).slot n p)

/-- The first port of a stream. -/
def TxStream.firstPort (t : TxStream) : Nat := if t.onPort 0 then 0 else 1

/-- Offset of the network header of a template. -/
def Template.l3 (t : Template) : Nat := if t.tagged then 18 else 14

/-- Offset of the UDP header of a template of KIND 0 or 1. -/
def Template.udpAt (t : Template) : Nat := t.l3 + (if t.kind = 0 then 20 else 40)

/-- The sequence number a template holds (R493). -/
def Template.seq (t : Template) : Nat :=
  if t.kind = 2 then beAt t.bytes (t.l3 + 2) 1 else beAt t.bytes (t.udpAt + 10) 2

/-- What STX fills in for a packet (R493). -/
structure Fill where
  smac : Nat
  seq : Nat
  ts : Nat
  mr : Bool := false
  /-- The AAF fields after avtp_timestamp, 8 bytes. -/
  aaf : List Byte := []
  payload : List Byte
  deriving DecidableEq, Repr

/-- The UDP and RTP part of a packet: length, checksum, M, sequence number and timestamp (R439, R493). -/
def fillRtp (t : Template) (f : Fill) (pseudo : Nat) : List Byte :=
  let u := t.udpAt
  let rtp := beBytes 1 (beAt t.bytes (u + 8) 1) ++ beBytes 1 (beAt t.bytes (u + 9) 1 % 128) ++ beBytes 2 f.seq
    ++ beBytes 4 f.ts ++ slice t.bytes (u + 16) 4
  let body := rtp ++ f.payload
  udpHeader pseudo (beAt t.bytes u 2) (beAt t.bytes (u + 2) 2) body ++ body

/-- A packet from its template: every byte that R493 does not name goes as written. -/
def fillTemplate (t : Template) (f : Fill) : List Byte :=
  let o := t.l3
  let bs := putAt t.bytes 6 (beBytes 6 f.smac)
  if t.kind = 0 then
    let pseudo := sum16 (slice bs (o + 12) 8)
    let udp := fillRtp t f pseudo
    let h := putAt (putAt (putAt (slice bs o 20) 2 (beBytes 2 (20 + udp.length))) 4 (beBytes 2 0)) 10 (beBytes 2 0)
    bs.take o ++ putAt h 10 (beBytes 2 (inetSum (sum16 h))) ++ udp
  else if t.kind = 1 then
    let pseudo := sum16 (slice bs (o + 8) 32)
    let udp := fillRtp t f pseudo
    bs.take o ++ putAt (slice bs o 40) 4 (beBytes 2 udp.length) ++ udp
  else
    let b1 := beAt bs (o + 1) 1
    let b1' := (b1 - (b1 / 8 % 2) * 8 - b1 % 2) + 8 * b2n f.mr + 1
    putAt (putAt bs (o + 1) (beBytes 1 b1')) (o + 2) (beBytes 1 f.seq) ++ beBytes 4 f.ts ++ f.aaf ++ f.payload

/-- The length of a template of a KIND (R493). -/
def templateLen (kind : Nat) (tagged : Bool) : Nat :=
  (match kind with | 0 => 54 | 1 => 74 | _ => 26) + (if tagged then 4 else 0)

/-- The bytes that R494 checks: offset, mask and value. -/
def templateChecks (kind : Nat) (tagged : Bool) : List (Nat × Nat × Nat) :=
  let o := if tagged then 18 else 14
  let tag : List (Nat × Nat × Nat) := if tagged then [(12, 0xFF, 0x81), (13, 0xFF, 0)] else []
  let et := match kind with | 0 => 0x0800 | 1 => 0x86DD | _ => 0x22F0
  let rtp := fun (u : Nat) => [(u + 8, 0xFF, 0x80)]
  tag ++ [(o - 2, 0xFF, et / 256), (o - 1, 0xFF, et % 256)] ++ (match kind with
    | 0 => [(o, 0xFF, 0x45), (o + 6, 0x3F, 0), (o + 7, 0xFF, 0), (o + 9, 0xFF, 17)] ++ rtp (o + 20)
    | 1 => [(o, 0xF0, 0x60), (o + 6, 0xFF, 17)] ++ rtp (o + 40)
    | _ => [(o, 0xFF, 2), (o + 1, 0xF0, 0x80)])

/-- Offset of the first byte at fault in a template (R494). -/
def templateFault (kind : Nat) (tagged : Bool) (bs : List Byte) : Option Nat :=
  ((templateChecks kind tagged).find? fun c => decide ((beAt bs c.1 1) &&& c.2.1 ≠ c.2.2)).map Prod.fst

/-- The die serial number of the factory record: zero where the record is bad (R635, R636). -/
def State.dieSerial (s : State) : Nat := if s.otpBad = 0 then (tgetD s.otp 2 0).toNat else 0

/-- The template that the basic form builds for port `p` (R495). -/
def builtTemplate (s : State) (n p : Nat) (words : List Word) : Template :=
  let fmt := fieldOf (words.getD 0 0) 11 9
  let dest := (words.getD 3 0).toNat
  let w5 := words.getD 4 0
  if fmt < 3 then
    let mac := 0x01005E * 2 ^ 24 + dest % 2 ^ 23
    let base := Nat.min (s.regField Reg.STX_CFG 15 0) 64510
    let rtp := beBytes 1 0x80 ++ beBytes 1 (fieldOf w5 22 16) ++ beBytes 2 (s.ntu.course % 65536) ++ beBytes 4 0
      ++ beBytes 4 (s.dieSerial % 2 ^ 23 * 2 ^ 9 + n)
    let ip := ip4Header 34 64 0 (s.reg (Reg.STX_SRC_IP4 p)).toNat dest
    { kind := 0, tagged := false, randSeq := false,
      bytes := beBytes 6 mac ++ beBytes 6 (s.portMac p) ++ beBytes 2 0x0800 ++ ip ++ beBytes 2 (base + 2 * n)
        ++ beBytes 2 (fieldOf w5 15 0) ++ beBytes 4 0 ++ rtp }
  else
    { kind := 2, tagged := false, randSeq := false,
      bytes := beBytes 4 dest ++ beBytes 2 (fieldOf w5 15 0) ++ beBytes 6 (s.portMac p) ++ beBytes 2 0x22F0
        ++ beBytes 1 2 ++ beBytes 1 0x80 ++ beBytes 2 0 ++ beBytes 6 (s.portMac 0) ++ beBytes 2 n }

/-! ## What a position sends at the Catch (R492, R499) -/

/-- The stroke of position `c`, its odd groups where it is the even position of a pair, and whether its check fails. -/
def txPosition (s : State) (t : TxStream) (c : Nat) : Stroke × Bool :=
  match t.map.getD c none with
  | none => ({ groups := (silentStroke s.strokeGroups).groups,
               odd := if t.pair (c / 2) then some (silentStroke s.strokeGroups).groups else none }, false)
  | some id =>
    let st := tgetD s.drv.sinks id (silentStroke s.strokeGroups)
    let bad := has s.drv.badSinks id || (t.pair (c / 2) && has s.drv.badSinks (id + 1))
    ({ st with odd := if t.pair (c / 2) then some (st.odd.getD (silentStroke s.strokeGroups).groups) else none }, bad)

/-- A stroke muted by STX_STREAM_CTRL.MUTE (R499). -/
def txMuted (t : TxStream) (st : Stroke) : Stroke :=
  if bitOf t.ctrl 0 then { groups := st.groups.map muteGroup, odd := st.odd.map fun os => os.map muteGroup } else st

/-- The replacement of a stroke that fails its check (R43, R499). -/
def txLost (s : State) (st : Stroke) : Stroke :=
  { groups := (lostStroke s.strokeGroups).groups, odd := st.odd.map fun _ => (lostStroke s.strokeGroups).groups }

/-- The wire positions of a stream whose sink stroke fails its check, with the sink. -/
def txFailed (s : State) (t : TxStream) : List (Nat × Nat) :=
  t.wire.filterMap fun c =>
    if (txPosition s t c).2 then (match t.map.getD c none with | some id => some (c, id) | none => none) else none

/-- Count the failed checks of stream `n` and raise DATAPATH_CRC for each (R43, R499). -/
def State.txCrcFails (s : State) (n : Nat) (ids : List Nat) : State :=
  ids.foldl (fun s id => ((s.txCount n 2).txFlag n 3).raise 2 4 (w32 (id + 4096))) s

/-- The stroke that wire position `c` sends, checks made (R499). -/
def txContent (s : State) (t : TxStream) (checked : Bool) (c : Nat) : Stroke :=
  let (st, bad) := txPosition s t c
  txMuted t (if bad && checked then txLost s st else st)

/-- The block of a stream for the stroke in progress: its group bytes, position by position (R444). -/
def txBlockBytes (s : State) (t : TxStream) : List Byte :=
  t.wire.flatMap fun c =>
    let st := txContent s t (bitOf (t.word 6) 20) c
    strokeBytes st.groups ++ (match st.odd with | some os => strokeBytes os | none => [])

/-- The sample frames of a standard-format stream for the stroke in progress, with the dither generator after them
(R437, R449, R499). -/
def txFrames (s : State) (t : TxStream) : List (List Byte) × Nat :=
  let b := wireBytes t.format
  let run := t.wire.foldl (fun (a : List (List Nat) × Nat) c =>
    let (xs, r) := exitStroke (8 * b) (bitOf (t.word 6) 19) (txContent s t true c) a.2
    (a.1 ++ [xs], r)) ([], t.lfsr)
  ((List.range s.strokeSize).map fun i => run.1.flatMap fun xs => beBytes b (xs.getD i 0), run.2)

/-! ## Packets and their launch (R496 to R499) -/

/-- A packet ready for the egress queues: stream, count of its first sample, and the RTP or AVTP payload. -/
structure TxPacket where
  stream : Nat
  count : Int
  launch : Nat
  seq : Nat
  mr : Bool
  payload : List Byte
  deriving DecidableEq, Repr

/-- The HLF header of R443 for `nblk` blocks from block number `stroke`. -/
def hlfHeader (s16 : Bool) (rate nblk chans x24 stroke n : Nat) (rr : Bool) : List Byte :=
  beBytes 1 (0x10 + 8 * b2n rr + 4 * b2n s16) ++ beBytes 1 (16 * rate + nblk) ++ beBytes 1 chans
    ++ beBytes 1 x24 ++ beBytes 2 stroke ++ beBytes 2 n

/-- The stream's HLF header carries RR (R502). -/
def TxStream.rr (t : TxStream) : Bool := decide (0 < t.window) && bitOf t.ctrl 1

/-- Samples of a packet, p of R498. -/
def TxStream.perPacket (t : TxStream) (size : Nat) : Nat := if t.format = 0 then t.ptime * size else t.ptime

/-- The launch time of a packet (R498). -/
def launchTime (rate : Nat) (count : Int) (p off : Nat) : Nat := ((count + p).toNat * 1000000000) / rate + off * 1000

/-- The payload of a packet whose parts are complete. -/
def txPayload (s : State) (t : TxStream) (n : Nat) (count : Int) (parts : List (List Byte)) : List Byte :=
  if t.format = 0 then
    let size := s.strokeSize
    hlfHeader s.s16 s.rateCode parts.length t.chans (t.word 3).toNat (count.toNat % 2 ^ 32 / size) n t.rr ++ parts.flatten
  else parts.flatten

/-- The fields of AAF after avtp_timestamp (R451). -/
def aafFields (t : TxStream) (rate len : Nat) : List Byte :=
  beBytes 1 (aafFormat t.format) ++ beBytes 2 (nsrCode rate * 4096 + t.wire.length)
    ++ beBytes 1 (if t.format = 3 then 16 else 24) ++ beBytes 2 len ++ beBytes 2 0

/-- The frame of a packet on port `p`. -/
def txFrame (s : State) (k : TxPacket) (p : Nat) : Option (List Byte) :=
  let t := s.txStream k.stream
  (s.txTemplate k.stream p).map fun tp =>
    let off := (t.word 8).toNat
    let ts := if 3 ≤ t.format then (k.count.toNat * 1000000000 / s.coreRate + off) % 2 ^ 32 else (k.count.toNat + off) % 2 ^ 32
    fillTemplate tp { smac := s.portMac p, seq := k.seq, ts := ts, mr := k.mr,
                      aaf := if 3 ≤ t.format then aafFields t s.rateCode k.payload.length else [], payload := k.payload }

/-- Hand a packet to the egress queue of port `p`, or discard it (R498). -/
def txHand (k : TxPacket) (s : State) (p : Nat) : State :=
  let t := s.txStream k.stream
  if !(t.onPort p) then s else
  let sent := match txFrame s k p with
    | none => (s, false)
    | some bs => s.egress p (if t.cls = 0 then 5 else 4) { bytes := bs, kind := .media k.stream, launch := k.launch }
  if sent.2 then
    (sent.1.onTx k.stream fun t => if p = 0 then { t with lastA := some k.seq } else { t with lastB := some k.seq }).txCount
      k.stream 0
  else (s.txCount k.stream 1).txFlag k.stream 2

/-- Add one sample frame or block with count `n` to the packet in progress of stream `id`; a packet starts on the grid of
R496 only, and none starts once a disable awaits its last one (R513). The packet is answered when it is complete. -/
def txAdd (s : State) (id : Nat) (step : Nat) (t : TxStream) (n : Int) (part : List Byte) : TxStream × Option TxPacket :=
  let per := t.perPacket s.strokeSize
  let acc := match t.acc with
    | some (n0, ps) => some (n0, ps ++ [part])
    | none => if decide (n % per = 0) && decide (t.stopWait ≠ some 0) then some (n, [part]) else none
  match acc with
  | none => (t, none)
  | some (n0, ps) =>
    if ps.length * step < per then ({ t with acc := some (n0, ps) }, none)
    else
      let m := if t.format < 3 then 65536 else 256
      ({ t with acc := none, seq := (t.seq + 1) % m },
       some { stream := id, count := n0, launch := launchTime s.coreRate n0 per (fieldOf (t.word 7) 15 0), seq := t.seq % m,
              mr := t.mr, payload := txPayload s t id n0 ps })

/-- The packet in progress is kept only where the stroke that begins at `n` follows on from it (R415). -/
def txFollow (step : Nat) (n : Int) (t : TxStream) : TxStream :=
  match t.acc with
  | some (n0, ps) => if n0 + (ps.length * step : Nat) = n then t else { t with acc := none }
  | none => t

/-- A stream takes part in the Catch: its enable has taken effect and its disable has not (R489). -/
def TxStream.active (t : TxStream) : Bool := t.enabled && t.enableWait.isNone

/-- A block for the store: the one with the same stroke number, if any, is replaced. -/
def txStore (b : Block) (t : TxStream) : TxStream :=
  if t.window = 0 then t else { t with store := (t.store.filter fun x => decide (x.stroke ≠ b.stroke)) ++ [b] }

/-- The Catch of one HLF stream (R497, R499, R501). -/
def txCatchHlf (s0 : State) (n : Nat) (first : Int) : State × List TxPacket :=
  let t := txFollow s0.strokeSize first (s0.txStream n)
  let verify := bitOf (t.word 6) 20
  let failed := txFailed s0 t
  let bytes := txBlockBytes s0 t
  let (x, s1) := if failed ≠ [] && !verify then (1 + Config.freeNat s0.free % (2 ^ 32 - 1), { s0 with free := s0.free + 1 })
    else (0, s0)
  let crc := (crc32c bytes) ^^^ x
  let (t1, done) := txAdd s1 n s1.strokeSize t first (bytes ++ beBytes 4 crc)
  let t2 := if t1.acc.isSome || done.isSome then txStore { stroke := s0.mck.stroke, bytes := bytes, crc := crc } t1 else t1
  let s2 := s1.onTx n fun _ => t2
  (if verify then s2.txCrcFails n (failed.map Prod.snd) else s2, done.toList)

/-- The Catch of one standard-format stream (R497, R499). -/
def txCatchStd (s : State) (n : Nat) (first : Int) : State × List TxPacket :=
  let t := txFollow 1 first (s.txStream n)
  let (frames, lf) := txFrames s t
  let run := (List.range frames.length).foldl (fun (a : TxStream × List TxPacket) (i : Nat) =>
    let (t1, done) := txAdd s n 1 a.1 (first + i) (frames.getD i [])
    (t1, a.2 ++ done.toList)) ({ t with lfsr := lf }, [])
  ((s.onTx n fun _ => run.1).txCrcFails n ((txFailed s t).map Prod.snd), run.2)

/-- Packets in ascending order of launch time (R497). -/
def byLaunch (ps : List TxPacket) : List TxPacket := ps.mergeSort fun a b => decide (a.launch ≤ b.launch)

/-- The Catch of STX: blocks are formed and every packet whose last sample lies in the stroke is handed to its egress
queues; in ISLAND nothing is built (R84, R497). -/
def stxCatch (s : State) : State :=
  if s.mode = .island then
    { s with stx := { s.stx with streams := tmap s.stx.streams fun t => { t with acc := none } } }
  else
    let first : Int := (s.mck.stroke * s.strokeSize : Nat)
    let (s1, ps) := s.stx.streams.foldl (fun (a : State × List TxPacket) e =>
      if !e.2.active then a else
      let (s1, done) := if e.2.format = 0 then txCatchHlf a.1 e.1 first else txCatchStd a.1 e.1 first
      (s1, a.2 ++ done)) (s, [])
    (byLaunch ps).foldl (fun s k => [0, 1].foldl (txHand k) s) s1

/-! ## The window of the store (R501, R510) -/

/-- The sequence number of the block of stroke `k` (R444). -/
def blockSeq (size k : Nat) : Nat := k * size % 2 ^ 32 / size % 65536

/-- Take blocks out of the answers that still await re-launch; each that `count` says so counts as RR_EXPIRED (R510). -/
def State.rrDropBlocks (s : State) (n : Nat) (gone : Nat → Bool) (count : Bool) : State :=
  let lost := ((s.stx.reqA ++ s.stx.reqB).filter fun r => decide (r.tx = n)).flatMap fun r => r.blocks.filter gone
  let f := fun (r : RrReq) => if r.tx = n then { r with blocks := r.blocks.filter fun q => !(gone q) } else r
  let open_ := fun (r : RrReq) => !(r.decided && r.goneFrame.isNone && decide (r.blocks = []))
  let s1 := { s with stx := { s.stx with reqA := (s.stx.reqA.map f).filter open_, reqB := (s.stx.reqB.map f).filter open_ } }
  if count && decide (lost ≠ []) then (s1.txCount n 6 lost.length).txFlag n 5 else s1

/-- The Recovery phase of one stream: blocks leave the window, and a SERVING stream whose store is empty is DISABLED
(R490, R501, R510). -/
def stxWindow (s : State) (n : Nat) : State :=
  let t := s.txStream n
  let k := s.mck.stroke
  let out := t.store.filter fun b => decide (b.stroke + t.window ≤ k + 1)
  let s1 := s.onTx n fun t => { t with store := t.store.filter fun b => decide (k + 1 < b.stroke + t.window) }
  let s2 := if out = [] then s1 else
    s1.rrDropBlocks n (fun q => has (out.map fun b => blockSeq s.strokeSize b.stroke) q) true
  if t.state = .serving && decide ((s2.txStream n).store = []) then
    (s2.onTx n fun t => { t with state := .disabled }).txFlag n 1
  else s2

/-- The Recovery phase of STX. -/
def stxRecovery (s : State) : State := (s.stx.streams.map Prod.fst).foldl stxWindow s

/-- The store of stream `n` is discarded. -/
def State.txDropStore (s : State) (n : Nat) : State :=
  (s.onTx n fun t => { t with store := [] }).rrDropBlocks n (fun _ => true) false

/-- Every store is discarded, requests admitted before get no answer, and SERVING streams hold nothing more
(R514). -/
def stxDropStores (s : State) : State :=
  let s1 := { s with stx := { s.stx with reqA := [], reqB := [] } }
  (s.stx.streams.map Prod.fst).foldl (fun s n =>
    let s1 := s.txDropStore n
    if (s.txStream n).state = .serving then (s1.onTx n fun t => { t with state := .disabled }).txFlag n 1 else s1) s1

/-! ## Stroke boundaries (R513, R514, R518) -/

/-- One boundary nearer to the boundary of R513. -/
def txStopStep (t : TxStream) : TxStream :=
  if t.state ≠ .stopping then t else { t with stopWait := t.stopWait.map fun w => w - 1 }

/-- A disable takes effect at the boundary that begins stroke `k`, once the last packet is built (R513, R514). -/
def stxDisableDone (k : Nat) (s : State) (n : Nat) : State :=
  let step := if (s.txStream n).format = 0 then s.strokeSize else 1
  let s0 := s.onTx n fun t => txFollow step (k * s.strokeSize : Nat) (txStopStep t)
  let t := s0.txStream n
  if !(decide (t.state = .stopping) && decide (t.stopWait = some 0) && t.acc.isNone) then s0 else
  let s1 := if t.dropStore then s0.txDropStore n else s0
  (s1.onTx n fun t => { t with state := if t.store = [] then .disabled else .serving, stopWait := none, enableWait := none,
                               dropStore := false }).txFlag n 0

/-- `STX_DISABLE` commands whose streams have all been disabled complete (R519). -/
def stxDisableFlights (k : Nat) (s : State) : State :=
  let ready := fun (f : Fin) => match f with
    | .txIdle ns => ns.all fun n => decide ((s.txStream n).state ≠ .stopping)
    | _ => false
  s.finish ready fun f => f.body ++ [stroke32 k]

/-- The stream disables of the boundary that begins stroke `k`. -/
def stxBoundaryOff (k : Nat) (s : State) : State :=
  stxDisableFlights k ((s.stx.streams.map Prod.fst).foldl (stxDisableDone k) s)

/-- The enable of one stream comes nearer, or into force (R518). -/
def txEnableStep (t : TxStream) : TxStream :=
  match t.enableWait with
  | some w => { t with enableWait := if w ≤ 1 then none else some (w - 1) }
  | none => t

/-- After a grid move the mr of an AAF stream toggles (R451). -/
def txMoved (moved : Bool) (t : TxStream) : TxStream :=
  if moved && decide (3 ≤ t.format) && t.enabled then { t with mr := !t.mr } else t

/-- The stream enables of a boundary, and the budget of the new stroke (R509, R518). -/
def stxBoundaryOn (moved : Bool) (s : State) : State :=
  let streams := tmap s.stx.streams fun t => txMoved moved (txEnableStep t)
  { s with stx := { s.stx with streams := streams, usedA := 0, usedB := 0 } }

/-! ## STX_DEFINE (R491, R492, R516, R517) -/

/-- The default window of R500: the whole strokes of at most 16 ms. -/
def State.defaultWindow (s : State) : Nat := 16 * s.coreRate / (1000 * s.strokeSize)

/-- Definition words 1 to 8 of a command (R516). -/
def stxWords (s : State) (x : Bool) (p : List Word) : List Word :=
  if x then p.take 8
  else
    let w1 := p.getD 0 0
    let fmt := fieldOf w1 11 9
    let w := if fmt = 0 && bitOf w1 22 then s.defaultWindow else 0
    p.take 5 ++ [0, w32 (2 ^ 16 * w), if 3 ≤ fmt then 2000000 else 0]

/-- `STX_DEFINE`, checks of the packet alone (R491, R492, R516). -/
def badStxDefine (x : Bool) (p : List Word) : Option Nat :=
  let w := fun (i : Nat) => p.getD (i - 1) 0
  let mapped := x && bitOf (w 6) 22
  let fmt := fieldOf (w 1) 11 9
  let chans := fieldOf (w 1) 18 12
  let pt := fieldOf (w 2) 19 12
  let tpl := x && bitOf (w 6) 18
  if p.length ≠ (if x then (if mapped then 40 else 8) else 5) then some 0
  else if fieldOf (w 1) 31 23 ≠ 0 then some 1
  else if chans = 0 then
    if fieldOf (w 2) 31 20 ≠ 0 then some 2
    else if fieldOf (w 5) 31 23 ≠ 0 then some 5
    else if x && fieldOf (w 6) 31 23 ≠ 0 then some 6
    else if x && fieldOf (w 7) 31 25 ≠ 0 then some 7
    else none
  else if 6 ≤ fmt || chansMax fmt < chans || fieldOf (w 1) 20 19 = 0 || (bitOf (w 1) 22 && fmt ≠ 0) then some 1
  else
    let m := bindings mapped (fieldOf (w 2) 11 0) chans (p.drop 8)
    let pr := fun (j : Nat) => decide (j < 32) && bitOf (w 3) j
    let bind := firstPos chans (bindBad 0x800 pr m) (bindWord mapped 9 2)
    if fieldOf (w 2) 31 20 ≠ 0 || pt = 0 || (if fmt = 0 then 6 else 192) < pt || (!mapped && bind.isSome) then some 2
    else if x24Beyond (w 3) chans || (w 3 ≠ 0 && (fmt = 1 || fmt = 3)) then some 3
    else if tpl && w 4 ≠ 0 then some 4
    else if !tpl && (if fmt < 3 then fieldOf (w 4) 31 28 ≠ 0xE else !(bitOf (w 4) 24)) then some 4
    else if fieldOf (w 5) 31 23 ≠ 0 || (tpl && w 5 ≠ 0) || (3 ≤ fmt && fieldOf (w 5) 22 16 ≠ 0) then some 5
    else if !x then none
    else if fieldOf (w 6) 31 23 ≠ 0 || (bitOf (w 6) 20 && fmt ≠ 0) then some 6
    else if fieldOf (w 7) 31 25 ≠ 0 || 10000 < fieldOf (w 7) 15 0 || (fieldOf (w 7) 24 16 ≠ 0 && fmt ≠ 0) then some 7
    else if (fmt = 0 && w 8 ≠ 0) || (3 ≤ fmt && 50000000 < (w 8).toNat) then some 8
    else if mapped then firstPos 64 (fun c => entryBad (p.drop 8) chans c || bindBad 0x800 pr m c) (bindWord true 9 2)
    else none

/-- Another transmit stream than `n` holds sink `id` (R492). -/
def State.sinkHeld (s : State) (n id : Nat) : Bool :=
  s.stx.streams.any fun e => decide (e.1 ≠ n) && has e.2.map (some id)

/-- The bindings that the configuration in force forbids, at position `c` (R18, R492). -/
def State.sinkTaken (s : State) (n : Nat) (m : List (Option Nat)) (c : Nat) : Bool :=
  match m.getD c none with
  | some id => s.idExcluded id || s.sinkHeld n id
  | none => false

/-- Payload bytes after the template, with the AAF fields, of the largest packet of a stream. -/
def txPayloadLen (size : Nat) (t : TxStream) : Nat :=
  if t.format = 0 then 8 + t.ptime * (21 * t.chans * (size / 8) + 4)
  else t.ptime * t.wire.length * wireBytes t.format + (if 3 ≤ t.format then 12 else 0)

/-- The frame of a stream exceeds R447 on a port that it uses. -/
def State.txTooLong (s : State) (t : TxStream) (tpl : Nat → Option Template) : Bool :=
  [0, 1].any fun p => t.onPort p && decide (s.maxFrame p <
    (match tpl p with | some h => h.bytes.length | none => templateLen (if 3 ≤ t.format then 2 else 0) false)
      + txPayloadLen s.strokeSize t + 4)

/-- A template that a stream names is empty, or its KIND does not fit FORMAT (R516). -/
def txTemplateBad (t : TxStream) (tpl : Nat → Option Template) : Bool :=
  [0, 1].any fun p => t.onPort p && (match tpl p with
    | some h => decide ((h.kind = 2) ≠ (3 ≤ t.format))
    | none => true)

/-- Transmit channels of all streams but `n` (R39, R491). -/
def State.txChannels (s : State) (n : Nat) : Nat :=
  (s.stx.streams.map fun e => if e.1 = n then 0 else e.2.chans).sum

/-- The definition that a command gives stream `n` (R517). -/
def newTxStream (s : State) (x : Bool) (p : List Word) (n : Nat) : TxStream :=
  let words := stxWords s x p
  let chans := fieldOf (words.getD 0 0) 18 12
  let mapped := bitOf (words.getD 5 0) 22
  { words := words, map := bindings mapped (fieldOf (words.getD 1 0) 11 0) chans (p.drop 8),
    alloc := txAlloc s chans (fieldOf (words.getD 6 0) 24 16), rate := s.rateCode, s16 := s.s16,
    ctrl := w32 (2 + 2 ^ 8 * fieldOf (words.getD 0 0) 20 19),
    eventEn := (s.txStream n).eventEn }

/-- The templates after a definition of stream `n`: those built for it are replaced whole (R495, R517). -/
def txTemplates (s : State) (n : Nat) (t : TxStream) : Table Template :=
  let t0 := terase (terase s.stx.templates (512 + 2 * n)) (513 + 2 * n)
  if bitOf (t.word 6) 18 then t0
  else [0, 1].foldl (fun tb p => if t.onPort p then tset tb (512 + 2 * n + p) (builtTemplate s n p t.words) else tb) t0

/-- The word that names what the configuration in force forbids in a definition (R516). -/
def stxDefineBad (s : State) (n : Nat) (t : TxStream) (tb : Table Template) : Option Nat :=
  let mapped := bitOf (t.word 6) 22
  let tpl := fun p => tget tb (t.slot n p)
  let own := !(bitOf (t.word 6) 18)
  let bind := firstPos t.chans (s.sinkTaken n t.map) (bindWord mapped 9 2)
  if own && decide (t.format < 3) && [0, 1].any (fun p => t.onPort p && decide (s.reg (Reg.STX_SRC_IP4 p) = 0)) then some 1
  else if txTemplateBad t tpl then some 6
  else if s.txTooLong t tpl then some 1
  else if !mapped && bind.isSome then bind
  else if 32 * s.coreRate < t.window * s.strokeSize * 1000 then some 7
  else bind

/-- Stream `n` with a new definition and its templates; a store of the former one is discarded (R514, R517). -/
def State.txDefined (s : State) (n : Nat) (t : TxStream) (tb : Table Template) : State :=
  let s0 := (s.goodParity (bankedKey Reg.STX_STREAM_CTRL n)).txDropStore n
  { s0 with stx := { s0.stx with streams := tset s0.stx.streams n t, templates := tb } }

/-- Stream `n` becomes undefined, and what was built for it goes (R495, R516). -/
def State.txUndefined (s : State) (n : Nat) : State :=
  let s0 := (s.goodParity (bankedKey Reg.STX_STREAM_CTRL n)).txDropStore n
  { s0 with stx := { s0.stx with
      streams := terase s0.stx.streams n,
      templates := terase (terase s0.stx.templates (512 + 2 * n)) (513 + 2 * n) } }

/-- A definition of stream `n` fits the channels of R39 and buffer memory (R256, R517). -/
def State.txFits (s : State) (n : Nat) (t : TxStream) (tb : Table Template) : Bool :=
  decide (s.txChannels n + t.chans ≤ s.chanLimit)
    && decide ((s.txDefined n t tb).memUsed ≤ (s.txDefined n t tb).memCap)

/-- A definition leaves stream `n` and every template as they were. -/
def State.txSame (s : State) (n : Nat) (t : TxStream) (tb : Table Template) : Bool :=
  match tget s.stx.streams n with
  | some o => decide (o.words = t.words) && decide (o.map = t.map) && decide (o.ctrl = t.ctrl)
      && decide (o.rate = t.rate) && decide (o.s16 = t.s16) && decide (tb = s.stx.templates)
  | none => false

/-- `STX_DEFINE` at its commit point (R516, R517). -/
def commitStxDefine (x : Bool) (p : List Word) (s : State) : State × Res :=
  let n := fieldOf (p.getD 0 0) 8 0
  let new := newTxStream s x p n
  let tb := txTemplates s n new
  if fieldOf (p.getD 0 0) 18 12 = 0 then
    if (s.txStream n).enabled then (s, .fail .staleWrite 1)
    else (s.txUndefined n, .ok [w32 ((s.txUndefined n).freeKib % 65536)] (thas s.stx.streams n))
  else match stxDefineBad s n new tb with
    | some k => (s, .fail .badParam k)
    | none =>
      if (s.txStream n).enabled then (s, .fail .staleWrite 1)
      else if !(s.txFits n new tb) then (s, .fail .noResource 1)
      else
        let s1 := s.txDefined n new tb
        (s1, .ok [w32 (s1.freeKib % 65536)] (!(s.txSame n new tb)))

/-! ## STX_ENABLE, STX_DISABLE (R513, R514, R518, R519) -/

/-- `STX_ENABLE`, checks of the packet alone (R518). -/
def badStxEnable (x : Bool) (p : List Word) : Option Nat := badRange 10 x p

/-- Stream `n` cannot be enabled against the configuration in force (R518). -/
def State.txUnfit (s : State) (n : Nat) : Bool :=
  match tget s.stx.streams n with
  | none => true
  | some t =>
    let tpl := fun p => tget s.stx.templates (t.slot n p)
    decide (t.rate ≠ s.rateCode) || decide (t.s16 ≠ s.s16) || txTemplateBad t tpl || s.txTooLong t tpl

/-- The first sequence number of an enable: the template's, or of Course Time (R493). -/
def State.txFirstSeq (s : State) (n : Nat) : Nat :=
  match s.txTemplate n (s.txStream n).firstPort with
  | none => 0
  | some h => if h.randSeq then s.ntu.course % (if h.kind = 2 then 256 else 65536) else h.seq

/-- An enable of stream `n`; a store that still serves is kept (R430, R451, R493, R514). -/
def txEnable (s : State) (n : Nat) (t : TxStream) : TxStream :=
  { t with state := .enabled, enableWait := some s.boundaryWait, stopWait := none, dropStore := false, acc := none,
           seq := s.txFirstSeq n, mr := !t.mr, lfsr := 1 + n }

/-- Stream `n` is idle: DISABLED or SERVING. -/
def State.txIdle (s : State) (n : Nat) : Bool :=
  decide ((s.txStream n).state = .disabled) || decide ((s.txStream n).state = .serving)

/-- `STX_ENABLE` at its commit point (R514, R518). -/
def commitStxEnable (x : Bool) (p : List Word) (s : State) : State × Res :=
  let ns := namedStreams x p
  if ns.any s.txUnfit then (s, .fail .badParam 1)
  else if ns.any fun n => decide ((s.txStream n).state = .stopping) then (s, .start (.txAt ns))
  else
    let on := ns.filter s.txIdle
    let w := w32 (on.length + 2 ^ 10 * (ns.length - on.length))
    if on = [] then let (v, s1) := s.takeWord; (s1, .ok [w, v])
    else (on.foldl (fun s n => s.onTx n (txEnable s n)) s, .later .boundary [w] true)

/-- `STX_DISABLE`, checks of the packet alone (R519). -/
def badStxDisable (x : Bool) (p : List Word) : Option Nat := badRange 11 x p

/-- Disable one transmit stream; the flag says whether a disable started (R513). -/
def State.txDisable (s : State) (drop : Bool) (n : Nat) : State × Bool :=
  if (s.txStream n).state = .enabled then
    (s.onTx n fun t => { t with state := .stopping, stopWait := some s.boundaryWait, dropStore := drop }, true)
  else (s, false)

/-- `STX_DISABLE` at its commit point (R514, R519). -/
def commitStxDisable (x : Bool) (p : List Word) (s : State) : State × Res :=
  let ns := namedStreams x p
  let drop := x && bitOf (p.getD 1 0) 10
  if ns.any fun n => !(thas s.stx.streams n) then (s, .fail .badParam 1)
  else
    let run := ns.foldl (fun (a : State × List Nat) n =>
      let (s1, off) := a.1.txDisable drop n
      (s1, if off then a.2 ++ [n] else a.2)) (s, [])
    let w := w32 (run.2.length + 2 ^ 10 * (ns.length - run.2.length))
    if run.2 = [] then let (v, s1) := s.takeWord; (s1, .ok [w, v])
    else (run.1, .later (.txIdle run.2) [w] true)

/-- Every transmit stream is disabled (R100, R514). -/
def stxDisableAll (s : State) : State := (s.stx.streams.map Prod.fst).foldl (fun s n => (s.txDisable false n).1) s

/-! ## STX_QUERY, STX_TEMPLATE (R520, R521) -/

/-- STX_STREAM_STATUS (R523). -/
def State.txStatusWord (s : State) (n : Nat) : Word :=
  match tget s.stx.streams n with
  | none => 0
  | some t => w32 (stxStateCode t.state + 2 ^ 3 * b2n (decide (0 < t.window)) + 2 ^ 4 * t.cls + 2 ^ 5 * t.format
      + 2 ^ 8 * t.chans + 2 ^ 15 * t.ptime + 2 ^ 23 * t.window)

/-- STX_STREAM_HELD (R501, R523). -/
def State.txHeldWord (s : State) (n : Nat) : Word :=
  let t := s.txStream n
  w32 (t.store.length + 2 ^ 16 * (match t.store.getLast? with
    | some b => blockSeq (if t.s16 then 16 else 8) b.stroke
    | none => 0))

/-- Definition word `i` as in force: PORTS are those of STX_STREAM_CTRL (R520). -/
def TxStream.inForce (t : TxStream) (i : Nat) : Word := if i = 1 then withField (t.word 1) 20 19 t.ports else t.word i

/-- The body of `STX_QUERY` (R520). -/
def stxBody (s : State) (x : Bool) (n : Nat) : List Word :=
  match tget s.stx.streams n with
  | none => List.replicate (if x then 50 else 10) 0
  | some t =>
    [s.txStatusWord n, t.inForce 1, t.inForce 2, t.inForce 3, t.inForce 4, t.inForce 5, t.inForce 6, t.inForce 7,
     t.inForce 8, s.txHeldWord n] ++ (if x then t.cnt.map w32 ++ mapWords t.map else [])

/-- `STX_QUERY`, checks of the packet alone (R520). -/
def badStxQuery (x : Bool) (p : List Word) : Option Nat :=
  if p.length ≠ 1 then some 0 else if fieldOf (p.getD 0 0) 31 (if x then 10 else 9) ≠ 0 then some 1 else none

/-- `STX_QUERY` at its commit point; CLEAR acts after the snapshot (R520). -/
def commitStxQuery (x : Bool) (p : List Word) (s : State) : State × Res :=
  let n := fieldOf (p.getD 0 0) 8 0
  let body := stxBody s x n
  (if x && bitOf (p.getD 0 0) 9 then s.onTx n fun t => { t with cnt := List.replicate 8 0 } else s, .ok body)

/-- The template bytes in parameter words. -/
def templateBytes (ws : List Word) : List Byte := ws.flatMap fun w => beBytes 4 w.toNat

/-- `STX_TEMPLATE`, checks of the packet alone (R494, R521). -/
def badStxTemplate (x : Bool) (p : List Word) : Option Nat :=
  let w := p.getD 0 0
  let kind := fieldOf w 10 9
  let tagged := bitOf w 11
  let len := templateLen kind tagged
  let head := if x then 2 else 1
  let remove := x && bitOf (p.getD 1 0) 0
  let words := (len + 3) / 4
  let bs := templateBytes (p.drop head)
  if p.length < head then some 0
  else if fieldOf w 31 12 ≠ 0 || kind = 3 then some 1
  else if x && fieldOf (p.getD 1 0) 31 2 ≠ 0 then some 2
  else if p.length ≠ (if remove then 2 else head + words) then some 0
  else if remove then none
  else match templateFault kind tagged bs with
    | some o => some (head + 1 + o / 4)
    | none => if (bs.drop len).any fun b => decide (b ≠ 0) then some (head + words) else none

/-- Stream `n` names template slot `i` for a port that it uses. -/
def TxStream.names (t : TxStream) (i : Nat) : Bool :=
  bitOf (t.word 6) 18 && [0, 1].any fun p => t.onPort p && decide (t.slot 0 p = i)

/-- `STX_TEMPLATE` at its commit point (R515, R521). -/
def commitStxTemplate (x : Bool) (p : List Word) (s : State) : State × Res :=
  let w := p.getD 0 0
  let i := fieldOf w 8 0
  let users := s.stx.streams.filter fun e => e.2.names i
  let remove := x && bitOf (p.getD 1 0) 0
  if users.any fun e => e.2.enabled || decide (e.2.state = .serving) then (s, .fail .staleWrite 1)
  else
    let len := templateLen (fieldOf w 10 9) (bitOf w 11)
    let new : Template := { kind := fieldOf w 10 9, tagged := bitOf w 11, randSeq := x && bitOf (p.getD 1 0) 1,
                            bytes := (templateBytes (p.drop (if x then 2 else 1))).take len }
    let tb := if remove then terase s.stx.templates i else tset s.stx.templates i new
    ({ s with stx := { s.stx with templates := tb } },
     .ok [w32 (i + 2 ^ 9 * b2n (!remove) + 2 ^ 10 * users.length)] (decide (tb ≠ s.stx.templates)))

/-! ## Registers (R522, R523) -/

/-- STX_STATUS (R523). -/
def State.stxStatus (s : State) : Word :=
  w32 (s.stx.streams.length + 2 ^ 10 * tcount s.stx.streams TxStream.enabled
    + 2 ^ 20 * tcount s.stx.streams (fun t => decide (t.state = .serving)) + 2 ^ 30 * b2n (decide (s.mode = .island)))

/-- STX_STREAM_PEND[i] (R523). -/
def State.stxPendWord (s : State) (i : Nat) : Word :=
  w32 (bitsOfList ((List.range 32).filter fun j => s.txPending (32 * i + j)))

end Sys2Proof.Machine
end

