-- ==== Sys2Proof/Machine/Rerow.lean ====
section
/-! DEFINITION. Re-row requests as STX receives, admits, decides and answers them, and GONE frames as it hands them to SRX
(R503 to R512). -/
namespace Sys2Proof.Machine

/-! ## Receiving a re-row frame (R503, R504, R506, R511) -/

/-- A re-row frame that passes the checks of R504 that need no state: its TYPE and what it says. -/
def readRerow (d : RxFrame) : Option (Nat × RrReq) :=
  let f := parseFrame d.bytes
  let u := f.payload
  let n := beAt u 5 1
  let typ := beAt u 4 1 % 16
  let ranges := (List.range n).map fun i => (beAt u (32 + 4 * i) 2, beAt u (34 + 4 * i) 2)
  let addr := beAt u 12 16
  let mapped := decide (addr / 2 ^ 32 = 0xFFFF)
  let ok := f.udp && f.udpOk && !f.frag && decide (beAt u 0 4 = 0x484C5252) && decide (beAt u 4 1 / 16 = 1)
    && (decide (typ = 1) || decide (typ = 2)) && decide (1 ≤ n) && decide (n ≤ if typ = 1 then 16 else 32)
    && decide (u.length = 32 + 4 * n) && ranges.all (fun r => decide (1 ≤ r.2) && decide (r.2 ≤ 512))
    && decide (mapped = f.ip4)
  if !ok then none else
  some (typ, { stamp := d.stamp, tx := beAt u 6 2 % 512, rx := beAt u 8 2 % 512, token := beAt u 10 2, addr := addr,
               rport := beAt u 28 2, ranges := ranges, srcMac := f.src, tag := if f.tagged then some f.tci else none,
               dstIp := f.ipDst, dstPort := f.dport, ip6 := f.ip6, via := d.port })

/-- The UDP destination port of a request fits the stream it names (R504). -/
def State.rrPortOk (s : State) (r : RrReq) : Bool :=
  match tget s.stx.streams r.tx with
  | none => true
  | some t => decide (t.window = 0) || [0, 1].any (fun p => t.onPort p && (match s.txTemplate r.tx p with
      | some h => decide (r.dstPort = beAt h.bytes h.udpAt 2 + 1)
      | none => false))

/-- Requests outstanding on port `p`, oldest first (R506). -/
def State.rrList (s : State) (p : Nat) : List RrReq := if p = 0 then s.stx.reqA else s.stx.reqB

/-- Change the outstanding requests of port `p`. -/
def State.setRrList (s : State) (p : Nat) (l : List RrReq) : State :=
  { s with stx := if p = 0 then { s.stx with reqA := l } else { s.stx with reqB := l } }

/-- A frame that fails a check of R504. -/
def State.rrBad (s : State) : State := (s.bump Reg.STX_RR_BAD).flag Reg.STX_EVENT 1

/-- Admit a request on port `p`, or discard it where 256 are outstanding (R506). -/
def rrAdmit (p : Nat) (r : RrReq) (s : State) : State :=
  if 256 ≤ (s.rrList p).length then (s.bump (Reg.STX_RR_OVERFLOW p)).flag Reg.STX_EVENT 2
  else s.setRrList p (s.rrList p ++ [r])

/-- A re-row frame that the Rudder delivers to STX (R504, R511). -/
def rerowIn (d : Delivered) (s : State) : State :=
  match readRerow d.frame with
  | none => s.rrBad
  | some (typ, r) =>
    if typ = 2 then { s with stx := { s.stx with gones := s.stx.gones ++ [d] } }
    else if s.rrPortOk r then rrAdmit d.frame.port r s else s.rrBad

/-- REROW_REQUEST_RECEIVED: STX checks the oldest re-row frame delivered to it (R504, R506). -/
def execRerowRequestReceived (s : State) : Host.Outcome State Fault Refusal :=
  let s0 := fresh s
  .next (settle (match s.stx.inq with
    | [] => s0
    | d :: rest => rerowIn d { s0 with stx := { s0.stx with inq := rest } }))

/-- GONE_RECEIVED: the oldest GONE frame is handed to SRX for the receive stream it names (R475, R511). -/
def execGoneReceived (s : State) : Host.Outcome State Fault Refusal :=
  let s0 := fresh s
  .next (settle (match s.stx.gones with
    | [] => s0
    | d :: rest =>
      let s1 := { s0 with stx := { s0.stx with gones := rest } }
      match readRerow d.frame with
      | some (_, r) => srxGone r.rx r.ranges s1
      | none => s1))

/-! ## Deciding a request (R505 to R508, R512) -/

/-- A list without what stands in it a second time. -/
def firstOnly (l : List Nat) : List Nat := (l.foldl (fun acc x => if has acc x then acc else x :: acc) []).reverse

/-- The stream whose store answers a request, if any serves (R507). -/
def State.rrServes (s : State) (r : RrReq) : Option TxStream :=
  match tget s.stx.streams r.tx with
  | none => none
  | some t => if t.rr && decide (s.mode ≠ .island) then some t else none

/-- The sequence numbers that a stream's store holds (R444, R501). -/
def heldSeqs (t : TxStream) : List Nat := t.store.map fun b => blockSeq (if t.s16 then 16 else 8) b.stroke

/-- The GONE frame of a request that arrived on port `p`, for the blocks `gone` (R505). -/
def goneFrameOf (s : State) (p : Nat) (r : RrReq) (gone : List Nat) : List Byte :=
  let body := rerowPayload 2 r.tx r.rx r.token r.addr r.rport ((mergeSeqs gone []).take 32)
  udpFrame r.srcMac (s.portMac p) r.tag r.ip6 0 64 r.dstIp (if r.ip6 then r.addr else r.addr % 2 ^ 32) r.dstPort r.rport body

/-- The port on which the blocks of a request that arrived on port `p` leave (R508). -/
def State.rrVia (s : State) (t : TxStream) (p : Nat) : Option Nat :=
  if t.onPort p && (s.port p).link then some p
  else if t.onPort (1 - p) && (s.port (1 - p)).link then some (1 - p)
  else none

/-- Decide a request: its held and GONE sets are fixed, and it counts (R506, R507, R508, R512). -/
def rrDecide (p : Nat) (r : RrReq) (s : State) : State × RrReq :=
  let seqs := firstOnly (rangeSeqs r.ranges)
  let serves := s.rrServes r
  let heldAll := match serves with | some t => heldSeqs t | none => []
  let held := seqs.filter fun q => has heldAll q
  let gone := seqs.filter fun q => !(has heldAll q)
  let via := match tget s.stx.streams r.tx with | some t => s.rrVia t p | none => none
  let s1 := s.txCount r.tx 3
  let s2 := if gone = [] then s1 else (s1.txCount r.tx 5 gone.length).txFlag r.tx 4
  let s3 := if held ≠ [] && via.isNone then (s2.bump Reg.STX_RR_NOPORT).flag Reg.STX_EVENT 3 else s2
  (s3, { r with decided := true, goneFrame := if gone = [] then none else some (goneFrameOf s p r gone),
                blocks := if via.isSome then held else [], via := via.getD p })

/-! ## Sending the frames of an answer (R507 to R510) -/

/-- Bytes of a frame on the wire: with padding, FCS, preamble and gap (R509). -/
def wireSize (bs : List Byte) : Nat := Nat.max 60 bs.length + 4 + 20

/-- A frame of `n` bytes on the wire fits the rest of the stroke's budget of port `p` (R509). -/
def State.rrFits (s : State) (p n : Nat) : Bool :=
  let b := Nat.min 64 (if p = 0 then s.regField Reg.STX_RR_CFG 6 0 else s.regField Reg.STX_RR_CFG 14 8)
  let used := if p = 0 then s.stx.usedA else s.stx.usedB
  b = 64 || (used + n) * 512 * s.coreRate ≤ b * s.portRate p * s.strokeSize

/-- Charge `n` bytes to the budget of port `p`. -/
def State.rrCharge (s : State) (p n : Nat) : State :=
  { s with stx := if p = 0 then { s.stx with usedA := s.stx.usedA + n } else { s.stx with usedB := s.stx.usedB + n } }

/-- Offer a frame of an answer to queue 6 of port `p`: whether it entered, and whether the budget holds it back. -/
def rrOffer (s : State) (p n : Nat) (bs : List Byte) : State × Bool × Bool :=
  if !(s.rrFits p (wireSize bs)) then (s, false, true)
  else
    let (s1, ok) := s.egress p 6 { bytes := bs, kind := .rerowAnswer n }
    if ok then (s1.rrCharge p (wireSize bs), true, false) else (s, false, false)

/-- The leading run of consecutive sequence numbers, at most `n` of them. -/
def leadRun : Nat → List Nat → List Nat
  | 0, _ => []
  | _, [] => []
  | n + 1, q :: rest =>
    match rest with
    | [] => [q]
    | q2 :: _ => if q2 = (q + 1) % 65536 then q :: leadRun n rest else [q]

/-- A block as it is sent again: RRW in every group, and its CRC changed by linearity (R507). -/
def rerowBlock (b : Block) : List Byte :=
  let set := fun (i : Nat) (x : Byte) => if i % 21 = 0 then x ||| 0x10 else x
  let new := (List.range b.bytes.length).map fun i => set i (b.bytes.getD i 0)
  new ++ beBytes 4 (b.crc ^^^ crc32c new ^^^ crc32c b.bytes)

/-- The template of a re-launch packet: with REPLY_UNICAST, addressed to the requester where the IP versions agree
(R508). -/
def replyTemplate (t : TxStream) (r : RrReq) (h : Template) : Template :=
  if bitOf (t.word 6) 21 && decide (r.ip6 = decide (h.kind = 1)) then
    let bs := putAt h.bytes 0 (beBytes 6 r.srcMac)
    { h with bytes := if r.ip6 then putAt bs (h.l3 + 24) (beBytes 16 r.addr)
                      else putAt bs (h.l3 + 16) (beBytes 4 (r.addr % 2 ^ 32)) }
  else h

/-- The re-launch packet of blocks `bs` for request `r`; its RTP sequence number is that of the last regular packet sent
on the port, `last` (R507). -/
def relaunchFrame (s : State) (t : TxStream) (r : RrReq) (h : Template) (last : Nat) (bs : List Block) : List Byte :=
  let size := if t.s16 then 16 else 8
  let k := match bs with | b :: _ => b.stroke | [] => 0
  let ts := k * size % 2 ^ 32
  fillTemplate (replyTemplate t r h)
    { smac := s.portMac r.via, seq := last, ts := ts,
      payload := hlfHeader t.s16 t.rate bs.length t.chans (t.word 3).toNat (ts / size) r.tx true ++ bs.flatMap rerowBlock }

/-- The sequence number of the last regular packet on the reply port; a free value where the stream has sent none
there. -/
def State.rrLastSeq (s : State) (t : TxStream) (p : Nat) : Nat × State :=
  match if p = 0 then t.lastA else t.lastB with
  | some q => (q, s)
  | none => (Config.freeNat s.free % 65536, { s with free := s.free + 1 })

/-- Note that the next frame of a request waits for the next stroke; each stroke counts once (R509). -/
def rrDefer (s : State) (r : RrReq) : State × RrReq :=
  if r.deferred = some s.mck.stroke then (s, r)
  else ((s.txCount r.tx 7).txFlag r.tx 6, { r with deferred := some s.mck.stroke })

/-- Send the GONE frame of a decided request that arrived on port `p`; the flag says whether the request may go on. -/
def rrSendGone (p : Nat) (s : State) (r : RrReq) : State × RrReq × Bool :=
  match r.goneFrame with
  | none => (s, r, true)
  | some bs =>
    let (s1, ok, held) := rrOffer s p r.tx bs
    if ok then (s1, { r with goneFrame := none }, true)
    else if held then let (s2, r2) := rrDefer s1 r; (s2, r2, false)
    else (s1, r, false)

/-- Send the re-launch packets of a request, one for each run of at most NBLK blocks; `fuel` bounds their number. -/
def rrSendBlocks : Nat → State → RrReq → State × RrReq
  | 0, s, r => (s, r)
  | fuel + 1, s, r =>
    match tget s.stx.streams r.tx, s.txTemplate r.tx r.via with
    | some t, some h =>
      let run := leadRun t.ptime r.blocks
      let bs := run.filterMap fun q => t.store.find? fun b => decide (blockSeq (if t.s16 then 16 else 8) b.stroke = q)
      if bs = [] then (s, { r with blocks := [] }) else
      let (last, s0) := s.rrLastSeq t r.via
      let (s1, ok, held) := rrOffer s0 r.via r.tx (relaunchFrame s t r h last bs)
      if ok then rrSendBlocks fuel (s1.txCount r.tx 4 bs.length) { r with blocks := r.blocks.drop run.length }
      else if held then rrDefer s1 r
      else (s1, r)
    | _, _ => (s, { r with blocks := [] })

/-- Decide the oldest undecided request of a list (R506). -/
def rrDecideFirst (p : Nat) (s : State) : List RrReq → State × List RrReq
  | [] => (s, [])
  | r :: rest =>
    if r.decided then let (s1, l) := rrDecideFirst p s rest; (s1, r :: l)
    else let (s1, r1) := rrDecide p r s; (s1, r1 :: rest)

/-- Send the frames that wait, in order; the first that cannot enter queue 6 holds back those behind it (R509). -/
def rrSend (p : Nat) (s : State) : List RrReq → State × List RrReq
  | [] => (s, [])
  | r :: rest =>
    if !r.decided then (s, r :: rest) else
    let (s1, r1, go) := rrSendGone p s r
    if !go then (s1, r1 :: rest) else
    let (s2, r2) := rrSendBlocks r1.blocks.length s1 r1
    if r2.blocks = [] then rrSend p s2 rest else (s2, r2 :: rest)

/-- STX decides the oldest undecided request of port `p`, and offers its frames and those that wait (R506 to R510). -/
def rrAnswer (p : Nat) (s : State) : State :=
  let (s1, l) := rrDecideFirst p s (s.rrList p)
  let (s2, l2) := rrSend p s1 l
  s2.setRrList p l2

/-- REROW_ANSWER: STX decides a request and sends the GONE frame and re-launch packets (R507). -/
def execRerowAnswer (port : Nat) (s : State) : Host.Outcome State Fault Refusal :=
  let s0 := fresh s
  .next (settle (if port < 2 then rrAnswer port s0 else s0))

end Sys2Proof.Machine
end

