-- ==== Sys2Proof/Machine/Cascade.lean ====
section
/-! DEFINITION. The cascade commands and tunnelled packets (R621 to R624, R632 to R634). -/
namespace Sys2Proof.Machine

/-! ## CASCADE_CONFIG (R632, R633) -/

/-- The length that a packet header gives (R210). -/
def packetLen (h : Word) : Nat := 1 + fieldOf h 13 8 + fieldOf h 14 14

/-- FORM of a `CASCADE_CONFIG`. -/
def cascadeForm (p : List Word) : Nat := fieldOf (p.getD 0 0) 1 0

/-- An inner packet that is a `CASCADE_CONFIG` in the TUNNEL form (R632). -/
def innerTunnel (ws : List Word) : Bool :=
  decide (fieldOf (ws.getD 0 0) 31 24 = 0x68) && decide (fieldOf (ws.getD 1 0) 1 0 = 1)

/-- `CASCADE_CONFIG`, checks of the packet alone (R632). -/
def badCascadeConfig (x : Bool) (p : List Word) : Option Nat :=
  let w := p.getD 0 0
  let w2 := p.getD 1 0
  match cascadeForm p with
  | 0 =>
    if p.length ≠ (if x then 2 else 1) then some 0
    else if fieldOf w 31 5 ≠ 0 then some 1
    else if x && (decide (fieldOf w2 7 2 ≠ 0) || decide (fieldOf w2 31 24 ≠ 0) || decide (fieldOf w2 23 8 = 0)) then some 2
    else none
  | 1 =>
    let l := p.length - 1
    if p.length < 3 then some 0
    else if fieldOf w 31 5 ≠ 0 || fieldOf w 4 2 = 0 then some 1
    else if packetLen w2 ≠ l || innerTunnel (p.drop 1) then some 2
    else none
  | 2 =>
    if p.length ≠ 2 then some 0
    else if fieldOf w 31 2 ≠ 0 then some 1
    else if fieldOf w2 31 23 ≠ 0 || fieldOf w2 18 9 = 0 || 512 < fieldOf w2 8 0 + fieldOf w2 18 9 || 8 < fieldOf w2 22 19 then some 2
    else none
  | _ =>
    if p.length ≠ 1 then some 0 else if fieldOf w 31 4 ≠ 0 then some 1 else none

/-- The forms that only a Cox carries out: check 7 of R224 (R632, R634). -/
def cascadeNotCox (p : List Word) (s : State) : Bool :=
  (decide (cascadeForm p = 1) || decide (cascadeForm p = 2)) && decide (s.role ≠ 1)

/-- OBL_CFG as a SETUP leaves it (R632). -/
def setupWord (x : Bool) (p : List Word) : Word :=
  let w := p.getD 0 0
  let w2 := p.getD 1 0
  let wake := if x then bitOf w2 0 else true
  let wait := if x then fieldOf w2 23 8 else 100
  w32 (fieldOf w 4 2 + 8 * b2n wake + 2 ^ 16 * wait)

/-- The SETUP form at its commit point (R225, R632). -/
def commitSetup (x : Bool) (p : List Word) (s : State) : State × Res :=
  let old := s.reg Reg.OBL_CFG
  let new := setupWord x p
  if s.role = 0 then (s, .fail .refused 0 [3])
  else if bitOf old 2 ≠ bitOf new 2 && (bitOf old 0 || bitOf old 1) then (s, .fail .staleWrite 1)
  else
    let s1 := oblPower (s.setReg Reg.OBL_CFG new)
    let s2 := if x && bitOf (p.getD 1 0) 1 then oblRelearn s1 else s1
    (s2, .ok [s2.oblStatus] (decide (old ≠ new)))

/-- The TUNNEL form at its commit point: the inner packet leaves for its Seat (R621, R623). -/
def commitTunnel (tag : BitVec 7) (p : List Word) (s : State) : State × Res :=
  let seat := fieldOf (p.getD 0 0) 4 2
  match s.portTo seat with
  | some q =>
    if s.obl.conflict then (s, .fail .refused 0 [1])
    else (s.oblTunnel q seat tag.toNat false (p.drop 1), .later (.tunnelled seat) [])
  | none => (s, .fail .refused 0 [1])

/-- Boundaries until an owner table applies: the first at least 2 strokes after now (R632). -/
def State.laneWait (s : State) : Nat := if s.ntu.course = s.mck.strokeAt then 2 else 3

/-- The LANES form at its commit point (R616, R632). -/
def commitLanes (p : List Word) (s : State) : State × Res :=
  let w2 := p.getD 1 0
  let os := List.replicate (fieldOf w2 18 9) (fieldOf w2 22 19)
  let first := fieldOf w2 8 0
  let changed := (List.range os.length).any fun i => decide (s.ownerSoon (first + i) ≠ (if fieldOf w2 22 19 < 8 then some (fieldOf w2 22 19) else none))
  if s.mck.grid then
    ({ s with obl := { s.obl with ownersNext := s.obl.ownersNext ++ [(s.laneWait, first, os)] } }, .later .lanes [] changed)
  else ({ s with obl := { s.obl with owners := setOwners s.obl.owners first os } }, .ok [0] changed)

/-- The WAKE form at its commit point (R625, R632). -/
def commitWake (p : List Word) (s : State) : State × Res :=
  let w := p.getD 0 0
  if s.role = 0 then (s, .fail .refused 0 [3])
  else
    let go := fun (q : Nat) => bitOf w (2 + q) && !(s.oblRun q)
    let s1 := if go 0 then s.oblWake 0 else s
    let s2 := if go 1 then s1.oblWake 1 else s1
    (s2, .ok [w32 (b2n (go 0) + 2 * b2n (go 1))])

/-- `CASCADE_CONFIG` at its commit point (R632); `tag` is the tag of the command. -/
def commitCascadeConfig (tag : BitVec 7) (x : Bool) (p : List Word) (s : State) : State × Res :=
  match cascadeForm p with
  | 0 => commitSetup x p s
  | 1 => commitTunnel tag p s
  | 2 => commitLanes p s
  | _ => commitWake p s

/-! ## CASCADE_STATUS (R634) -/

/-- `CASCADE_STATUS`, checks of the packet alone (R634). -/
def badCascadeStatus (x : Bool) (p : List Word) : Option Nat :=
  let w := p.getD 0 0
  if p.length ≠ 1 then some 0
  else if x && (decide (fieldOf w 31 3 ≠ 0) || decide (fieldOf w 2 0 = 0)) then some 1
  else if !x && decide (w ≠ 0) then some 1
  else none

/-- `CASCADE_STATUS` at its commit point (R634). -/
def commitCascadeStatus (x : Bool) (p : List Word) (s : State) : State × Res :=
  if x then
    let seat := fieldOf (p.getD 0 0) 2 0
    let die := (tgetD s.obl.seatInfo seat {}).die
    (s, .ok [s.seatStatus seat, w32 (die / 2 ^ 32), w32 die])
  else
    (s, .ok [s.oblStatus, s.oblPortStatus 0, s.oblPortStatus 1, satWord (s.oblDelay 0), satWord (s.oblDelay 1), s.oblHopErr,
      w32 (s.oblCoxId / 2 ^ 32), w32 s.oblCoxId])

/-! ## TUNNEL frames (R622, R623) -/

/-- The words of a TUNNEL frame. -/
def tunnelWords (f : OblFrame) : List Word :=
  (List.range (f.index / 8 % 16)).map fun i => w32 (beAt f.payload (4 * i) 4)

/-- Whether a packet being received is the one that frame `f` belongs to. -/
def sameTunnel (seat token : Nat) (reply : Bool) (t : TunnelIn) : Bool :=
  decide (t.seat = seat) && decide (t.token = token) && decide (t.reply = reply)

/-- Add a TUNNEL frame to the packet it belongs to; the packet is answered when its last word is there, and a packet with a
missing word is discarded (R622). -/
def tunnelGather (q : Nat) (f : OblFrame) (s : State) : State × Option (List Word) :=
  let seat := f.index / 8192
  let first := f.index / 128 % 64
  let reply := f.flags.testBit 1
  let old := if first = 0 then [] else match s.obl.tunnels.find? (sameTunnel seat f.stroke reply) with
    | some t => t.words
    | none => []
  let rest := s.obl.tunnels.filter fun t => !(sameTunnel seat f.stroke reply t)
  let s0 := { s with obl := { s.obl with tunnels := rest } }
  if old.length ≠ first then (s0, none)
  else
    let ws := old ++ tunnelWords f
    if f.flags % 2 = 1 then (s0, some ws)
    else
      let t : TunnelIn := { port := q, seat := seat, token := f.stroke, reply := reply, words := ws }
      ({ s0 with obl := { s0.obl with tunnels := rest ++ [t] } }, none)

/-- The body of an outer reply: the inner opcode, status, WORD and GEN8, then the inner body (R623, R633). -/
def outerBody (ws : List Word) : List Word :=
  let h0 := ws.getD 0 0
  let h1 := ws.getD 1 0
  let body := ws.drop 2
  let body' := if bitOf h1 8 then body.dropLast else body
  w32 (fieldOf h0 31 24 + 2 ^ 8 * fieldOf h0 15 8 + 2 ^ 16 * fieldOf h1 21 16 + 2 ^ 24 * fieldOf h1 31 24) :: body'

/-- The outer command with TAG `token` that awaits Seat `seat` (R621). -/
def State.outerFlight (s : State) (seat token : Nat) : Option Flight :=
  s.cmd.flights.find? fun f => decide (f.phase = .committed) && decide (f.fin = .tunnelled seat) && decide (f.tag.toNat = token)

/-- A TUNNEL frame arrives on port `q` (R621 to R623). A whole packet for this Seat is answered with its token, for the
Command Processor to take in. -/
def tunnelFrame (q : Nat) (f : OblFrame) (s : State) : State × Option (Nat × List Word) :=
  let seat := f.index / 8192
  let reply := f.flags.testBit 1
  if !(s.oblRun q) || s.obl.conflict then (s, none)
  else if s.role = 1 then
    if !reply then (s, none) else
    match s.outerFlight seat f.stroke with
    | none => ((s.bump Reg.OBL_TUN_LATE).flag Reg.OBL_EVENT 8, none)
    | some fl =>
      let (s1, done) := tunnelGather q f s
      match done with
      | some ws => (s1.answer fl .ok 0 (outerBody ws), none)
      | none => (s1, none)
  else if reply then
    (if q = s.farSide && s.oblRun s.coxSide then s.oblForward s.coxSide f else s, none)
  else if q ≠ s.coxSide then (s, none)
  else if s.obl.posValid && decide (seat = s.obl.pos) then
    let (s1, done) := tunnelGather q f s
    (s1, done.map fun ws => (f.stroke, ws))
  else (if s.oblRun s.farSide then s.oblForward s.farSide f else s, none)

/-- TUNNEL_WAIT_EXPIRED: no inner reply has arrived within TUNNEL_WAIT (R623). -/
def execTunnelWaitExpired (tag : BitVec 7) (s : State) : Host.Outcome State Fault Refusal :=
  let s0 := fresh s
  .next (settle (match s.cmd.flights.find? fun f => decide (f.phase = .committed) && decide (f.tag = tag)
      && (match f.fin with | .tunnelled _ => true | _ => false) with
    | some f => s0.answer f .refused 0 [2]
    | none => s0))

end Sys2Proof.Machine
end

