-- ==== Sys2Proof/Machine/Ptp.lean ====
section
/-! DEFINITION. Network Time under the firmware: the compensation of port stamps, PTP messages, the best master clock
algorithm, the servo, and the commands `PTP_CONFIG`, `PTP_PORT` and `TIME_SET` (R354 to R374, R381 to R384). -/
namespace Sys2Proof.Machine

/-! ## Compensation (R360) -/

/-- A compensated receive stamp (R360). -/
def State.rxStamp (s : State) (p raw : Nat) : Nat :=
  unsgn 64 ((raw : Int) - roundPs (sgn 32 (s.facTs p 1).toNat + sgn 32 (s.reg (Reg.NTU_USR_RX p)).toNat))

/-- A compensated transmit stamp (R360). -/
def State.txStamp (s : State) (p raw : Nat) : Nat :=
  unsgn 64 ((raw : Int) + roundPs (sgn 32 (s.facTs p 0).toNat + sgn 32 (s.reg (Reg.NTU_USR_TX p)).toNat))

/-! ## PTP instances (R354 to R358) -/

/-- The PTP instance of port `p`. -/
def State.ptpPort (s : State) (p : Nat) : PtpPort := s.ntu.ports.getD p {}

/-- Change the PTP instance of port `p`. -/
def State.onPtp (s : State) (p : Nat) (f : PtpPort → PtpPort) : State :=
  { s with ntu := { s.ntu with ports := listMod s.ntu.ports p f } }

/-- Put an instance's portState; a change sets PORT_STATE, and references 0 and 1 follow it (R389, R390, R394). -/
def State.ptpState (s : State) (p st : Nat) : State :=
  if (s.ptpPort p).state = st then s
  else ((s.onPtp p fun q => { q with state := st }).flag Reg.NTU_EVENT 9).trackRefs

/-- The time port (R358). -/
def State.timePort (s : State) : Option Nat :=
  let slave := fun p => decide ((s.ptpPort p).state = 9)
  match s.ntu.ptp.timePort with
  | 1 => if slave 0 then some 0 else none
  | 2 => if slave 1 then some 1 else none
  | _ => match s.mck.sel with
    | some 0 => some 0
    | some 1 => some 1
    | _ => if slave 0 then some 0 else if slave 1 then some 1 else none

/-- The source port identity of an instance: its clock identity and portNumber 1. -/
def PtpPort.identity (q : PtpPort) : Nat := q.clockId * 2 ^ 16 + 1

/-- The clock identity that the port's MAC address gives (R383). -/
def macIdentity (m : Nat) : Nat := m / 2 ^ 24 * 2 ^ 40 + 0xFFFE * 2 ^ 24 + m % 2 ^ 24

/-- Profile 4 is 802.1AS (R356). -/
def State.ptpAs (s : State) : Bool := decide (s.ntu.ptp.profile = 4)

/-- The intervals of an instance in force, as log₂ of seconds: the configured ones, or those that an 802.1AS message interval
request has set (R354, R356). -/
def PtpPort.annLog (q : PtpPort) : Int := q.reqAnnounce.getD q.logAnnounce
def PtpPort.syncLog (q : PtpPort) : Int := q.reqSync.getD q.logSync
def PtpPort.delayLog (q : PtpPort) : Int := q.reqDelay.getD q.logDelay

/-- An interval code at which a message is not sent (R354). -/
def logStop : Int := 127

/-- The instance of port `p` sends and takes Announce and Sync: with 802.1AS it must be asCapable (R355). -/
def State.ptpAble (s : State) (p : Nat) : Bool := !s.ptpAs || (s.ptpPort p).asCapable

/-! ### Writing a message -/

/-- Time-to-live, DSCP, UTC offset and time source of generated messages: the manual states none. -/
def ptpTtl : Nat := Config.firmware 0 % 256
def ptpDscp : Nat := Config.firmware 1 % 64
def ptpUtcOffset : Nat := Config.firmware 2 % 2 ^ 16
def ptpTimeSource : Nat := Config.firmware 3 % 256

/-- The link delay, in ns, and the number of lost responses up to which a port is asCapable: the manual states neither
(R355). -/
def asDelay : Nat := Config.firmware 4
def asLost : Nat := Config.firmware 5

/-- The messages on UDP port 319: Sync, Delay_Req, Pdelay_Req and Pdelay_Resp. -/
def ptpEvent (typ : Nat) : Bool := decide (typ < 4)

/-- Messages of the peer-to-peer mechanism, which go to the addresses of the link. -/
def ptpPeer (typ : Nat) : Bool := typ = 2 || typ = 3 || typ = 10

/-- A PTP timestamp: seconds in 48 bits and nanoseconds in 32. -/
def ptpTime (t : Nat) : List Byte := beBytes 6 (t / 1000000000) ++ beBytes 4 (t % 1000000000)

/-- Read a PTP timestamp. -/
def ptpTimeAt (bs : List Byte) (o : Nat) : Nat := beAt bs o 6 * 1000000000 + beAt bs (o + 6) 4

/-- A PTP message: common header and body. -/
def ptpMessage (s : State) (p typ flags : Nat) (corr : Nat) (seq : Nat) (logInt : Int) (body : List Byte) : List Byte :=
  let sdo := if s.ptpAs then 1 else 0
  beBytes 1 (sdo * 16 + typ) ++ beBytes 1 0x12 ++ beBytes 2 (34 + body.length) ++ beBytes 1 s.ntu.ptp.domain
    ++ beBytes 1 0 ++ beBytes 2 flags ++ beBytes 8 corr ++ beBytes 4 0 ++ beBytes 10 (s.ptpPort p).identity
    ++ beBytes 2 seq ++ beBytes 1 (match typ with | 0 => 0 | 1 => 1 | 8 => 2 | 9 => 3 | _ => 5)
    ++ beBytes 1 (unsgn 8 logInt) ++ body

/-- The frame that carries a message from port `p`, by its transport (R354, R383). -/
def ptpFrame (s : State) (p typ : Nat) (msg : List Byte) : List Byte :=
  let q := s.ptpPort p
  let peer := ptpPeer typ
  let tag := if q.tagged then some (q.pcp * 2 ^ 13 + q.vid) else none
  let dport := if ptpEvent typ then 319 else 320
  match q.transport with
  | 0 => beBytes 6 (if peer || s.ptpAs then 0x0180C200000E else 0x011B19000000) ++ beBytes 6 (s.portMac p)
      ++ tagAndType tag 0x88F7 ++ msg
  | 1 => udpFrame (if peer then 0x01005E00006B else 0x01005E000181) (s.portMac p) tag false ptpDscp ptpTtl q.ipv4.toNat
      (if peer then 0xE000006B else 0xE0000181) dport dport msg
  | _ => udpFrame (if peer then 0x33330000006B else 0x333300000181) (s.portMac p) tag true ptpDscp ptpTtl (s.linkLocal p)
      (if peer then 0xFF02 * 2 ^ 112 + 0x6B else 0xFF0E * 2 ^ 112 + 0x181) dport dport msg

/-- Send a message from port `p` through egress queue 7; a full queue or a disabled port takes none (R301). -/
def State.ptpSend (s : State) (p typ flags corr seq : Nat) (logInt : Int) (body : List Byte) (oneStep : Bool := false) :
    State :=
  (s.egress p 7 { bytes := ptpFrame s p typ (ptpMessage s p typ flags corr seq logInt body), kind := .ptp,
                  oneStep := oneStep }).1

/-! ### Reading a message -/

/-- A PTP message as the firmware reads it. -/
structure PtpMsg where
  typ : Nat
  sdo : Nat
  ver : Nat
  len : Nat
  domain : Nat
  flags : Nat
  /-- correctionField in ns. -/
  corr : Int
  /-- correctionField as it stands. -/
  corrRaw : Nat
  src : Nat
  seq : Nat
  logInt : Int
  /-- The message, whole. -/
  bytes : List Byte
  deriving DecidableEq, Repr

/-- Read the common header. -/
def readPtp (bs : List Byte) : PtpMsg :=
  { typ := beAt bs 0 1 % 16, sdo := beAt bs 0 1 / 16, ver := beAt bs 1 1 % 16, len := beAt bs 2 2, domain := beAt bs 4 1,
    flags := beAt bs 6 2, corr := sgn 64 (beAt bs 8 8) / 65536, corrRaw := beAt bs 8 8, src := beAt bs 20 10,
    seq := beAt bs 30 2, logInt := sgn 8 (beAt bs 33 1), bytes := bs }

/-- The PTP message in a frame: EtherType 0x88F7 or UDP ports 319 and 320 (R338). -/
def ptpPayload (bs : List Byte) : Option (List Byte) :=
  let f := parseFrame bs
  if f.etype = 0x88F7 then some ((bs.drop f.l3).take (bs.length - 4 - f.l3))
  else if f.udp && (f.dport = 319 || f.dport = 320) then some f.payload
  else none

/-- The length of each type of message (R357); a signaling message is that of a message interval request (R354). -/
def ptpLength (typ : Nat) : Nat :=
  match typ with
  | 0 => 44 | 1 => 44 | 2 => 54 | 3 => 54 | 8 => 44 | 9 => 54 | 10 => 54 | 11 => 64 | 12 => 60 | _ => 0

/-- The twoStepFlag. -/
def PtpMsg.twoStep (m : PtpMsg) : Bool := m.flags.testBit 9

/-- requestingPortIdentity of Delay_Resp, Pdelay_Resp and Pdelay_Resp_Follow_Up. -/
def PtpMsg.asker (m : PtpMsg) : Nat := beAt m.bytes 44 10

/-- A signaling message with the message interval request TLV of 802.1AS-2020 (R354). -/
def PtpMsg.intervalRequest (m : PtpMsg) : Bool :=
  decide (m.typ = 12) && decide (beAt m.bytes 44 2 = 3) && decide (beAt m.bytes 46 2 = 12)
    && decide (beAt m.bytes 48 6 = 0x0080C2000002)

/-- The checks of R357 on a message that port `p` received; of signaling messages, the 802.1AS message interval request alone
is supported (R354). -/
def ptpGood (s : State) (p : Nat) (m : PtpMsg) : Bool :=
  let q := s.ptpPort p
  let typed := (s.ptpAs && m.intervalRequest) || m.typ = 0 || m.typ = 2 || m.typ = 3 || m.typ = 8 || m.typ = 9 || m.typ = 10 || m.typ = 11
    || (m.typ = 1 && q.state = 6)
  let seqOk := match m.typ with
    | 8 => match q.syncWait with | some w => decide (w.seqId = m.seq) && decide (w.source = m.src) | none => false
    | 9 => match q.asked with | some (n, _) => decide (n = m.seq) | none => false
    | 3 => match q.asked with | some (n, _) => decide (n = m.seq) | none => false
    | 10 => match q.asked with | some (n, _) => decide (n = m.seq) && q.pdWait.isSome | none => false
    | _ => true
  q.en && decide (m.ver = 2) && decide (m.sdo = (if s.ptpAs then 1 else 0)) && decide (m.domain = s.ntu.ptp.domain)
    && typed && decide (ptpLength m.typ ≤ m.len) && decide (m.len ≤ m.bytes.length)
    && decide (m.src ≠ q.identity) && (!(m.typ = 9 || m.typ = 3) || decide (m.asker = q.identity)) && seqOk

/-! ## The servo (R370, R373) -/

/-- The Sync interval of an instance, in ns. -/
def PtpPort.syncNs (q : PtpPort) : Nat :=
  if 0 ≤ q.syncLog then 1000000000 * 2 ^ q.syncLog.toNat else 1000000000 / 2 ^ (-q.syncLog).toNat

/-- A change above its threshold is noted with the offset and the rate before it, where it is the first (R373). -/
def State.noteJump (s : State) (off : Bool) (before : Int) : State :=
  let first := s.ntu.offJump.isNone && s.ntu.mpdJump.isNone
  let n := if first then { s.ntu with beforeOffset := before, beforeRate := s.ntu.rate } else s.ntu
  if off then { s with ntu := { n with offJump := some s.ntu.course } }
  else { s with ntu := { n with mpdJump := some s.ntu.course } }

/-- Forget a change that is older than four Sync intervals of the time port (R373). -/
def State.ageJumps (s : State) (w : Nat) : State :=
  let old := fun (t : Option Nat) => match t with
    | some c => if c + w < s.ntu.course then none else some c
    | none => none
  { s with ntu := { s.ntu with offJump := old s.ntu.offJump, mpdJump := old s.ntu.mpdJump } }

/-- Declare a suspected asymmetric re-route where both changes have happened (R373). -/
def State.testReroute (s : State) : State :=
  if s.ntu.ptp.asymHold ≠ 0 && s.ntu.reroute.isNone && s.ntu.offJump.isSome && s.ntu.mpdJump.isSome then
    ({ s with ntu := { s.ntu with reroute := some { offsetBefore := s.ntu.beforeOffset, rate := s.ntu.beforeRate },
                                  rate := s.ntu.beforeRate, offJump := none, mpdJump := none } }).flag Reg.NTU_EVENT 2
  else s

/-- The rate that the servo sets for an offset: free within the limit of R350. -/
def State.servoRate (s : State) : State :=
  let (v, s1) := s.takeInt
  { s1 with ntu := { s1.ntu with rate := clampI (-rateMax) rateMax v } }

/-- A slew that follows a persisted re-route runs (R373). -/
def State.rerouteSlews (s : State) : Bool :=
  match s.ntu.slew with
  | some sl => sl.reroute && decide (sl.left ≠ 0)
  | none => false

/-- An offset measurement of the time port (R370, R373). A Seat that follows Cox time makes no correction (R612); during a
re-route hold and the slew that follows a persisted one the offset is ignored, and nothing steps. -/
def servo (p : Nat) (off : Int) (s : State) : State :=
  let cfg := s.ntu.ptp
  let last := s.ntu.lastOffset
  let s0 := s.ageJumps (4 * (s.ptpPort p).syncNs)
  let jumped : Bool := match last with
    | some l => decide ((cfg.asymThresh : Int) < 2 * (off - l).natAbs)
    | none => false
  let s1 := if jumped then s0.noteJump true (last.getD 0) else s0
  let recent := ((s1.ntu.course, off) :: s1.ntu.offsets).filter fun e => decide (s1.ntu.course < 1000000000 + e.1)
  let s2 := ({ s1 with ntu := { s1.ntu with lastOffset := some off, offsets := recent } }).testReroute
  if s2.ntu.reroute.isSome || s2.rerouteSlews || s2.timeFollow then s2
  else if !s2.ntu.servoOn then stepBy (-off) { s2 with ntu := { s2.ntu with servoOn := true } }
  else if cfg.stepThresh ≠ 0 && decide ((cfg.stepThresh : Int) < off.natAbs) then stepBy (-off) s2
  else s2.servoRate

/-- A mean path delay measurement of port `p`; with 802.1AS it makes the port asCapable or not (R355, R373, R389). -/
def State.newMpd (s : State) (p : Nat) (d : Int) : State :=
  let q := s.ptpPort p
  let s1 := s.onPtp p fun q => { q with mpd := d, measured := true, asked := none, pdWait := none, lost := 0,
                                        asCapable := decide (d ≤ asDelay) }
  if s.timePort = some p && q.measured && decide ((s.ntu.ptp.asymThresh : Int) < (d - q.mpd).natAbs) then
    ((s1.ageJumps (4 * q.syncNs)).noteJump false (s1.ntu.lastOffset.getD 0)).testReroute
  else s1

/-- t2 − t1 − correction of a Sync: the offset follows, and the servo of the time port acts on it (R361, R370). -/
def syncMeasured (p : Nat) (diff : Int) (s : State) : State :=
  let q := s.ptpPort p
  let s1 := s.onPtp p fun q => { q with syncDiff := some diff, syncWait := none }
  let s2 := if q.state = 8 then s1.ptpState p 9 else s1
  if s2.timePort = some p then
    servo p (diff - q.mpd - roundPs (sgn 32 (s2.reg (Reg.NTU_ASYM p)).toNat)) s2
  else s2

/-! ## The best master clock algorithm (R355) -/

/-- What an instance would announce of itself. -/
def State.ownAnnounce (s : State) (p : Nat) : Announce :=
  let c := s.ntu.ptp
  { source := (s.ptpPort p).identity, prio1 := c.prio1, cls := c.cls, accuracy := c.accuracy, variance := c.variance,
    prio2 := c.prio2, gm := (s.ptpPort p).clockId, steps := 0 }

/-- The order in which data sets of different grandmasters compare, most significant first. -/
def Announce.key (a : Announce) : List Nat := [a.prio1, a.cls, a.accuracy, a.variance, a.prio2, a.gm]

/-- `x` comes before `y`, element by element. -/
def lexLt : List Nat → List Nat → Bool
  | [], [] => false
  | [], _ => true
  | _, [] => false
  | x :: xs, y :: ys => if x = y then lexLt xs ys else decide (x < y)

/-- Data set `a` is better than `b`. -/
def Announce.better (a b : Announce) : Bool :=
  if a.gm = b.gm then lexLt [a.steps, a.source] [b.steps, b.source] else lexLt a.key b.key

/-- Put the state that the algorithm decides for port `p` (IEEE 1588-2019 clause 9.3). -/
def ptpDecide (p : Nat) (s : State) : State :=
  let q := s.ptpPort p
  let own := s.ownAnnounce p
  match q.best with
  | none => s
  | some b =>
    if s.ntu.ptp.slaveOnly || b.better own then
      if !s.ntu.ptp.slaveOnly && own.cls < 128 && !s.ptpAs then s.ptpState p 7
      else if q.state = 9 || q.state = 8 then s else s.ptpState p 8
    else s.ptpState p 6

/-- An Announce that port `p` received: a master is a candidate from its second message within four intervals, with
802.1AS from its first. -/
def announceTaken (p : Nat) (m : PtpMsg) (s : State) : State :=
  let q := s.ptpPort p
  let a : Announce := { source := m.src, prio1 := beAt m.bytes 47 1, cls := beAt m.bytes 48 1,
                        accuracy := beAt m.bytes 49 1, variance := beAt m.bytes 50 2, prio2 := beAt m.bytes 52 1,
                        gm := beAt m.bytes 53 8, steps := beAt m.bytes 61 2 }
  let w := 4 * (if 0 ≤ q.annLog then 1000000000 * 2 ^ q.annLog.toNat else 1000000000 / 2 ^ (-q.annLog).toNat)
  let known := q.heard.any fun e => decide (e.1 = m.src) && decide (s.ntu.course ≤ e.2 + w)
  let heard := (m.src, s.ntu.course) :: (q.heard.filter fun e => decide (e.1 ≠ m.src))
  let s1 := s.onPtp p fun q => { q with heard := heard }
  let same : Bool := match q.best with | some b => decide (b.source = m.src) | none => false
  if !(known || s.ptpAs || same) then s1 else
  let take : Bool := match q.best with | some b => same || a.better b | none => true
  if take then ptpDecide p (s1.onPtp p fun q => { q with best := some a, syncWait := if same then q.syncWait else none })
  else s1

/-! ## Messages in and out (R355, R357) -/

/-- The instance follows this source. -/
def PtpPort.follows (q : PtpPort) (src : Nat) : Bool :=
  (q.state = 8 || q.state = 9) && (match q.best with | some b => decide (b.source = src) | none => false)

/-- The mean path delay of a peer exchange: the responder's residence `r` is scaled by the neighbour's rate with
802.1AS, whose ratio lies within 200 ppm of 1 and is free here. -/
def peerDelay (p : Nat) (round r corr : Int) (s : State) : State :=
  let lim := r.natAbs / 5000
  let (v, s1) := if s.ptpAs then s.takeInt else (0, s)
  s1.newMpd p ((round - r - clampI (-lim) lim v - corr) / 2)

/-- An interval that a request gives: −128 leaves the one in force, 126 the configured one, and 127 stops the message. -/
def askedLog (n : Nat) (now : Option Int) : Option Int :=
  match sgn 8 n with
  | -128 => now
  | 126 => none
  | v => some v

/-- An 802.1AS message interval request sets the intervals at which the port sends (R354). -/
def intervalsTaken (p : Nat) (m : PtpMsg) (s : State) : State :=
  s.onPtp p fun q => { q with reqDelay := askedLog (beAt m.bytes 54 1) q.reqDelay,
                              reqSync := askedLog (beAt m.bytes 55 1) q.reqSync,
                              reqAnnounce := askedLog (beAt m.bytes 56 1) q.reqAnnounce }

/-- A Pdelay_Req is sent; where the one before it had no complete response, that one is lost, and more of them in succession
than a port may lose end asCapable (R355). -/
def askPeer (p : Nat) (s : State) : State :=
  s.onPtp p fun q =>
    let lost := if q.asked.isSome then q.lost + 1 else 0
    { q with delaySeq := (q.delaySeq + 1) % 2 ^ 16, lost := lost, asCapable := q.asCapable && decide (lost ≤ asLost) }

/-- A message that passed the checks, received on port `p` at the compensated stamp `t` (R357, R361). -/
def ptpTaken (p : Nat) (m : PtpMsg) (t : Nat) (s : State) : State :=
  let q := s.ptpPort p
  let t1 : Int := ptpTimeAt m.bytes 34
  match m.typ with
  | 0 =>
    if !(q.follows m.src) || !(s.ptpAble p) then s
    else if m.twoStep then
      s.onPtp p fun q => { q with syncWait := some { seqId := m.seq, source := m.src, t2 := t, corr := m.corr } }
    else syncMeasured p ((t : Int) - t1 - m.corr) s
  | 8 => match q.syncWait with
    | some w => if q.follows m.src then syncMeasured p ((w.t2 : Int) - t1 - w.corr - m.corr) s else s
    | none => s
  | 1 => if q.p2p then s else
    s.ptpSend p 9 0 m.corrRaw m.seq q.delayLog (ptpTime t ++ beBytes 10 m.src)
  | 9 => match q.asked, q.syncDiff with
    | some (_, t3), some d => if q.p2p || !(q.follows m.src) then s else s.newMpd p ((d + (t1 - t3 - m.corr)) / 2)
    | _, _ => s
  | 2 => if !q.p2p then s else
    s.ptpSend p 3 0x0200 0 m.seq 0x7F (ptpTime t ++ beBytes 10 m.src)
  | 3 => match q.asked with
    | some (_, t1q) => if !q.p2p then s
      else if m.twoStep then
        s.onPtp p fun q => { q with pdWait := some (t1q, ptpTimeAt m.bytes 34, t, m.corr) }
      else peerDelay p ((t : Int) - t1q) 0 m.corr s
    | none => s
  | 10 => match q.pdWait with
    | some (t1q, t2, t4, c) => peerDelay p ((t4 : Int) - t1q) (t1 - t2) (c + m.corr) s
    | none => s
  | 11 => if s.ptpAble p then announceTaken p m s else s
  | 12 => intervalsTaken p m s
  | _ => s

/-- The firmware takes the oldest message of queue 31, in basic control (R355, R357). -/
def ptpReceive (s : State) : State :=
  match tget s.buf.queues 31 with
  | none => s
  | some q =>
    match q.items[q.rpItem]? with
    | none => s
    | some it =>
      let s1 := s.setQueue 31 (qReadAll { q with rpOff := 0 })
      let p := leAt it.data 0 2 / 2 ^ 14 % 2
      let t := unsgn 64 (extendNear 32 (leAt it.data 8 4) s.tick64)
      match ptpPayload (it.data.drop 16) with
      | none => s1.bump Reg.NTU_PTP_DROP
      | some bs =>
        let m := readPtp bs
        if ptpGood s1 p m then ptpTaken p m t s1 else s1.bump Reg.NTU_PTP_DROP
where
  /-- A little-endian number in the descriptor. -/
  leAt (bs : List Byte) (o n : Nat) : Nat := leNat (slice bs o n)

/-- The firmware works on PTP: basic control, and the Command Processor is not restarting (R355). -/
def State.ptpRuns (s : State) : Bool := decide (s.ntu.ptp.ctrl = 1) && !s.cmd.restarting && clocked s.mode

/-- PTP_MESSAGE_RECEIVED: the firmware checks the oldest message delivered to queue 31 and acts on it (R253, R357). -/
def execPtpMessageReceived (read : TimedRead) (s : State) : Host.Outcome State Fault Refusal :=
  let s1 := (fresh s).advance read.dt
  let waits := match tget s1.buf.queues 31 with | some q => decide (q.rpItem < q.items.length) | none => false
  .next (settle (
    if !s1.ptpRuns then s1
    else if waits then ptpReceive (queueEcc 31 read.ecc (s1.onQueue 31 (qUpset read.ecc))) else ptpReceive s1))

/-- The Announce that a MASTER sends. -/
def announceBody (s : State) (p : Nat) : List Byte :=
  let a := s.ownAnnounce p
  ptpTime 0 ++ beBytes 2 ptpUtcOffset ++ beBytes 1 0 ++ beBytes 1 a.prio1 ++ beBytes 1 a.cls ++ beBytes 1 a.accuracy
    ++ beBytes 2 a.variance ++ beBytes 1 a.prio2 ++ beBytes 8 a.gm ++ beBytes 2 0 ++ beBytes 1 ptpTimeSource

/-- A timer of an enabled instance elapses (R356). -/
def ptpTimer (p : Nat) (timer : PtpTimer) (s : State) : State :=
  let q := s.ptpPort p
  match timer with
  | .announce =>
    if q.state = 6 && s.ptpAble p && q.annLog ≠ logStop then
      (s.ptpSend p 11 0 0 q.annSeq q.annLog (announceBody s p)).onPtp p fun q =>
        { q with annSeq := (q.annSeq + 1) % 2 ^ 16 }
    else s
  | .sync =>
    if q.state = 6 && s.ptpAble p && q.syncLog ≠ logStop then
      (s.ptpSend p 0 (if q.oneStep then 0 else 0x0200) 0 q.syncSeq q.syncLog (ptpTime 0) q.oneStep).onPtp p fun q =>
        { q with syncSeq := (q.syncSeq + 1) % 2 ^ 16 }
    else s
  | .delay =>
    if q.p2p then
      if q.delayLog = logStop then s
      else askPeer p (s.ptpSend p 2 0 0 q.delaySeq q.delayLog (ptpTime 0 ++ beBytes 10 0))
    else if q.state = 8 || q.state = 9 then
      (s.ptpSend p 1 0 0 q.delaySeq 0x7F (ptpTime 0)).onPtp p fun q => { q with delaySeq := (q.delaySeq + 1) % 2 ^ 16 }
    else s
  | .receipt =>
    if q.state = 6 then s else
    let s1 := s.onPtp p fun q => { q with best := none, syncWait := none }
    s1.ptpState p (if s.ntu.ptp.slaveOnly then 4 else 6)

/-- PTP_MESSAGE_TIMER: a message interval or the announce receipt timeout of an instance elapses (R356). -/
def execPtpMessageTimer (port : Nat) (timer : PtpTimer) (s : State) : Host.Outcome State Fault Refusal :=
  .next (settle (if s.ptpRuns && (s.ptpPort port).en then ptpTimer port timer (fresh s) else fresh s))

/-- A message of the firmware passes the transmit point at the compensated stamp `t`: the firmware keeps the stamp of a
request, and sends the Follow_Up of a two-step message (R357, R363). -/
def ptpSent (p : Nat) (frame : List Byte) (t : Nat) (s : State) : State :=
  match ptpPayload frame with
  | none => s
  | some bs =>
    let m := readPtp bs
    match m.typ with
    | 1 => s.onPtp p fun q => { q with asked := some (m.seq, t) }
    | 2 => s.onPtp p fun q => { q with asked := some (m.seq, t), pdWait := none }
    | 0 => if m.twoStep then s.ptpSend p 8 0 0 m.seq m.logInt (ptpTime t) else s
    | 3 => s.ptpSend p 10 0 0 m.seq 0x7F (ptpTime t ++ beBytes 10 m.asker)
    | _ => s

/-- The median of a list of integers; 0 of none. -/
def median (l : List Int) : Int := (l.mergeSort fun a b => decide (a ≤ b)).getD (l.length / 2) 0

/-- A slew rate in units of 0.1 ppm, in units of 2^-40 (R384). -/
def slewRate (r : Nat) : Int := ((r * 2 ^ 40 / 10000000 : Nat) : Int)

/-- The end of a re-route hold: the median is that of the offsets measured in the last second of the hold, and a free value
where there is none (R373). -/
def rerouteEnd (h : Reroute) (s : State) : State :=
  let l := (s.ntu.offsets.filter fun e => decide (s.ntu.course < 1000000000 + e.1)).map Prod.snd
  let (x, s0) := if l = [] then s.takeInt else (median l, s)
  let s1 := ({ s0 with ntu := { s0.ntu with reroute := none } }).flag Reg.NTU_EVENT 3
  if !s.timeFollow && decide ((s.ntu.ptp.asymThresh : Int) < 2 * (x - h.offsetBefore).natAbs) then
    let sl : Slew := { left := -x * 2 ^ 40, rate := slewRate s.ntu.ptp.slewMax, reroute := true }
    { s1 with ntu := { s1.ntu with slew := some sl } }
  else s1

/-- REROUTE_HOLD_END: ASYM_HOLD ends after a suspected re-route (R373). -/
def execRerouteHoldEnd (s : State) : Host.Outcome State Fault Refusal :=
  .next (settle (match s.ntu.reroute with
    | some h => rerouteEnd h (fresh s)
    | none => fresh s))

/-- SLEW_END: a slew that has moved Network Time by its value ends (R384). -/
def execSlewEnd (s : State) : Host.Outcome State Fault Refusal :=
  .next (settle (match s.ntu.slew with
    | some sl => if sl.left = 0 then { fresh s with ntu := { s.ntu with slew := none } } else fresh s
    | none => fresh s))

/-! ## Registers (R389) -/

/-- NTU_PTP_STATUS (R389). -/
def State.ptpStatus (s : State) : Word :=
  w32 ((s.ptpPort 0).state + 2 ^ 4 * (s.ptpPort 1).state + 2 ^ 8 * s.ntu.ptp.profile + 2 ^ 11 * s.ntu.ptp.ctrl
    + 2 ^ 13 * s.ntu.ptp.domain)

/-- NTU_MPD of port `p` (R389). -/
def State.mpdWord (s : State) (p : Nat) : Word := if s.ntu.ptp.ctrl = 1 then satWord (s.ptpPort p).mpd else 0

/-- NTU_PTP_OFFSET (R389). -/
def State.offsetWord (s : State) : Word := if s.ntu.ptp.ctrl = 1 then satWord (s.ntu.lastOffset.getD 0) else 0

/-- NTU_STATUS.HOLDOVER (R358); on a Seat with CASC_TIME set it shows the Cox side (R612). In WATCH Network Time is in
holdover (R79, R112). -/
def State.ntuHoldover (s : State) : Bool :=
  if s.mode = .watch then s.ntu.valid
  else if s.role = 2 && s.bit Reg.OBL_CFG 2 then !s.timeFollow else s.ntu.valid && s.timePort.isNone

/-- NTU_STATUS (R389). -/
def State.ntuStatus (s : State) : Word :=
  let tp := s.timePort
  let slewing : Bool := match s.ntu.slew with | some sl => decide (sl.left ≠ 0) | none => false
  w32 (3 * b2n s.ntu.valid + 4 * b2n slewing + 8 * b2n s.ntu.reroute.isSome + 2 ^ 4 * s.ntu.ptp.ctrl
    + 2 ^ 6 * (match tp with | some p => p + 1 | none => 0) + 2 ^ 8 * b2n s.ntuHoldover)

/-! ## PTP_CONFIG (R382) -/

/-- `PTP_CONFIG`, checks of the packet alone (R382). -/
def badPtpConfig (x : Bool) (p : List Word) : Option Nat :=
  if p.length ≠ (if x then 5 else 2) then some 0 else
  let w1 := p.getD 0 0
  let w4 := p.getD 3 0
  let w5 := p.getD 4 0
  let prof := fieldOf w1 4 2
  let dom := fieldOf w1 15 8
  if fieldOf w1 1 0 = 3 || 4 < prof || fieldOf w1 7 6 ≠ 0 || 127 < dom || (prof = 4 && dom ≠ 0) then some 1
  else if !x then none
  else if fieldOf w4 15 0 < 100 || fieldOf w4 31 16 = 0 || 1000 < fieldOf w4 31 16 then some 4
  else if fieldOf w5 1 0 = 3 || fieldOf w5 31 5 ≠ 0 then some 5 else none

/-- The configuration that `PTP_CONFIG` gives (R382). -/
def ptpConfigOf (x : Bool) (p : List Word) : PtpConfig :=
  let w1 := p.getD 0 0
  let w2 := p.getD 1 0
  let w3 := p.getD 2 0
  let w4 := p.getD 3 0
  let w5 := p.getD 4 0
  let c : PtpConfig := { ctrl := fieldOf w1 1 0, profile := fieldOf w1 4 2, slaveOnly := bitOf w1 5, domain := fieldOf w1 15 8,
                         prio1 := fieldOf w1 23 16, prio2 := fieldOf w1 31 24, cls := fieldOf w2 7 0,
                         accuracy := fieldOf w2 15 8, variance := fieldOf w2 31 16 }
  if x then { c with stepThresh := fieldOf w3 23 0, asymHold := fieldOf w3 31 24, asymThresh := fieldOf w4 15 0,
                     slewMax := fieldOf w4 31 16, timePort := fieldOf w5 1 0, bw := fieldOf w5 4 2 }
  else c

/-- The PTP service is enabled while an instance is (R381). -/
def State.ptpOn (s : State) : Bool := (s.ptpPort 0).en || (s.ptpPort 1).en

/-- `PTP_CONFIG` at its commit point (R381, R382). -/
def commitPtpConfig (x : Bool) (p : List Word) (s : State) : State × Res :=
  let c := ptpConfigOf x p
  let old := s.ntu.ptp
  if s.ptpOn && !(c.ctrl = old.ctrl && c.profile = old.profile && c.domain = old.domain) then (s, .fail .staleWrite 1)
  else
    let hold := if c.ctrl = 1 then s.ntu.reroute else none
    let s1 := { s with ntu := { s.ntu with ptp := c, reroute := hold } }.trackRefs
    (s1, .ok [s1.ptpStatus] (decide (c ≠ old)))

/-! ## PTP_PORT (R383) -/

/-- The delay mechanism of a profile, peer-to-peer or not (R356). -/
def profileP2p (prof : Nat) : Bool := prof = 1 || prof = 4

/-- A transport that a profile permits (R356). -/
def profileTransport (prof t : Nat) : Bool :=
  t < 3 && (match prof with | 0 => true | 1 => true | 4 => decide (t = 0) | _ => decide (t = 1))

/-- The default intervals of a profile: Announce, Sync, and Delay_Req or Pdelay_Req (R356). -/
def profileIntervals (prof : Nat) : Int × Int × Int :=
  match prof with
  | 0 => (1, 0, 0) | 1 => (1, 0, 0) | 2 => (1, -3, -3) | 3 => (-2, -3, -3) | _ => (0, -3, 0)

/-- `PTP_PORT`, checks of the packet alone (R383). -/
def badPtpPort (x : Bool) (p : List Word) : Option Nat :=
  if p.length ≠ (if x then 5 else 2) then some 0 else
  let w1 := p.getD 0 0
  let w3 := p.getD 2 0
  let iv := fun n => let v := sgn 8 n; decide (v < -7) || decide (4 < v)
  if bitOf w1 7 || fieldOf w1 31 23 ≠ 0 || fieldOf w1 3 2 = 3 then some 1
  else if fieldOf w1 3 2 ≠ 1 && p.getD 1 0 ≠ 0 then some 2
  else if x && (iv (fieldOf w3 7 0) || iv (fieldOf w3 15 8) || iv (fieldOf w3 23 16) || fieldOf w3 27 24 < 2
      || 10 < fieldOf w3 27 24 || fieldOf w3 31 28 ≠ 0) then some 3
  else none

/-- The instance that `PTP_PORT` gives, beside its state (R383). -/
def State.ptpPortOf (s : State) (x : Bool) (p : List Word) (q : PtpPort) : PtpPort :=
  let w1 := p.getD 0 0
  let w3 := p.getD 2 0
  let (a, y, d) := if x then (sgn 8 (fieldOf w3 7 0), sgn 8 (fieldOf w3 15 8), sgn 8 (fieldOf w3 23 16))
    else profileIntervals s.ntu.ptp.profile
  let id := if x then (p.getD 3 0).toNat * 2 ^ 32 + (p.getD 4 0).toNat else 0
  { q with en := bitOf w1 1, transport := fieldOf w1 3 2, p2p := bitOf w1 4, oneStep := bitOf w1 5, tagged := bitOf w1 6,
           vid := fieldOf w1 19 8, pcp := fieldOf w1 22 20, ipv4 := p.getD 1 0, logAnnounce := a, logSync := y,
           logDelay := d, receipt := if x then fieldOf w3 27 24 else 3,
           clockId := if id = 0 then macIdentity (s.portMac (fieldOf w1 0 0)) else id }

/-- What an instance holds while it is disabled: its configuration alone. -/
def PtpPort.cleared (q : PtpPort) : PtpPort :=
  { q with best := none, heard := [], syncWait := none, asked := none, pdWait := none, syncDiff := none, mpd := 0,
           measured := false, asCapable := false, lost := 0, reqAnnounce := none, reqSync := none, reqDelay := none }

/-- `PTP_PORT` at its commit point (R381, R383). -/
def commitPtpPort (x : Bool) (p : List Word) (s : State) : State × Res :=
  let w1 := p.getD 0 0
  let n := fieldOf w1 0 0
  let q := s.ptpPort n
  let new := s.ptpPortOf x p q
  if !(profileTransport s.ntu.ptp.profile new.transport) || new.p2p != profileP2p s.ntu.ptp.profile then
    (s, .fail .badParam 1)
  else if q.en && !(q.transport = new.transport && q.p2p == new.p2p && q.tagged == new.tagged && q.vid = new.vid) then
    (s, .fail .staleWrite 1)
  else if q.en && q.ipv4 ≠ new.ipv4 then (s, .fail .staleWrite 2)
  else if s.ntu.ptp.ctrl ≠ 1 then (s, .fail .refused)
  else
    let s1 := s.onPtp n fun _ => if q.en && new.en then new else new.cleared
    let s2 := if !new.en then s1.ptpState n 0 else if !q.en then s1.ptpState n 4 else s1
    (s2, .ok [w32 ((s2.ptpPort n).state + 2 ^ 4 * b2n (decide (s2.timePort = some n))), s2.mpdWord n]
      (decide (new ≠ q)))

/-! ## TIME_SET (R384) -/

/-- `TIME_SET`, checks of the packet alone (R384). -/
def badTimeSet (x : Bool) (p : List Word) : Option Nat :=
  if p.length ≠ (if x then 4 else 3) then some 0 else
  let w1 := p.getD 0 0
  let w4 := p.getD 3 0
  let op := fieldOf w1 1 0
  let r := sgn 32 (p.getD 1 0).toNat
  if fieldOf w1 31 2 ≠ 0 then some 1
  else if op = 3 && (rateMax < r || r < -rateMax) then some 2
  else if op = 3 && p.getD 2 0 ≠ 0 then some 3
  else if x && op = 2 && (fieldOf w4 15 0 = 0 || 1000 < fieldOf w4 15 0 || fieldOf w4 31 16 ≠ 0) then some 4
  else if x && op ≠ 2 && w4 ≠ 0 then some 4 else none

/-- The operation of `TIME_SET` (R371, R384). A STEP of 0 is no step. -/
def timeOp (op : Nat) (v : Nat) (rate : Nat) (s : State) : State :=
  match op with
  | 0 => stepTo v { s with ntu := { s.ntu with slew := none } }
  | 1 => if v = 0 then s else stepBy (sgn 64 v) { s with ntu := { s.ntu with slew := none } }
  | 2 =>
    let sl : Slew := { left := sgn 64 v * 2 ^ 40, rate := slewRate rate }
    { s with ntu := { s.ntu with slew := if v = 0 then none else some sl } }
  | _ => { s with ntu := { s.ntu with rate := sgn 32 (v % 2 ^ 32) } }

/-- `TIME_SET` at its commit point (R384, R612). -/
def commitTimeSet (x : Bool) (p : List Word) (s : State) : State × Res :=
  if s.ntu.ptp.ctrl = 1 || s.timeFollow then (s, .fail .refused) else
  let v := (p.getD 1 0).toNat + 2 ^ 32 * (p.getD 2 0).toNat
  let rate := if x then fieldOf (p.getD 3 0) 15 0 else s.ntu.ptp.slewMax
  let s1 := timeOp (fieldOf (p.getD 0 0) 1 0) v rate s
  (s1, .ok [w32 (s.tick64 % 2 ^ 32), w32 (s.tick64 / 2 ^ 32), w32 (s1.tick64 % 2 ^ 32), w32 (s1.tick64 / 2 ^ 32),
    w32 s1.ntu.steps])

end Sys2Proof.Machine
end

