-- ==== Sys2Proof/Machine/Rudder.lean ====
section
/-! DEFINITION. The Rudder: dispatch, program execution, the boot program, delivery, sealing, bank swaps and the flow
table (R322 to R348), and the wake-frame tests of a port (R314). -/
namespace Sys2Proof.Machine

/-! ## Wake-frame tests (R314) -/

/-- The magic-packet test of port `p` on a frame, destination address to FCS. -/
def magicMatch (s : State) (p : Nat) (bs : List Byte) : Bool :=
  let own := beBytes 6 (s.portMac p)
  let want := List.replicate 6 (0xFF : Byte) ++ (List.replicate 16 own).flatten
  let dst := beAt bs 0 6
  let l3 := (parseFrame bs).l3
  let body := (bs.take (bs.length - 4)).drop l3
  (dst = s.portMac p || (dst = 2 ^ 48 - 1 && s.bit (Reg.NP_WAKE_CFG p) 0))
    && (List.range body.length).any fun o => decide (slice body o 102 = want)

/-- The bytes that NPx_WAKE_MASK selects. -/
def wakeMasked (s : State) (p : Nat) : List Nat :=
  (List.range 128).filter fun b => s.bit (Reg.NP_WAKE_MASK p (b / 32)) (b % 32)

/-- The pattern test of port `p` on a frame. An empty mask selects no frame, since the boot program admits only the frames
of R93. -/
def patternMatch (s : State) (p : Nat) (bs : List Byte) : Bool :=
  let sel := wakeMasked s p
  sel ≠ [] && sel.all fun b => b < bs.length
    && decide (beAt bs b 1 = s.regField (Reg.NP_WAKE_PAT p (b / 4)) (8 * (b % 4) + 7) (8 * (b % 4)))

/-! ## Admission by the boot program (R93, R338) -/

/-- The frame goes to the port's own address, which is not zero. -/
def toOwn (s : State) (p : Nat) (f : Parsed) : Bool := decide (s.portMac p ≠ 0) && decide (f.dst = s.portMac p)

/-- A PTP message addressed to the Halyn (R338). -/
def isPtp (s : State) (p : Nat) (f : Parsed) : Bool :=
  if f.etype = 0x88F7 then f.dst = 0x011B19000000 || f.dst = 0x0180C200000E || toOwn s p f
  else if f.udp && (f.dport = 319 || f.dport = 320) then
    if f.ip4 then
      (f.ipDst = 0xE0000181 && (toOwn s p f || f.dst = 0x01005E000181))
        || (f.ipDst = 0xE000006B && (toOwn s p f || f.dst = 0x01005E00006B))
        || (f.ipDst / 2 ^ 28 ≠ 0xE && f.ipDst ≠ 0xFFFFFFFF && toOwn s p f)
    else
      (f.ipDst / 2 ^ 116 = 0xFF0 && f.ipDst % 2 ^ 112 = 0x181 && (toOwn s p f || f.dst = 0x333300000181))
        || (f.ipDst = 0xFF02 * 2 ^ 112 + 0x6B && (toOwn s p f || f.dst = 0x33330000006B))
        || (f.ipDst / 2 ^ 120 ≠ 0xFF && toOwn s p f)
  else false

/-- An ARP request for an address of the Halyn (R338). -/
def isArp (s : State) (f : Parsed) (bs : List Byte) : Bool :=
  let ip := s.reg Reg.RUD_BOOT_IPV4
  f.etype = 0x0806 && beAt bs (f.l3 + 6) 2 = 1 && (ip = 0 || beAt bs (f.l3 + 24) 4 = ip.toNat)

/-- ICMP addressed to the Halyn (R338). -/
def isIcmp (s : State) (p : Nat) (f : Parsed) (bs : List Byte) : Bool :=
  (f.ip4 && beAt bs (f.l3 + 9) 1 = 1 && toOwn s p f)
    || (f.ip6 && beAt bs (f.l3 + 6) 1 = 58 && (toOwn s p f || f.dst = 0x333300000001
      || f.dst = 0x3333FF000000 + s.portMac p % 2 ^ 24))

/-- A re-row request, by its header (R338, R503). -/
def isRerow (f : Parsed) : Bool :=
  f.udp && f.udpOk && !f.frag && beAt f.payload 0 4 = 0x484C5252 && beAt f.payload 4 1 = 0x11

/-! ## Dispatch (R322, R326, R327) -/

/-- RUD_CTRL.EN and the active bank (R342). -/
def State.rudEn (s : State) : Bool := s.bit Reg.RUD_CTRL 0
def State.rudBank (s : State) : Nat := s.regField Reg.RUD_CTRL 1 1

/-- Whether bank `b` is sealed (R333). -/
def State.rudSealed (s : State) (b : Nat) : Bool := if b = 0 then s.rud.sealed0 else s.rud.sealed1

/-- A port passes a frame to the Rudder: it is dispatched to the next of the port's four engines (R322, R325). -/
def rudDispatch (f : RxFrame) (s : State) : State :=
  let e := if f.port = 0 then s.rud.nextA else s.rud.nextB
  let d : Dispatched := { frame := f, engine := e, bank := s.rudBank, boot := s.rud.bootProg,
                          users := (List.range 4).map fun i => s.reg (Reg.RUD_USER i), mode := s.mode }
  let r := { s.rud with inq := s.rud.inq ++ [d] }
  { s with rud := if f.port = 0 then { r with nextA := (e + 1) % 4 } else { r with nextB := 4 + (e + 1) % 4 } }

/-- The metadata items of R327 that the frame itself gives. -/
def rudMeta (s : State) (d : Dispatched) (i : Nat) : Word :=
  let f := parseFrame d.frame.bytes
  match i with
  | 0 => w32 d.frame.bytes.length
  | 1 => w32 d.frame.port
  | 2 => w32 (b2n d.frame.fcsErr + 2 * b2n d.frame.alignErr + 4 * b2n d.frame.symErr)
  | 3 => w32 (b2n f.tagged)
  | 4 => w32 f.tci
  | 5 => w32 (if f.tagged then 18 else 14)
  | 6 => w32 f.etype
  | 7 => w32 (modeCode d.mode)
  | 8 => w32 d.engine
  | 12 => if d.frame.fcsErr then 0
    else w32 (b2n (magicMatch s d.frame.port d.frame.bytes) + 2 * b2n (patternMatch s d.frame.port d.frame.bytes))
  | 13 => d.users.getD 0 0
  | 14 => d.users.getD 1 0
  | 15 => d.users.getD 2 0
  | 16 => d.users.getD 3 0
  | 17 => w32 (d.frame.stamp % 2 ^ 32)
  | _ => 0

/-! ## The flow table (R334 to R336) -/

/-- The eight candidate slots of a key (R335). -/
def flowSlots (typ : Byte) (key : BitVec 128) : List Nat :=
  let h := crc32c (typ :: leBytes 16 key.toNat)
  let h1 := h % 2 ^ 11
  let h2' := h / 2 ^ 11 % 2 ^ 11
  let h2 := if h2' = h1 then h1 ^^^ 1 else h2'
  (List.range 4).map (fun w => 4 * h1 + w) ++ (List.range 4).map fun w => 4 * h2 + w

/-- The index of a key's entry, and the entry (R336). -/
def State.flowFind (s : State) (typ : Byte) (key : BitVec 128) : Option (Nat × FlowEntry) :=
  (flowSlots typ key).findSome? fun i =>
    match tget s.rud.flows i with
    | some e => if e.typ = typ && e.key = key then some (i, e) else none
    | none => none

/-- What LOOKUP finds: an entry whose parity fails acts as not valid (R336, R647). -/
def State.flowLookup (s : State) (typ : Byte) (key : BitVec 128) : Option (Nat × FlowEntry) :=
  match s.flowFind typ key with
  | some (i, e) => if s.memBad 3 i then none else some (i, e)
  | none => none

/-! ## Instructions (R328 to R331) -/

/-- An instruction's fields (R328). -/
def insOp (w : BitVec 64) : Nat := w.toNat / 2 ^ 58
def insRd (w : BitVec 64) : Nat := w.toNat / 2 ^ 55 % 8
def insRs (w : BitVec 64) : Nat := w.toNat / 2 ^ 52 % 8
def insCond (w : BitVec 64) : Nat := w.toNat / 2 ^ 48 % 16
def insI (w : BitVec 64) : Bool := w.getLsbD 47
def insX (w : BitVec 64) : Nat := w.toNat / 2 ^ 32 % 2 ^ 14
def insImm (w : BitVec 64) : Word := w32 (w.toNat % 2 ^ 32)

/-- The state of an engine while it runs (R326). -/
structure Engine where
  a : List Word := List.replicate 8 0
  base : Word := 0
  key : List Word := List.replicate 4 0
  hit : Bool := false
  oob : Bool := false
  flow : Option (Nat × FlowEntry) := none
  deriving DecidableEq, Repr

/-- The key registers as one number (R326). -/
def Engine.keyBits (e : Engine) : BitVec 128 :=
  BitVec.ofNat 128 (leNat (wordBytes e.key))

/-- Load `n` header bytes at an offset (R331). -/
def rudLoad (d : Dispatched) (o n : Nat) (e : Engine) : Word × Engine :=
  let ok := fun i => decide (i < 256) && decide (i + 4 < d.frame.bytes.length)
  let bytes := (List.range n).map fun i => if ok (o + i) then beAt d.frame.bytes (o + i) 1 else 0
  (w32 (bytes.foldl (fun v b => v * 256 + b) 0),
    { e with oob := e.oob || !((List.range n).all fun i => ok (o + i)) })

/-- Whether COND holds (R329). -/
def rudCond (s : State) (d : Dispatched) (c : Nat) (a b : Word) (e : Engine) : Bool :=
  match c with
  | 0 => true
  | 1 => decide (a = b)
  | 2 => decide (a ≠ b)
  | 3 => decide (a.toNat < b.toNat)
  | 4 => decide (b.toNat ≤ a.toNat)
  | 5 => decide (a &&& b ≠ 0)
  | 6 => decide (a &&& b = 0)
  | 7 => e.oob
  | 8 => e.hit
  | 9 => !e.hit
  | 10 => decide (rudMeta s d 2 ≠ 0)
  | _ => false

/-- A metadata item, those of the engine's own state included (R327). -/
def rudGetm (s : State) (d : Dispatched) (i : Nat) (e : Engine) : Word :=
  match i with
  | 9 => e.base
  | 10 => w32 (b2n e.hit)
  | 11 => w32 (match e.flow with | some (n, _) => n | none => 0)
  | _ => rudMeta s d i

/-- The arithmetic operations 0x08 to 0x0E (R328). -/
def rudAlu (op : Nat) (a b : Word) : Word :=
  match op with
  | 0x08 => a + b
  | 0x09 => a - b
  | 0x0A => a &&& b
  | 0x0B => a ||| b
  | 0x0C => a ^^^ b
  | 0x0D => a <<< (b.toNat % 32)
  | _ => a >>> (b.toNat % 32)

/-- The queues that TOQUEUE may name (R332). -/
def rudQueueOk (q : Nat) : Bool := q < 16 || q = 31 || (32 ≤ q && q < 256)

/-- What a frame comes to: its delivery, class and USER byte. -/
structure Verdict where
  dest : Delivery
  cls : Nat := 3
  user : Nat := 0
  badTarget : Bool := false
  deriving DecidableEq, Repr

/-- The verdict of a delivering instruction (R328, R332, R334). -/
def rudDeliver (w : BitVec 64) (e : Engine) : Verdict :=
  let x := insX w
  let imm := insImm w
  let t := if insI w then fieldOf imm 8 0 else fieldOf (e.a.getD (insRs w) 0) 8 0
  let user := fieldOf imm 23 16
  match insOp w with
  | 0x30 => { dest := .stream t, cls := x % 4, user := user }
  | 0x31 => if rudQueueOk t then { dest := .queue t, cls := x % 4, user := user }
      else { dest := .drop 14, cls := x % 4, badTarget := true }
  | 0x32 => { dest := .rerow, cls := x % 4, user := user }
  | 0x33 => { dest := .drop (x % 16) }
  | _ =>
    match e.hit, e.flow with
    | true, some (_, f) =>
      let c := f.cls.toNat
      let u := f.user.toNat
      match f.action.toNat with
      | 0 => { dest := .drop f.dropCtr.toNat, cls := c, user := u }
      | 1 => { dest := .stream f.target.toNat, cls := c, user := u }
      | 2 => { dest := .queue f.target.toNat, cls := c, user := u }
      | _ => { dest := .rerow, cls := c, user := u }
    | _, _ => { dest := .drop (x % 16) }

/-- Run a program from `pc`; `fuel` bounds the instructions, which run forward only (R328, R330). -/
def rudRun (s : State) (d : Dispatched) (prog : Nat → BitVec 64) : Nat → Nat → Engine → Verdict × Engine
  | 0, _, e => ({ dest := .drop 15 }, e)
  | fuel + 1, pc, e =>
    let w := prog pc
    let op := insOp w
    let rd := insRd w
    let a := e.a.getD rd 0
    let b := if insI w then insImm w else e.a.getD (insRs w) 0
    let put := fun (e : Engine) (v : Word) => { e with a := e.a.set rd v }
    let go := fun (e : Engine) => rudRun s d prog fuel (pc + 1) e
    if 0x30 ≤ op then (rudDeliver w e, e)
    else match op with
    | 0x01 => go (put e (insImm w))
    | 0x02 => go (put e (e.a.getD (insRs w) 0))
    | 0x03 => go (put e (rudGetm s d (insX w) e))
    | 0x04 => let (v, e') := rudLoad d (e.base.toNat + insX w) 1 e; go (put e' v)
    | 0x05 => let (v, e') := rudLoad d (e.base.toNat + insX w) 2 e; go (put e' v)
    | 0x06 => let (v, e') := rudLoad d (e.base.toNat + insX w) 4 e; go (put e' v)
    | 0x10 => go { e with base := b }
    | 0x11 => go { e with base := e.base + b }
    | 0x18 =>
      if rudCond s d (insCond w) a b e then rudRun s d prog fuel (insX w % 512) e else go e
    | 0x20 => go { e with key := List.replicate 4 0 }
    | 0x21 => go { e with key := e.key.set (insX w % 4) (e.a.getD (insRs w) 0) }
    | 0x22 =>
      let r := s.flowLookup (BitVec.ofNat 8 (insImm w).toNat) e.keyBits
      go { e with hit := r.isSome, flow := r }
    | _ => go (put e (rudAlu op a b))

/-- The boot program's verdict (R338). -/
def bootVerdict (s : State) (d : Dispatched) : Verdict :=
  let bs := d.frame.bytes
  let p := d.frame.port
  let f := parseFrame bs
  if isPtp s p f then { dest := .queue (if s.ntu.ptp.ctrl = 1 then 31 else 0), cls := 1 }
  else if isArp s f bs || isIcmp s p f bs || rudMeta s d 12 ≠ 0 then { dest := .queue 0 }
  else if isRerow f then { dest := .bootRerow, cls := 2 }
  else { dest := .bootDrop }

/-- The instruction of engine `e` at `a` in bank `b`. -/
def State.rudIns (s : State) (b e a : Nat) : BitVec 64 := tgetD s.rud.prog (4096 * b + 512 * e + a) 0

/-! ## Delivery (R298, R299, R332, R337) -/

/-- The Rudder runs the frame's program; without one it discards the frame (R342, R647). -/
def rudClassify (s : State) (d : Dispatched) : Verdict × Engine :=
  if !s.rudEn then ({ dest := .drop 15 }, {})
  else if d.boot then (bootVerdict s d, {})
  else if !(s.rudSealed d.bank) then ({ dest := .drop 15 }, {})
  else rudRun s d (s.rudIns d.bank d.engine) 512 0 {}

/-- The RUDDER word (R337). -/
def rudderWord (d : Dispatched) (v : Verdict) (e : Engine) : Word :=
  w32 ((match e.flow with | some (n, _) => n | none => 0) + 2 ^ 13 * b2n e.hit + 2 ^ 14 * d.engine
    + 2 ^ 17 * (if d.boot then 0 else d.bank) + 2 ^ 24 * v.user)

/-- The descriptor and the frame, as a Slip queue takes them (R299). -/
def descriptor (d : Dispatched) (v : Verdict) (rudder : Word) : List Byte :=
  let f := parseFrame d.frame.bytes
  leBytes 4 (d.frame.bytes.length + 2 ^ 14 * d.frame.port + 2 ^ 15 * b2n f.tagged + 2 ^ 16 * b2n d.frame.fcsErr
    + 2 ^ 17 * b2n d.frame.alignErr + 2 ^ 18 * b2n d.frame.symErr + 2 ^ 19 * v.cls + 2 ^ 21 * b2n d.boot)
    ++ leBytes 4 rudder.toNat ++ leBytes 4 (d.frame.stamp % 2 ^ 32) ++ leBytes 4 f.tci ++ d.frame.bytes

/-- A frame carries an error flag (R297). -/
def RxFrame.bad (f : RxFrame) : Bool := f.fcsErr || f.alignErr || f.symErr

/-- The class counter of a frame without error flags (R312). -/
def State.classStat (s : State) (p cls : Nat) : State :=
  match cls with
  | 0 => s.stat p 20
  | 1 => s.stat p 19
  | 2 => s.stat p 21
  | _ => s

/-- Deliver or discard a classified frame (R298, R332, R338). -/
def rudFinish (d : Dispatched) (v : Verdict) (e : Engine) (s : State) : State :=
  let p := d.frame.port
  let s1 := if v.badTarget then s.flag Reg.RUD_EVENT 1 else s
  let keep := !d.frame.bad || s.bit (Reg.NP_RX_CTRL p) v.cls
  let counted := if d.frame.bad then s1 else s1.classStat p v.cls
  let r := rudderWord d v e
  let out : Delivered := { frame := d.frame, cls := v.cls, rudder := r }
  match v.dest with
  | .drop c => counted.bump (Reg.RUD_DROP c)
  | .bootDrop => s1.stat p 44
  | .bootRerow => counted
  | .queue q => if keep then counted.enqueue q 0 (descriptor d v r) else counted
  | .stream n => if keep then { counted with srx := { counted.srx with inq := counted.srx.inq ++ [{ out with stream := n }] } }
      else counted
  | .rerow => if keep then { counted with stx := { counted.stx with inq := counted.stx.inq ++ [out] } } else counted

/-- The oldest frame leaves the receive buffer of its port, which is then full no longer (R297). -/
def rudTaken (d : Dispatched) (rest : List Dispatched) (s : State) : State :=
  let s1 := { s with rud := { s.rud with inq := rest } }
  if 3 ≤ (s.rud.inq.filter fun x => decide (x.frame.port = d.frame.port)).length then
    s1.onPort d.frame.port fun np => { np with rxFullUntil := s.ntu.course }
  else s1

/-- FRAME_CLASSIFY: the Rudder classifies the oldest frame passed to it and delivers or discards it (R323, R325). -/
def execFrameClassify (s : State) : Host.Outcome State Fault Refusal :=
  let s0 := fresh s
  .next (settle (match s.rud.inq with
    | [] => s0
    | d :: rest =>
      if !(clocked s.mode) then s0 else
      let (v, e) := rudClassify s0 d
      rudFinish d v e (rudTaken d rest s0)))

/-! ## Sealing (R333) -/

/-- Cycles of a defined instruction; a jump's are those of its fall-through (R328). -/
def insCost (op : Nat) : Option Nat :=
  if op = 0x22 then some 12
  else if 0x04 ≤ op && op ≤ 0x06 then some 2
  else if (1 ≤ op && op ≤ 3) || (0x08 ≤ op && op ≤ 0x0E) || op = 0x10 || op = 0x11 || op = 0x18 || op = 0x20 || op = 0x21
    || (0x30 ≤ op && op ≤ 0x34) then some 1
  else none

/-- Which of the fields RD, RS or IMM of operand B, COND, X and IMM an instruction uses: the largest value that X may
have, and whether RD, RS, COND, I and IMM are used (R328). -/
def insUses (w : BitVec 64) : Bool × Bool × Bool × Bool × Nat × Nat :=
  let i := insI w
  let c := insCond w
  let cmp := 1 ≤ c && c ≤ 6
  match insOp w with
  | 0x01 => (true, false, false, false, 0, 2 ^ 32 - 1)
  | 0x02 => (true, true, false, false, 0, 0)
  | 0x03 => (true, false, false, false, 17, 0)
  | 0x04 => (true, false, false, false, 2 ^ 14 - 1, 0)
  | 0x05 => (true, false, false, false, 2 ^ 14 - 1, 0)
  | 0x06 => (true, false, false, false, 2 ^ 14 - 1, 0)
  | 0x10 => (false, !i, false, true, 0, if i then 2 ^ 32 - 1 else 0)
  | 0x11 => (false, !i, false, true, 0, if i then 2 ^ 32 - 1 else 0)
  | 0x18 => (cmp, cmp && !i, true, cmp, 511, if cmp && i then 2 ^ 32 - 1 else 0)
  | 0x20 => (false, false, false, false, 0, 0)
  | 0x21 => (false, true, false, false, 3, 0)
  | 0x22 => (false, false, false, false, 0, 0xFF)
  | 0x30 => (false, !i, false, true, 3, if i then 0xFF01FF else 0xFF0000)
  | 0x31 => (false, !i, false, true, 3, if i then 0xFF01FF else 0xFF0000)
  | 0x32 => (false, false, false, false, 3, 0xFF0000)
  | 0x33 => (false, false, false, false, 13, 0)
  | 0x34 => (false, false, false, false, 13, 0)
  | _ => (true, !i, false, true, 0, if i then 2 ^ 32 - 1 else 0)

/-- A reserved or unused field is not zero, or a field is out of its range (R333). -/
def insBadField (w : BitVec 64) : Bool :=
  let (rd, rs, cond, i, x, imm) := insUses w
  (!rd && insRd w ≠ 0) || (!rs && insRs w ≠ 0) || (!cond && insCond w ≠ 0) || (cond && 10 < insCond w)
    || (!i && insI w) || w.getLsbD 46 || x < insX w || (insImm w).toNat &&& imm ≠ (insImm w).toNat

/-- The reason of R333 for which an instruction that a path reaches in `d` cycles fails by itself; 0 for none. -/
def insReason (a d : Nat) (w : BitVec 64) : Nat :=
  let op := insOp w
  match insCost op with
  | none => 1
  | some c =>
    if insBadField w then 2
    else if op = 0x18 && insX w % 512 ≤ a then 3
    else if op < 0x30 && a = 511 && !(op = 0x18 && insCond w = 0) then 4
    else if 0x30 ≤ op && 240 < d + c then 5
    else if op = 0x31 && insI w && !(rudQueueOk (fieldOf (insImm w) 8 0)) then 6 else 0

/-- The longer of two path lengths, where either may be unreached. -/
def longer (a : Option Nat) (b : Nat) : Option Nat :=
  match a with
  | some n => some (if n < b then b else n)
  | none => some b

/-- Check one engine's program from address `a` on: `dist` holds the longest path to each later address. Answers the
reason, its address and the longest delivered path (R333). -/
def sealFrom (prog : Nat → BitVec 64) : Nat → Nat → List (Option Nat) → Nat → Nat × Nat × Nat
  | 0, _, _, best => (0, 0, best)
  | fuel + 1, a, dist, best =>
    match dist with
    | [] => (0, 0, best)
    | none :: rest => sealFrom prog fuel (a + 1) rest best
    | some d :: rest =>
      let w := prog a
      let op := insOp w
      let c := (insCost op).getD 0
      let r := insReason a d w
      if r ≠ 0 then (r, a, if r = 5 then Nat.max best (d + c) else best)
      else if 0x30 ≤ op then sealFrom prog fuel (a + 1) rest (Nat.max best (d + c))
      else
        let step := if op = 0x18 && insCond w = 0 then rest else listMod rest 0 fun o => longer o (d + c)
        let taken := if op = 0x18 then listMod step (insX w % 512 - a - 1) fun o => longer o (d + 2) else step
        sealFrom prog fuel (a + 1) taken best

/-- What sealing a bank finds: the engine, address and reason of the first failure, and the longest path (R333, R344). -/
def sealBank (s : State) (b : Nat) : Nat → Nat → Nat → Nat × Nat × Nat × Nat
  | 0, _, best => (0, 0, 0, best)
  | n + 1, e, best =>
    let (r, a, p) := sealFrom (s.rudIns b e) 512 0 (some 0 :: List.replicate 511 none) 0
    let m := Nat.max best p
    if r ≠ 0 then (e, a, r, m) else sealBank s b n (e + 1) m

/-! ## RUD_LOAD (R339, R344) -/

/-- The bank is enabled in the sense of R339. The bank that a first entry to SERVICE will start is the one sealed most
recently when it takes effect (R341), so a seal moves the hold. -/
def State.rudBankOn (s : State) (b : Nat) : Bool :=
  (!s.rud.bootProg && s.rudEn && s.rudBank = b) || s.rud.swapTo = some b || s.rud.heldBank = some b

/-- Put a bank's seal. -/
def State.setSealed (s : State) (b : Nat) (v : Bool) : State :=
  { s with rud := if b = 0 then { s.rud with sealed0 := v } else { s.rud with sealed1 := v } }

/-- `RUD_LOAD`, checks of the packet alone (R344). -/
def badRudLoad (x : Bool) (p : List Word) : Option Nat :=
  let w := p.getD 0 0
  let n := fieldOf w 24 19
  if p = [] || p.length ≠ (if x then 2 else 1) + 2 * n then some 0
  else if fieldOf w 31 25 ≠ 0 || (if x then 30 else 31) < n || 512 < fieldOf w 18 10 + n then some 1
  else if x && fieldOf (p.getD 1 0) 31 1 ≠ 0 then some 2 else none

/-- The instructions that a `RUD_LOAD` carries, low word first (R344). -/
def rudCarried : List Word → List (BitVec 64)
  | lo :: hi :: rest => BitVec.ofNat 64 (lo.toNat + 2 ^ 32 * hi.toNat) :: rudCarried rest
  | _ => []

/-- Write instructions into engine `e` of bank `b`, after clearing it where `clear` asks (R344). -/
def rudWrite (b start : Nat) (clear : Bool) (ins : List (BitVec 64)) (e : Nat) (s : State) : State :=
  let lo := 4096 * b + 512 * e
  let t := if clear then s.rud.prog.filter fun x => !(decide (lo ≤ x.1) && decide (x.1 < lo + 512)) else s.rud.prog
  let t' := (ins.zipIdx).foldl (fun t iw => tput t (lo + start + iw.2) iw.1 0) t
  ({ s with rud := { s.rud with prog := t' } }).memRewritten (7 + b) fun x =>
    decide (x / 512 = e) && (clear || (decide (start ≤ x % 512) && decide (x % 512 < start + ins.length)))

/-- The body word of `RUD_LOAD` (R344). -/
def rudLoadBody (b : Nat) (sealed : Bool) (e a r path : Nat) : List Word :=
  [w32 (b + 2 * b2n sealed + 2 ^ 2 * e + 2 ^ 5 * a + 2 ^ 14 * r + 2 ^ 18 * satNat 1023 path)]

/-- The engines that a `RUD_LOAD` names. -/
def rudEngines (w : Word) : List Nat := (List.range 8).filter fun e => bitOf w (2 + e)

/-- A `RUD_LOAD` writes or clears instructions (R344). -/
def rudWrites (x : Bool) (p : List Word) : Bool :=
  rudEngines (p.getD 0 0) ≠ [] && ((x && bitOf (p.getD 1 0) 0) || rudCarried (p.drop (if x then 2 else 1)) ≠ [])

/-- The state with the instructions of a `RUD_LOAD` written, which unseals the bank (R333, R344). -/
def rudLoaded (x : Bool) (p : List Word) (s : State) : State :=
  let w := p.getD 0 0
  let b := fieldOf w 0 0
  let put := rudWrite b (fieldOf w 18 10) (x && bitOf (p.getD 1 0) 0) (rudCarried (p.drop (if x then 2 else 1)))
  if rudWrites x p then (rudEngines w).foldl (fun s e => put e s) (s.setSealed b false) else s

/-- `RUD_LOAD` at its commit point; sealing is its own outcome (R339, R344). -/
def commitRudLoad (x : Bool) (p : List Word) (s : State) : State × Res :=
  let w := p.getD 0 0
  let b := fieldOf w 0 0
  if rudWrites x p && s.rudBankOn b then (s, .fail .staleWrite 1) else
  let s1 := rudLoaded x p s
  if !(bitOf w 1) then
    (s1, .ok (rudLoadBody b (s1.rudSealed b) 0 0 0 0) (decide (s1.rud ≠ s.rud)))
  else
    let (e, a, r, path) := sealBank s1 b 8 0 0
    if r ≠ 0 then
      let s2 := if s1.rud = s.rud then s1 else s1.genUp
      (s2, .fail .refused 0 (rudLoadBody b (s1.rudSealed b) e a r path))
    else
      let s2 := s1.setSealed b true
      let s3 := { s2 with rud := { s2.rud with loaded := b, heldBank := s2.rud.heldBank.map fun _ => b } }
      (s3, .ok (rudLoadBody b true 0 0 0 path) (decide (s3.rud.prog ≠ s.rud.prog) || s3.rudSealed b != s.rudSealed b))

/-! ## Bank swaps (R340, R341, R345) -/

/-- Accept a swap to bank `b`: the active bank changes at once, and the old bank's frames are awaited (R340). -/
def State.rudSwapTo (s : State) (b : Nat) : State :=
  let s1 := s.setField Reg.RUD_CTRL 1 1 b
  { s1 with rud := { s1.rud with swapTo := some b } }

/-- Clear RUD_DROP[0] to RUD_DROP[15] (R345). -/
def State.clearDrops (s : State) : State := (List.range 16).foldl (fun s i => s.setReg (Reg.RUD_DROP i) 0) s

/-- The first entry to SERVICE takes effect: the bank sealed most recently replaces the boot program (R96, R341). -/
def rudFirstService (s : State) : State :=
  let s1 := s.rudSwapTo s.rud.loaded
  ({ s1 with rud := { s1.rud with bootProg := false, heldBank := none } }).flag Reg.RUD_EVENT 2

/-- `RUD_SWAP`, checks of the packet alone (R345). -/
def badRudSwap (x : Bool) (p : List Word) : Option Nat :=
  if p.length ≠ 1 then some 0
  else if fieldOf (p.getD 0 0) 31 (if x then 2 else 1) ≠ 0 then some 1 else none

/-- The body word of `RUD_SWAP` (R345). -/
def rudSwapBody (s : State) (b : Nat) : List Word := [w32 (s.rudBank + 2 * b2n (s.rudSealed b))]

/-- `RUD_SWAP` at its commit point (R345). -/
def commitRudSwap (x : Bool) (p : List Word) (s : State) : State × Res :=
  let w := p.getD 0 0
  let b := fieldOf w 0 0
  let clear := fun (s : State) => if x && bitOf w 1 then s.clearDrops else s
  if s.rud.bootProg then (s, .fail .wrongMode)
  else if !(s.rudSealed b) then (s, .fail .refused 0 (rudSwapBody s b))
  else if s.rudBank = b then (s, .ok (rudSwapBody s b))
  else if !s.rudEn then
    let s1 := clear (s.setField Reg.RUD_CTRL 1 1 b)
    (s1, .ok (rudSwapBody s1 b) true)
  else if s.rud.swapTo.isSome then (s, .start .rudSwap)
  else (clear (s.rudSwapTo b), .later .rudSwap [] true)

/-- A swap completes (R340, R345). -/
def rudSwapDone (s : State) : State :=
  let s1 := ({ s with rud := { s.rud with swapTo := none } }).flag Reg.RUD_EVENT 0
  s1.finish (fun f => decide (f = .rudSwap)) fun f => rudSwapBody s1 (fieldOf (f.params.getD 0 0) 0 0)

/-- The frames dispatched before the swap instant have all been delivered (R340). -/
def State.rudDrained (s : State) (b : Nat) : Bool := s.rud.inq.all fun d => !d.boot && decide (d.bank = b)

/-! ## FLOW_SET (R335, R346) -/

/-- `FLOW_SET`, checks of the packet alone (R346). -/
def badFlowSet (x : Bool) (p : List Word) : Option Nat :=
  if p.length ≠ (if x then 7 else 6) then some 0 else
  let w1 := p.getD 0 0
  let w6 := p.getD 5 0
  let op := fieldOf w1 9 8
  let act := fieldOf w1 11 10
  let t := fieldOf w1 24 16
  if op = 3 then some 1
  else if op = 0 && (fieldOf w1 15 14 ≠ 0 || fieldOf w1 31 25 ≠ 0 || (act = 2 && !(rudQueueOk t))
      || ((act = 0 || act = 3) && t ≠ 0)) then some 1
  else if op = 0 && (fieldOf w6 31 12 ≠ 0 || 13 < fieldOf w6 11 8) then some 6
  else if x && fieldOf (p.getD 6 0) 31 1 ≠ 0 then some 7 else none

/-- The body word of `FLOW_SET` (R346). -/
def flowBody (s : State) (index : Nat) (found inserted : Bool) : List Word :=
  [w32 (index + 2 ^ 14 * b2n found + 2 ^ 15 * b2n inserted + 2 ^ 16 * s.rud.flows.length)]

/-- Put an entry of the flow table. -/
def State.flowPut (s : State) (i : Nat) (e : FlowEntry) : State :=
  ({ s with rud := { s.rud with flows := tset s.rud.flows i e } }).memRewritten 3 fun x => decide (x = i)

/-- Remove the entries of the flow table that `q` names. -/
def State.flowDrop (s : State) (q : Nat → Bool) : State :=
  ({ s with rud := { s.rud with flows := s.rud.flows.filter fun x => !(q x.1) } }).memRewritten 3 q

/-- `FLOW_SET` OP 0 at its commit point (R335, R336, R346). -/
def flowAdd (e : FlowEntry) (noReplace : Bool) (s : State) : State × Res :=
  match s.flowFind e.typ e.key with
  | some (i, old) =>
    if noReplace then (s, .fail .refused 0 (flowBody s i true false))
    else
      let s1 := s.flowPut i e
      (s1, .ok (flowBody s1 i true false) (decide (old ≠ e)))
  | none =>
    match (flowSlots e.typ e.key).find? fun i => !(thas s.rud.flows i) with
    | none => (s, .fail .noResource 2)
    | some i =>
      let s1 := s.flowPut i e
      (s1, .ok (flowBody s1 i false true) true)

/-- `FLOW_SET` at its commit point (R346). -/
def commitFlowSet (x : Bool) (p : List Word) (s : State) : State × Res :=
  let w1 := p.getD 0 0
  let w6 := p.getD 5 0
  let typ : Byte := BitVec.ofNat 8 (fieldOf w1 7 0)
  let key : BitVec 128 := BitVec.ofNat 128 (leNat (wordBytes ((p.drop 1).take 4)))
  match fieldOf w1 9 8 with
  | 0 =>
    flowAdd { key := key, typ := typ, action := BitVec.ofNat 2 (fieldOf w1 11 10), cls := BitVec.ofNat 2 (fieldOf w1 13 12),
              target := BitVec.ofNat 9 (fieldOf w1 24 16), user := BitVec.ofNat 8 (fieldOf w6 7 0),
              dropCtr := BitVec.ofNat 4 (fieldOf w6 11 8) } (x && bitOf (p.getD 6 0) 0) s
  | 1 =>
    match s.flowFind typ key with
    | none => (s, .ok (flowBody s 0 false false))
    | some (i, _) =>
      let s1 := s.flowDrop fun j => decide (j = i)
      (s1, .ok (flowBody s1 i true false) true)
  | _ =>
    let gone := tkeys s.rud.flows fun e => decide (e.typ = typ)
    let s1 := s.flowDrop fun j => has gone j
    ({ s1 with rud := { s1.rud with scan := s1.rud.scan ++ [(typ, gone.length)] } }, .later .flowScan [] (decide (gone ≠ [])))

/-- The oldest removal scan, which removed `n` entries, finishes, and its command is answered (R346). -/
def flowScanned (n : Nat) (rest : List (Byte × Nat)) (s : State) : State :=
  let s1 := { s with rud := { s.rud with scan := rest } }
  match s1.cmd.flights.find? fun f => decide (f.phase = .committed) && decide (f.fin = .flowScan) with
  | some f => s1.answer f .ok 0 (flowBody s1 n (decide (n ≠ 0)) false)
  | none => s1

/-- FLOW_SCAN_COMPLETE: the removal scan of a `FLOW_SET` with OP 2 finishes (R346). -/
def execFlowScanComplete (s : State) : Host.Outcome State Fault Refusal :=
  .next (settle (match s.rud.scan with
    | (_, n) :: rest => flowScanned n rest (fresh s)
    | [] => fresh s))

/-! ## Registers (R342, R348) -/

/-- RUD_STATUS (R348). -/
def State.rudStatus (s : State) : Word :=
  w32 (b2n s.rudEn + 2 * s.rudBank + 4 * b2n s.rud.bootProg + 8 * b2n s.rud.swapTo.isSome + 16 * b2n s.rud.sealed0
    + 32 * b2n s.rud.sealed1 + 64 * s.rud.loaded + 128 * b2n (s.rudSealed s.rud.loaded))

/-- RUD_CTRL has been written: an EN that rises with an unsealed bank, after the boot program, falls back (R342). -/
def rudCtrlWritten (old : Word) (s : State) : State :=
  if s.rudEn && !(bitOf old 0) && !s.rud.bootProg && !(s.rudSealed s.rudBank) then
    (s.setField Reg.RUD_CTRL 0 0 0).flag Reg.RUD_ERR 1
  else s

end Sys2Proof.Machine
end

