-- ==== Sys2Proof/Machine/Ports.lean ====
section
/-! DEFINITION. The network ports: links, receiving, PAUSE and PFC, transmitting, host transmit items and the port
commands (R293 to R321, R363 to R365). -/
namespace Sys2Proof.Machine

/-! ## Registers (R317) -/

/-- The queues of port `p` that are paused (R310). -/
def State.pausedQueues (s : State) (p : Nat) : List Nat := (List.range 8).filter fun q => s.txPaused p q

/-- NPx_STATUS (R317). -/
def State.npStatus (s : State) (p : Nat) : Word :=
  let np := s.port p
  w32 (b2n np.live + 2 * b2n np.link + 4 * s.portMode p + 16 * b2n np.anDone + 32 * b2n np.partnerPause
    + 64 * b2n (decide (s.pausedQueues p ≠ [])))

/-- NPx_PAUSE_STATE (R317). -/
def State.npPauseState (s : State) (p : Nat) : Word :=
  w32 (bitsOfList (s.pausedQueues p) + 256 * b2n (s.port p).linkPause)

/-- A PAUSE or PFC frame is being sent. -/
def NetPort.sendsPause (np : NetPort) : Bool := match np.sending with | some (k, _) => decide (k = 8) | none => false

/-- NPx_PAUSE_TX.GO reads 1 until the frames it asked for have been sent (R145). -/
def State.npGoBusy (s : State) (p : Nat) : Bool := decide ((s.port p).pauseGo ≠ []) || (s.port p).sendsPause

/-! ## Links (R294 to R296) -/

/-- LINK falls, and a reference at the port is lost with it (R295, R390, R394). -/
def linkFalls (p : Nat) (s : State) : State :=
  if (s.port p).link then
    ((s.onPort p fun np => { np with link := false, linkAt := s.ntu.course }).flag (Reg.NP_EVENT p) 1).trackRefs
  else s

/-- The port auto-negotiates (R293). -/
def State.portAn (s : State) (p : Nat) : Bool := decide (2 ≤ s.portMode p) && s.bit (Reg.NP_CFG p) 3

/-- What port `p` advertises while it auto-negotiates: full duplex, half duplex and symmetric PAUSE (R294). -/
def State.advertises (s : State) (p : Nat) : Option (Bool × Bool × Bool) :=
  if s.portAn p && (s.port p).live then some (true, false, s.bit (Reg.NP_PAUSE_CTRL p) 0) else none

/-- AUTO_NEGOTIATION_DONE: auto-negotiation with the link partner completes, or finds no ability in common (R294). -/
def execAutoNegotiationDone (port : Nat) (agreed pause : Bool) (s : State) : Host.Outcome State Fault Refusal :=
  let s0 := fresh s
  let np := s.port port
  .next (settle (
    if !np.live || np.inReset || !(s.portAn port) || s.mode = .moored then s0
    else if agreed then
      s0.onPort port fun np => { np with anDone := true, anFault := false, partnerPause := pause }
    else (linkFalls port (s0.onPort port fun np => { np with anDone := false, anFault := true, partnerPause := false })).flag
      (Reg.NP_EVENT port) 4))

/-- The condition of R295 may hold: the port runs, and auto-negotiation is complete where it is on. -/
def State.linkMay (s : State) (p : Nat) : Bool :=
  let np := s.port p
  np.live && !np.inReset && !np.anFault && (!(s.portAn p) || np.anDone)

/-- PORT_LINK_UP: the link condition has held for 1 ms (R295). -/
def execPortLinkUp (port : Nat) (s : State) : Host.Outcome State Fault Refusal :=
  let s0 := fresh s
  .next (settle (
    if s.linkMay port && !(s.port port).link && s.mode ≠ .moored then
      ((s0.onPort port fun np => { np with link := true, linkAt := s.ntu.course }).flag (Reg.NP_EVENT port) 0).trackRefs
    else s0))

/-- PORT_LINK_DOWN: the link condition is lost (R295). -/
def execPortLinkDown (port : Nat) (s : State) : Host.Outcome State Fault Refusal :=
  .next (settle (linkFalls port (fresh s)))

/-! ## Host transmit items (R303, R304) -/

/-- Release the items at the front of a host transmit queue that are gone (R304). FP passes an item only after those before
it. -/
def qSweep (x : Queue) : Queue :=
  match (x.items.takeWhile Item.gone).length with
  | 0 => x
  | n + 1 => qCross (qLevel x) (qDropFront x (n + 1))

/-- Release the item of host transmit queue `q` whose copy has number `n` (R304). -/
def hostRelease (q n : Nat) (s : State) : State :=
  s.onQueue q fun x =>
    qSweep { x with items := x.items.map fun it => if it.copy = some n then { it with gone := true } else it }

/-- The end of a frame's time in the port: its host item is released. -/
def txGone (f : TxFrame) (s : State) : State :=
  match f.kind with
  | .hostItem q n => hostRelease q n s
  | _ => s

/-- Why the port discards an item, as bits of NPx_ERR (R304). -/
def itemErrors (s : State) (p : Nat) (it : Item) : List Nat :=
  (if s.maxFrame p - 4 < it.len.getD 0 then [3] else []) ++ (if (parseFrame it.data).etype = 0x8808 then [2] else [])
    ++ (if it.abandoned then [4] else [])

/-- Discard the item at RP, which no frame came of: RP passes it, and it is gone (R304). -/
def itemDiscard (q : Nat) (s : State) : State :=
  s.onQueue q fun x =>
    qSweep { x with items := listMod x.items x.rpItem fun it => { it with gone := true }, rpItem := x.rpItem + 1, rpOff := 0 }

/-- The port takes the item at RP of its host transmit queue `q` (R303, R304). -/
def hostCopy (q : Nat) (s : State) : State :=
  let p := (q - 16) / 4
  let np := s.port p
  match tget s.buf.queues q with
  | none => s
  | some x =>
    match x.items[x.rpItem]? with
    | none => s
    | some it =>
      if !np.live || np.holdHost then s
      else if it.len.isNone then
        if qVisible x then s.setQueue q { x with rpOff := 4 } else s
      else
        let errs := itemErrors s p it
        if errs ≠ [] then itemDiscard q (errs.foldl (fun s i => s.flag (Reg.NP_ERR p) i) s)
        else
          let f : TxFrame := { bytes := it.data, kind := .hostItem q x.copies, tstamp := it.pflags.getLsbD 0,
                               oneStep := it.pflags.getLsbD 2 }
          let (s1, took) := s.egress p (if it.pflags.getLsbD 1 then 7 else (q - 16) % 4) f
          if took then s1.setQueue q { x with items := listMod x.items x.rpItem fun it => { it with copy := some x.copies,
                                                                                                    read := true },
                                              copies := x.copies + 1, rpItem := x.rpItem + 1, rpOff := 0 } else s

/-- The port reads the item at RP of host transmit queue `q`, whole (R304). -/
def State.portReads (s : State) (q : Nat) : Bool :=
  let np := s.port ((q - 16) / 4)
  np.live && !np.holdHost && match tget s.buf.queues q with
    | some x => (match x.items[x.rpItem]? with | some it => it.len.isSome | none => false)
    | none => false

/-- HOST_TX_ITEM_COPY: the port copies an item of host transmit queue `q` into its egress queue, or discards it (R253,
R304). -/
def execHostTxItemCopy (read : QueueRead) (s : State) : Host.Outcome State Fault Refusal :=
  let q := read.q
  let s0 := fresh s
  .next (settle (
    if !(hostProduces q && clocked s.mode) then s0
    else if s0.portReads q then hostCopy q (queueEcc q read.ecc (s0.onQueue q (qUpset read.ecc))) else hostCopy q s0))

/-! ## Receiving (R297, R308 to R310) -/

/-- The size band of a frame (R312). -/
def sizeBand (n : Nat) : Nat :=
  if n ≤ 64 then 0 else if n ≤ 127 then 1 else if n ≤ 255 then 2 else if n ≤ 511 then 3
  else if n ≤ 1023 then 4 else if n ≤ 1518 then 5 else if n ≤ 2047 then 6 else 7

/-- Unicast, multicast or broadcast, as an offset in the type counters (R312). -/
def castType (dst : Nat) : Nat :=
  if dst = 2 ^ 48 - 1 then 2 else if (dst / 2 ^ 40) % 2 = 1 then 1 else 0

/-- The size counter, and the type counters of a frame without error flags that its headers give (R312). -/
def rxCount (p : Nat) (f : Parsed) (n : Nat) (bad : Bool) (s : State) : State :=
  let s1 := s.stat p (sizeBand n)
  if bad then s1
  else
    let s2 := s1.stat p (16 + castType f.dst)
    let s3 := if f.tagged then s2.stat p 23 else s2
    if f.etype = 0x8808 && !f.tagged then s3.stat p 22 else s3

/-- The pause timers that a control frame that is acted on loads: the quanta of the PAUSE timer, and those of the PFC timers
(R308, R309). -/
def pauseLoad (s : State) (p : Nat) (f : Parsed) (bs : List Byte) : Option (Option Nat × List (Nat × Nat)) :=
  let op := beAt bs 14 2
  if !(f.dst = 0x0180C2000001 || f.dst = s.portMac p) then none
  else if op = 0x0001 && s.bit (Reg.NP_PAUSE_CTRL p) 0 then some (some (beAt bs 16 2), [])
  else if op = 0x0101 && s.bit (Reg.NP_PAUSE_CTRL p) 1 then
    some (none, ((List.range 8).filter fun i => (beAt bs 17 1).testBit i).map fun i => (i, beAt bs (18 + 2 * i) 2))
  else none

/-- One quantum at the rate of port `p`, 512 bit times, in tenths of a nanosecond (R309). -/
def State.quantum (s : State) (p : Nat) : Nat := 512 * 10000000000 / s.portRate p

/-- Load one PFC timer with a time in tenths of a nanosecond; 0 stops it (R309, R310). -/
def pfcPut (now : Nat) (np : NetPort) (e : Nat × Nat) : NetPort :=
  { np with pfc := if e.2 = 0 then np.pfc &&& ~~~((1 : BitVec 8) <<< e.1) else np.pfc ||| (1 <<< e.1),
            pfcUntil := np.pfcUntil.set e.1 (now + e.2) }

/-- Put the timers of a pause frame received at Course Time `now`, in tenths of a nanosecond, with quanta of `unit`. -/
def pausePut (now unit : Nat) (np : NetPort) (l : Option Nat × List (Nat × Nat)) : NetPort :=
  let np1 := match l.1 with
    | some q => { np with linkPause := decide (q ≠ 0), pauseUntil := now + q * unit }
    | none => np
  l.2.foldl (fun np e => pfcPut now np (e.1, e.2 * unit)) np1

/-- A MAC control frame: consumed, and acted on where it passes the checks (R308 to R310). -/
def macControl (p : Nat) (f : Parsed) (bs : List Byte) (errs : FrameErrs) (s : State) : State :=
  let s1 := (s.stat p 33 (b2n errs.align)).stat p 37 (b2n errs.sym)
  if errs.fcs then s1.stat p 32
  else match pauseLoad s1 p f bs with
  | none => s1.stat p 22
  | some l =>
    let s2 := rxCount p f bs.length (errs.align || errs.sym) s1
    let put := fun np => pausePut (10 * s.ntu.course) (s.quantum p) np l
    let alone := s2.onPort p fun np => put { np with linkPause := false, pfc := 0 }
    let s3 := ((creditStep p s2).onPort p put).stat p 45
    if alone.pausedQueues p ≠ [] then s3.flag (Reg.NP_EVENT p) 3 else s3

/-- Frames of port `p` that its receive buffer holds (R297). -/
def State.rxHeld (s : State) (p : Nat) : Nat := (s.rud.inq.filter fun d => decide (d.frame.port = p)).length

/-- The raw receive time-stamp of a frame of `n` bytes that has just ended (R300). -/
def State.rxRaw (s : State) (p n : Nat) : Nat := s.tick64 - s.byteNs p n

/-- The receive buffer of port `p` was full when the frame of `n` bytes that has just ended started (R297). -/
def State.rxNoRoom (s : State) (p n : Nat) : Bool :=
  decide (3 ≤ s.rxHeld p) || decide (s.ntu.course - s.byteNs p n < (s.port p).rxFullUntil)

/-- A port finishes receiving a frame, destination address to FCS (R297). No byte at all is what the receiver finds outside
frames: in 10GBASE-R an error block there counts in SYMBOL (R312). -/
def rxFrame (p : Nat) (bs : List Byte) (errs : FrameErrs) (s : State) : State :=
  let n := bs.length
  let f := parseFrame bs
  let bad := errs.fcs || errs.align || errs.sym
  if n = 0 then s.stat p 37 (b2n (errs.sym && s.portMode p = 0))
  else if n < 64 then s.stat p 34
  else if s.maxFrame p < n then s.stat p (if errs.fcs then 36 else 35)
  else if s.rxNoRoom p n then rxCount p f n bad (s.bump (Reg.NP_RX_OVF p))
  else if f.etype = 0x8808 && !f.tagged then macControl p f bs errs s
  else
    let s1 := ((s.stat p 32 (b2n errs.fcs)).stat p 33 (b2n errs.align)).stat p 37 (b2n errs.sym)
    rudDispatch { port := p, bytes := bs, fcsErr := errs.fcs, alignErr := errs.align, symErr := errs.sym,
                  stamp := s.rxStamp p (s.rxRaw p n), at_ := s.ntu.course } (rxCount p f n bad s1)

/-- The PCS of port `p` sends a received frame back (R663). -/
def echoed (p : Nat) (bs : List Byte) (s : State) : State := s.onPort p fun np => { np with echo := bs }

/-- FRAME_RECEIVED: a port finishes receiving a frame, checks it, and passes it to the Rudder, consumes it or discards it
(R297). -/
def execFrameReceived (dt port : Nat) (bytes : List Byte) (errs : FrameErrs) (s : State) :
    Host.Outcome State Fault Refusal :=
  let s1 := (fresh s).advance dt
  let np := s1.port port
  .next (settle (
    if !(np.live && !np.inReset && clocked s1.mode) || s1.nearLoop port then s1
    else rxFrame port bytes errs (if s1.tst.points.getD port 0 = 3 then echoed port bytes s1 else s1)))

/-- The time of PFC timer 0 to 7, or of the PAUSE timer as 8, has passed (R309). -/
def State.pauseOver (s : State) (p timer : Nat) : Bool :=
  let np := s.port p
  decide ((if timer = 8 then np.pauseUntil else np.pfcUntil.getD timer 0) ≤ 10 * s.ntu.course)

/-- PAUSE_TIMER_EXPIRED: PFC timer 0 to 7, or the PAUSE timer as 8, runs out; one whose time has not come runs on (R309,
R310). -/
def execPauseTimerExpired (port timer : Nat) (s : State) : Host.Outcome State Fault Refusal :=
  .next (settle (if !(s.pauseOver port timer) then fresh s else
    (creditStep port (fresh s)).onPort port fun np =>
      if timer = 8 then { np with linkPause := false } else { np with pfc := np.pfc &&& ~~~((1 : BitVec 8) <<< timer) }))

/-! ## PAUSE and PFC frames of the host (R311) -/

/-- The PAUSE or PFC frame that NPx_PAUSE_TX describes; a PFC frame gives every priority a quanta, 0 to those that PRI does
not set (R311). -/
def pauseFrame (s : State) (p : Nat) : List Byte :=
  let v := s.reg (Reg.NP_PAUSE_TX p)
  let quanta := fieldOf v 15 0
  let pri := fieldOf v 23 16
  beBytes 6 0x0180C2000001 ++ beBytes 6 (s.portMac p) ++ beBytes 2 0x8808 ++
    (if bitOf v 24 then
      beBytes 2 0x0101 ++ beBytes 2 0x00FF ++ (List.range 8).flatMap fun i => beBytes 2 (if pri.testBit i then quanta else 0)
    else beBytes 2 0x0001 ++ beBytes 2 quanta)

/-- A write of GO: one frame is asked for, or the error of R94; the flag says that the pending slot was full (R145). -/
def pauseGoWrite (p : Nat) (s : State) : State × Bool :=
  if !s.pmu.firstService then (s.flag (Reg.NP_ERR p) 1, false)
  else if !(s.port p).live then (s, false)
  else if 2 ≤ (s.port p).pauseGo.length + b2n (s.port p).sendsPause then (s, true)
  else (s.onPort p fun np => { np with pauseGo := np.pauseGo ++ [pauseFrame s p] }, false)

/-! ## Transmitting (R301 to R307, R363 to R365) -/

/-- Charge the shaper of queue `q` with the send slope for `bytes` bytes of its own frame (R305). -/
def State.charge (s : State) (p q : Nat) (bytes : Int) : State :=
  let own := fun (k : Nat) (c : Int) =>
    if k = q && s.slope p q ≠ 0 then c + ((s.slope p q : Int) - 1024) * (8 * bytes) else c
  s.onPort p fun np => { np with creditA := own 5 np.creditA, creditB := own 4 np.creditB }

/-- The frame in progress ends, and its item is released (R304). -/
def txEnd (p : Nat) (s : State) : State :=
  let s1 := creditStep p s
  match (s.port p).sending with
  | none => s1
  | some (_, f) =>
    let s2 := txGone f (s1.onPort p fun np => { np with sending := none })
    if s.nearLoop p && !(s.port p).lastCut then rxFrame p (s.port p).lastTx {} s2 else s2

/-- A media packet, which ISLAND does not launch (R84). -/
def TxKind.isMedia : TxKind → Bool
  | .media _ => true | _ => false

/-- Egress queue `q` is eligible (R84, R301, R305, R306). -/
def State.eligible (s : State) (p q : Nat) : Bool :=
  match (s.port p).egress.getD q [] with
  | [] => false
  | f :: _ =>
    if s.txPaused p q || (s.mode = .island && f.kind.isMedia) then false
    else if q = 5 then s.launched p f && (s.slope p 5 = 0 || 0 ≤ (s.port p).creditA)
    else if q = 4 then s.launched p f && (s.slope p 4 = 0 || 0 ≤ (s.port p).creditB)
    else true

/-- The transmit counters of a frame (R312). -/
def txCounted (p q : Nat) (wire : List Byte) (s : State) : State :=
  let f := parseFrame wire
  let s1 := (s.stat p (8 + sizeBand wire.length)).stat p (24 + castType f.dst)
  let s2 := if f.tagged then s1.stat p 31 else s1
  match q with
  | 7 => s2.stat p 27
  | 6 => s2.stat p 29
  | 5 => s2.stat p 28
  | 4 => s2.stat p 28
  | 8 => (s2.stat p 30).stat p 46
  | _ => s2

/-- Replace the bytes at offset `o`. -/
def setBytes (bs : List Byte) (o : Nat) (new : List Byte) : List Byte := bs.take o ++ new ++ bs.drop (o + new.length)

/-- Offset of the UDP header of a frame, where it has one. -/
def udpOffset (f : Parsed) (bs : List Byte) : Nat := if f.ip4 then f.l3 + 4 * (beAt bs f.l3 1 % 16) else f.l3 + 40

/-- The frame with its UDP checksum computed again (R365). -/
def udpAgain (bs : List Byte) (f : Parsed) : List Byte :=
  let o := udpOffset f bs
  let len := beAt bs (o + 4) 2
  let pseudo := if f.ip4 then sum16 (slice bs (f.l3 + 12) 8) else sum16 (slice bs (f.l3 + 8) 32)
  let z := setBytes bs (o + 6) (beBytes 2 0)
  let c := inetSum (pseudo + 17 + len + sum16 (slice z o len))
  setBytes bs (o + 6) (beBytes 2 (if c = 0 then 65535 else c))

/-- The one-step insertion: a PTP Sync carries its transmit stamp as originTimestamp (R365). -/
def oneStepFrame (bs : List Byte) (t : Nat) : List Byte :=
  let f := parseFrame (wireFrame bs)
  let at_ := if f.etype = 0x88F7 then f.l3 else udpOffset f bs + 8
  let ptp : Bool := f.etype = 0x88F7 || (f.udp && (f.dport = 319 || f.dport = 320))
  if !ptp || beAt bs at_ 1 % 16 ≠ 0 then bs
  else
    let new := setBytes bs (at_ + 34) (ptpTime t)
    if f.udp then udpAgain new f else new

/-- Append an entry to a time-stamp queue; LOSS and TS_LOSS where an unread entry is discarded (R364). -/
def stampEntry (q : Nat) (pflags : Nat) (ws : List Word) (s : State) : State :=
  match tget s.buf.queues q with
  | none => s
  | some x =>
    if !s.buf.ready then s.bump Reg.BUF_DROP_UNCONF else
    let it : Item := { len := some 12, data := wordBytes ws, pflags := BitVec.ofNat 8 pflags }
    let loss := decide ((qAppend x it).1.lost ≠ x.lost)
    let s1 := s.setQueue q (qAppend x { it with pflags := BitVec.ofNat 8 (pflags + b2n loss) }).1
    if loss then s1.flag Reg.NTU_EVENT 4 else s1

/-- The ordinal of the next TSTAMP item of port `p` (R363). -/
def State.ordinal (s : State) (p : Nat) : Nat := if p = 0 then s.ntu.ordinalA else s.ntu.ordinalB

/-- A TSTAMP item passes the transmit point at the compensated stamp `t` (R363). -/
def tstampEntry (p : Nat) (wire : List Byte) (t : Nat) (s : State) : State :=
  let f := parseFrame wire
  let m := (if isPtp s p f then ptpPayload wire else none).map readPtp
  let w1 := (match m with
    | some m => 2 ^ 20 + 2 ^ 16 * m.typ + m.seq
    | none => 0) + 2 ^ 24 * s.ntu.epoch
  let n := s.ordinal p
  let dom := match m with | some m => m.domain | none => 0
  let s1 := stampEntry (24 + p) 0 [w32 (t % 2 ^ 32), w32 w1, w32 (n + 2 ^ 16 * dom)] s
  let n' := (n + 1) % 2 ^ 16
  { s1 with ntu := if p = 0 then { s1.ntu with ordinalA := n' } else { s1.ntu with ordinalB := n' } }

/-- A frame starts: egress queue `q`, or 8 for a PAUSE or PFC frame (R302, R303, R311). -/
def txBegin (p q : Nat) (f : TxFrame) (s : State) : State :=
  let t := s.txStamp p (s.tick64 + 64 * 1000000000 / s.portRate p)
  let bytes := if f.oneStep then oneStepFrame f.bytes t else f.bytes
  let wire := wireFrame bytes
  let s1 := s.onPort p fun np => { np with sending := some (q, f), txUntil := s.ntu.course + s.byteNs p (wire.length + 8),
                                           lastTx := wire, lastTxTick := t, lastCut := false }
  let s2 := txCounted p q wire (s1.charge p q (wire.length + 8))
  let s3 := if f.tstamp then tstampEntry p wire t s2 else s2
  match f.kind with
  | .ptp => ptpSent p wire t s3
  | _ => s3

/-- At a frame boundary the transmitter starts a host PAUSE frame, or the head frame of the highest-numbered eligible
queue (R302). -/
def txNext (p : Nat) (s : State) : State :=
  let np := s.port p
  match np.pauseGo with
  | b :: rest => txBegin p 8 { bytes := b, kind := .pause } (s.onPort p fun np => { np with pauseGo := rest })
  | [] =>
    match [7, 6, 5, 4, 3, 2, 1, 0].find? fun q => s.eligible p q with
    | none => s
    | some q =>
      match np.egress.getD q [] with
      | [] => s
      | f :: rest => txBegin p q f (s.onPort p fun np => { np with egress := np.egress.set q rest })

/-- TRANSMIT_FRAME_START: a frame boundary of the transmitter: the frame in progress has ended, and the next one starts
(R302). -/
def execTransmitFrameStart (dt port : Nat) (s : State) : Host.Outcome State Fault Refusal :=
  let s1 := (fresh s).advance dt
  let np := s1.port port
  .next (settle (
    if !np.live || np.inReset || !(clocked s1.mode) then s1
    else if np.disabling then txEnd port s1
    else txNext port (txEnd port s1)))

/-- NPx_LAUNCH_CFG.LATE_MAX in ns; 0 acts as 1 µs (R317). -/
def State.lateMax (s : State) (p : Nat) : Nat :=
  let v := s.regField (Reg.NP_LAUNCH_CFG p) 15 0
  1000 * (if v = 0 then 1 else v)

/-- LAUNCH_LATE_DISCARD: the head frame of queue 4 or 5 could not start within LATE_MAX of its launch time (R307). -/
def execLaunchLateDiscard (port queue : Nat) (s : State) : Host.Outcome State Fault Refusal :=
  let s0 := fresh s
  .next (settle (
    match (s.port port).egress.getD queue [] with
    | [] => s0
    | f :: rest =>
      if (queue = 4 || queue = 5) && decide (f.launch + s.lateMax port ≤ s.tick64) then
        (((creditStep port s0).onPort port fun np => { np with egress := np.egress.set queue rest }).stat port 47).flag
          (Reg.NP_EVENT port) 5
      else s0))

/-! ## Enables, disables and restarts (R296, R319, R320) -/

/-- An enable takes effect: the SerDes starts (R296). -/
def portUp (p : Nat) (s : State) : State :=
  s.onPort p fun np => { np with live := true, disabling := false, inReset := true, creditA := 0, creditB := 0,
                                 creditAt := s.ntu.course }

/-- A disable takes effect: what stands in the egress queues is discarded, and the transmitter goes idle (R296). -/
def portDown (p : Nat) (s : State) : State :=
  let np := s.port p
  let held := (match np.sending with | some (_, f) => [f] | none => []) ++ np.egress.flatten
  let s1 := held.foldl (fun s f => txGone f s) (linkFalls p s)
  let s2 := s1.onPort p fun np =>
    { np with live := false, disabling := false, inReset := false, anDone := false, anFault := false,
              partnerPause := false, egress := List.replicate 8 [], sending := none, linkPause := false, pfc := 0,
              pauseGo := [], creditA := 0, creditB := 0 }
  s2.finishFin (.portDown p)

/-- NPx_CFG.EN has become `en`: an enable takes effect at once, a disable at the end of the frame in progress (R296). -/
def portEnable (p : Nat) (en : Bool) (s : State) : State :=
  let np := s.port p
  if en then
    if np.disabling then portUp p (portDown p s) else if np.live then s else portUp p s
  else if np.live then s.onPort p fun np => { np with disabling := true } else s

/-- PORT_DISABLE_DONE: the frame in progress ends and the port disable takes effect (R296). -/
def execPortDisableDone (port : Nat) (s : State) : Host.Outcome State Fault Refusal :=
  .next (settle (if (s.port port).disabling then portDown port (txEnd port (fresh s)) else fresh s))

/-- PORT_RESET_RELEASE: the SerDes or PCS reset is released after an enable or a restart (R320). -/
def execPortResetRelease (port : Nat) (s : State) : Host.Outcome State Fault Refusal :=
  .next (settle (if (s.port port).inReset then
    ((fresh s).onPort port fun np => { np with inReset := false }).finishFin (.portUp port) else fresh s))

/-- The entry of a TSTAMP frame that a restart ends with an error code carries ABORT (R363). -/
def stampAbort (p : Nat) (s : State) : State :=
  s.onQueue (24 + p) fun x =>
    if x.rpItem < x.items.length then
      { x with items := listMod x.items (x.items.length - 1) fun it => { it with pflags := it.pflags ||| 2 } }
    else x

/-- The frame in progress on port `p` is ended with an error code: what is left of it is not sent, and its shaper is charged
for what was (R305, R320, R363). -/
def txCut (p : Nat) (s : State) : State :=
  match (s.port p).sending with
  | none => s
  | some (q, f) =>
    let left := Nat.min (s.port p).lastTx.length (((s.port p).txUntil - s.ntu.course) * s.portRate p / 8000000000)
    let s1 := (if f.tstamp then stampAbort p s else s).charge p q (-left)
    s1.onPort p fun np => { np with lastTx := np.lastTx.take (np.lastTx.length - left), lastCut := true,
                                    txUntil := Nat.min np.txUntil s.ntu.course }

/-- Restart an enabled port: the link falls, and a frame in progress is ended with an error code. Its transmission ends there,
and with it its host item's stay (R304, R320). -/
def portRestart (p : Nat) (s : State) : State :=
  (linkFalls p (txEnd p (txCut p s))).onPort p fun np =>
    { np with inReset := true, anDone := false, anFault := false, partnerPause := false }

/-! ## Commands (R318 to R321) -/

/-- `PORT_CONFIG`, checks of the packet alone (R318). -/
def badPortConfig (x : Bool) (p : List Word) : Option Nat :=
  if p.length ≠ (if x then 7 else 3) then some 0 else
  let w1 := p.getD 0 0
  let w3 := p.getD 2 0
  let w4 := p.getD 3 0
  let w5 := p.getD 4 0
  let w6 := p.getD 5 0
  if fieldOf w1 31 6 ≠ 0 || (x && bitOf w1 5) then some 1
  else if fieldOf w3 31 16 ≠ 0 || bitOf w3 8 then some 3
  else if !x then none
  else if fieldOf w4 13 0 < 1518 || 9216 < fieldOf w4 13 0 || fieldOf w4 15 14 ≠ 0 || fieldOf w4 31 23 ≠ 0 then some 4
  else if 1024 < fieldOf w5 10 0 + fieldOf w5 26 16 || fieldOf w5 15 11 ≠ 0 || fieldOf w5 31 27 ≠ 0 then some 5
  else if fieldOf w6 31 16 ≠ 0 then some 6
  else if fieldOf (p.getD 6 0) 31 24 ≠ 0 then some 7 else none

/-- The configuration that `PORT_CONFIG` gives, as register and word (R318). -/
def portConfigRegs (x : Bool) (p : List Word) (n : Nat) : List (Nat × Word) :=
  let w1 := p.getD 0 0
  let w4 := p.getD 3 0
  let w5 := p.getD 4 0
  [(Reg.NP_CFG n, w32 (b2n (bitOf w1 1) + 2 * fieldOf w1 3 2 + 8 * b2n (bitOf w1 4))),
   (Reg.NP_MAC_LO n, p.getD 1 0), (Reg.NP_MAC_HI n, p.getD 2 0),
   (Reg.NP_MAX_FRAME n, w32 (if x then fieldOf w4 13 0 else if bitOf w1 5 then 9216 else 1522)),
   (Reg.NP_RX_CTRL n, w32 (if x then fieldOf w4 19 16 else 1)),
   (Reg.NP_PAUSE_CTRL n, w32 (if x then fieldOf w4 22 20 else 3)),
   (Reg.NP_CBS_A n, w32 (if x then fieldOf w5 10 0 else 512)),
   (Reg.NP_CBS_B n, w32 (if x then fieldOf w5 26 16 else 256)),
   (Reg.NP_LAUNCH_CFG n, if x then p.getD 5 0 else 50),
   (Reg.NP_Q_PCP n, if x then p.getD 6 0 else 0x00FAC688)]

/-- The first word of `PORT_CONFIG` that would change an RWD field of an enabled port (R319). -/
def portStale (x : Bool) (p : List Word) (n : Nat) (s : State) : Option Nat :=
  let new := portConfigRegs x p n
  let at_ := fun (i : Nat) => (new.getD i (0, 0)).2
  if (at_ 0 &&& 0xE) ≠ (s.reg (Reg.NP_CFG n) &&& 0xE) then some 1
  else if at_ 1 ≠ s.reg (Reg.NP_MAC_LO n) then some 2
  else if at_ 2 ≠ s.reg (Reg.NP_MAC_HI n) then some 3
  else if at_ 3 ≠ s.reg (Reg.NP_MAX_FRAME n) then some (if x then 4 else 1) else none

/-- `PORT_CONFIG` at its commit point: the write into the port (R318, R319). -/
def commitPortConfig (x : Bool) (p : List Word) (s : State) : State × Res :=
  let n := fieldOf (p.getD 0 0) 0 0
  let en := bitOf (p.getD 0 0) 1
  let was := (s.port n).live
  match if was then portStale x p n s else none with
  | some w => (s, .fail .staleWrite w)
  | none =>
    let s1 := (portConfigRegs x p n).foldl (fun s e => s.setReg e.1 e.2) (creditStep n s)
    let gen := decide (s1.regs ≠ s.regs)
    let again := was && (s.port n).disabling
    let s2 := portEnable n en s1
    let body := [s2.npStatus n]
    if en && (!was || again) then (s2, .later (.portUp n) body gen)
    else if !en && was then (s2, .later (.portDown n) body gen)
    else (s2, .ok body gen)

/-- `PORT_RESTART`, checks of the packet alone (R320). -/
def badPortRestart (p : List Word) : Option Nat :=
  if p.length ≠ 1 then some 0 else if fieldOf (p.getD 0 0) 31 2 ≠ 0 then some 1 else none

/-- `PORT_RESTART` at its commit point (R320). -/
def commitPortRestart (p : List Word) (s : State) : State × Res :=
  let n := fieldOf (p.getD 0 0) 0 0
  if !(s.port n).live then (s, .fail .badParam 1) else (portRestart n s, .later (.portUp n) [])

/-- `PORT_STATS`, checks of the packet alone (R321). -/
def badPortStats (x : Bool) (p : List Word) : Option Nat :=
  if p.length ≠ 1 then some 0
  else if fieldOf (p.getD 0 0) 31 (if x then 3 else 1) ≠ 0 then some 1 else none

/-- Clear the counters, the extensions and NPx_STAT_HALF of a port (R321). -/
def clearStats (n : Nat) (s : State) : State :=
  let s1 := (List.range 48).foldl (fun s i => (s.setReg (Reg.NP_STAT n i) 0).setReg (Reg.NP_STAT_EXT n i) 0) s
  (s1.setReg (Reg.NP_STAT_HALF_LO n) 0).setReg (Reg.NP_STAT_HALF_HI n) 0

/-- `PORT_STATS` at its commit point (R321). -/
def commitPortStats (x : Bool) (p : List Word) (s : State) : State × Res :=
  let w := p.getD 0 0
  let n := fieldOf w 0 0
  let page := x && bitOf w 1
  let body := s.tick32 :: (List.range 48).map fun i => s.reg (if page then Reg.NP_STAT_EXT n i else Reg.NP_STAT n i)
  (if x && bitOf w 2 then clearStats n s else s, .ok body)

end Sys2Proof.Machine
end

