-- ==== Sys2Proof/Machine/Starter.lean ====
section
/-! DEFINITION. The Start List commands, event inputs and event outputs (R366 to R369, R375 to R387). -/
namespace Sys2Proof.Machine

/-! ## Event inputs (R366) -/

/-- Whether EDGE_i of NTU_EVT_IN_CFG chooses an edge (R366). -/
def State.edgeChosen (s : State) (pin : Nat) (rising : Bool) : Bool :=
  (s.regField Reg.NTU_EVT_IN_CFG (2 * pin + 1) (2 * pin)).testBit (if rising then 0 else 1)

/-- An edge within 100 ns of the last stamped one goes unstamped (R72, R366). -/
def edgeMissed (pin : Nat) (s : State) : State :=
  let s1 := { s with ntu := { s.ntu with evtIn := listMod s.ntu.evtIn pin fun e =>
    { e with missed := satNat 255 (e.missed + 1) } } }
  (s1.bumpField Reg.NTU_EVT_IN_MISS (4 * pin + 3) (4 * pin)).flag Reg.NTU_EVENT 5

/-- An entry of queue 26 was stamped in the CLK_CTL cycle of an edge at Course Time word `c`, on a pin above `pin`; PIN is
the low 3 bits of word 2 (R366). -/
def laterPin (c pin : Nat) (it : Item) : Bool :=
  decide (leNat (slice it.data 4 4) / 2 = c / 2) && decide (pin < leNat (slice it.data 8 1) % 8)

/-- Move the newest item before those just before it that `p` names, among those from index `n` on. -/
def sinkItem (p : Item → Bool) (n : Nat) (l : List Item) : List Item :=
  match l.getLast? with
  | none => l
  | some it =>
    let body := l.dropLast
    let tail := ((body.drop n).reverse.takeWhile p).length
    body.take (body.length - tail) ++ it :: body.drop (body.length - tail)

/-- The newest entry of queue 26 takes its place among those of its CLK_CTL cycle that are not read: ascending pins (R366). -/
def orderEdges (pin : Nat) (s : State) : State :=
  s.onQueue 26 fun q =>
    let unread := if q.rpOff = 0 then q.rpItem else q.rpItem + 1
    { q with items := sinkItem (laterPin (s.ntu.course % 2 ^ 32) pin) unread q.items }

/-- An edge is stamped, and its entry goes to queue 26 (R366). -/
def edgeStamped (pin : Nat) (rising : Bool) (s : State) : State :=
  let miss := (s.ntu.evtIn.getD pin {}).missed
  let w2 := pin + 8 * b2n rising + 16 * s.ntu.epoch + 2 ^ 8 * miss
  let s1 := orderEdges pin (stampEntry 26 (2 * b2n (decide (miss ≠ 0))) [s.tick32, w32 (s.ntu.course % 2 ^ 32), w32 w2] s)
  { s1 with ntu := { s1.ntu with evtIn := listMod s1.ntu.evtIn pin fun _ =>
    { lastStamp := some s.ntu.course, missed := 0 } } }

/-- An edge on an EVT_IN pin (R72, R366). -/
def evtIn (pin : Nat) (rising : Bool) (s : State) : State :=
  let close : Bool := match (s.ntu.evtIn.getD pin {}).lastStamp with
    | some t => decide (s.ntu.course < t + 100)
    | none => false
  if !(s.edgeChosen pin rising) then s
  else if close then edgeMissed pin s
  else edgeStamped pin rising s

/-- EVT_IN_EDGE: an edge on an EVT_IN pin is stamped and queued, or missed (R366). -/
def execEvtInEdge (dt pin : Nat) (rising : Bool) (s : State) : Host.Outcome State Fault Refusal :=
  let s1 := (fresh s).advance dt
  .next (settle (if pin < 8 && clocked s1.mode then evtIn pin rising s1 else s1))

/-! ## Event outputs (R367 to R369) -/

/-- MODE of an EVT_OUT pin: 0 OFF, 1 LEVEL, 2 PERIODIC (R389). -/
def State.evtMode (s : State) (i : Nat) : Nat :=
  let m := s.regField (Reg.NTU_EVT_OUT_CFG i) 1 0
  if m = 3 then 0 else m

/-- PERIOD, WIDTH and PHASE of an EVT_OUT pin, as they act (R389). -/
def State.evtPeriod (s : State) (i : Nat) : Nat :=
  let v := (s.reg (Reg.NTU_EVT_OUT_PERIOD i)).toNat
  if v < 40 then 40 else v
def State.evtWidth (s : State) (i : Nat) : Nat :=
  let v := (s.reg (Reg.NTU_EVT_OUT_WIDTH i)).toNat
  if v < 20 then 20 else if s.evtPeriod i - 20 < v then s.evtPeriod i - 20 else v

/-- The pulse train of a PERIODIC pin at time `t` of the outputs: it is high for WIDTH from each instant at which
(time − PHASE) is a whole multiple of PERIOD (R369). -/
def State.evtTrain (s : State) (i : Nat) (t : Int) : Bool :=
  decide ((t / 2 ^ 40 - (s.reg (Reg.NTU_EVT_OUT_PHASE i)).toNat) % (s.evtPeriod i : Int) < s.evtWidth i)

/-- The logical level that MODE gives an EVT_OUT pin now (R367, R369). -/
def State.evtDue (s : State) (i : Nat) : Bool :=
  match s.evtMode i with
  | 1 => (s.ntu.evtOut.getD i {}).level
  | 2 => s.evtTrain i s.outTime
  | _ => false

/-- POL of an EVT_OUT pin, which inverts it (R367). -/
def State.evtPol (s : State) (i : Nat) : Bool := s.bit (Reg.NTU_EVT_OUT_CFG i) 2

/-- The level at the ball of EVT_OUT[i]; none while it is high-impedance, without supply or before its function is first
enabled (R51, R52, R114, R367). A ball that holds its level holds it until the time it was given. -/
def State.evtBall (s : State) (i : Nat) : Option Bool :=
  let o := s.ntu.evtOut.getD i {}
  let due := s.evtDue i != s.evtPol i
  if !s.outPowered || !o.driven then none
  else match o.hold with
    | some (b, u) => some (if s.outTime < u then b else due)
    | none => some due

/-- The logical level of an EVT_OUT pin now (R367, R389). -/
def State.evtLevel (s : State) (i : Nat) : Bool :=
  match s.evtBall i with
  | some b => b != s.evtPol i
  | none => s.evtDue i

/-- Change EVT_OUT pin `i`. -/
def State.onEvt (s : State) (i : Nat) (f : EvtOut → EvtOut) : State :=
  { s with ntu := { s.ntu with evtOut := listMod s.ntu.evtOut i f } }

/-- The first time of the outputs at or after `t` at which the train of pin `i` goes to `v` (R369). -/
def State.trainTo (s : State) (i : Nat) (v : Bool) (t : Int) : Int :=
  let per : Int := (s.evtPeriod i : Int) * 2 ^ 40
  let at_ : Int := ((s.reg (Reg.NTU_EVT_OUT_PHASE i)).toNat + (if v then 0 else (s.evtWidth i : Int))) * 2 ^ 40
  at_ + (t - at_ + per - 1) / per * per

/-- Course Time of the last edge at the ball of EVT_OUT[i] (R72). -/
def State.evtLast (s : State) (i : Nat) : Option Nat :=
  let o := s.ntu.evtOut.getD i {}
  let free : Bool := match o.hold with | some (_, u) => decide (u ≤ s.outTime) | none => true
  if s.evtMode i = 2 && free then
    let p : Int := (s.outTime / 2 ^ 40 - (s.reg (Reg.NTU_EVT_OUT_PHASE i)).toNat) % (s.evtPeriod i : Int)
    let since : Int := if p < s.evtWidth i then p else p - s.evtWidth i
    some (max (o.lastEdge.getD 0) ((s.ntu.course : Int) - since).toNat)
  else o.lastEdge

/-- What is left, in ns, of the 20 ns that an edge keeps from the last one of its pin (R72, R368). -/
def edgeRest (last : Option Nat) (now : Nat) : Nat :=
  match last with
  | some l => l + 20 - now
  | none => 0

/-- The ball of PERIODIC pin `i` keeps level `b` until the train, `rest` ns from now or later, goes to the other level: an
edge keeps 20 ns from the one before (R72, R369). -/
def State.holdTrain (s : State) (i : Nat) (b : Bool) (last : Option Nat) (rest : Nat) : State :=
  let u := s.trainTo i (!b != s.evtPol i) (s.outTime + (rest : Int) * 2 ^ 40)
  s.onEvt i fun o => { o with hold := some (b, u), lastEdge := last }

/-- The pulse trains move onto Network Time as it is now; no pin makes an edge but those of its train, 20 ns apart (R72,
R369, R416). -/
def evtAnchor (s : State) : State :=
  let keep := fun (t : State) (i : Nat) =>
    match s.evtBall i with
    | some b =>
      if s.evtMode i = 2 then t.holdTrain i b (s.evtLast i) (edgeRest (s.evtLast i) s.ntu.course)
      else t.onEvt i fun o => { o with hold := o.hold.map fun h => (h.1, h.2 + t.outTime - s.outTime) }
    | none => t
  (List.range 4).foldl keep s.anchorOutputs

/-- An edge at the ball of pin `i` from level `b`, if the ball comes to another level by a write: at once, or 20 ns after
the last edge (R72, R367). -/
def ballChange (i : Nat) (b : Bool) (last : Option Nat) (s : State) : State :=
  let now := s.ntu.course
  let rest := edgeRest last now
  let s1 := s.onEvt i fun o => { o with hold := none, lastEdge := last }
  let due := s.evtDue i != s.evtPol i
  if s.evtMode i = 2 then
    if due = b || rest ≠ 0 then s1.holdTrain i b last rest else s1.holdTrain i due (some now) 20
  else if due = b then s1
  else s1.onEvt i fun o =>
    { o with hold := if rest = 0 then none else some (b, s.outTime + (rest : Int) * 2 ^ 40), lastEdge := some (now + rest) }

/-- A write has changed NTU_EVT_OUT_CFG[i] of `s0`: entering LEVEL starts at the inactive level, and the first edge after
PERIODIC is entered falls at the next aligned instant (R72, R367, R369). -/
def evtCfgWritten (i : Nat) (s0 s : State) : State :=
  let enters := decide (s.evtMode i ≠ s0.evtMode i)
  let last := s0.evtLast i
  let s1 := s.onEvt i fun o => { o with level := o.level && !(enters && decide (s.evtMode i = 1)),
                                        driven := o.driven || decide (s.evtMode i ≠ 0) }
  if enters && decide (s.evtMode i = 2) then
    let b := (s0.evtBall i).getD (s.evtPol i)
    let u := s.trainTo i true (s.outTime + (max 1 (edgeRest last s.ntu.course * 2 ^ 40) : Nat))
    s1.onEvt i fun o => { o with hold := some (b, u), lastEdge := last }
  else match s0.evtBall i with
    | some b => ballChange i b last s1
    | none => s1

/-- The level that an edge sets on its pin. -/
def edgeLevel (o : EvtOut) (h : HandedEdge) : Bool := match h.level with | 0 => false | 1 => true | _ => !o.level

/-- An edge at Course Time `t` would come less than 20 ns after the last edge of its pin (R368). -/
def tooClose (o : EvtOut) (t : Nat) : Bool := match o.lastEdge with | some l => decide (t < l + 20) | none => false

/-- The first handed edge of a pin is due: it is driven, and its entry is done (R368, R376, R377). -/
def evtDrive (pin : Nat) (h : HandedEdge) (rest : List HandedEdge) (s : State) : State :=
  let o := s.ntu.evtOut.getD pin {}
  let put := fun (o : EvtOut) (s : State) => { s with ntu := { s.ntu with evtOut := listMod s.ntu.evtOut pin fun _ => o } }
  let late : Bool := match tget s.ntu.list h.entry with | some x => x.isLate | none => false
  if s.evtMode pin ≠ 1 then
    (put { o with handed := rest } s).slDone h.entry .failed (statusCode .wrongMode)
  else
    let edge := edgeLevel o h != o.level
    let due := max h.since (s.ntu.course - (s.tick64 - h.time))
    let s1 := put { o with level := edgeLevel o h, handed := rest, hold := if edge then none else o.hold,
                           lastEdge := if edge then some s.ntu.course else o.lastEdge } s
    let s2 := if edge && tooClose o due then s1.flag Reg.NTU_EVENT 6 else s1
    s2.slDone h.entry (if late then .late else .fired) 0

/-- An edge due less than 20 ns after the one before it waits until 20 ns have passed (R368). -/
def evtWaits (pin : Nat) (h : HandedEdge) (s : State) : Bool :=
  let o := s.ntu.evtOut.getD pin {}
  decide (s.evtMode pin = 1) && (edgeLevel o h != o.level) && tooClose o s.ntu.course

/-- EVT_OUT_EDGE: Network Time reaches the time of the first edge handed to a pin (R368). -/
def execEvtOutEdge (dt pin : Nat) (s : State) : Host.Outcome State Fault Refusal :=
  let s1 := (fresh s).advance dt
  .next (settle (
    match (s1.ntu.evtOut.getD pin {}).handed with
    | [] => s1
    | h :: rest =>
      if clocked s1.mode && decide (h.time ≤ s1.tick64) && !(evtWaits pin h s1) then evtDrive pin h rest s1 else s1))

/-! ## STARTLIST_LOAD (R375, R385) -/

/-- An entry that stands in DONE (R376). -/
def SlEntry.done (e : SlEntry) : Bool :=
  e.state = .fired || e.state = .late || e.state = .dropped || e.state = .failed

/-- An opcode that a stored packet may not carry (R375). -/
def slExcluded (op : Nat) : Bool :=
  op = 0x01 || op = 0x02 || op = 0x03 || op = 0x05 || op = 0x3B || op = 0x3C || op = 0x3D || op = 0x71

/-- Entry word 2 is valid (R375). -/
def slWord2Ok (w : Word) : Bool :=
  let a := fieldOf w 3 0
  1 ≤ a && a ≤ 7 && fieldOf w 15 5 = 0 && fieldOf w 31 25 = 0 &&
    (match a with
    | 1 => fieldOf w 24 16 = 0
    | 2 => fieldOf w 24 20 = 0 && fieldOf w 19 18 ≠ 3
    | 3 => fieldOf w 24 16 = 0
    | _ => true)

/-- `STARTLIST_LOAD`, checks of the packet alone (R385). -/
def badStartlistLoad (x : Bool) (p : List Word) : Option Nat :=
  let fix := if x then 5 else 4
  let l := p.length - fix
  let w2 := p.getD 3 0
  let h := p.getD fix 0
  if p.length < fix then some 0
  else if fieldOf w2 3 0 = 1 && (l < 2 || (if x then 57 else 58) < l) then some 0
  else if fieldOf w2 3 0 ≠ 1 && l ≠ 0 then some 0
  else if fieldOf (p.getD 0 0) 31 10 ≠ 0 then some 1
  else if !(slWord2Ok w2) then some 4
  else if x && fieldOf (p.getD 4 0) 31 2 ≠ 0 then some 5
  else if fieldOf w2 3 0 = 1 && (packetLen h ≠ l || slExcluded (fieldOf h 31 24)) then some (fix + 1)
  else none
where
  /-- The length that a packet header gives (R210). -/
  packetLen (h : Word) : Nat := 1 + fieldOf h 13 8 + fieldOf h 14 14

/-- The entry that `STARTLIST_LOAD` writes, LOADED (R375). -/
def slEntryOf (x : Bool) (p : List Word) : SlEntry :=
  let w2 := p.getD 3 0
  let a := fieldOf w2 3 0
  { time := (p.getD 1 0).toNat + 2 ^ 32 * (p.getD 2 0).toNat, action := a, lateDrop := bitOf w2 4,
    pin := if a = 2 then fieldOf w2 17 16 else 0, level := if a = 2 then fieldOf w2 19 18 else 0,
    stream := if 4 ≤ a then fieldOf w2 24 16 else 0, packet := p.drop (if x then 5 else 4) }

/-- Words of the pool in use (R375). -/
def State.slPool (s : State) : Nat := (s.ntu.list.map fun e => e.2.packet.length).sum

/-- An entry's content, without what its run has recorded. -/
def SlEntry.content (e : SlEntry) : SlEntry :=
  { e with state := .loaded, status := 0, lateness := 0, isLate := false, due := false }

/-- Put entry `i`. -/
def State.slPut (s : State) (i : Nat) (e : SlEntry) : State :=
  ({ s with ntu := { s.ntu with list := tset s.ntu.list i e } }).memRewritten 5 fun x => decide (x = i)

/-- `STARTLIST_LOAD` at its commit point (R385, R386). -/
def commitStartlistLoad (x : Bool) (p : List Word) (s : State) : State × Res :=
  let i := fieldOf (p.getD 0 0) 9 0
  let e := slEntryOf x p
  let arm := x && bitOf (p.getD 4 0) 0
  let lateOk := x && bitOf (p.getD 4 0) 1
  let old := tget s.ntu.list i
  let busy : Bool := match old with | some o => o.state = .armed || o.state = .handed | none => false
  let freed := match old with | some o => o.packet.length | none => 0
  if busy then (s, .fail .staleWrite 1)
  else if 16384 < s.slPool - freed + e.packet.length then (s, .fail .noResource (if x then 6 else 5))
  else if arm && !s.ntu.valid then (s, .fail .refused)
  else if arm && !lateOk && s.beyondWin (s.lateness e) then (s, .fail .late)
  else
    let s1 := s.slPut i (if arm then { e with state := .armed } else e)
    let s2 := if arm then slEvaluateOne s1 i else s1
    let gen := match old with | some o => decide (o.content ≠ e) | none => true
    (s2, .ok [w32 (i + 2 ^ 10 * b2n arm + 2 ^ 11 * (16384 - s2.slPool))] gen)

/-! ## STARTLIST_ARM and STARTLIST_CANCEL (R386, R387) -/

/-- A range of FIRST and COUNT that does not lie within the list (R386). -/
def slBadRange (w : Word) : Bool :=
  fieldOf w 20 10 = 0 || 1024 < fieldOf w 9 0 + fieldOf w 20 10

/-- The entries that FIRST and COUNT name. -/
def slInRange (w : Word) (i : Nat) : Bool := fieldOf w 9 0 ≤ i && i < fieldOf w 9 0 + fieldOf w 20 10

/-- `STARTLIST_ARM`, checks of the packet alone (R386). -/
def badStartlistArm (x : Bool) (p : List Word) : Option Nat :=
  let w := p.getD 0 0
  if p.length ≠ 1 then some 0
  else if fieldOf w 31 (if x then 22 else 21) ≠ 0 || slBadRange w then some 1 else none

/-- `STARTLIST_ARM` at its commit point (R378, R386). -/
def commitStartlistArm (x : Bool) (p : List Word) (s : State) : State × Res :=
  let w := p.getD 0 0
  let l := (s.ntu.list.filter fun e => slInRange w e.1 && decide (e.2.state = .loaded)).map Prod.fst
  let late := l.any fun i => match tget s.ntu.list i with | some e => s.beyondWin (s.lateness e) | none => false
  if !s.ntu.valid then (s, .fail .refused)
  else if !(x && bitOf w 21) && late then (s, .fail .late)
  else
    let arm := fun (e : Nat × SlEntry) => if has l e.1 then (e.1, { e.2 with state := .armed, due := false }) else e
    let s1 := { s with ntu := { s.ntu with list := s.ntu.list.map arm } }
    (slEvaluate (fun i => has l i) s1, .ok [w32 (l.length + 2 ^ 11 * (fieldOf w 20 10 - l.length))])

/-- `STARTLIST_CANCEL`, checks of the packet alone (R387). -/
def badStartlistCancel (x : Bool) (p : List Word) : Option Nat :=
  let w := p.getD 0 0
  if p.length ≠ 1 then some 0
  else if fieldOf w 31 (if x then 23 else 22) ≠ 0 || (!(x && bitOf w 22) && slBadRange w) then some 1 else none

/-- What a cancel cancels: ARMED entries, and edges HANDED to their pins (R387). -/
def SlEntry.cancels (e : SlEntry) : Bool := e.state = .armed || (e.state = .handed && e.action = 2)

/-- `STARTLIST_CANCEL` at its commit point (R387). -/
def commitStartlistCancel (x : Bool) (p : List Word) (s : State) : State × Res :=
  let w := p.getD 0 0
  let clear := bitOf w 21
  let sel := fun (i : Nat) => (x && bitOf w 22) || slInRange w i
  let hit := s.ntu.list.filter fun e => sel e.1
  let gone := (hit.filter fun e => e.2.cancels).map Prod.fst
  let done := (hit.filter fun e => e.2.done || (e.2.state = .handed && e.2.action ≠ 2)).length
  let keep := s.ntu.list.filter fun e => !(clear && sel e.1 && !(e.2.state = .handed && e.2.action ≠ 2))
  let list := keep.map fun e => if has gone e.1 then (e.1, e.2.content) else e
  let pins := s.ntu.evtOut.map fun o => { o with handed := o.handed.filter fun h => !(has gone h.entry) }
  let s1 := { s with ntu := { s.ntu with list := list, evtOut := pins } }
  let s2 := if clear then s1.memRewritten 5 fun i => sel i && !(thas list i) else s1
  (s2, .ok [w32 (gone.length + 2 ^ 11 * done)] (decide (keep ≠ s.ntu.list)))

/-- The forced action of R100 for the NTU: the Start List is cleared. -/
def slClear (s : State) : State :=
  let pins := s.ntu.evtOut.map fun o => { o with handed := [] }
  ({ s with ntu := { s.ntu with list := [], evtOut := pins } }).memRewritten 5 fun _ => true

/-! ## Registers (R389) -/

/-- The code of an entry's state (R376). -/
def slCode : SlState → Nat
  | .empty => 0 | .loaded => 1 | .armed => 2 | .handed => 3 | .fired => 4 | .late => 5 | .dropped => 6 | .failed => 7

/-- NTU_SL_STATUS (R389). -/
def State.slStatus (s : State) : Word :=
  w32 (s.ntu.list.length + 2 ^ 11 * tcount s.ntu.list fun e => e.state = .armed || e.state = .handed)

/-- NTU_SL_ENTRY (R389). -/
def State.slEntryWord (s : State) : Word :=
  match tget s.ntu.list (s.regField Reg.NTU_SL_SEL 9 0) with
  | none => 0
  | some e => w32 (slCode e.state + 8 * e.action + 2 ^ 8 * (if e.state = .failed then e.status else 0)
    + 2 ^ 16 * satNat 0xFFFF (e.lateness.toNat / 1000))

end Sys2Proof.Machine
end

