-- ==== Sys2Proof/Machine/Mck.lean ====
section
/-! DEFINITION. References, holdover, the media clock, alignment and the clock outputs (R390 to R426). -/
namespace Sys2Proof.Machine

/-! ## Phases (R390, R402, R414) -/

/-- Reference `i`. -/
def State.refClock (s : State) (i : Nat) : RefClock := s.mck.refs.getD i {}

/-- Change reference `i`. -/
def State.onRef (s : State) (i : Nat) (f : RefClock → RefClock) : State :=
  { s with mck := { s.mck with refs := listMod s.mck.refs i f } }

/-- Reference `i` is qualified now (R393, R394). -/
def State.refQualified (s : State) (i : Nat) : Bool :=
  (s.refClock i).en && s.refPresent i && (s.refClock i).qualified

/-- Reference `i` has a phase period (R390). -/
def State.refHasPhase (s : State) (i : Nat) : Bool :=
  match i with
  | 3 => decide ((s.refClock 3).form = 3)
  | 5 => false
  | _ => decide (i < 5)

/-- A phase in ns reduced into (−½, +½] of the period of reference 2 or 3: one sample at the core rate, or one second
(R402). -/
def State.reducePhase (s : State) (i : Nat) (p : Int) : Int :=
  let rate : Int := if i = 2 then s.coreRate else 1
  let per : Int := 1000000000
  let m := (p * rate) % per
  if 2 * m ≤ per then p - (p * rate - m) / rate else p - (p * rate - m + per) / rate

/-- Whether Network Time carries the phase of reference `i`: references 0, 1 and 4 (R402). -/
def refOnTime (i : Nat) : Bool := i = 0 || i = 1 || i = 4

/-- REF_PHASE against reference `i` (R402). -/
def State.phaseAgainst (s : State) (i : Nat) : Int :=
  if refOnTime i then s.phaseErr
  else if s.refHasPhase i then (s.refClock i).phase else 0

/-- REF_PHASE (R402). -/
def State.refPhase (s : State) : Int :=
  match s.mck.sel with
  | some i => s.phaseAgainst i
  | none => 0

/-- The alignment target is a reference: one with a phase period is selected (R414). -/
def State.targetRef (s : State) : Bool :=
  match s.mck.sel with
  | some i => s.refHasPhase i
  | none => false

/-- There is an alignment target (R414). -/
def State.hasTarget (s : State) : Bool := s.targetRef || s.ntu.valid

/-- The alignment error (R414). -/
def State.alignError (s : State) : Int := if s.targetRef then s.refPhase - s.mck.absorb else s.phaseErr

/-! ## Selection (R397 to R399) -/

/-- Reference `i` takes part in selection (R84, R391). -/
def State.takesPart (s : State) (i : Nat) : Bool := !(decide (s.mode = .island) && decide (i < 2))

/-- The candidates (R397). -/
def State.candidates (s : State) : List Nat :=
  (List.range 6).filter fun i => s.refQualified i && s.takesPart i

/-- The candidates of the best rank (R397). -/
def State.bestRank (s : State) : List Nat :=
  let c := s.candidates
  let best := c.foldl (fun b i => min b (s.refClock i).rank) 8
  c.filter fun i => decide ((s.refClock i).rank = best)

/-- Two references disagree (R398). -/
def State.disagrees (s : State) (i j : Nat) : Bool :=
  decide (s.mck.disagreeLim * 100000 < ((s.refClock i).avg - (s.refClock j).avg).natAbs)

/-- The candidates of the best rank that disagree with another of them (R398). -/
def State.disagreeing (s : State) : List Nat :=
  s.bestRank.filter fun i => s.bestRank.any fun j => s.disagrees i j

/-- Twice the median of a list. -/
def median2 (l : List Int) : Int :=
  let a := l.mergeSort fun x y => decide (x ≤ y)
  a.getD ((a.length - 1) / 2) 0 + a.getD (a.length / 2) 0

/-- The reference of `l` whose average is closest to half of `m2`; the lower index of two equally close ones (R398). -/
def State.closest (s : State) (m2 : Int) : List Nat → Option Nat
  | [] => none
  | i :: l =>
    match s.closest m2 l with
    | none => some i
    | some j =>
      if (2 * (s.refClock j).avg - m2).natAbs < (2 * (s.refClock i).avg - m2).natAbs then some j else some i

/-- The choice among the candidates of the best rank (R397, R398). -/
def State.choose (s : State) : Option Nat :=
  let top := s.bestRank
  let cur := match s.mck.sel with | some i => has top i | none => false
  let plain := if cur then s.mck.sel else top.head?
  let third := (List.range 5).filter fun i => s.refQualified i && s.takesPart i && !(has top i)
  let avgs := fun (l : List Nat) => l.map fun i => (s.refClock i).avg
  if s.disagreeing = [] then plain
  else if third ≠ [] then s.closest (median2 (avgs third)) top
  else if 3 ≤ top.length then s.closest (median2 (avgs top)) top
  else plain

/-- The selection that the rules give now; with REVERT = 0 the current one stays while it is a candidate (R397). -/
def State.selection (s : State) : Option Nat :=
  let keep := match s.mck.sel with | some i => !s.mck.revert && has s.candidates i | none => false
  if keep then s.mck.sel else s.choose

/-- The media clock takes frequency `f` from now on; the log keeps what R408 needs, 17 s and the value in force before. -/
def State.setFreq (f : Int) (s : State) : State :=
  if f = s.mck.freq then s else
  let s1 := s.mediaMark
  let old := s.mck.freqLog.takeWhile fun e => decide (s.ntu.course < e.1 + 17000000000)
  let last := (s.mck.freqLog.dropWhile fun e => decide (s.ntu.course < e.1 + 17000000000)).take 1
  { s1 with mck := { s1.mck with freq := f, freqLog := (s.ntu.course, f) :: (old ++ last) } }

/-- The mean of the media clock's frequency from Course Time `a` to `b`, with `a` < `b` (R408). -/
def State.meanFreq (s : State) (a b : Nat) : Int :=
  let part := fun (acc : Int × Nat) (e : Nat × Int) =>
    let lo := max e.1 a
    if lo < acc.2 then (acc.1 + e.2 * ((acc.2 : Int) - lo), lo) else acc
  roundDiv ((s.mck.freqLog.foldl part (0, b)).1) (b - a)

/-- The frequency that holdover keeps, where the selected reference is lost now in LOCKED (R408). -/
def State.holdFreq (s : State) : Int :=
  let t := s.ntu.course
  if s.mck.lockedAt + 17000000000 ≤ t then s.meanFreq (t - 17000000000) (t - 1000000000)
  else if s.mck.lockedAt + 2000000000 ≤ t then s.meanFreq s.mck.lockedAt (t - 1000000000)
  else s.mck.freq

/-- The corrections toward reference 4 are frozen while a Seat's Cox side changes, until the first SYNC on the new one
(R627). -/
def State.coxTimeHeld (s : State) : Bool :=
  decide (s.mck.sel = some 4) && (s.obl.frozen || !s.timeFollow || s.obl.cut)

/-- The servo steers the media clock's frequency: by a free amount of up to 0.1 ppm per second in LOCKED, anywhere within
±500 ppm in ACQUIRE, and not at all without a reference (R400, R401, R403, R407, R408). -/
def mckServo (s : State) : State :=
  let (x, s1) := s.takeInt
  let lim : Int := (s.ntu.course - s.mck.servoAt) / 10000
  let s2 := if s.coxTimeHeld then s1 else match s.mck.state with
    | .locked => s1.setFreq (s.mck.freq + clampI (-lim) lim x)
    | .acquire => s1.setFreq (clampI (-500000000) 500000000 x)
    | _ => s1
  { s2 with mck := { s2.mck with servoAt := s.ntu.course } }

/-- REF_PHASE as it is measured now against reference 2 or 3, which is free; while that reference is selected in LOCKED the
servo holds it at HELD (R402, R403). -/
def State.measurePhase (i : Nat) (s : State) : State :=
  if refOnTime i || !(s.refHasPhase i) then s
  else if s.mck.state = .locked && decide (s.mck.sel = some i) then
    s.onRef i fun r => { r with phase := s.mck.held }
  else
    let (x, s1) := s.takeInt
    s1.onRef i fun r => { r with phase := s.reducePhase i x }

/-- The phases of references 2 and 3 are measured (R402). -/
def measurePhases (s : State) : State := (s.measurePhase 2).measurePhase 3

/-- The alignment error that a hitless switch keeps: that of just before the switch, or of before holdover (R406). -/
def State.errorBefore (s : State) : Int :=
  if s.mck.state = .holdover || s.mck.state = .hoExpired then s.mck.hoErr
  else if s.hasTarget then s.alignError else 0

/-- A switch to reference `i`, whose phase is measured at the switch; the frequency stays as it is, and the servo moves it
from there (R399, R400, R402, R405 to R407, R410, R613). -/
def switchTo (i : Nat) (s : State) : State :=
  let e := s.errorBefore
  let s1 := ({ s with mck := { s.mck with sel := some i } }.measurePhase i).flag Reg.MCK_REF_EVENT 0
  if s.mck.state = .free || s.mck.state = .acquire || i = 4 then
    { s1 with mck := { s1.mck with state := .acquire, hoAt := none } }
  else
    let ph := s1.phaseAgainst i
    let ab := if s.mck.hitless && s1.refHasPhase i then ph - e else 0
    let at_ := if s.mck.state = .locked then s.mck.lockedAt else s.ntu.course
    { s1 with mck := { s1.mck with state := .locked, hoAt := none, held := ph, absorb := ab, lockedAt := at_ } }

/-- The selection becomes empty (R400, R406, R408). -/
def loseAll (s : State) : State :=
  let s1 := { s with mck := { s.mck with sel := none } }
  match s.mck.state with
  | .acquire => ({ s1 with mck := { s1.mck with state := .free } }).setFreq 0
  | .locked =>
    let m := { s1.mck with state := MckState.holdover, hoAt := some s.ntu.course, hoErr := s.mck.held - s.mck.absorb }
    (({ s1 with mck := m }).setFreq s.holdFreq).flag Reg.MCK_REF_EVENT 5
  | _ => s1

/-- Note the references that disagree; a disagreement that begins sets DISAGREE (R398). -/
def noteDisagree (s : State) : State :=
  let now := s.disagreeing
  let begun := now.any fun i => !(s.refClock i).disagree
  let refs := s.mck.refs.zipIdx.map fun e => { e.1 with disagree := has now e.2 }
  let s1 := { s with mck := { s.mck with refs := refs } }
  if begun then s1.flag Reg.MCK_REF_EVENT 1 else s1

/-- MCK evaluates its selection (R399). -/
def selectNow (s : State) : State :=
  let s1 := noteDisagree s.trackRefs
  let new := s1.selection
  if new = s1.mck.sel then s1
  else match new with
    | some i => switchTo i s1
    | none => loseAll s1

/-- WATCH begins: the synthesizers stop and only the local oscillator is present, so that MCK switches to it or enters
holdover; the outputs lose their supply (R52, R79, R112, R114). -/
def mckSleeps (s : State) : State :=
  let pins := s.ntu.evtOut.zipIdx.map fun e =>
    { e.1 with hold := none, driven := decide (fieldOf (s.reg (Reg.NTU_EVT_OUT_CFG e.2)) 1 0 % 3 ≠ 0) }
  let refs := s.mck.refs.zipIdx.map fun e => if e.2 = 2 || e.2 = 3 then { e.1 with seen := false } else e.1
  let m := { s.mck with refs := refs, outHold := List.replicate 5 none, regrid := false }
  selectNow { s with mck := m, ntu := { s.ntu with evtOut := pins } }

/-- SELECTION_EVALUATE: MCK evaluates its selection after a change (R399). -/
def execSelectionEvaluate (s : State) : Host.Outcome State Fault Refusal :=
  .next (settle (if clocked s.mode then selectNow (fresh s) else fresh s))

/-! ## Qualification (R393 to R396) -/

/-- A frequency offset as MCK measures it, in 10^-12: `raw` is the offset against the oscillator as it is, and MCK
corrects the oscillator by the effective trim (R392). -/
def State.corrected (s : State) (raw : Int) : Int :=
  roundDiv ((10 ^ 12 + raw) * 10 ^ 12) ((10 ^ 12 : Int) + s.effTrim).toNat - 10 ^ 12

/-- A reference that averages `avg` lies within its window, `inner` narrower, in 10^-12 (R393, R395). -/
def RefClock.freqOk (r : RefClock) (inner avg : Int) : Bool := decide ((avg.natAbs : Int) ≤ (r.freqWin : Int) * 100000 - inner)

/-- A peak-to-peak phase of `pp` ns passes the phase test (R393). -/
def RefClock.phaseOk (r : RefClock) (pp : Nat) : Bool := decide (pp ≤ r.phaseWin * 10)

/-- Reference `i` passes its tests through QUAL_TIME, at this average frequency, phase and peak-to-peak phase (R393,
R395). -/
def refQualifies (i : Nat) (raw phase : Int) (pp : Nat) (s : State) : State :=
  let s1 := if i = 2 || i = 3 then s.onRef i fun r => { r with seen := true } else s
  let r := s1.refClock i
  let freq := s.corrected raw
  if i < 5 && r.en && s1.refPresent i && !r.qualified && r.freqOk ((r.hyst : Int) * 10000) freq && r.phaseOk pp then
    let put := fun (r : RefClock) =>
      { r with qualified := true, avg := freq, phase := s.reducePhase i phase, since := some (r.since.getD s.ntu.course) }
    (s1.onRef i put).flag Reg.MCK_REF_EVENT 3
  else s

/-- REF_QUALIFIED: a reference has been enabled, present and passing for QUAL_TIME (R392, R393, R395). -/
def execRefQualified (i : Nat) (seen : RefSeen) (phase : Int) (s : State) : Host.Outcome State Fault Refusal :=
  .next (settle (if clocked s.mode then refQualifies i seen.freq phase seen.pp (fresh s) else fresh s))

/-- A measurement of reference `i`: it stops being present, fails a test of R393, or is as before with a new average
(R393 to R395). -/
def refMeasured (i : Nat) (present : Bool) (raw : Int) (pp : Nat) (s : State) : State :=
  if 5 ≤ i then s.trackRefs else
  let freq := s.corrected raw
  let r := s.refClock i
  let fails := !(r.freqOk 0 freq) || !(r.phaseOk pp)
  let put := fun (r : RefClock) =>
    { r with qualified := r.qualified && !fails, avg := freq, seen := if i = 2 || i = 3 then present else r.seen,
             since := if fails && r.since.isSome then some s.ntu.course else r.since }
  let s1 := s.onRef i put
  (if r.qualified && fails then s1.flag Reg.MCK_REF_EVENT 2 else s1).trackRefs

/-- REF_DISQUALIFIED: a reference stops being present or fails a test, as it is seen; a measurement that passes both only
shows as the average (R393, R394). -/
def execRefDisqualified (i : Nat) (present : Bool) (seen : RefSeen) (s : State) : Host.Outcome State Fault Refusal :=
  .next (settle (if clocked s.mode then refMeasured i present seen.freq seen.pp (fresh s) else fresh s))

/-! ## Acquisition and holdover (R401, R409, R410) -/

/-- The media clock has reached the phase that acquisition pulls it to (R401, R613). -/
def State.phaseReached (s : State) (i : Nat) : Bool :=
  if i = 4 then decide ((s.phaseErr - s.obl.coxPhase).natAbs ≤ 100)
  else !(refOnTime i) || decide (s.phaseErr.natAbs ≤ 100)

/-- MCK enters LOCKED from ACQUIRE, at the frequency that the pull has come to (R400, R401, R613). A measured phase lies
within 100 ns. -/
def lockNow (i : Nat) (s : State) : State :=
  let (x, s1) := (mckServo s).takeInt
  let s2 := if refOnTime i then s1 else s1.onRef i fun r => { r with phase := clampI (-100) 100 x }
  let held := if i = 4 then s2.obl.coxPhase else s2.phaseAgainst i
  let m := { s2.mck with state := .locked, held := held, absorb := 0, lockedAt := s2.ntu.course }
  ({ s2 with mck := m }).flag Reg.MCK_REF_EVENT 4

/-- LOCK_TEST_PASS: the lock test has held for 1 s in ACQUIRE (R401). -/
def execLockTestPass (s : State) : Host.Outcome State Fault Refusal :=
  .next (settle (
    match s.mck.sel with
    | some i =>
      if s.mck.state = .acquire && clocked s.mode && s.phaseReached i then lockNow i (fresh s) else fresh s
    | none => fresh s))

/-- Time in holdover, in ns of Course Time (R409). -/
def State.holdoverNs (s : State) : Nat :=
  match s.mck.hoAt with
  | some t => s.ntu.course - t
  | none => 0

/-- te of R409 times 2 × 10^21, in ns, after `t` ns. -/
def timeError (fe0 drift t : Nat) : Nat := 200000000000 * fe0 * t + drift * t * t

/-- te of R409 in ns. -/
def State.holdoverError (s : State) : Nat :=
  timeError s.mck.fe0 s.mck.drift s.holdoverNs / 2000000000000000000000

/-- te exceeds HO_LIMIT in HOLDOVER: it is reported (R409). -/
def holdoverReport (s : State) : State :=
  if s.mck.state = .holdover
      && decide (2000000000000000000000 * s.mck.hoLimit < timeError s.mck.fe0 s.mck.drift s.holdoverNs) then
    ({ s with mck := { s.mck with state := .hoExpired } }).flag Reg.MCK_REF_EVENT 6
  else s

/-- HOLDOVER_EXPIRED: the time error estimate exceeds HO_LIMIT; one that falls due in WATCH is reported on return (R112,
R409). -/
def execHoldoverExpired (s : State) : Host.Outcome State Fault Refusal :=
  .next (settle (if clocked s.mode then holdoverReport (fresh s) else fresh s))

/-! ## Core rate and stroke size (R24, R422) -/

/-- The configuration fits 88.2 and 96 kHz (R422). -/
def State.fitsFast (s : State) : Bool :=
  let low := fun (m : List (Option Nat)) => m.all fun b => match b with | some id => decide (id < 0x400) | none => true
  (s.srx.streams.all fun e => low e.2.map && e.2.retarget.all fun t => low t.map)
    && decide (s.rxChannels 512 ≤ 1024) && decide (s.txChannels 512 ≤ 1024) && s.drv.banks.all (bankFits true)

/-- A change to a rate passes the test of R422. -/
def State.coreFits (s : State) (rate : Nat) : Bool := rate < 5 || s.fitsFast

/-- MCK counts as enabled for RATE and STROKE (R24). -/
def State.coreLocked (s : State) : Bool := !(decide (s.mode = .boot) || decide (s.mode = .quiet))

/-- A rate and stroke size are those in force. -/
def State.coreSame (s : State) (rate : Nat) (b : Bool) : Bool := decide (rate = s.rateCode) && decide (b = s.s16)

/-- A new core rate and stroke size take effect: the TDM ports are checked again, and the Rate Aligner's admission is
evaluated (R24, R422, R537, R593). -/
def coreApply (rate : Nat) (b : Bool) (s : State) : State :=
  if s.coreSame rate b then s else ralEvaluate (tdmCoreChange (s.setReg Reg.MCK_CORE_CFG (w32 (rate + 8 * b2n b))))

/-- The core form of `REF_CONFIG` in the cycle in which its change would apply: it is tested against the configuration in
force and applied, or refused (R24, R421, R422). -/
def coreForm (rate : Nat) (b : Bool) (s : State) : State × Res :=
  if s.coreSame rate b then (s, .ok [s.reg Reg.MCK_CORE_CFG])
  else if s.coreLocked then (s, .fail .staleWrite 1)
  else if !(s.coreFits rate) then (s, .fail .noResource 1)
  else
    let s1 := coreApply rate b s
    (s1, .ok [s1.reg Reg.MCK_CORE_CFG] true)

/-- A register write of RATE and STROKE in the cycle in which it would apply (R24, R419, R422). -/
def coreWrite (rate : Nat) (b : Bool) (s : State) : State :=
  match coreForm rate b s with
  | (_, .fail .staleWrite _ _) => s.flag Reg.MCK_ERR 0
  | (_, .fail _ _ _) => s.flag Reg.MCK_ERR 1
  | (s1, _) => s1

/-- One waiting change at the end of the stroke in progress (R24, R422). -/
def coreDue (s : State) (q : CoreReq) : State :=
  match q.ord with
  | none => coreWrite q.rate q.s16 s
  | some o =>
    match s.cmd.flights.find? fun f => decide (f.ord = o) && decide (f.fin = .core) with
    | none => s
    | some f =>
      match coreForm q.rate q.s16 s with
      | (s1, .ok body gen) => ((if gen then s1.genUp else s1).answer f .ok 0 body)
      | (s1, .fail st word body) => s1.answer f st word body
      | (s1, _) => s1

/-- The changes of core rate and stroke size that waited for the end of the stroke in progress, oldest first; one whose
command was aborted is gone (R24, R234, R422). -/
def coreBoundary (s : State) : State :=
  s.mck.coreNext.foldl coreDue { s with mck := { s.mck with coreNext := [] } }

/-- A change of RATE and STROKE waits for the end of the stroke in progress (R24). -/
def coreWaits (q : CoreReq) (s : State) : State := { s with mck := { s.mck with coreNext := s.mck.coreNext ++ [q] } }

/-- A register write of RATE and STROKE (R24, R419, R422). -/
def coreCfgWrite (w : Word) (s : State) : State :=
  if s.coreLocked then s.flag Reg.MCK_ERR 0 else
  let bad := decide (fieldOf w 2 0 = 7)
  let rate := if bad then s.rateCode else fieldOf w 2 0
  let s1 := if bad then s.flag Reg.MCK_ERR 0 else s
  if s1.mck.grid then
    if s1.coreSame rate (bitOf w 3) && decide (s1.mck.coreNext = []) then s1
    else coreWaits { rate := rate, s16 := bitOf w 3 } s1
  else coreWrite rate (bitOf w 3) s1

/-! ## Outputs (R411, R412) -/

/-- Rate code `rate` belongs to a family: 0 for 48 kHz, 1 for 44.1 kHz (R411). -/
def inFamily (family rate : Nat) : Bool :=
  if family = 1 then rate = 3 || rate = 5 else rate = 0 || rate = 1 || rate = 2 || rate = 4 || rate = 6

/-- The frequency of MCLK_OUT[i] in Hz, nominal; none while the ball is high-impedance: the output is disabled or has no
supply (R51, R52, R412). -/
def State.mclkHz (s : State) (i : Nat) : Option Nat :=
  let w := s.reg (Reg.MCK_MCLK_CFG i)
  let d := fieldOf w 4 2
  if bitOf w 0 && s.outPowered then some ((if bitOf w 1 then 45158400 else 49152000) / 2 ^ (if 4 < d then 4 else d)) else none

/-- The rate of WCLK_OUT[i] in Hz, nominal; none while the ball is high-impedance (R51, R52, R412). -/
def State.wclkHz (s : State) (i : Nat) : Option Nat :=
  let w := s.reg (Reg.MCK_WCLK_CFG i)
  if bitOf w 0 && s.outPowered then some (rateHz (fieldOf w 4 2)) else none

/-- A time in 2^-40 ns as a count of internal periods of a family (R411). -/
def periodsAt (hz : Nat) (t : Int) : Int := t * hz / (1000000000 * 2 ^ 40)

/-- The internal period of the media clock at which the sample frames of a lengthened stroke end, extra frames with them:
the last of them is lengthened, and no further one begins (R416). -/
def State.framesEnd (s : State) : Option Int :=
  match s.gridMove with
  | none => none
  | some (_, r) =>
    if 0 ≤ r || !s.mck.grid then none else
    let f : Int := s.samplePeriods
    some (((s.mck.stroke : Int) * s.strokeSize + s.strokeSize + (-r) / (if f = 0 then 1 else f)) * f)

/-- The internal period of the family of WCLK_OUT[i] now: the media clock's for the core rate's family, which stands at the
end of its last frame in a lengthened stroke, and the other synthesizer's for the other (R411, R416). -/
def State.wclkPeriod (s : State) (i : Nat) : Int :=
  let fam := fieldOf (s.reg (Reg.MCK_WCLK_CFG i)) 1 1
  let hz := if fam = 1 then 45158400 else 49152000
  if hz = familyHz s.rateCode then
    let p := periodsAt hz s.mediaTime
    match s.framesEnd with
    | some e => min p (e - 1)
    | none => p
  else periodsAt hz (s.mediaTime + s.mck.secOff)

/-- An output enabled since stays at its inactive level until its next aligned edge (R412). -/
def State.outHeld (s : State) (k : Nat) : Bool :=
  match s.mck.outHold.getD k none with
  | some u => decide ((if k = 4 then s.outTime else s.mediaTime) < u)
  | none => false

/-- The level of WCLK_OUT[i]; none while its ball is high-impedance. It rises at each sample instant and falls a free part
of a sample later, and POL inverts it (R51, R412). -/
def State.wclkLevel (s : State) (i : Nat) : Option Bool :=
  let w := s.reg (Reg.MCK_WCLK_CFG i)
  let f : Nat := (if bitOf w 1 then 45158400 else 49152000) / rateHz (fieldOf w 4 2)
  if s.wclkHz i = none then none
  else some ((!(s.outHeld i) && decide (s.wclkPeriod i % f < 1 + Config.wclkHigh (fieldOf w 4 2) % (f - 1))) != bitOf w 5)

/-- The level of PPS_OUT; none while its ball is high-impedance. It rises at each second of Network Time as it stood at the
last alignment, and between alignments it follows the media clock (R51, R72, R412). -/
def State.ppsLevel (s : State) : Option Bool :=
  let w := s.regField Reg.MCK_PPS_CFG 23 8
  let t := s.outTime / 2 ^ 40
  if s.bit Reg.MCK_PPS_CFG 0 && s.outPowered then
    some (!(s.outHeld 4) && decide (t % 1000000000 < 10000 * ((if w = 0 then 1 else w : Nat) : Int)))
  else none

/-- The first whole multiple of `num` / `den` ns after time `t`, in 2^-40 ns, rounded up: the next aligned edge of an output
(R412). -/
def nextEdge (num den : Nat) (t : Int) : Int :=
  let p : Int := (num : Int) * 2 ^ 40
  let d : Int := if den = 0 then 1 else den
  ((t * d / p + 1) * p + d - 1) / d

/-- Output `k` is enabled: while the grid runs it starts at its next aligned edge, at time `u` (R412). -/
def outEnabled (k : Nat) (u : Int) (s : State) : State :=
  { s with mck := { s.mck with outHold := s.mck.outHold.set k (if s.mck.grid then some u else none) } }

/-- A write has changed MCK_WCLK_CFG[i]: an enable at a rate outside the family leaves EN clear; one that enables the output
starts it at its next aligned edge (R412). -/
def wclkCfgWritten (i : Nat) (old : Word) (s : State) : State :=
  let w := s.reg (Reg.MCK_WCLK_CFG i)
  if bitOf w 0 && !(inFamily (fieldOf w 1 1) (fieldOf w 4 2)) then
    (s.setField (Reg.MCK_WCLK_CFG i) 0 0 0).flag Reg.MCK_ERR 1
  else if bitOf w 0 && !(bitOf old 0) then
    let off := if familyHz (fieldOf w 4 2) = familyHz s.rateCode then 0 else s.mck.secOff
    outEnabled i (nextEdge 1000000000 (rateHz (fieldOf w 4 2)) (s.mediaTime + off) - off) s
  else s

/-- A write has changed MCK_PPS_CFG: one that enables PPS_OUT starts it at its next aligned edge (R412). -/
def ppsCfgWritten (old : Word) (s : State) : State :=
  if s.bit Reg.MCK_PPS_CFG 0 && !(bitOf old 0) then
    outEnabled 4 (nextEdge 1000000000 1 s.outTime) s
  else s

/-- A write has changed a register of MCK beside its plain fields; `old` is what it held (R392, R412). -/
def storeMck (a : Nat) (w : Word) (s : State) : State :=
  let old := s.reg a
  if 0x140A0 ≤ a && a < 0x140B0 then wclkCfgWritten ((a - 0x140A0) / 4) old (s.setReg a w)
  else if a = Reg.MCK_PPS_CFG then ppsCfgWritten old (s.setReg a w)
  else if a = Reg.MCK_XO_TRIM_USR then s.mediaMark.setReg a w
  else if a = Reg.MCK_HOST_REF then (s.setReg a w).trackRefs
  else s.setReg a w

/-! ## Alignment (R415 to R417, R614) -/

/-- Seats follow the Halyn's time, as a Cox sees it: it reaches a Seat (R614). -/
def State.seatsFollow (s : State) : Bool := decide (s.role = 1) && decide (s.seats &&& ~~~(posBit 0) ≠ 0)

/-- Boundaries until the adjusted stroke of a request made now begins (R32, R415, R614). -/
def State.alignWait (s : State) : Nat := s.boundaryWait + b2n s.seatsFollow

/-- MCK accepts an alignment; several for one boundary make one move (R417). -/
def alignAccept (clear : Bool) (s : State) : State :=
  let n := s.alignWait
  let s1 := if clear then { s with mck := { s.mck with absorb := 0 } } else s
  if s1.mck.aligns.any fun a => decide (a.wait = n) then s1
  else { s1 with mck := { s1.mck with aligns := s1.mck.aligns ++ [{ wait := n, lead := b2n s.seatsFollow }] } }

/-- The move that the alignment error gives, in internal periods (R415). -/
def State.alignMove (s : State) : Int := roundDiv (s.alignError * familyHz s.rateCode) 1000000000

/-- At the start of Recovery, the phases are measured, and with them the move of the adjusted stroke to come (R402, R415,
R614). -/
def alignMeasure (s0 : State) : State :=
  let s := measurePhases s0
  let m := s.alignMove
  { s with mck := { s.mck with aligns := s.mck.aligns.map fun a =>
      if a.move.isNone && decide (a.wait ≤ 1 + a.lead) then { a with move := some m } else a } }

/-- A boundary passes: alignments come one nearer once they are measured or far enough away. -/
def alignTick (s : State) : State :=
  { s with mck := { s.mck with aligns := s.mck.aligns.map fun a =>
      if a.wait = 1 && a.move.isNone then a else { a with wait := a.wait - 1 } } }

/-- The phases of references 2 and 3 after the grid has moved `m` internal periods earlier (R402, R415). -/
def State.shiftPhases (s : State) (m : Int) : State :=
  let d := roundDiv (m * 1000000000) (familyHz s.rateCode)
  let s1 := s.onRef 2 fun r => { r with phase := s.reducePhase 2 (r.phase - d) }
  s1.onRef 3 fun r => { r with phase := s.reducePhase 3 (r.phase - d) }

/-- A move of `m` internal periods of the core rate's family, on the other family's synthesizer: by the same time, rounded
to its own internal period (R416). -/
def State.shiftSecond (s : State) (m : Int) : State :=
  let f := familyHz s.rateCode
  let g : Nat := if f = 49152000 then 45158400 else 49152000
  let ns40 := fun (n : Int) (hz : Nat) => roundDiv (n * 1000000000 * 2 ^ 40) hz
  { s with mck := { s.mck with secOff := s.mck.secOff + ns40 (roundDiv (m * g) f) g - ns40 m f } }

/-- The grid moves by q strokes and r periods at the boundary that is now (R415, R416, R614). -/
def alignShift (q r : Int) (s : State) : State :=
  let m := q * s.strokePeriods + r
  let s1 := (s.shiftPhases m).shiftSecond m
  let s2 := { s1 with mck := { s1.mck with lastQ := q, lastR := r } }
  if m = 0 then s2 else s2.flag Reg.MCK_REF_EVENT 7

/-- After a move the outputs stand on Network Time, HELD is REF_PHASE, and the commands are answered with the number of the
stroke that begins; the phase error stands as the boundary gave it (R415, R417, R425). -/
def alignSettle (s : State) : State :=
  let s1 := evtAnchor s
  let s2 := { s1 with mck := { s1.mck with held := s1.refPhase, alignOwed := false,
                                           aligns := s1.mck.aligns.filter fun a => decide (a.wait ≠ 0) },
                      obl := { s1.obl with move := none } }
  s2.finishDue (fun f => decide (f.fin = .align)) fun _ =>
    [satWord s.mck.lastQ, w32 (unsgn 32 s.mck.lastR), stroke32 s.mck.stroke]

/-! ## Registers (R419) -/

/-- The code of a state (R400). -/
def mckCode : MckState → Nat
  | .free => 0 | .acquire => 1 | .locked => 2 | .holdover => 3 | .hoExpired => 4

/-- MCK_STATUS. -/
def State.mckStatus (s : State) : Word :=
  w32 (s.mck.sel.getD 7 + 8 * mckCode s.mck.state + 2 ^ 6 * b2n s.mck.hitless + 2 ^ 7 * b2n s.mck.revert
    + 2 ^ 8 * b2n (decide (s.mck.aligns ≠ [])))

/-- Seconds left to qualification; 0 when qualified or not counting (R395). -/
def State.qualLeft (s : State) (i : Nat) : Nat :=
  let r := s.refClock i
  match r.since with
  | some t => if s.refQualified i then 0 else (t + r.qualTime * 1000000000 + 999999999 - s.ntu.course) / 1000000000
  | none => 0

/-- MCK_REF_STATUS[i]. -/
def State.refStatus (s : State) (i : Nat) : Word :=
  let r := s.refClock i
  w32 (b2n r.en + 2 * b2n (s.refPresent i) + 4 * b2n (s.refQualified i) + 8 * b2n (decide (s.mck.sel = some i))
    + 16 * r.rank + 2 ^ 7 * b2n r.disagree + 2 ^ 8 * (s.qualLeft i) + 2 ^ 16 * (if i = 3 then r.form else 0))

/-- MCK_REF_FREQ[i]. -/
def State.refFreq (s : State) (i : Nat) : Word := if i = 5 then 0 else satWord (s.refClock i).avg

/-- A phase register: signed, saturating at ±(2^31 − 1). -/
def phaseWord (v : Int) : Word := satWord (clampI (-(2 ^ 31 - 1)) (2 ^ 31 - 1) v)

/-- MCK_HO_TE and MCK_HO_TIME. -/
def State.hoTe (s : State) : Word := w32 (satNat 0xFFFFFFFF s.holdoverError)
def State.hoTime (s : State) : Word := w32 (satNat 0xFFFFFFFF (s.holdoverNs / 1000000000))

/-! ## REF_CONFIG (R420 to R422) -/

/-- `REF_CONFIG`, checks of the packet alone (R421). -/
def badRefConfig (x : Bool) (p : List Word) : Option Nat :=
  let w := p.getD 0 0
  let ref := fieldOf w 2 0
  let fw := fieldOf (p.getD 1 0) 15 0
  let w3 := p.getD 2 0
  if p.length ≠ (if x then 3 else 1) then some 0
  else if fieldOf w 31 14 ≠ 0 || ref = 7 || (x && ref = 6) then some 1
  else if (ref ≠ 3 && fieldOf w 9 8 ≠ 0) || (ref ≠ 6 && fieldOf w 13 10 ≠ 0) then some 1
  else if ref = 6 && fieldOf w 12 10 = 7 then some 1
  else if x && (fw = 0 || 1000 < fw || 10 * fw ≤ fieldOf (p.getD 1 0) 31 16) then some 2
  else if x && (fieldOf w3 15 0 = 0 || fieldOf w3 23 16 < 10 || fieldOf w3 31 24 ≠ 0) then some 3
  else none

/-- A reference as `REF_CONFIG` sets it. -/
def refSet (x : Bool) (p : List Word) (r : RefClock) : RefClock :=
  let w := p.getD 0 0
  let en := bitOf w 3
  let own := decide (fieldOf w 2 0 = 5)
  { r with
    en := en, rank := fieldOf w 6 4, form := fieldOf w 9 8,
    freqWin := if x then fieldOf (p.getD 1 0) 15 0 else 500,
    hyst := if x then fieldOf (p.getD 1 0) 31 16 else 100,
    phaseWin := if x then fieldOf (p.getD 2 0) 15 0 else 100,
    qualTime := if x then fieldOf (p.getD 2 0) 23 16 else 10,
    seen := r.seen && decide (fieldOf w 9 8 = r.form),
    qualified := if own then en else r.qualified }

/-- The settings of a reference that software stores (R232). -/
def RefClock.settings (r : RefClock) : Bool × Nat × Nat × Nat × Nat × Nat × Nat :=
  (r.en, r.rank, r.form, r.freqWin, r.hyst, r.phaseWin, r.qualTime)

/-- The core form of `REF_CONFIG`: while the grid runs in QUIET, a change waits for the end of the stroke in progress, where
it is tested, applied and answered (R24, R421, R422). -/
def commitCoreForm (ord : Nat) (w : Word) (s : State) : State × Res :=
  let rate := fieldOf w 12 10
  let b := bitOf w 13
  if s.mck.grid && !s.coreLocked && !(s.coreSame rate b && decide (s.mck.coreNext = [])) then
    (coreWaits { rate := rate, s16 := b, ord := some ord } s, .start .core)
  else coreForm rate b s

/-- `REF_CONFIG` at its commit point (R420 to R422). -/
def commitRefConfig (ord : Nat) (x : Bool) (p : List Word) (s : State) : State × Res :=
  let w := p.getD 0 0
  let i := fieldOf w 2 0
  let old := s.refClock i
  if i = 6 then commitCoreForm ord w s
  else if i = 3 && old.en && fieldOf w 9 8 ≠ old.form then (s, .fail .staleWrite 1)
  else
    let s1 := s.onRef i (refSet x p)
    let s2 := if i = 5 && bitOf w 3 && !old.en then s1.flag Reg.MCK_REF_EVENT 3
      else if old.en && !(bitOf w 3) && old.qualified then s1.flag Reg.MCK_REF_EVENT 2 else s1
    let s3 := (if bitOf w 3 then s2 else s2.onRef i fun r => { r with qualified := false }).trackRefs
    (s3, .ok [s3.refStatus i] (decide ((s3.refClock i).settings ≠ old.settings)))

/-! ## REF_RANK (R423) -/

/-- `REF_RANK`, checks of the packet alone (R423). -/
def badRefRank (x : Bool) (p : List Word) : Option Nat :=
  let w2 := p.getD 1 0
  if p.length ≠ (if x then 2 else 1) then some 0
  else if fieldOf (p.getD 0 0) 31 18 ≠ 0 then some 1
  else if x && (fieldOf w2 7 2 ≠ 0 || fieldOf w2 31 16 ≠ 0 || fieldOf w2 15 8 = 0) then some 2
  else none

/-- `REF_RANK` at its commit point (R399, R423). -/
def commitRefRank (x : Bool) (p : List Word) (s : State) : State × Res :=
  let w2 := p.getD 1 0
  let refs := s.mck.refs.zipIdx.map fun e => { e.1 with rank := fieldOf (p.getD 0 0) (3 * e.2 + 2) (3 * e.2) }
  let m := { s.mck with refs := refs, revert := !x || bitOf w2 0, hitless := x && bitOf w2 1,
                        disagreeLim := if x then fieldOf w2 15 8 else 10 }
  let s1 := selectNow { s with mck := m }
  (s1, .ok [s1.mckStatus] (decide (refs ≠ s.mck.refs) || decide (m.revert ≠ s.mck.revert)
    || decide (m.hitless ≠ s.mck.hitless) || decide (m.disagreeLim ≠ s.mck.disagreeLim)))

/-! ## HOLDOVER_CONFIG (R424) -/

/-- `HOLDOVER_CONFIG`, checks of the packet alone (R424). -/
def badHoldoverConfig (x : Bool) (p : List Word) : Option Nat :=
  let w := p.getD 0 0
  if p.length ≠ (if x then 3 else 1) then some 0
  else if fieldOf w 31 20 ≠ 0 || fieldOf w 19 0 < 100 || 1000000 < fieldOf w 19 0 then some 1
  else if x && (fieldOf (p.getD 1 0) 15 0 = 0 || fieldOf (p.getD 1 0) 31 16 ≠ 0) then some 2
  else if x && fieldOf (p.getD 2 0) 31 16 ≠ 0 then some 3
  else none

/-- T_EXPIRE: the whole seconds after which te reaches the limit (R424). -/
def expireTime (limit fe0 drift : Nat) : Nat :=
  if drift = 0 then 10 * limit / (if fe0 = 0 then 1 else fe0)
  else (Nat.sqrt (10000 * fe0 * fe0 + 2000 * drift * limit) - 100 * fe0) / drift

/-- `HOLDOVER_CONFIG` at its commit point (R409, R424). -/
def commitHoldoverConfig (x : Bool) (p : List Word) (s : State) : State × Res :=
  let limit := fieldOf (p.getD 0 0) 19 0
  let fe0 := if x then fieldOf (p.getD 1 0) 15 0 else 100
  let drift := if x then fieldOf (p.getD 2 0) 15 0 else 10
  let s1 := holdoverReport { s with mck := { s.mck with hoLimit := limit, fe0 := fe0, drift := drift } }
  (s1, .ok [w32 (satNat 0xFFFFFFFF (expireTime limit fe0 drift))]
    (decide (limit ≠ s.mck.hoLimit) || decide (fe0 ≠ s.mck.fe0) || decide (drift ≠ s.mck.drift)))

/-! ## ALIGN_OUTPUTS (R425) -/

/-- `ALIGN_OUTPUTS`, checks of the packet alone (R425). -/
def badAlignOutputs (x : Bool) (p : List Word) : Option Nat :=
  if p.length ≠ 1 then some 0
  else if fieldOf (p.getD 0 0) 31 (if x then 1 else 0) ≠ 0 then some 1 else none

/-- `ALIGN_OUTPUTS` at its commit point (R414, R425, R613). -/
def commitAlignOutputs (x : Bool) (p : List Word) (s : State) : State × Res :=
  if s.mode = .boot then (s, .fail .wrongMode)
  else if s.role = 2 && decide (s.mck.sel = some 4) then (s, .fail .notCox)
  else if !s.hasTarget then (s, .fail .refused)
  else (alignAccept (x && bitOf (p.getD 0 0) 0) s, .later .align [])

/-! ## MCK_QUERY (R426) -/

/-- `MCK_QUERY`, checks of the packet alone (R426). -/
def badMckQuery (x : Bool) (p : List Word) : Option Nat :=
  let w := p.getD 0 0
  if p.length ≠ 1 then some 0
  else if fieldOf w 31 (if x then 3 else 0) ≠ 0 || (x && 5 < fieldOf w 2 0) then some 1 else none

/-- `MCK_QUERY` at its commit point (R426). -/
def commitMckQuery (x : Bool) (p : List Word) (s : State) : State × Res :=
  let i := fieldOf (p.getD 0 0) 2 0
  let r := s.refClock i
  let m := s.mck
  (s, .ok (if x then
      [s.refStatus i, s.refFreq i, w32 (r.freqWin + 2 ^ 16 * r.hyst),
       w32 (r.phaseWin + 2 ^ 16 * r.qualTime + 2 ^ 24 * m.disagreeLim)]
    else
      [s.mckStatus, phaseWord s.phaseErr, phaseWord s.refPhase, phaseWord m.held, phaseWord m.absorb, satWord m.freq,
       s.hoTe, s.hoTime, s.reg Reg.MCK_CORE_CFG, w32 m.hoLimit, w32 (m.fe0 + 2 ^ 16 * m.drift)]))

end Sys2Proof.Machine
end

