-- ==== Sys2Proof/Machine/Power.lean ====
section
/-! DEFINITION. Modes, the power handshake, the rail sequencer, wake, boot and the always-on island (R49 to R133). -/
namespace Sys2Proof.Machine

/-! ## Modes and transitions (R79 to R87) -/

/-- A mode with the core rails off or idle: MOORED or WATCH. -/
def sleeps (m : Mode) : Bool := !(clocked m)

/-- A mode that keeps streams enabled (R100). -/
def keepsStreams (m : Mode) : Bool := m = .service || m = .island

/-- A request of a command moves from one mode to another (R81). -/
def permitted (old new : Mode) : Bool :=
  match new with
  | .quiet => has [.boot, .service, .island, .safe, .test] old
  | .service => has [.quiet, .island] old
  | .island => old = .service
  | .test => old = .quiet
  | .safe => has [.boot, .quiet, .service, .island, .test] old
  | .moored => has [.boot, .quiet, .service, .island, .safe] old
  | .watch => has [.quiet, .service, .island] old
  | .boot => false

/-- The core rails and clocks lose power: everything outside the always-on island returns to reset (R111, R115, R173,
R264). -/
def coreOff (s : State) : State :=
  let aon := s.regs.filter fun e => decide (0x4000 ≤ e.1) && decide (e.1 < 0x4100)
  let p := { s.pmu with slot := none, islandAuto := false, modeNext := none, autoWait := none, modeLate := false,
                        autoNext := false, forced := none, forcing := false, parts := 0, otpOpen := false }
  let h : Hif := { perstN := s.hif.perstN, sent := s.hif.sent, capture := s.hif.capture, rqWrite := s.hif.rqWrite,
                   rqSlot := s.hif.rqSlot }
  { regs := aon, misparity := s.misparity.filter fun k => decide (0x4000 ≤ k) && decide (k < 0x4100), bus := s.bus, pmu := p, hif := h, buf := { retired := s.buf.retired }, obl := { sent := s.obl.sent },
    free := s.free, pending := s.pending }

/-- The egress queues of both ports are discarded (R315). -/
def dropEgress (s : State) : State :=
  { s with np := s.np.map fun p => { p with egress := List.replicate 8 [], sending := none } }

/-- Leaving TEST clears every loopback (R87). -/
def clearLoops (s : State) : State :=
  { s with tst := { s.tst with points := [0, 0, 0, 0] }, obl := { s.obl with ports := s.obl.ports.map fun p => { p with loop := [] } } }

/-- What entering a powered mode `m` from `old` does to the units (R28, R83, R84, R87, R96, R110, R112 to R114). -/
def modeUnits (old m : Mode) (first : Bool) (s : State) : State :=
  let s1 := if old = .test then clearLoops s else s
  let s2 := if computes m && !(computes old) then drvStart s1 else if computes old && !(computes m) then drvStop s1 else s1
  let s3 := if m = .island then srxIslandEntry s2 else if m = .service then srxIslandReturn s2 else s2
  let s4 := if first then rudFirstService s3 else s3
  let s5 := if gridMode m then (if s4.mck.grid then s4 else { s4 with mck := { s4.mck with gridStart := true } })
    else { s4 with mck := { s4.mck with grid := false, gridStart := false, aligns := [], part := .boundary } }
  let s6 := if m = .watch then mckSleeps (linkGone true (hostPathLost (dropEgress s5))) else s5
  if old = .watch then linkTrain (slReevaluate s6) else s6

/-- Enter mode `m`; `auto` marks an automatic change of ISLAND (R79, R81, R111, R116, R126, R173). -/
def State.enterMode (s : State) (m : Mode) (auto : Bool) : State :=
  let old := s.mode
  let first := decide (m = .service) && !s.pmu.firstService
  let p := { s.pmu with mode := m, prevMode := if old = m then s.pmu.prevMode else old,
                        islandAuto := auto && decide (m = .island), firstService := s.pmu.firstService || first,
                        modeNext := none, modeLate := false, autoNext := false, forced := none, forcing := false,
                        otpOpen := s.pmu.otpOpen && !(sleeps m) }
  let s1 := { s with pmu := p }
  let s2 := if old = m then s1 else s1.flag Reg.PMU_EVENT 0
  let s3 := if auto then s2.flag Reg.PMU_EVENT 4 else s2
  if m = .moored then coreOff (s3.bump Reg.PMU_MOOR_COUNT)
  else oblPower (modeUnits old m first s3)

/-- A boot image that failed holds CMD_READY back until SAFE is in force (R91). -/
def State.imageReady (s : State) : State :=
  if s.mode = .safe && s.cmd.imageFail && !s.cmd.ready && !s.cmd.restarting && s.hif.up then makeReady s else s

/-! ## The answers of the units (R97 to R100) -/

/-- Flight `f` waits under R228 for the power request in progress itself (R131). -/
def State.waitsForReq (s : State) (f : Flight) : Bool :=
  match s.pmu.req with
  | some r => f.s && decide (f.phase = .waiting) && decide (r.ord < f.ord)
  | none => false

/-- Flight `f` is in flight as R131 counts commands for a power request: taken in (R220), no power request, and not waiting
for the request in progress itself. -/
def State.inFlight (s : State) (f : Flight) : Bool :=
  takesTag f.src && decide (f.op ≠ 4) && decide (f.op ≠ 5) && !(s.waitsForReq f)

/-- A command other than the power request is in flight (R131). -/
def othersInFlight (s : State) : Bool := s.cmd.flights.any s.inFlight

/-- A port still has a frame to send. -/
def egressBusy (s : State) : Bool := s.np.any fun p => p.sending.isSome || p.egress.any fun q => decide (q ≠ [])

/-- A receive stream is enabled or drains. -/
def rxOn (s : State) : Bool := s.srx.streams.any fun e => decide (e.2.state ≠ .disabled) && decide (e.2.state ≠ .undefined)

/-- A transmit stream is enabled: ENABLED, or STOPPING and so not yet disabled (R489, R490). -/
def txBusy (s : State) : Bool := s.stx.streams.any fun e => decide (e.2.state = .enabled) || decide (e.2.state = .stopping)

/-- A Start List entry is armed. -/
def slArmed (s : State) : Bool := s.ntu.list.any fun e => decide (e.2.state = .armed) || decide (e.2.state = .handed)

/-- A Cox with Seats that carry cascade audio (R100 row 13). -/
def coxCarries (s : State) : Bool := decide (s.role = 1) && s.oblAudio && decide (s.seats &&& ~~~(posBit s.oblPos) ≠ 0)

/-- An answer that FORCE overrides (R100). -/
def forceable (force : Bool) (no : UnitAns × Nat) : UnitAns × Nat := if force then (.grant, 0) else no

/-- The answer of unit `u` to request `r`, with its reason code (R100, R101). -/
def unitAnswer (s : State) (r : PowerReq) (u : Nat) : UnitAns × Nat :=
  let sleep := sleeps r.target
  match u with
  | 1 => if sleep && egressBusy s then (.delay, 0) else (.grant, 0)
  | 2 =>
    if r.target = .service && !s.pmu.firstService && !(s.rudSealed s.rud.loaded) then (.refuse, 2)
    else if s.rud.swapTo.isSome then (.delay, 0) else (.grant, 0)
  | 3 => if rxOn s && !(keepsStreams r.target) then forceable r.force (.refuse, 1) else (.grant, 0)
  | 4 => if txBusy s && !(keepsStreams r.target) then forceable r.force (.refuse, 1) else (.grant, 0)
  | 5 =>
    if s.buf.mig.isSome && r.target = .moored then (.refuse, 4)
    else if s.migStepping && r.target = .watch then (.delay, 0) else (.grant, 0)
  | 6 => if slArmed s && r.target = .moored then forceable r.force (.refuse, 5) else (.grant, 0)
  | 7 => if s.mck.state = .acquire && r.target = .service then forceable r.force (.delay, 0) else (.grant, 0)
  | 9 => if s.drv.swaps ≠ [] then (.delay, 0) else (.grant, 0)
  | 10 => if sleep && (List.range 16).any s.tdmEnabled then forceable r.force (.refuse, 9) else (.grant, 0)
  | 11 => if sleep && (List.range 32).any s.ringOn then forceable r.force (.refuse, 8) else (.grant, 0)
  | 12 =>
    if s.patch.busy then (.refuse, 3)
    else if othersInFlight s then forceable r.force (.delay, 0) else (.grant, 0)
  | 13 =>
    if coxCarries s && (sleep || decide (r.target = .quiet)) then forceable r.force (.refuse, 6) else (.grant, 0)
  | 14 => if s.mode = .safe && decide (s.ump.active ≠ 0) then (.refuse, 12) else (.grant, 0)
  | _ => (.grant, 0)

/-- The code of an answer (R121). -/
def ansCode : UnitAns → Nat
  | .none => 0 | .grant => 1 | .delay => 2 | .refuse => 3

/-- The forced actions of R100 for a change to `m`: streams, stores, the Start List, TDM ports, rings and the commands in
flight, as R131 counts them, that have not committed. -/
def forcedActions (m : Mode) (s : State) : State :=
  let s1 := if keepsStreams m then s else stxDisableAll (srxDisableAll s)
  let s2 := if m = .moored then slClear s1 else s1
  let s3 := if sleeps m then ((List.range 16).foldl State.tdmForceStop (stxDropStores s2)).stopRings else s2
  s3.endFlights .aborted fun f => decide (f.phase ≠ .committed) && s.inFlight f

/-- Unit `u` has carried out its part of a change to `m` (R97, R100). The CMD unit's part includes the wait of R131. -/
def partDone (m : Mode) (waits : Bool) (u : Nat) (s : State) : Bool :=
  match u with
  | 1 => !(sleeps m) || !(egressBusy s)
  | 3 => keepsStreams m || !s.pmu.forcing || !(rxOn s)
  | 4 => keepsStreams m || !s.pmu.forcing || !(txBusy s)
  | 10 => !(sleeps m) || !(s.tdm.any TdmPort.live)
  | 11 => !(sleeps m) || !((List.range 32).any s.ringOn)
  | 12 => !waits || !(sleeps m) || !(othersInFlight s)
  | _ => true

/-- Every unit has carried out its part. -/
def allDone (m : Mode) (waits : Bool) (s : State) : Bool := (List.range 14).all fun i => partDone m waits (i + 1) s

/-! ## The course of a request (R97 to R106, R131) -/

/-- Change the request in progress. -/
def State.onReq (s : State) (f : PowerReq → PowerReq) : State := { s with pmu := { s.pmu with req := s.pmu.req.map f } }

/-- The command of request `r` passes its commit point, and the mode is a stored setting (R102, R232). -/
def commitReq (r : PowerReq) (s : State) : State :=
  let fl := s.cmd.flights.map fun f => if f.ord = r.ord then { f with phase := CmdPhase.committed } else f
  let s1 := { s with cmd := { s.cmd with flights := fl } }.genUp
  match (s.flight r.ord).map Flight.src with
  | some (.starter e) => s1.slOutcome e .ok
  | _ => s1

/-- A committed change to `m` begins: between modes with a running grid it waits for the boundary of R32, else for the
units' parts. From BOOT to QUIET the grid starts at its first position from now on (R83, R97). -/
def State.startChange (s : State) (m : Mode) (auto forcing : Bool) : State :=
  { s with pmu := { s.pmu with modeNext := some m, modeLate := decide (s.boundaryWait = 2), autoNext := auto,
                               forcing := forcing, parts := 0 },
           mck := { s.mck with gridStart := s.mck.gridStart || (decide (s.mode = .boot) && decide (m = .quiet)
                                 && !s.mck.grid) } }

/-- Commit request `r`, whose units have all granted (R97, R100, R102, R130, R315, R629). -/
def commitPower (r : PowerReq) (s : State) : State :=
  let s1 := commitReq r s
  let s2 := match r.wake with
    | some w => s1.setReg Reg.PMU_WAKE_CFG (w32 w.toNat)
    | none => s1
  let s3 := if r.force then forcedActions r.target s2 else s2
  let s4 := if sleeps r.target then oblLeaving (dropEgress s3) else s3
  (s4.onReq fun r => { r with stage := .carrying }).startChange r.target false r.force

/-- Try request `r` against the mode in force (R82, R97, R121, R129, R315). -/
def tryRequest (r0 : PowerReq) (s0 : State) : State :=
  let r : PowerReq := { r0 with before := s0.mode, askAt := s0.ntu.course, stage := .asking, ans := List.replicate 14 UnitAns.none }
  let fl := s0.cmd.flights.map fun f => if f.ord = r.ord then { f with phase := CmdPhase.started } else f
  let s : State := { s0 with cmd := { s0.cmd with flights := fl }, pmu := { s0.pmu with req := some r } }
  if r.target = s.mode then s.endRequest r .ok s.mode 0 0
  else if !(permitted s.mode r.target) then s.endRequest r .wrongMode s.mode 0 0
  else if r.target = .safe then
    ((commitReq r s).onReq fun r => { r with stage := .carrying }).startChange .safe false false
  else
    let s1 := s.setReg Reg.PMU_UNIT_ANS 0
    if sleeps r.target then { s1 with np := s1.np.map fun p => { p with holdHost := true } } else s1

/-- Both port links are down, and one is up (R81, R85). -/
def linksDown (s : State) : Bool := s.np.all fun p => !p.link

/-- The condition of an automatic change to `m` holds (R81, R85). -/
def autoHolds (m : Mode) (s : State) : Bool :=
  match m with
  | .island => s.mode = .service && linksDown s && s.bit Reg.PMU_ISLAND_CFG 0
  | .service => s.mode = .island && s.pmu.islandAuto && !(linksDown s) && s.bit Reg.PMU_ISLAND_CFG 1
  | _ => false

/-- An automatic change that waited is evaluated, and then the pending request is tried (R103 to R105). -/
def afterRequest (s : State) : State :=
  if s.pmu.req.isSome || s.pmu.forced.isSome then s else
  let s1 := match s.pmu.autoWait with
    | some m =>
      let s' := { s with pmu := { s.pmu with autoWait := none } }
      if autoHolds m s' then s'.startChange m true false else s'
    | none => s
  match s1.pmu.slot with
  | some r => tryRequest r { s1 with pmu := { s1.pmu with slot := none } }
  | none => s1

/-- A request that ends at its trial makes way for the next (R82, R103); at most one waits. -/
def tryNext (s : State) : State := afterRequest (afterRequest s)

/-- End request `r` and go on to the pending one (R98, R99, R103). -/
def finishRequest (r : PowerReq) (st : Status) (refuser reason : Nat) (s : State) : State :=
  tryNext (s.endRequest r st s.mode refuser reason)

/-- A request reaches the PMU: it is tried, or it takes the pending slot, whose occupant is superseded (R103, R104). -/
def requestArrives (r : PowerReq) (s : State) : State :=
  if s.pmu.req.isNone && s.pmu.forced.isNone then tryNext (tryRequest r s) else
  let s1 := match s.pmu.slot with
    | none => s
    | some old =>
      let s' := s.flag Reg.PMU_EVENT 3
      match s'.flight old.ord with
      | some f => s'.answer f .superseded 0 (powerBody s'.mode s'.mode 0 0 0)
      | none => s'
  { s1 with pmu := { s1.pmu with slot := some r } }

/-- `ABORT` of the command `f`, a `MODE_SET` or `POWER_REQUEST` that has not committed (R102, R103). -/
def abortRequest (f : Flight) (s : State) : State :=
  match s.pmu.req with
  | some r =>
    if r.ord = f.ord then finishRequest r .aborted 0 0x22 s
    else { s.answer f .aborted 0 (powerBody s.mode s.mode 0 0x22 0) with pmu := { s.pmu with slot := none } }
  | none => { s.answer f .aborted 0 (powerBody s.mode s.mode 0 0x22 0) with pmu := { s.pmu with slot := none } }

/-- The rails begin to change for `r`: the target mode is in force from here (R54, R55, R110, R117, R131). -/
def railsFall (r : PowerReq) (s : State) : State :=
  let goal := if r.target = .moored then RailGoal.moored else .watch
  let s1 := s.onReq fun r => { r with stage := .rails }
  let s2 := s1.enterMode r.target false
  { s2 with pmu := { s2.pmu with seq := .falling goal none } }

/-- The reply of a `POWER_REQUEST` that succeeds; a request with no reply goes on at once (R131, R220). -/
def powerReply (r : PowerReq) (s : State) : State :=
  let body := powerBody r.target r.before 0 0 (s.ntu.course - r.askAt)
  let s1 := s.onReq fun r => { r with stage := .replying }
  match s1.flight r.ord with
  | none => railsFall r s1
  | some f =>
    let s2 := s1.answer f .ok 0 body
    match f.src with
    | .path _ => s2
    | .tunnel _ => s2
    | _ => railsFall r s2

/-- The reply of the request in progress has been posted (R131). -/
def powerPosted (src : CmdSrc) (tag : BitVec 7) (s : State) : State :=
  match s.pmu.req with
  | some r => if r.stage = .replying && decide (r.tag = tag) && decide (src ≠ .image) then railsFall r s else s
  | none => s

/-- Mode `m` takes effect for the change in progress, and the command that asked for it is answered (R83, R104, R132). -/
def modeTakes (m : Mode) (s : State) : State :=
  let auto := s.pmu.autoNext
  let s1 := (s.enterMode m auto).imageReady
  match s1.pmu.req with
  | some r =>
    if r.stage = .carrying && decide (r.target = m) then finishRequest r .ok 0 0 s1 else tryNext s1
  | none => tryNext s1

/-- The mode change of R83 at a stroke boundary, before every change of R33: it waits for the forced actions. -/
def modeBoundary (s : State) : State :=
  match s.pmu.modeNext with
  | none => s
  | some m =>
    if s.pmu.modeLate then { s with pmu := { s.pmu with modeLate := false } }
    else if !(gridMode s.mode) || sleeps m || !(allDone m false s) then s
    else modeTakes m s

/-- The change in progress awaits the units' parts and not a stroke boundary (R83). -/
def awaitsParts (m : Mode) (s : State) : Bool := !(gridMode s.mode && gridMode m)

/-- A forced change to MOORED takes effect: the enables fall (R104, R118). -/
def forceMoored (s : State) : State :=
  let s1 := s.enterMode .moored false
  { s1 with pmu := { s1.pmu with seq := .falling .moored none } }

/-- Unit `u` reports its part; with the last part the change takes effect, and a `POWER_REQUEST` is answered
(R97, R131). -/
def unitReports (u : Nat) (s : State) : State :=
  match s.pmu.modeNext with
  | none => s
  | some m =>
    let waits := s.pmu.req.isSome
    if !(awaitsParts m s) || u = 0 || 14 < u || !(partDone m waits u s) then s else
    let s1 := { s with pmu := { s.pmu with parts := s.pmu.parts ||| ((1 : BitVec 14) <<< (u - 1)) } }
    if s1.pmu.parts ≠ 0x3FFF || !(allDone m waits s1) then s1
    else if !(sleeps m) then modeTakes m s1
    else match s1.pmu.req with
      | some r => if r.stage = .carrying then powerReply r s1 else s1
      | none => forceMoored s1

/-- HANDSHAKE_UNIT_COMPLETE: a unit reports its part of a committed change complete (R97). -/
def execHandshakeUnitComplete (unit : Nat) (s : State) : Host.Outcome State Fault Refusal :=
  .next (settle (unitReports unit (fresh s)))

/-- Unit `u` answers the request in progress: the first REFUSE ends it, and the last GRANT commits it (R97, R98, R121,
R339). -/
def unitAnswers (u : Nat) (s : State) : State :=
  match s.pmu.req with
  | none => s
  | some r =>
    let now := r.ans.getD (u - 1) .grant
    if r.stage ≠ .asking || u = 0 || 14 < u || (now ≠ .none && now ≠ .delay) then s else
    let (a, reason) := unitAnswer s r u
    let s1 := (s.onReq fun r => { r with ans := r.ans.set (u - 1) a }).setField Reg.PMU_UNIT_ANS (2 * u - 1) (2 * u - 2) (ansCode a)
    match a with
    | .refuse => finishRequest r .refused u reason s1
    | .grant =>
      let s2 := if u = 2 && r.target = .service && !s1.pmu.firstService then
          { s1 with rud := { s1.rud with heldBank := some s1.rud.loaded } } else s1
      if (r.ans.set (u - 1) .grant).all fun x => decide (x = .grant) then commitPower r s2 else s2
    | _ => s1

/-- HANDSHAKE_UNIT_ANSWER: a unit answers, or answers again after DELAY (R97). -/
def execHandshakeUnitAnswer (unit : Nat) (s : State) : Host.Outcome State Fault Refusal :=
  .next (settle (unitAnswers unit (fresh s)))

/-- HANDSHAKE_DELAY_EXPIRED: the declared maximum delay of a unit runs out (R99). -/
def execHandshakeDelayExpired (unit : Nat) (s : State) : Host.Outcome State Fault Refusal :=
  let s0 := fresh s
  .next (settle (match s0.pmu.req with
    | some r =>
      if r.stage = .asking && decide (0 < unit) && decide (r.ans.getD (unit - 1) .none = .delay) then
        finishRequest r .refused unit 0x0A s0 else s0
    | none => s0))

/-- The lowest-numbered unit that delays. -/
def firstDelay (l : List UnitAns) : Option Nat := ((List.range 14).filter fun i => decide (l.getD i .none = .delay)).head?

/-- HANDSHAKE_DELAY_CAP: the DELAY_CAP of the request elapses while a delay is outstanding (R99). -/
def execHandshakeDelayCap (s : State) : Host.Outcome State Fault Refusal :=
  let s0 := fresh s
  .next (settle (match s0.pmu.req with
    | some r =>
      match firstDelay r.ans with
      | some i => if r.stage = .asking && decide (r.cap ≠ 0) then finishRequest r .refused (i + 1) 0x0B s0 else s0
      | none => s0
    | none => s0))

/-- POWER_REPLY_WAIT_EXPIRED: the PMU proceeds without the posting of the reply (R131). -/
def execPowerReplyWaitExpired (s : State) : Host.Outcome State Fault Refusal :=
  let s0 := fresh s
  .next (settle (match s0.pmu.req with
    | some r => if r.stage = .replying then railsFall r s0 else s0
    | none => s0))

/-! ## Automatic ISLAND (R81, R85, R105) -/

/-- An automatic change to `m` whose DELAY has run: it waits while a request is in progress (R105). -/
def autoIsland (m : Mode) (s : State) : State :=
  if !(autoHolds m s) || s.pmu.forced.isSome || s.pmu.modeNext = some m then s
  else if s.pmu.req.isSome then { s with pmu := { s.pmu with autoWait := some m } }
  else s.startChange m true false

/-- ISLAND_AUTO_ENTER: both port links have been down for DELAY in SERVICE (R85). -/
def execIslandAutoEnter (s : State) : Host.Outcome State Fault Refusal := .next (settle (autoIsland .island (fresh s)))

/-- ISLAND_AUTO_RETURN: a port link has been up for DELAY in an automatic ISLAND (R85). -/
def execIslandAutoReturn (s : State) : Host.Outcome State Fault Refusal := .next (settle (autoIsland .service (fresh s)))

/-! ## PMU_MODE_FORCE and PMU_RAIL (R104, R118, R119) -/

/-- In WATCH, RAIL_EN[3] rises into `m` (R118). -/
def forceFromWatch (m : Mode) (s : State) : State :=
  let goal := RailGoal.back m
  let q := match s.pmu.seq with
    | .falling g _ => RailSeq.falling g (some goal)
    | .off _ => .off (some goal)
    | .waitGood _ => .waitGood goal
    | _ => .rising goal
  { s with pmu := { s.pmu with seq := q } }

/-- A keyed write of PMU_MODE_FORCE with a valid TARGET (R104, R118). -/
def modeForce (m : Mode) (s : State) : State :=
  if s.mode = .moored then s.flag Reg.PMU_ERR 1
  else if s.mode = .watch then
    let s1 := s.endInProgress 0x21
    if m = .moored then forceMoored s1 else forceFromWatch m s1
  else
    let s1 := forcedActions m (s.endInProgress 0x21)
    if m = s1.mode then tryNext s1
    else
      let s2 := if m = .moored then oblLeaving (dropEgress s1) else s1
      let s3 := s2.startChange m false true
      { s3 with pmu := { s3.pmu with forced := some m } }

/-- A keyed write of PMU_MODE_FORCE (R118). -/
def modeForceKey (target : Nat) (s : State) : State :=
  match target with
  | 0 => modeForce .moored s
  | 3 => modeForce .quiet s
  | 6 => modeForce .safe s
  | _ => if s.mode = .moored then s.flag Reg.PMU_ERR 1 else s.flag Reg.PMU_ERR 0

/-- Everything that ends with the core rails and gets no reply (R104, R237). It sets no HS_DONE: R126 does not say whether a
request that a PWR_GOOD failure or a rail cycle ends has finished (DESIGN CHOICE). -/
def dropRequests (s : State) : State := { s with pmu := { s.pmu with req := none, slot := none } }

/-- A keyed write of CYCLE to PMU_RAIL (R119). -/
def railCycle (s : State) : State :=
  if s.mode = .moored then s.flag Reg.PMU_ERR 1 else
  let old := s.mode
  let s1 := coreOff (dropRequests s)
  { s1 with pmu := { s1.pmu with mode := .moored, prevMode := old, seq := .falling .moored (some (.boot 3)) } }

/-! ## The rail sequencer (R54 to R59) -/

/-- The mode of a wake's return (R81). -/
def wakeGoal (m : Mode) : RailGoal := if m = .watch then .back .quiet else .boot 2

/-- The lowest enable that is low, and the highest that is high. -/
def lowestLow (e : BitVec 4) : Option Nat := ((List.range 4).filter fun i => !(e.getLsbD i)).head?
def highestHigh (e : BitVec 4) : Option Nat := ((List.range 4).filter fun i => e.getLsbD i).getLast?

/-- Set PMU_WAKE_REASON.RAIL_CYCLE when the raise of a rail cycle begins (R119, R123). -/
def cycleReason (g : RailGoal) (s : State) : State := if g = .boot 3 then s.flag Reg.PMU_WAKE_REASON 10 else s

/-- The next enable rises; with the last, PWR_GOOD is awaited (R55, R56). -/
def railUp (s : State) : State :=
  match s.pmu.seq with
  | .rising g =>
    match lowestLow s.pmu.railEn with
    | none => { s with pmu := { s.pmu with seq := .waitGood g } }
    | some i =>
      let e := s.pmu.railEn ||| ((1 : BitVec 4) <<< i)
      { s with pmu := { s.pmu with railEn := e, seq := if e = 0xF then .waitGood g else .rising g } }
  | _ => s

/-- RAIL_ENABLE_STEP: T_SEQ elapses and the next enable rises (R55). -/
def execRailEnableStep (s : State) : Host.Outcome State Fault Refusal := .next (settle (railUp (fresh s)))

/-- The enables have fallen: T_OFF runs, and the request in progress ends (R57, R103, R117). -/
def railsDown (next : Option RailGoal) (s : State) : State :=
  let s1 := { s with pmu := { s.pmu with seq := .off next } }
  match s1.pmu.req with
  | some r => if r.stage = .rails then tryNext (s1.hsFree r 0 0) else s1
  | none => s1

/-- The next enable falls; PWR_GOOD falls with the first (R55, R57). -/
def railDown (s : State) : State :=
  match s.pmu.seq with
  | .falling g next =>
    match (if g = .watch then (if s.pmu.railEn.getLsbD 3 then some 3 else none) else highestHigh s.pmu.railEn) with
    | none => railsDown next s
    | some i =>
      let e := s.pmu.railEn &&& ~~~((1 : BitVec 4) <<< i)
      let s1 := { s with pmu := { s.pmu with railEn := e, pwrGood := false } }
      if g = .watch || e = 0 then railsDown next s1 else s1
  | _ => s

/-- RAIL_DISABLE_STEP: T_DN elapses and the next enable falls (R55). -/
def execRailDisableStep (s : State) : Host.Outcome State Fault Refusal := .next (settle (railDown (fresh s)))

/-- RAIL_OFF_ELAPSED: T_OFF has elapsed since the enables fell (R57). -/
def execRailOffElapsed (s : State) : Host.Outcome State Fault Refusal :=
  let s0 := fresh s
  .next (settle (match s0.pmu.seq with
    | .off none => { s0 with pmu := { s0.pmu with seq := .idle } }
    | .off (some g) => cycleReason g { s0 with pmu := { s0.pmu with seq := .rising g } }
    | _ => s0))

/-- A wake ends in its mode (R126). A return from WATCH by PMU_MODE_FORCE is no wake here: R118 gives it no source, and R126
does not say whether it sets PMU_EVENT.WAKE (DESIGN CHOICE). -/
def wakeDone (s : State) : State :=
  if s.pmu.waking then ({ s with pmu := { s.pmu with waking := false } }).flag Reg.PMU_EVENT 5 else s

/-- The return from WATCH to `m`; a Seat woken to QUIET passes the wake on (R81, R112 to R114, R625). -/
def backFromWatch (m : Mode) (s : State) : State :=
  let s1 := { s with pmu := { s.pmu with seq := .idle } }.enterMode m false
  tryNext (wakeDone (if m = .quiet then oblWakeForward s1 else s1))

/-- PWR_GOOD_RISE: PWR_GOOD goes high after the last enable rises (R56, R59). -/
def execPwrGoodRise (s : State) : Host.Outcome State Fault Refusal :=
  let s0 := fresh s
  let s1 := { s0 with pmu := { s0.pmu with pwrGood := true } }
  .next (settle (match s0.pmu.seq with
    | .waitGood (.boot c) => { s1 with pmu := { s1.pmu with seq := .release c } }
    | .waitGood (.back m) => backFromWatch m s1
    | _ => s0))

/-- The enables fall for a MOORED that has been entered; a rail cycle enters none (R111, R119). -/
def fallsMoored (s : State) : Bool :=
  match s.pmu.seq with
  | .falling .moored (some (.boot 3)) => false
  | .falling .moored _ => true
  | _ => false

/-- A PWR_GOOD failure: no reply, every enable falls, MOORED, and FAULT_N holds (R56, R104, R126). PMU_WAKE_REASON.PG_FAIL is
set here, with the entry to MOORED that it records, and stands until a read clears it; R123 does not say whether it is set
here or by the wake that follows (DESIGN CHOICE). -/
def pgFail (s : State) : State :=
  let s1 := dropRequests ((s.flag Reg.PMU_EVENT 6).flag Reg.PMU_WAKE_REASON 9)
  let s2 := if fallsMoored s then s1 else s1.enterMode .moored false
  { s2 with pmu := { s2.pmu with pgFault := true, waking := false, seq := .falling .moored none } }

/-- PWR_GOOD_TIMEOUT: PWR_GOOD is not high within T_PG (R56). -/
def execPwrGoodTimeout (s : State) : Host.Outcome State Fault Refusal :=
  let s0 := fresh s
  .next (settle (match s0.pmu.seq with | .waitGood _ => pgFail s0 | _ => s0))

/-- PWR_GOOD_FAIL: PWR_GOOD stays low beyond T_PGF with all enables high, those before the first step of a fall included
(R56). -/
def execPwrGoodFail (s : State) : Host.Outcome State Fault Refusal :=
  let s0 := fresh s
  let up := match s0.pmu.seq with | .rising _ => false | .waitGood _ => false | _ => true
  .next (settle (if up && decide (s0.pmu.railEn = 0xF) && s0.pmu.pwrGood then
    pgFail { s0 with pmu := { s0.pmu with pwrGood := false } } else s0))

/-- The sequencer once all enables have gone low together: T_OFF runs from a fall, and one that has run stays over (R57). -/
def seqDown (s : State) : RailSeq :=
  match s.pmu.seq with
  | .off _ => .off none
  | _ => if s.pmu.railEn = 0 then .idle else .off none

/-- POR_N_FALL: all four enables go low together, and the sequence is abandoned (R51, R57). -/
def execPorNFall (s : State) : Host.Outcome State Fault Refusal :=
  let s0 := fresh s
  let s1 := coreOff (dropRequests s0)
  .next (settle (if !s0.pmu.porN then s0 else
    { s1 with pmu := { s1.pmu with porN := false, railEn := 0, pwrGood := false, mode := .moored, seq := seqDown s0,
                                   waking := false, wakeOutN := false, peWakeN := false } }))

/-- The always-on island at a rising edge of POR_N (R49, R80, R115, R124). -/
def porRise (straps : Straps) (s : State) : State :=
  let count := s.reg Reg.PMU_MOOR_COUNT
  let next := RailGoal.boot 1
  let q := match s.pmu.seq with | .off _ => RailSeq.off (some next) | _ => .rising next
  let p : Pmu := { mode := .moored, prevMode := .moored, straps := straps, railEn := s.pmu.railEn, pwrGood := s.pmu.pwrGood,
                   seq := q, pgFault := s.pmu.pgFault }
  { coreOff s with regs := [], misparity := [], pmu := p }.setReg Reg.PMU_MOOR_COUNT count

/-- POR_N_RISE: the straps are latched, the always-on registers reset, and the rail sequence starts (R49, R59, R81). -/
def execPorNRise (straps : Straps) (s : State) : Host.Outcome State Fault Refusal :=
  let s0 := fresh s
  .next (settle (if s0.pmu.porN || !s0.pmu.vddAon then s0 else porRise straps s0))

/-- VDD_AON_POWER_LOSS: VDD_AON falls below its range, and the always-on island is lost; the enables fall with it, and T_OFF
holds from there (R57, R264). -/
def execVddAonPowerLoss (s : State) : Host.Outcome State Fault Refusal :=
  let s0 := fresh s
  .next (settle { coreOff s0 with
    regs := [], misparity := [], buf := {}
    pmu := { mode := .moored, vddAon := false, porN := false, railEn := 0, pwrGood := false, seq := seqDown s0 } })

/-- VDD_AON_POWER_UP: the always-on island starts, and the management port answers (R92). -/
def execVddAonPowerUp (s : State) : Host.Outcome State Fault Refusal :=
  let s0 := fresh s
  .next (settle (if s0.pmu.vddAon then s0 else { s0 with pmu := { s0.pmu with vddAon := true } }))

/-! ## Wake (R106 to R109, R314, R625) -/

/-- The pins of a wake from a link source or an address match (R109). -/
def wakePins (s : State) : State :=
  let p := { s.pmu with wakeOutN := s.pmu.wakeOutN || s.bit Reg.PMU_WAKE_CFG 8,
                        peWakeN := s.pmu.peWakeN || !s.pmu.straps.hostSel }
  { s with pmu := p }

/-- A wake event of source `bit` of PMU_WAKE_CFG; `pins` for a link source or an address match (R57, R106, R107, R109). -/
def wakeEvent (bit : Nat) (pins : Bool) (s : State) : State :=
  if !s.pmu.porN || !(sleeps s.mode) || !(s.bit Reg.PMU_WAKE_CFG bit) || (decide (2 ≤ bit) && decide (s.mode ≠ .watch)) then s
  else
    let g := wakeGoal s.mode
    let q := match s.pmu.seq with
      | .idle => RailSeq.rising g
      | .off none => .off (some g)
      | .falling d none => .falling d (some g)
      | q => q
    let s1 := ({ s with pmu := { s.pmu with seq := q, waking := true } }).flag Reg.PMU_WAKE_REASON (bit + 1)
    if pins then wakePins s1 else s1

/-- PE_WAKE_N_ASSERTED: the host holds PE_WAKE_N low for 1 µs (R107). -/
def execPeWakeNAsserted (s : State) : Host.Outcome State Fault Refusal := .next (settle (wakeEvent 1 false (fresh s)))

/-- The wake-frame detector of port `p` sees a frame in WATCH; a match keeps its length (R314, R317). -/
def wakeFrame (p : Nat) (bs : List Byte) (s : State) : State :=
  if s.mode ≠ .watch || !(s.port p).live || 1 < p then s else
  let magic := magicMatch s p bs && s.bit Reg.PMU_WAKE_CFG (2 + 2 * p)
  let pattern := patternMatch s p bs && s.bit Reg.PMU_WAKE_CFG (3 + 2 * p)
  let s0 := if magic || pattern then s.setField (Reg.NP_WAKE_STATUS p) 15 2 bs.length else s
  let s1 := if magic then wakeEvent (2 + 2 * p) true (s0.flag (Reg.NP_WAKE_STATUS p) 0) else s0
  if pattern then wakeEvent (3 + 2 * p) true (s1.flag (Reg.NP_WAKE_STATUS p) 1) else s1

/-- WAKE_FRAME: a frame with a good FCS reaches a port in WATCH (R314). -/
def execWakeFrame (port : Nat) (bytes : List Byte) (s : State) : Host.Outcome State Fault Refusal :=
  .next (settle (wakeFrame port bytes (fresh s)))

/-- OBIEN_WAKE_PATTERN: a port in WATCH detects the Obien wake pattern (R625). -/
def execObienWakePattern (port : Nat) (s : State) : Host.Outcome State Fault Refusal :=
  let s0 := fresh s
  .next (settle (if s0.mode = .watch && decide (port < 2) then wakeEvent (6 + port) true s0 else s0))

/-! ## Boot (R88 to R91) -/

/-- The 1024 words of OTP (R635). -/
def recordTable (words : List Word) : Table Word :=
  ((words.take 1024).zipIdx.filter fun e => decide (e.1 ≠ 0)).map fun e => (e.2, e.1)

/-- The core at the release of the internal reset, before the record is checked (R88, R264, R635, R636). -/
def bootState (c : Nat) (prev : Mode) (table : Table Word) (s : State) : State :=
  { s with
    pmu := { s.pmu with mode := .boot, prevMode := prev, seq := .idle, firstService := false, pgFault := false }
    buf := { s.buf with out := s.buf.retired, map := bootMap s.buf.retired }
    cmd := { s.cmd with cause := c }
    otp := table
    otpBad := recordCheck table }

/-- What step 2 of R88 and the strap set beside it (R601, R636, R667). -/
def bootChecks (s : State) : State :=
  let s1 := if s.otpBad = 0 then s else s.raise 10 0 (w32 s.otpBad)
  let s2 := if fieldOf (s1.record 4) 1 0 = 1 then s1.setReg Reg.PMU_UMP_TEMP_CFG 0x00057369 else s1
  if s2.role = 0 then s2 else s2.setReg Reg.OBL_CFG 0x0064000F

/-- The internal reset is released: BOOT (R88). -/
def bootCore (c : Nat) (words : List Word) (s : State) : State :=
  let prev := if c = 3 then s.pmu.prevMode else Mode.moored
  let s1 := bootChecks (bootState c prev (recordTable words) (coreOff s))
  wakeDone (oblPower (if c = 1 then s1 else s1.flag Reg.PMU_EVENT 0))

/-- CORE_RESET_RELEASE: the internal reset is released after PWR_GOOD, with the words that the OTP holds (R88). -/
def execCoreResetRelease (record : List Word) (s : State) : Host.Outcome State Fault Refusal :=
  let s0 := fresh s
  .next (settle (match s0.pmu.seq with
    | .release c => bootCore c record s0
    | _ => s0))

/-- BUFFER_CLEAR_DONE: buffer memory is clear, the queues take items, and HIF answers (R88, R255, R649). -/
def execBufferClearDone (s : State) : Host.Outcome State Fault Refusal :=
  let s0 := fresh s
  .next (settle (if !(clocked s0.mode) || s0.buf.ready then s0 else
    linkTrain ({ s0 with buf := { s0.buf with ready := true }, hif := { s0.hif with up := true } }).flushLog))

/-- The strap names a boot flash (R49, R88). -/
def State.bootsFromFlash (s : State) : Bool := s.pmu.straps.bootSrc = 1 || s.pmu.straps.bootSrc = 2

/-! ## Registers (R116 to R127) -/

/-- PMU_MODE (R116). -/
def State.pmuMode (s : State) : Word :=
  w32 (modeCode s.mode + 2 ^ 4 * modeCode s.pmu.prevMode + 2 ^ 8 * s.role + 2 ^ 12 * b2n s.pmu.req.isSome
    + 2 ^ 13 * b2n s.pmu.slot.isSome + 2 ^ 14 * b2n s.pmu.islandAuto + 2 ^ 15 * b2n s.pmu.firstService)

/-- STATE of PMU_HS (R117). -/
def stageCode : HsStage → Nat
  | .asking => 1 | .carrying => 2 | .replying => 2 | .rails => 3

/-- PMU_HS: the request in progress, or the last one (R117). -/
def State.pmuHs (s : State) : Word :=
  match s.pmu.req with
  | some r => w32 (modeCode r.target + 8 * b2n r.force + 2 ^ 4 * stageCode r.stage + 2 ^ 20 * r.tag.toNat)
  | none => s.reg Reg.PMU_HS

/-- A rail sequence is in progress (R120): from its first step to the release of the core reset, or for a fall until the last
enable is low. R120 does not say where a sequence ends: the model counts neither T_OFF after a fall that nothing follows,
and does count the time between PWR_GOOD and the release (DESIGN CHOICE). -/
def RailSeq.busy : RailSeq → Bool
  | .idle => false | .off none => false | _ => true

/-- PMU_STATUS (R120). -/
def State.pmuStatus (s : State) : Word :=
  w32 (s.pmu.railEn.toNat + 2 ^ 4 * b2n s.pmu.pwrGood + 2 ^ 5 * b2n s.pmu.seq.busy)

/-! ## MODE_SET and POWER_REQUEST (R128 to R133) -/

/-- `MODE_SET`, checks of the packet alone (R128). -/
def badModeSet (x : Bool) (p : List Word) : Option Nat :=
  if p.length ≠ (if x then 2 else 1) then some 0 else
  let w := pw p 1
  if fieldOf w 31 (if x then 9 else 3) ≠ 0 || (x && decide (fieldOf w 7 3 ≠ 0)) || fieldOf w 2 0 < 3 then some 1
  else if x && decide (fieldOf (pw p 2) 31 16 ≠ 0) then some 2 else none

/-- `POWER_REQUEST`, checks of the packet alone (R130). -/
def badPowerRequest (x : Bool) (p : List Word) : Option Nat :=
  if p.length ≠ (if x then 3 else 1) then some 0 else
  let w := pw p 1
  if fieldOf w 31 (if x then 9 else 3) ≠ 0 || (x && decide (fieldOf w 7 3 ≠ 0)) || 1 < fieldOf w 2 0 then some 1
  else if x && decide (fieldOf (pw p 2) 31 16 ≠ 0) then some 2
  else if x && decide (fieldOf (pw p 3) 31 9 ≠ 0) then some 3 else none

/-- The request that a `MODE_SET` or `POWER_REQUEST` makes (R128, R130). -/
def requestOf (f : Flight) : PowerReq :=
  { target := modeOf (fieldOf (pw f.params 1) 2 0), force := f.x && bitOf (pw f.params 1) 8
    cap := if f.x then fieldOf (pw f.params 2) 15 0 else 0
    wake := if f.x && decide (f.op = 5) then some (BitVec.ofNat 9 (fieldOf (pw f.params 3) 8 0)) else none
    ord := f.ord, tag := f.tag }

end Sys2Proof.Machine
end

