-- ==== Sys2Proof/Machine/Weigh.lean ====
section
/-! DEFINITION. The tag table and the snapshot of `WEIGH_IN` (R217, R243 to R245, R247, R251). -/
namespace Sys2Proof.Machine

/-! ## Tags (R217 to R220) -/

/-- Replies that are made and not yet posted. -/
def State.unposted (s : State) : List Reply := s.cmd.held ++ s.cmd.after

/-- The command in flight that holds tag `t`. -/
def State.tagFlight (s : State) (t : Nat) : Option Flight :=
  s.cmd.flights.find? fun f => takesTag f.src && decide (f.tag.toNat = t)

/-- The reply not yet posted that holds tag `t`. -/
def State.tagReply (s : State) (t : Nat) : Option Reply :=
  s.unposted.find? fun r => r.frees && !r.w && decide (r.tag.toNat = t)

/-- Tag `t` is outstanding (R217). -/
def State.tagBusy (s : State) (t : Nat) : Bool := (s.tagFlight t).isSome || (s.tagReply t).isSome

/-- TAG_STATE of a command's phase (R244). -/
def phaseCode : CmdPhase → Nat
  | .waiting => 1 | .started => 2 | .committed => 3

/-- TAG_STATE of tag `t` (R244). -/
def State.tagState (s : State) (t : Nat) : Nat :=
  match s.tagFlight t with
  | some f => phaseCode f.phase
  | none => if (s.tagReply t).isSome then 3 else 0

/-- The opcode of the command that holds tag `t`, or 0 (R242). -/
def State.tagOp (s : State) (t : Nat) : Nat :=
  match s.tagFlight t with
  | some f => f.op
  | none => match s.tagReply t with | some r => r.op | none => 0

/-- The source of the command that holds tag `t`. -/
def State.tagSrc (s : State) (t : Nat) : Option CmdSrc :=
  match s.tagFlight t with
  | some f => some f.src
  | none => (s.tagReply t).map Reply.src

/-- Tags outstanding (R244, R247). -/
def State.outstanding (s : State) : Nat := ((List.range 128).filter s.tagBusy).length

/-- The power request in progress is answered and the part is about to sleep: a command that waited for it starts only after
the return (R131). -/
def behindSleep (s : State) (f : Flight) : Bool :=
  match s.pmu.req with
  | some r => decide (r.stage = .replying) && decide (r.ord < f.ord)
  | none => false

/-- The command waits under R228: it has S, and one taken in before it has not completed, or is a power request whose rails
are still to change. -/
def sHeld (s : State) (f : Flight) : Bool :=
  f.s && takesTag f.src
    && ((s.cmd.flights.any fun g => decide (g.ord < f.ord) && takesTag g.src) || behindSleep s f)

/-- A command waits under R228. -/
def State.sWait (s : State) : Bool := s.cmd.flights.any fun f => decide (f.phase = .waiting) && sHeld s f

/-- CMD_TAG_BUSY[i] (R251). -/
def State.tagBusyWord (s : State) (i : Nat) : Word :=
  w32 (bitsOfList ((List.range 32).filter fun j => s.tagBusy (32 * i + j)))

/-- CMD_STATUS (R247). -/
def State.cmdStatus (s : State) : Word :=
  w32 (b2n s.cmd.ready + 2 * b2n s.cmd.restarting + 4 * b2n s.sWait + 2 ^ 8 * s.outstanding)

/-- CMD_RESTART (R249). -/
def State.cmdRestartWord (s : State) : Word := w32 (s.cmd.cause + 2 ^ 8 * s.cmd.restarts)

/-! ## The states of the units (R244, word 17) -/

/-- The error registers of a unit (R11). -/
def unitErrs (u : Nat) : List Nat :=
  match u with
  | 1 => [Reg.NP_ERR 0, Reg.NP_ERR 1] | 2 => [Reg.RUD_ERR] | 3 => [Reg.SRX_ERR] | 4 => [Reg.STX_ERR] | 5 => [Reg.BUF_ERR]
  | 6 => [Reg.NTU_ERR] | 7 => [Reg.MCK_ERR] | 8 => [Reg.RAL_ERR] | 9 => [Reg.DRV_ERR] | 10 => [Reg.TDM_ERR]
  | 11 => [Reg.HIF_ERR] | 12 => [Reg.CMD_ERR] | 13 => [Reg.OBL_ERR] | _ => [Reg.PMU_ERR]

/-- Unit `u` has an object that is enabled or work in progress. DESIGN CHOICE: R244 does not define "running". -/
def State.unitRuns (s : State) (u : Nat) : Bool :=
  match u with
  | 1 => s.np.any NetPort.live
  | 2 => s.rudEn
  | 3 => rxOn s
  | 4 => txBusy s
  | 5 => s.buf.ready
  | 6 => s.ntu.valid
  | 7 => s.mck.grid
  | 8 => s.srx.streams.any fun e => e.2.enabled && e.2.converts s.rateCode
  | 9 => computes s.mode
  | 10 => s.tdm.any TdmPort.live
  | 11 => s.hif.up
  | 12 => s.cmd.ready
  | 13 => s.obl.ports.any fun p => decide (p.state ≠ 0)
  | _ => true

/-- An Umpire fault that unit `u` detected is active; those of the PMU's own checks and of GLB, which the fault log gives
unit 0, count for the PMU (R11, R244, R648). -/
def State.unitFault (s : State) (u : Nat) : Bool :=
  s.ump.units.any fun e => s.ump.active.getLsbD e.1 && decide ((if e.2 = 0 then 14 else e.2) = u)

/-- UNIT_u (R244). -/
def State.unitState (s : State) (u : Nat) : Nat :=
  if ((unitErrs u).any fun a => decide (s.reg a ≠ 0)) || s.unitFault u then 3
  else if s.unitRuns u then 2 else 1

/-! ## The pages (R244, R245) -/

/-- A word of two-bit fields, sixteen to a word. -/
def packed2 (f : Nat → Nat) (i : Nat) : Word :=
  w32 ((List.range 16).foldl (fun n j => n + 4 ^ j * f (16 * i + j)) 0)

/-- A word of bits, thirty-two to a word. -/
def packed1 (f : Nat → Bool) (i : Nat) : Word := w32 (bitsOfList ((List.range 32).filter fun j => f (32 * i + j)))

/-- A receive or transmit stream is enabled (R244). -/
def State.rxIsOn (s : State) (n : Nat) : Bool :=
  match tget s.srx.streams n with | some r => r.enabled | none => false
def State.txIsOn (s : State) (n : Nat) : Bool :=
  match tget s.stx.streams n with | some t => t.enabled | none => false

/-- Queue `n` has a sticky WM flag set (R276). -/
def State.qWm (s : State) (n : Nat) : Bool :=
  match tget s.buf.queues n with | some q => decide (q.event &&& 3 ≠ 0) | none => false

/-- Host queue `n` is not empty. -/
def State.qNotEmpty (s : State) (n : Nat) : Bool :=
  match tget s.buf.queues n with | some q => decide (qLevel q ≠ 0) | none => false

/-- Words 1 to 4 of the summary. -/
def State.weighHead (s : State) : List Word :=
  [w32 (modeCode s.mode + 2 ^ 4 * modeCode s.pmu.prevMode + 2 ^ 8 * s.role + 2 ^ 10 * s.obl.pos
      + 2 ^ 13 * b2n s.pmu.req.isSome + 2 ^ 14 * b2n s.pmu.slot.isSome + 2 ^ 15 * b2n s.pmu.islandAuto
      + 2 ^ 16 * b2n s.pmu.firstService),
   s.cmd.gen,
   w32 (s.romPatch + 2 ^ 8 * 1 + 2 ^ 16 * 3 + 2 ^ 24 * b2n s.inactive.staged),
   w32 (s.cmd.cause + 2 ^ 8 * s.cmd.restarts + 2 ^ 24 * s.outstanding)]

/-- Two commands came on the same path: the tunnel of a Seat is one path, whatever the TOKEN of a command (R244, R622). -/
def samePath : CmdSrc → CmdSrc → Bool
  | .tunnel _, .tunnel _ => true
  | a, b => decide (a = b)

/-- Words 5 to 17 of the summary, for a `WEIGH_IN` from `src`. -/
def State.weighTags (s : State) (src : CmdSrc) : List Word :=
  ((List.range 8).map (packed2 s.tagState))
    ++ ((List.range 4).map (packed1 fun t => match s.tagSrc t with | some x => !(samePath x src) | none => false))
    ++ [w32 ((List.range 14).foldl (fun n i => n + 4 ^ i * s.unitState (i + 1)) 0)]

/-- Words 18 to 26 of the summary. -/
def State.weighAudio (s : State) : List Word :=
  let st := s.mck.state
  [w32 (s.mck.sel.getD 7 + 2 ^ 4 * bitsOfList ((List.range 6).filter s.refQualified) + 2 ^ 10 * (3 * b2n s.ntu.valid)
      + 2 ^ 12 * b2n (decide (st = .locked)) + 2 ^ 13 * b2n (decide (st = .holdover)) + 2 ^ 14 * b2n (decide (st = .hoExpired))
      + 2 ^ 15 * s.ntu.ptp.ctrl + 2 ^ 17 * b2n s.mck.hitless),
   satWord s.phaseErr,
   w32 (satNat 0xFFFF s.ntu.steps),
   w32 (s.srx.streams.length + 2 ^ 16 * tcount s.srx.streams RxStream.enabled),
   w32 (s.stx.streams.length + 2 ^ 16 * tcount s.stx.streams TxStream.enabled),
   w32 (s.activeBank.buses.length + 2 ^ 10 * s.drv.active + 2 ^ 11 * b2n (decide (s.drv.swaps ≠ []))
      + 2 ^ 12 * s.activeBank.listeners.length),
   countTermsWord s.activeBank,
   w32 (bitsOfList ((List.range 16).filter s.tdmEnabled)),
   w32 (bitsOfList ((List.range 32).filter s.ringEn))]

/-- The oldest unread entry of the fault log: its words, where there is one (R244, R648). -/
def State.logOldest (s : State) : Option (List Word) :=
  match tget s.buf.queues 27 with
  | none => none
  | some q => (q.items[q.rpItem]?).map fun it => [w32 (leNat (slice it.data 0 4)), w32 (leNat (slice it.data 4 4))]

/-- Unread entries of the fault log. -/
def State.logUnread (s : State) : Nat :=
  match tget s.buf.queues 27 with
  | none => 0
  | some q => q.items.length - q.rpItem

/-- Words 27 to 32 of the summary. -/
def State.weighUnits (s : State) : List Word :=
  [w32 (s.ntu.list.length + 2 ^ 11 * tcount s.ntu.list fun e => e.state = .armed || e.state = .handed),
   w32 (s.rudBank + 2 * b2n s.rud.bootProg + 4 * s.rud.flows.length),
   w32 (s.buf.queues.length + 2 ^ 9 * ((List.range 256).filter s.qWm).length),
   w32 (bitsOfList ((List.range 24).filter s.qNotEmpty)),
   w32 (s.freeKib % 65536 + 2 ^ 16 * (s.spareBanks.length % 4) + 2 ^ 18 * b2n s.buf.mig.isSome),
   w32 (b2n (s.port 0).link + 2 * b2n (s.port 1).link + 4 * b2n (s.oblRun 0) + 8 * b2n (s.oblRun 1)
      + 2 ^ 4 * b2n s.obl.conflict + 2 ^ 5 * b2n s.obl.ring + 2 ^ 8 * s.seats.toNat)]

/-- Words 33 to 37 of the summary; with no unread log entry its words are free, as R244 gives them no value then. -/
def State.weighLog (s : State) : List Word :=
  let e := s.logOldest.getD [w32 (Config.freeNat s.free), w32 (Config.freeNat (s.free + 1))]
  let code := e.getD 0 0
  [w32 (fieldOf code 31 16 + 2 ^ 16 * satNat 255 s.logUnread + 2 ^ 24 * b2n (decide (s.ump.active ≠ 0))),
   code, e.getD 1 0, s.cmd.lastFail, w32 (b2n s.cmd.imageLoaded + 2 * b2n s.cmd.imageFail)]

/-- The summary of `WEIGH_IN` from `src` (R244). -/
def State.weighSummary (s : State) (src : CmdSrc) : List Word :=
  s.weighHead ++ s.weighTags src ++ s.weighAudio ++ s.weighUnits ++ s.weighLog

/-- Pages 1 to 3 (R245). -/
def State.weighPage (s : State) (page : Nat) : List Word :=
  let two := fun (n : Nat) (a b : Nat → Bool) => (List.range n).map (packed1 a) ++ (List.range (32 - n)).map (packed1 b)
  s.cmd.gen :: (match page with
  | 1 => two 16 (fun n => thas s.srx.streams n) s.rxIsOn
  | 2 => two 16 (fun n => thas s.stx.streams n) s.txIsOn
  | _ => (List.range 16).map (packed1 fun n => thas s.activeBank.buses n)
      ++ (List.range 8).map (packed1 fun n => thas s.buf.queues n) ++ (List.range 8).map (packed1 s.qWm))

/-- `WEIGH_IN`, checks of the packet alone (R243). -/
def badWeighIn (x : Bool) (p : List Word) : Option Nat :=
  if p.length ≠ 1 then some 0 else if fieldOf (p.getD 0 0) 31 (if x then 2 else 0) ≠ 0 then some 1 else none

/-- The body of a `WEIGH_IN` (R243). -/
def State.weighBody (s : State) (src : CmdSrc) (x : Bool) (p : List Word) : List Word :=
  let page := if x then fieldOf (p.getD 0 0) 1 0 else 0
  if page = 0 then s.weighSummary src else s.weighPage page

/-- The state after a snapshot: it changes nothing but the count of free values taken. -/
def State.weighed (s : State) : State := { s with free := s.free + 2 }

/-- The reserved-path `WEIGH_IN` is served: its reply is made (R192, R219). -/
def weighServe (s : State) : State :=
  match s.cmd.weigh with
  | none => s
  | some p =>
    if !s.cmd.ready || s.unposted.any Reply.w then s else
    s.weighed.hold { src := .path p, op := 2, tag := 127, w := true, gen8 := s.cmd.gen.toNat % 256, frees := false
                     body := s.weighSummary (.path p) }

end Sys2Proof.Machine
end

