-- ==== Sys2Proof/Machine/CmdProc.lean ====
section
/-! DEFINITION. The Command Processor: intake, order, checks, commit, the commands NOP, ABORT and WEIGH_IN, boot images and
restarts (R90, R91, R210 to R245, R663, R670). -/
namespace Sys2Proof.Machine

/-! ## NOP, ABORT, LOOPBACK (R241, R242, R663) -/

/-- `NOP`, checks of the packet alone (R241). -/
def badNop (x : Bool) (p : List Word) : Option Nat :=
  if x then (if p = [] || 62 < p.length then some 0 else if fieldOf (p.getD 0 0) 31 16 ≠ 0 then some 1 else none)
  else if p.length ≠ 1 then some 0 else none

/-- `ABORT`, checks of the packet alone; its own tag is no target (R233, R242). -/
def badAbort (tag : BitVec 7) (x : Bool) (p : List Word) : Option Nat :=
  if p.length ≠ 1 then some 0
  else if fieldOf (p.getD 0 0) 31 (if x then 16 else 7) ≠ 0 || fieldOf (p.getD 0 0) 6 0 = tag.toNat then some 1 else none

/-- `LOOPBACK` at its commit point, in TEST (R663). -/
def commitLoopback (p : List Word) (s : State) : State × Res :=
  let w := p.getD 0 0
  let t := fieldOf w 2 0
  let pt := fieldOf w 4 3
  let s1 := (if 2 ≤ t then s.onObl (t - 2) fun p => { p with loop := [] } else s.onPort t fun np => { np with echo := [] })
  let s1 := { s1 with tst := { s1.tst with points := listMod s1.tst.points t fun _ => pt } }
  (s1, .ok [if t < 2 then s1.npStatus t else s1.oblPortStatus (t - 2)] (decide (s1.tst.points ≠ s.tst.points)))

/-! ## The opcode index (R224 checks 4 and 5, R239) -/

/-- Checks of the packet alone, of the stream, clock and time commands: none for a packet that passes. -/
def badLow (op : Nat) (tag : BitVec 7) (x : Bool) (p : List Word) : Option Nat :=
  match op with
  | 0x01 => badNop x p | 0x02 => badWeighIn x p | 0x03 => badAbort tag x p
  | 0x04 => badModeSet x p | 0x05 => badPowerRequest x p
  | 0x10 => badSrxDefine x p | 0x11 => badSrxEnable x p | 0x12 => badSrxDisable x p | 0x13 => badSrxQuery x p
  | 0x14 => badSrxRetarget x p
  | 0x18 => badStxDefine x p | 0x19 => badStxEnable x p | 0x1A => badStxDisable x p | 0x1B => badStxQuery x p
  | 0x1C => badStxTemplate x p
  | 0x20 => badBusDefine x p | 0x21 => badMemberSet x p | 0x22 => badListenSet x p | 0x23 => badXpointSet x p
  | 0x24 => badGainSet x p | 0x25 => badGateConfig x p | 0x26 => badDuckSet x p | 0x27 => badDrvBankSwap x p
  | 0x28 => badDrvQuery x p
  | _ => some 0

/-- Checks of the packet alone, of the other commands; an opcode that R239 does not list fails check 4. -/
def badHigh (op : Nat) (x : Bool) (p : List Word) : Option Nat :=
  match op with
  | 0x30 => badRefConfig x p | 0x31 => badRefRank x p | 0x32 => badHoldoverConfig x p | 0x33 => badAlignOutputs x p
  | 0x34 => badMckQuery x p
  | 0x38 => badPtpConfig x p | 0x39 => badPtpPort x p | 0x3A => badTimeSet x p
  | 0x3B => badStartlistLoad x p | 0x3C => badStartlistArm x p | 0x3D => badStartlistCancel x p
  | 0x40 => badRudLoad x p | 0x41 => badRudSwap x p | 0x42 => badFlowSet x p
  | 0x48 => badQueueConfig x p | 0x49 => badQueueQuery x p
  | 0x50 => badPortConfig x p | 0x51 => badPortRestart p | 0x52 => badPortStats x p
  | 0x58 => badTdmConfig x p | 0x59 => badTdmRestart x p
  | 0x60 => badRalConfig x p | 0x61 => badRalQuery x p
  | 0x68 => badCascadeConfig x p | 0x69 => badCascadeStatus x p
  | 0x70 => badPatchLoad x p | 0x71 => badPatchSwap x p
  | 0x78 => badBankRepair x p | 0x79 => badBankStatus x p
  | 0xE0 => badLoopback p | 0xE1 => badBist x p | 0xE2 => badFaultInject x p
  | _ => some 0

/-- Checks 4 and 5 of R224: the number of the word at fault, 0 for the packet as a whole. -/
def badPacket (op : Nat) (tag : BitVec 7) (x : Bool) (p : List Word) : Option Nat :=
  if op < 0x30 then badLow op tag x p else badHigh op x p

/-! ## Mode and role (R224 checks 6 and 7, R226) -/

/-- The mode refuses the opcode (R226). -/
def modeRefuses (op : Nat) (m : Mode) : Bool :=
  if op = 0x11 || op = 0x19 then has [.boot, .quiet, .safe] m
  else if op = 0x3C then decide (m = .safe)
  else decide (0xE0 ≤ op) && decide (m ≠ .test)

/-! ## The commit (R224 checks 8 to 11, R231) -/

/-- The commit of a stream, Drive or reserved-range command. -/
def commitLow (op : Nat) (x : Bool) (p : List Word) (s : State) : State × Res :=
  match op with
  | 0x10 => commitSrxDefine x p s | 0x11 => commitSrxEnable x p s | 0x12 => commitSrxDisable x p s
  | 0x13 => commitSrxQuery x p s | 0x14 => commitSrxRetarget x p s
  | 0x18 => commitStxDefine x p s | 0x19 => commitStxEnable x p s | 0x1A => commitStxDisable x p s
  | 0x1B => commitStxQuery x p s | 0x1C => commitStxTemplate x p s
  | 0x20 => commitBusDefine x p s | 0x21 => commitMemberSet x p s | 0x22 => commitListenSet x p s
  | 0x23 => commitXpointSet x p s | 0x24 => commitGainSet x p s | 0x25 => commitGateConfig x p s
  | 0x26 => commitDuckSet x p s | 0x27 => commitDrvBankSwap x p s | _ => commitDrvQuery x p s

/-- The commit of a command of the clocks, of time, of the Rudder or of a queue; `ord` is its intake number. -/
def commitMid (ord op : Nat) (x : Bool) (p : List Word) (s : State) : State × Res :=
  match op with
  | 0x30 => commitRefConfig ord x p s | 0x31 => commitRefRank x p s | 0x32 => commitHoldoverConfig x p s
  | 0x33 => commitAlignOutputs x p s | 0x34 => commitMckQuery x p s
  | 0x38 => commitPtpConfig x p s | 0x39 => commitPtpPort x p s | 0x3A => commitTimeSet x p s
  | 0x3B => commitStartlistLoad x p s | 0x3C => commitStartlistArm x p s | 0x3D => commitStartlistCancel x p s
  | 0x40 => commitRudLoad x p s | 0x41 => commitRudSwap x p s | 0x42 => commitFlowSet x p s
  | 0x48 => commitQueueConfig x p s | _ => commitQueueQuery x p s

/-- The commit of the other commands. -/
def commitHigh (op : Nat) (tag : BitVec 7) (x : Bool) (p : List Word) (s : State) : State × Res :=
  match op with
  | 0x50 => commitPortConfig x p s | 0x51 => commitPortRestart p s | 0x52 => commitPortStats x p s
  | 0x58 => commitTdmConfig x p s | 0x59 => commitTdmRestart x p s
  | 0x60 => commitRalConfig x p s | 0x61 => commitRalQuery x p s
  | 0x68 => commitCascadeConfig tag x p s | 0x69 => commitCascadeStatus x p s
  | 0x70 => commitPatchLoad x p s | 0x71 => commitPatchSwap x p s
  | 0x78 => commitBankRepair x p s | 0x79 => commitBankStatus x p s
  | 0xE0 => commitLoopback p s | 0xE1 => commitBist p s | _ => commitFaultInject x p s

/-- Checks 6 to 11 and the commit of a command other than NOP, WEIGH_IN, ABORT, MODE_SET and POWER_REQUEST (R224). -/
def commitOp (ord op : Nat) (tag : BitVec 7) (x : Bool) (p : List Word) (s : State) : State × Res :=
  if modeRefuses op s.mode then (s, .fail .wrongMode)
  else if op = 0x68 && cascadeNotCox p s then (s, .fail .notCox)
  else if op = 0x69 && x && decide (s.role ≠ 1) then (s, .fail .notCox)
  else if op < 0x30 then commitLow op x p s
  else if op < 0x50 then commitMid ord op x p s
  else commitHigh op tag x p s

/-! ## Objects and order (R228, R229) -/

/-- Receive streams that hold one of the IDs, and transmit streams that hold one of the sinks. -/
def rxHolders (s : State) (m : List (Option Nat)) : List Obj :=
  (s.srx.streams.filter fun e => e.2.map.any fun i => i.isSome && has m i).map fun e => .rx e.1
def txHolders (s : State) (m : List (Option Nat)) : List Obj :=
  (s.stx.streams.filter fun e => e.2.map.any fun i => i.isSome && has m i).map fun e => .tx e.1

/-- The objects of a stream command (R480, R515). -/
def streamObjs (s : State) (op : Nat) (x : Bool) (p : List Word) : List Obj :=
  let w1 := p.getD 0 0
  let n := fieldOf w1 8 0
  let lo := fieldOf (p.getD 1 0) 11 0
  match op with
  | 0x10 => .rx n :: rxHolders s (bindings (bitOf ((srxWords x p).getD 6 0) 5) lo (fieldOf w1 22 16) (p.drop 9))
  | 0x11 => (namedStreams x p).map Obj.rx
  | 0x12 => (namedStreams x p).map Obj.rx
  | 0x13 => [.rx n]
  | 0x14 => .rx n :: rxHolders s (bindings (x && bitOf w1 9) lo (s.rxStream n).map.length (p.drop 3))
  | 0x18 => .tx n :: txHolders s (newTxStream s x p n).map
  | 0x19 => (namedStreams x p).map Obj.tx
  | 0x1A => (namedStreams x p).map Obj.tx
  | 0x1B => [.tx n]
  | 0x1C => (s.stx.streams.filter fun e => e.2.names n).map fun e => .tx e.1
  | _ => []

/-- The listener mix that a feed names. -/
def feedObjs (f : Nat) : List Obj := if f / 2 ^ 14 = 1 then [.listener (f % 2048)] else []

/-- The buses, listener mixes and sinks that a Drive command names (R561). -/
def driveNames (op : Nat) (x : Bool) (p : List Word) : List Obj :=
  let w := pw p 1
  match op with
  | 0x20 => [.bus (fieldOf w 8 0)]
  | 0x21 => [.bus (fieldOf w 8 0)]
  | 0x22 => .listener (fieldOf w 10 0) :: (List.range (fieldOf w 20 16)).map fun i => .bus (fieldOf (pw p (3 + i)) 8 0)
  | 0x23 =>
    if bitOf w 0 then (p.drop 1).flatMap fun v => .sink (fieldOf v 11 0) :: feedObjs (fieldOf v 27 12)
    else [.listener (fieldOf w 13 3)]
  | 0x24 => (List.range (fieldOf w 12 8)).flatMap fun i =>
      let (k, o, it) := gainItem (pw p (2 * i + 2))
      if k = 0 then [Obj.bus o] else if k = 1 then [.listener o, .bus it] else [.listener o]
  | 0x25 => [.bus (fieldOf w 8 0)]
  | 0x26 => .bus (fieldOf w 8 0) :: (duckTargets p (fieldOf w 14 10)).map Obj.bus
  | 0x28 =>
    if !x then []
    else match fieldOf w 2 0 with
      | 1 => [.bus (fieldOf w 24 16)]
      | 2 => [.listener (fieldOf w 26 16)]
      | 3 => [.sink (fieldOf w 27 16)]
      | 4 => [.bus (fieldOf w 24 16)]
      | _ => []
  | _ => []

/-- The command writes or swaps the Drive banks: BANK = 1, or `DRV_BANK_SWAP` (R561). -/
def drivesBanks (op : Nat) (x : Bool) (p : List Word) : Bool :=
  let w := pw p 1
  match op with
  | 0x20 => bankBit x w 11 | 0x21 => bankBit x w 10 | 0x22 => bankBit x w 14 | 0x23 => bankBit x w 2
  | 0x24 => bankBit x w 13 | 0x25 => bankBit x w 12 | 0x26 => bankBit x w 9 | 0x27 => true
  | 0x28 => x && bitOf w 3
  | _ => false

/-- The six references. -/
def allRefs : List Obj := (List.range 6).map Obj.ref

/-- The objects of the other commands (R343, R380, R381, R420, R538, R596, R632, R655, R662). -/
def unitObjs (op : Nat) (x : Bool) (p : List Word) : List Obj :=
  let w := p.getD 0 0
  match op with
  | 0x30 => if fieldOf w 2 0 = 6 then allRefs else [.ref (fieldOf w 2 0)]
  | 0x31 => allRefs | 0x32 => allRefs | 0x33 => allRefs
  | 0x38 => [.ref 0, .ref 1] | 0x39 => [.ref 0, .ref 1] | 0x3A => [.ref 0, .ref 1]
  | 0x3B => [.startList] | 0x3C => [.startList] | 0x3D => [.startList]
  | 0x40 => [.rudder] | 0x41 => [.rudder] | 0x42 => [.rudder]
  | 0x48 => [.queue (fieldOf w 7 0)] | 0x49 => [.queue (fieldOf w 7 0)]
  | 0x50 => [.port (fieldOf w 0 0)] | 0x51 => [.port (fieldOf w 0 0)] | 0x52 => [.port (fieldOf w 0 0)]
  | 0x58 => [.tdm (fieldOf w 3 0)] | 0x59 => [.tdm (fieldOf w 3 0)]
  | 0x60 => [.rx (fieldOf w 8 0)]
  | 0x68 => if fieldOf w 1 0 = 1 then [.seat (fieldOf w 4 2)] else [.obien]
  | 0x70 => [.patch] | 0x71 => [.patch]
  | 0x78 => if x && bitOf w 6 then (List.range 40).map Obj.bank else [.bank (fieldOf w 5 0)]
  | _ => []

/-- The objects on which a command acts (R229). -/
def objects (s : State) (f : Flight) : List Obj :=
  if f.op < 0x20 then streamObjs s f.op f.x f.params
  else if f.op < 0x30 then
    driveNames f.op f.x f.params ++ (if drivesBanks f.op f.x f.params then [.drive] else [])
  else unitObjs f.op f.x f.params

/-- The command waits under R229: an earlier one that shares an object has not passed its commit point. -/
def objHeld (s : State) (f : Flight) : Bool :=
  let os := objects s f
  os ≠ [] && s.cmd.flights.any fun g => decide (g.ord < f.ord) && decide (g.phase ≠ .committed)
    && (objects s g).any fun o => has os o

/-- The command in the pending slot of R103, or in progress. -/
def withPmu (s : State) (f : Flight) : Bool :=
  (match s.pmu.slot with | some r => decide (r.ord = f.ord) | none => false)
    || (match s.pmu.req with | some r => decide (r.ord = f.ord) | none => false)

/-- A waiting command can start (R228, R229, R561). -/
def mayStart (s : State) (f : Flight) : Bool :=
  decide (f.phase = .waiting) && !(withPmu s f) && !(sHeld s f) && !(objHeld s f)
    && !(decide (0x20 ≤ f.op) && decide (f.op < 0x27) && drivesBanks f.op f.x f.params && s.drv.swaps ≠ [])

/-! ## Start and commit (R231 to R233) -/

/-- Put the flight `f` in the place of the one with its intake number. -/
def State.putFlight (s : State) (f : Flight) : State :=
  { s with cmd := { s.cmd with flights := s.cmd.flights.map fun g => if g.ord = f.ord then f else g } }

/-- Boundaries that a committed command awaits (R32, R425, R632). -/
def dueOf (s : State) (fin : Fin) : Nat :=
  match fin with
  | .align => s.alignWait + 1
  | .lanes => s.laneWait
  | _ => s.boundaryWait

/-- The configuration generation counter advances where a stored setting changed (R232). -/
def genIf (g : Bool) (s : State) : State := if g then s.genUp else s

/-- What follows a commit: the reply, or what completes the command (R213, R231, R377). -/
def applyRes (f : Flight) (due : Nat) (r : Res) (s : State) : State :=
  match r with
  | .fail st w body => s.answer f st w body
  | .ok body g => (genIf g s).answer f .ok 0 body
  | .start fin => s.putFlight { f with phase := .started, fin := fin }
  | .later fin body g =>
    let s1 := (genIf g s).putFlight { f with phase := .committed, fin := fin, body := body, due := due }
    let s2 := match f.src with
      | .starter e => s1.slOutcome e .ok
      | _ => s1
    if fin = .patchSwap then s2.cmdRestart 5 else s2

/-- A command of a unit reaches its commit point (R224). -/
def commitUnit (f : Flight) (s : State) : State :=
  let (s1, r) := commitOp f.ord f.op f.tag f.x f.params s
  applyRes f (match r with | .later fin _ _ => dueOf s fin | _ => 0) r s1

/-- The body of an `ABORT` of tag `t` (R242). -/
def State.abortBody (s : State) (t : Nat) : List Word := [w32 (t + 2 ^ 8 * s.tagOp t + 2 ^ 16 * s.tagState t)]

/-- The command `g` is aborted before its commit point (R233). A `NOP` or `WEIGH_IN` that waits under S is such a target and
is answered ABORTED by R233, although R241 lists that status for the expert `NOP` alone and R243 not at all (DESIGN
CHOICE). -/
def abortFlight (g : Flight) (s : State) : State :=
  if g.op = 4 || g.op = 5 then
    if withPmu s g then abortRequest g s else s.answer g .aborted 0 (powerBody s.mode s.mode 0 0x22 0)
  else s.answer g .aborted 0 []

/-- `ABORT` commits at its start, so one that waits under S is no target of another (R233, R242). -/
def commitAbort (f : Flight) (s : State) : State :=
  let w := f.params.getD 0 0
  let t := fieldOf w 6 0
  let body := s.abortBody t
  match s.tagFlight t with
  | none => s.answer f .nothingToAbort 0 body
  | some g =>
    if g.phase = .committed || g.op = 3 || (f.x && bitOf w 7 && decide (g.seq.toNat ≠ fieldOf w 15 8)) then
      s.answer f .nothingToAbort 0 body
    else (abortFlight g s).answer f .ok 0 body

/-- `NOP` starts: the basic form commits at once, the expert form after its delay (R231, R241). -/
def startNop (f : Flight) (s : State) : State :=
  if f.x then s.putFlight { f with phase := .started, fin := .nopDelay } else s.answer f .ok 0 [f.params.getD 0 0]

/-- `WEIGH_IN` at its snapshot: its own tag has started (R243). -/
def startWeigh (f : Flight) (s : State) : State :=
  let s1 := s.putFlight f
  s1.weighed.answer f .ok 0 (s1.weighBody f.src f.x f.params)

/-- A command starts, and commits where it can (R228 to R231). -/
def startFlight (f0 : Flight) (s : State) : State :=
  let f := { f0 with phase := .started, startAt := s.ntu.course }
  match f.op with
  | 0x01 => startNop f s
  | 0x02 => startWeigh f s
  | 0x03 => commitAbort f s
  | 0x04 => requestArrives (requestOf f) s
  | 0x05 => requestArrives (requestOf f) s
  | _ => commitUnit f (s.putFlight f)

/-! ## Intake (R210 to R227) -/

/-- A packet is rejected at checks 1 to 5; `frees` where it had taken its tag (R214, R218). The reply to a rejected S command
is posted after those of the commands taken in before it on its path (R228). -/
def rejectFlight (f : Flight) (st : Status) (word : Nat) (frees : Bool) (s : State) : State :=
  if takesTag f.src then
    s.hold { src := f.src, op := f.op, tag := f.tag, status := st, seq := f.seq, c := f.c, word := word,
             gen8 := s.cmd.gen.toNat % 256, frees := frees, behind := if f.s then some f.ord else none,
             body := if f.op = 4 || f.op = 5 then powerBody s.mode s.mode 0 0 0 else [] }
  else s.answer f st word []

/-- The words of a packet (R210). -/
def pktLen (k : Pkt) : Nat := 1 + k.params.length + b2n k.c

/-- The flight of a packet. -/
def flightOf (src : CmdSrc) (op : Nat) (k : Pkt) (s : State) : Flight :=
  { ord := s.cmd.nextOrd, src := src, op := op, tag := k.tag, x := k.x, s := k.s && takesTag src, c := k.c, seq := k.seq
    params := k.params }

/-- A packet that passes checks 1 to 5 is taken in, and starts unless it waits (R227 to R229). -/
def intake (f : Flight) (s : State) : State :=
  let s1 := { s with cmd := { s.cmd with flights := s.cmd.flights ++ [f], nextOrd := f.ord + 1 } }
  if mayStart s1 f then startFlight f s1 else s1

/-- Intake of a packet with opcode `op` (R211, R212, R224 checks 1 to 5). -/
def takeIn (src : CmdSrc) (op : Nat) (k : Pkt) (s : State) : State :=
  let f := flightOf src op k s
  if op = 0 then s.flag Reg.CMD_ERR 0
  else if pktLen k < 2 || 64 < pktLen k then rejectFlight f .badParam 0 false s
  else if k.c && !k.checkOk then rejectFlight f .checkFail 0 false s
  else if takesTag src && s.tagBusy k.tag.toNat then rejectFlight f .tagBusy 0 false s
  else match badPacket op k.tag k.x k.params with
    | some w => rejectFlight f .badParam w true s
    | none => intake f s

/-- The Command Processor takes commands in (R226). -/
def State.takes (s : State) : Bool := s.cmd.ready && clocked s.mode

/-- A Dadin command arrives whole on its path (R226, R227). -/
def arrive (op : Nat) (k : Pkt) (s : State) : State := if s.takes then takeIn (.path k.path) op k s else s

/-- The opcode and the packet that words spell, from their header word on (R210, R215). -/
def readPacket (path : Path) (ws : List Word) : Nat × Pkt :=
  let h := ws.getD 0 0
  let n := fieldOf h 13 8
  let c := bitOf h 14
  let bad := packetLen h < 2 || 64 < packetLen h
  let k : Pkt := {
    path := path, tag := BitVec.ofNat 7 (fieldOf h 23 17), x := bitOf h 16, s := bitOf h 15, c := c
    seq := BitVec.ofNat 8 (fieldOf h 7 0)
    params := if bad then List.replicate n 0 else (ws.drop 1).take n
    checkOk := !c || decide (ws.getD (n + 1) 0 = checkWord (ws.take (n + 1))) }
  (fieldOf h 31 24, k)

/-- Words that form one packet are taken in (R210 to R212). -/
def takeWords (src : CmdSrc) (path : Path) (ws : List Word) (s : State) : State :=
  let (op, k) := readPacket path ws
  takeIn src op k s

/-! ## Waiting commands, delays and restarts -/

/-- A started command that awaits more than a delay tries its commit again (R231). -/
def retryable (f : Flight) : Bool :=
  decide (f.phase = .started) && decide (f.op ≠ 4) && decide (f.op ≠ 5) && decide (f.fin ≠ .nopDelay)

/-- The commit of a started command would no longer wait. -/
def nowReady (s : State) (f : Flight) : Bool :=
  retryable f && (match (commitOp f.ord f.op f.tag f.x f.params s).2 with | .start _ => false | _ => true)

/-- COMMAND_START_AFTER_WAIT: the first command whose wait is over starts and proceeds to its commit point
(R228, R229, R376). -/
def startWaiting (s : State) : State :=
  match s.cmd.flights.find? fun f => mayStart s f || nowReady s f with
  | none => s
  | some f => if f.phase = .started then commitUnit f s else startFlight f s

/-- The end of the delay of the expert `NOP` that ends first (R231, R241). -/
def nopEnd (s : State) : State :=
  let ends := fun (f : Flight) => f.startAt + 1000 * fieldOf (f.params.getD 0 0) 15 0
  let l := s.cmd.flights.filter fun f => decide (f.fin = .nopDelay) && decide (f.phase = .started)
  match l.find? fun f => l.all fun g => decide (ends f ≤ ends g) with
  | some f => s.answer f .ok 0 (f.params.drop 1)
  | none => s

/-- NOP_DELAY_END: the delay of an expert NOP runs out (R231). -/
def execNopDelayEnd (s : State) : Host.Outcome State Fault Refusal := .next (settle (nopEnd (fresh s)))

/-- The packets of the command queue are taken in while the Command Processor takes commands (R191, R226, R227). -/
def drainQueue : Nat → State → State
  | 0, s => s
  | n + 1, s =>
    match s.hif.cmdQueue with
    | [] => s
    | (p, ws) :: rest =>
      if !s.takes then s else
      let s1 := { s with hif := { s.hif with cmdQueue := rest } }.qAdvance 28 (4 * ws.length)
      drainQueue n (takeWords (.path p) p ws (s1.flag Reg.HIF_EVENT 2))

/-- Whole packets from the Cox are taken in while the Command Processor takes commands (R226, R622). -/
def drainTunnel : Nat → State → State
  | 0, s => s
  | n + 1, s =>
    match s.cmd.tunnelIn with
    | [] => s
    | (token, ws) :: rest =>
      if !s.takes then s else
      drainTunnel n (takeWords (.tunnel token) .host ws { s with cmd := { s.cmd with tunnelIn := rest } })

/-- CMD_READY is set: the reserved path, the command queue and the tunnel are served (R172, R191, R192, R236). -/
def readyNow (s : State) : State :=
  let s1 := weighServe (makeReady s)
  let s2 := drainQueue s1.hif.cmdQueue.length s1
  drainTunnel s2.cmd.tunnelIn.length s2

/-- CMD_RESTART_COMPLETE: a restart that keeps power completes (R236, R670). -/
def execCmdRestartComplete (s : State) : Host.Outcome State Fault Refusal :=
  let s0 := fresh s
  .next (settle (if s0.cmd.restarting && clocked s0.mode then readyNow s0 else s0))

/-- CMD_BOOT_READY: the Command Processor has started ROM 3.1 with no boot image (R88). -/
def execCmdBootReady (s : State) : Host.Outcome State Fault Refusal :=
  let s0 := fresh s
  .next (settle (if clocked s0.mode && s0.hif.up && !s0.cmd.ready && !s0.cmd.restarting && !s0.bootsFromFlash then
    readyNow s0 else s0))

/-! ## Boot flash images (R89 to R91, R654) -/

/-- The packets of a command area from word `i` on, with the word index of each header; the word index at fault otherwise
(R90, R641). `top` is the word before which every packet ends, and `chk` the word of the check word. -/
def imagePackets (ws : List Word) (chk : Nat) (patch : Nat) : Nat → Nat → Except Nat (List (Nat × List Word))
  | 0, _ => .error chk
  | n + 1, i =>
    if chk ≤ i then .error chk else
    let h := ws.getD i 0
    let l := packetLen h
    if h = 0 then .ok []
    else if fieldOf h 31 24 = 0 then
      if patch ≠ 0 && patch < i + 1 then .error i else
      match imagePackets ws chk patch n (i + 1) with
      | .ok r => .ok ((i, [h]) :: r)
      | .error e => .error e
    else if l < 2 || 64 < l || chk < i + l || (patch ≠ 0 && patch < i + l) then .error i
    else match imagePackets ws chk patch n (i + l) with
      | .ok r => .ok ((i, (ws.drop i).take l) :: r)
      | .error e => .error e

/-- The checks of R90 on an image, in their order: the reason and word index of BOOT_IMAGE, or the packets (R90, R641). -/
def imageCheck (ws : List Word) : Except (Nat × Nat) (List (Nat × List Word)) :=
  let len := (ws.getD 2 0).toNat
  if ws.getD 0 0 ≠ 0x484C4E49 then .error (1, 0)
  else if ws.getD 1 0 ≠ 1 then .error (2, 1)
  else if len < 8 || 262144 < len || ws.length < len then .error (3, 2)
  else if ws.getD (len - 1) 0 ≠ checkWord (ws.take (len - 1)) then .error (4, len - 1)
  else match imagePackets ws (len - 1) (ws.getD 4 0).toNat len (ws.getD 3 0).toNat with
    | .ok l => .ok l
    | .error i => .error (7, i)

/-- An image failure: BOOT_IMAGE is raised under the policy of the strap (R91, R641). -/
def imageFails (reason word : Nat) (s : State) : State :=
  let c := { s.cmd with imageFail := true, image := [], imageAt := none, imageStop := false }
  let s1 := { s with cmd := c }
  let detail := w32 (word % 2 ^ 24 + 2 ^ 24 * reason)
  if s.pmu.straps.bootSrc = 1 then
    let s2 := s1.raiseAs 5 12 detail false polSafe
    if s2.mode = .safe then readyNow s2 else s2
  else readyNow (s1.raiseAs 5 12 detail false polFlag)

/-- The packets of an image run one after another; the first reply other than OK stops it (R90, R220). -/
def imageRun : Nat → State → State
  | 0, s => s
  | n + 1, s =>
    match s.cmd.imageAt with
    | none => s
    | some at_ =>
      if s.cmd.imageStop then imageFails 6 at_ s
      else if s.cmd.flights.any fun f => decide (f.src = .image) then s
      else match s.cmd.image with
        | [] => readyNow { s with cmd := { s.cmd with imageAt := none } }
        | (i, ws) :: rest =>
          imageRun n (takeWords .image .host ws { s with cmd := { s.cmd with image := rest, imageAt := some i } })

/-- Go on with the image, where one is being executed. -/
def imageGoOn (s : State) : State := imageRun (2 * s.cmd.image.length + 3) s

/-- The patch of an image is written into the inactive bank, verified, and made active (R654). -/
def imagePatch (ws : List Word) (s : State) : State × Bool :=
  let o := (ws.getD 4 0).toNat
  if o = 0 then (s, true) else
  let pw := (ws.drop o).take (ws.getD 5 0).toNat
  let r := patchVerify s.keyHash pw
  let s1 := s.onInactive fun _ => { words := pw, staged := decide (r = 1) }
  let s2 := { s1 with patch := { s1.patch with lastResult := r } }
  if r = 1 then ({ s2.patchChange false with patch := { (s2.patchChange false).patch with busy := false } }, true) else (s2, false)

/-- BOOT_IMAGE_LOAD: the boot flash image, as its words are read from the flash (R88 to R91). -/
def imageLoad (ws : List Word) (s : State) : State :=
  match imageCheck ws with
  | .error (reason, word) => imageFails reason word s
  | .ok packets =>
    let (s1, ok) := imagePatch ws s
    if !ok then imageFails 5 (ws.getD 4 0).toNat s1 else
    let c := { s1.cmd with image := packets, imageAt := some (ws.getD 3 0).toNat, imageStop := false, imageLoaded := true }
    imageGoOn { s1 with cmd := c }

/-- BOOT_IMAGE_LOAD (R90). -/
def execBootImageLoad (image : List Word) (s : State) : Host.Outcome State Fault Refusal :=
  let s0 := fresh s
  let due := s0.bootsFromFlash && s0.hif.up && !s0.cmd.ready && !s0.cmd.restarting && !s0.cmd.imageFail
    && s0.cmd.imageAt.isNone && clocked s0.mode
  .next (settle (if due then imageLoad image s0 else s0))

/-- COMMAND_START_AFTER_WAIT (R228). -/
def execCommandStartAfterWait (s : State) : Host.Outcome State Fault Refusal :=
  let s0 := fresh s
  let s1 := imageGoOn (weighServe (startWaiting s0))
  let s2 := drainQueue s1.hif.cmdQueue.length s1
  .next (settle (if clocked s0.mode && !s0.cmd.restarting then drainTunnel s2.cmd.tunnelIn.length s2 else s0))

end Sys2Proof.Machine
end

