-- ==== Sys2Proof/Machine/Transport.lean ====
section
/-! DEFINITION. The command transport: fetching from the command ring, the command and reply ports, the posting of replies,
and the reserved-path WEIGH_IN (R180 to R183, R189 to R192, R212 to R219, R250). -/
namespace Sys2Proof.Machine

/-! ## Words of a reply (R213 to R216) -/

/-- The words of a reply: its header, body and check word (R213, R215). -/
def replyWords (r : Reply) : List Word :=
  let n := 1 + r.body.length + b2n r.c
  let h0 := w32 (n + 2 ^ 8 * statusCode r.status + 2 ^ 16 * b2n r.w + 2 ^ 17 * r.tag.toNat + 2 ^ 24 * r.op)
  let h1 := w32 (r.seq.toNat + 2 ^ 8 * b2n r.c + 2 ^ 16 * r.word + 2 ^ 24 * r.gen8)
  let ws := h0 :: h1 :: r.body
  if r.c then ws ++ [checkWord ws] else ws

/-- CMD_LAST_FAIL for a reply; PATH is 0 for a reply that goes back over the Obien link (R250). -/
def lastFailWord (r : Reply) : Word :=
  w32 (r.op + 2 ^ 8 * r.tag.toNat + (if r.src = .path .mgmt then 2 ^ 15 else 0) + 2 ^ 16 * statusCode r.status
    + 2 ^ 24 * r.word + 2 ^ 30 * b2n r.w)

/-! ## The register block answers (R59, R88, R187) -/

/-- The register space outside the always-on island answers: HIF is up and CLK_CTL runs (R88, R187). -/
def State.coreAnswers (s : State) : Bool := s.hif.up && clocked s.mode

/-- An access error of GLB_ERR, captured by GLB_ERR_ADDR (R161). -/
def State.busError (s : State) (addr : Nat) (p : Path) (bit : Nat) : State :=
  if clocked s.mode then s.keyError addr p bit else s

/-! ## The command port (R182, R183, R191) -/

/-- Free words in the command queue (R191, R207). -/
def State.cqFree (s : State) : Nat := 1024 - (s.hif.cmdQueue.map fun e => e.2.length).sum

/-- The assembly buffer of a path. -/
def State.asm (s : State) (p : Path) : List Word := if p = .mgmt then s.hif.asmMgmt else s.hif.asmHost

/-- Put the assembly buffer of a path. -/
def State.setAsm (s : State) (p : Path) (ws : List Word) : State :=
  if p = .mgmt then { s with hif := { s.hif with asmMgmt := ws } } else { s with hif := { s.hif with asmHost := ws } }

/-- A whole packet enters the command queue, and is taken in where the Command Processor takes commands (R191, R226). -/
def enterQueue (p : Path) (ws : List Word) (s : State) : State :=
  let s1 := (s.setAsm p [])
  let s2 := { s1 with hif := { s1.hif with cmdQueue := s1.hif.cmdQueue ++ [(p, ws)] } }
  drainQueue s2.hif.cmdQueue.length s2

/-- The length of the packet that a header begins: a zero opcode or a bad length ends it at the header (R211, R212). -/
def portLen (h : Word) : Nat :=
  if fieldOf h 31 24 = 0 || packetLen h < 2 || 64 < packetLen h then 1 else packetLen h

/-- A word is written to the command port of a path that has one (R191, R212). -/
def commandPortWord (p : Path) (w : Word) (s : State) : State :=
  let ws := s.asm p ++ [w]
  let h := ws.headD 0
  if s.asm p = [] && decide (fieldOf w 31 24 = 0) then s.flag Reg.CMD_ERR 0
  else if s.cqFree < portLen h then (s.setAsm p []).flag Reg.HIF_ERR 3
  else if ws.length < portLen h then s.setAsm p ws
  else enterQueue p ws s

/-- A write to the command port: on the PCIe path the window is not used (R181, R182). -/
def commandPortWrite (p : Path) (w : Word) (s : State) : State :=
  if !s.coreAnswers then s
  else if p = .host && s.pcie then s.flag Reg.HIF_ERR 2
  else commandPortWord p w s

/-- COMMAND_PORT_WRITE (R191). -/
def execCommandPortWrite (path : Path) (w : Word) (s : State) : Host.Outcome State Fault Refusal :=
  .next (settle (commandPortWrite path w (fresh s)))

/-! ## The reply port (R182, R183) -/

/-- The reply words that can be read at the reply port of a path. -/
def State.replyPort (s : State) (p : Path) : List Word := if p = .mgmt then s.hif.rpMgmt else s.hif.rpHost

/-- The words already read of the reply at a path's reply port. -/
def State.replyRead (s : State) (p : Path) : List Word := if p = .mgmt then s.hif.rpMgmtRead else s.hif.rpHostRead

/-- Put the reply words of a path's reply port; those missing at the front have been read, and a reply read in full leaves
its queue (R183, R278). -/
def State.setReplyPort (s : State) (p : Path) (ws : List Word) : State :=
  let old := s.replyPort p
  let part := s.replyRead p ++ old.take (old.length - ws.length)
  let whole := part.headD 0 |> fun h => decide (part ≠ []) && decide (fieldOf h 7 0 + 1 ≤ part.length)
  let s1 := if whole then s.qAdvance (if p = .mgmt then 30 else 29) (4 + 4 * part.length) else s
  let keep := if whole then [] else part
  if p = .mgmt then { s1 with hif := { s1.hif with rpMgmt := ws, rpMgmtRead := keep } }
  else { s1 with hif := { s1.hif with rpHost := ws, rpHostRead := keep } }

/-- A read of the reply port: it removes and returns the next reply word, or returns zero (R181, R183). -/
def replyPortRead (p : Path) (s : State) : Word × State :=
  if !s.coreAnswers then (0, s)
  else if p = .host && s.pcie then (0, s.flag Reg.HIF_ERR 2)
  else match s.replyPort p with
    | [] => (0, s)
    | w :: ws => (w, s.setReplyPort p ws)

/-- What an access drives onto its path. -/
def State.driveOut (s : State) (ws : List Word) : State := { s with bus := { s.bus with rdata := ws, ack := true } }

/-- REPLY_PORT_READ (R183). -/
def execReplyPortRead (path : Path) (s : State) : Host.Outcome State Fault Refusal :=
  let r := replyPortRead path (fresh s)
  .next (settle (r.2.driveOut [r.1]))

/-! ## Posting (R190, R217, R236, R250) -/

/-- The reply waits for those of the commands taken in before its own on the same path (R228). -/
def State.replyBehind (s : State) (r : Reply) : Bool :=
  match r.behind with
  | none => false
  | some n =>
    (s.cmd.flights.any fun f => samePath f.src r.src && decide (f.ord < n))
      || s.cmd.held.any fun q => samePath q.src r.src && (match q.ord with | some m => decide (m < n) | none => false)

/-- A held reply can be posted now (R180, R190, R228, R623). R217 defines posting for the three local paths alone: a tunnelled
reply counts as posted when the Seat's Command Processor hands it to its Obien link, which keeps it while the Cox side is
down (DESIGN CHOICE). -/
def State.postable (s : State) (r : Reply) : Bool :=
  !(s.replyBehind r) && match r.src with
  | .path p => s.canPost p
  | .tunnel _ => clocked s.mode
  | _ => false

/-- The reply is written where its command came from: to the reply ring, to the reply port, or over the Obien link
(R189, R191, R622). -/
def deliverReply (r : Reply) (s : State) : State :=
  match r.src with
  | .path p =>
    if p = .host && s.pcie then
      let n := 2 ^ s.regField Reg.HIF_Q_CFG 11 8
      { s with hif := { s.hif with rqWrite := replyWords r, rqSlot := s.hif.rqTail, rqTail := (s.hif.rqTail + 1) % n, vec1 := true } }
    else s.setReplyPort p (s.replyPort p ++ replyWords r)
  | .tunnel token => oblReply token (replyWords r) s
  | _ => s

/-- The reserved path is free again: the GO in the pending slot is served (R145, R219). -/
def weighPosted (r : Reply) (s : State) : State :=
  if r.w then weighServe { s with cmd := { s.cmd with weigh := s.cmd.weighNext, weighNext := none } } else s

/-- Post one reply: its tag is free, and REPLY and FAIL record it (R190, R204, R217, R248, R250). -/
def postReply (r : Reply) (rest : List Reply) (s : State) : State :=
  let s1 := (deliverReply r { s with cmd := { s.cmd with held := rest } }).flag Reg.HIF_EVENT 1
  let s2 := if r.status = .ok then s1
    else ({ s1 with cmd := { s1.cmd with lastFail := lastFailWord r } }).flag Reg.CMD_EVENT 2
  if r.frees && decide (r.op = 5) then powerPosted r.src r.tag s2 else weighPosted r s2

/-- The first reply that `p` holds of, and the others in their order. -/
def firstReply (p : Reply → Bool) : List Reply → Option (Reply × List Reply)
  | [] => none
  | r :: rs =>
    if p r then some (r, rs)
    else match firstReply p rs with
      | some (x, ys) => some (x, r :: ys)
      | none => none

/-- REPLY_POST: the first held reply whose path can take it is posted (R190, R230). -/
def execReplyPost (s : State) : Host.Outcome State Fault Refusal :=
  let s0 := fresh s
  .next (settle (match firstReply s0.postable s0.cmd.held with
    | some (r, rest) => postReply r rest s0
    | none => s0))

/-! ## The command ring (R189) -/

/-- The command ring holds a packet to fetch, and the endpoint can fetch it (R180, R189, R190). -/
def State.canFetch (s : State) : Bool :=
  s.takes && s.hif.up && s.dmaOn && s.bit Reg.HIF_Q_CFG 0 && decide (s.hif.cqHead ≠ s.regField Reg.HIF_CQ_TAIL 15 0)

/-- A slot of the command ring is fetched: HIF_CQ_HEAD advances and the packet is taken in (R189, R211, R227). -/
def fetchSlot (slot : List Word) (s : State) : State :=
  let n := 2 ^ s.regField Reg.HIF_Q_CFG 7 4
  let s1 := { s with hif := { s.hif with cqHead := (s.hif.cqHead + 1) % n, vec1 := true } }
  takeWords (.path .host) .host slot (s1.flag Reg.HIF_EVENT 2)

/-- COMMAND_FETCH: `slot` is what the slot at HIF_CQ_HEAD holds (R189). -/
def execCommandFetch (slot : List Word) (s : State) : Host.Outcome State Fault Refusal :=
  let s0 := fresh s
  .next (settle (if s0.canFetch then fetchSlot slot s0 else s0))

/-- VECTOR1_MESSAGE: the message that index advances have earned is sent, once the endpoint can send it or its vector is
masked: no advance goes unsignalled (R180, R201). -/
def execVector1Message (s : State) : Host.Outcome State Fault Refusal :=
  let s0 := fresh s
  .next (settle (if s0.hif.vec1 && (!s0.hif.msixEn || s0.vecMasked 1 || s0.dmaOn) then ({ s0 with hif := { s0.hif with vec1 := false } }).message 1 else s0))

/-! ## The reserved path (R145, R192, R219) -/

/-- A GO on HIF_WEIGH, written at address `addr`: it starts the reserved-path WEIGH_IN, takes the pending slot, or is
lost (R145, R192). -/
def weighGo (p : Path) (addr : Nat) (s : State) : State :=
  if s.cmd.weigh.isNone then weighServe { s with cmd := { s.cmd with weigh := some p } }
  else if s.cmd.weighNext.isNone then { s with cmd := { s.cmd with weighNext := some p } }
  else s.busError addr p 2

end Sys2Proof.Machine
end

