-- ==== Sys2Proof/Machine/Bus.lean ====
section
/-! DEFINITION. The register space: decoding an address, the field types, keyed writes, what each register reads as, what a
write of it does, and the command window and the aperture beside the unit windows (R134 to R175, R181, R182, R282 to
R284). -/
namespace Sys2Proof.Machine

/-! ## Addresses (R134, R135) -/

/-- The unit window, the view and the canonical address of an address with bit 19 = 0 (R135). -/
def busWindow (addr : Nat) : Nat := addr / 0x4000 % 16
def busView (addr : Nat) : Nat := addr / 0x1000 % 4
def busCanon (addr : Nat) : Nat := busWindow addr * 0x4000 + addr % 0x400 / 4 * 4

/-- The bits in the bytes that are enabled. -/
def beMask (be : BitVec 4) : Word :=
  w32 ((List.range 4).foldl (fun n i => n + if be.getLsbD i then 0xFF * 256 ^ i else 0) 0)

/-- The unit windows answer an access (R59, R88, R115, R187): the always-on registers of PMU on the management port at any
time, every other register where HIF is up and CLK_CTL runs. -/
def State.answers (s : State) (p : Path) (addr : Nat) : Bool :=
  s.coreAnswers || (decide (p = .mgmt) && s.pmu.vddAon && decide (busWindow addr = 1) && decide (busCanon addr < 0x4100))

/-! ## What a register reads as (R157, R164 to R175 and the unit chapters) -/

/-- The number of a register within an array that begins at `base`. -/
def arrIx (a base stride : Nat) : Nat := (a - base) / stride

/-- GLB (R165 to R175). CMD_RESTART shows a restart under R172, whose cause is 4 (R174, R235). -/
def State.readGlb (s : State) (a : Nat) : Word :=
  if a = Reg.GLB_ID then w32 (0x00B02048 + 2 ^ 24 * fieldOf (s.record 4) 1 0)
  else if a = Reg.GLB_ROM then w32 (0x00030100 + s.romPatch)
  else if a = Reg.GLB_STRAPS then
    w32 (b2n s.pmu.straps.hostSel + 2 * s.pmu.straps.bootSrc.toNat + 8 * s.pmu.straps.cascRole.toNat
      + 32 * s.pmu.straps.msAddr.toNat)
  else if a = Reg.GLB_IRQ_STATUS then s.irqStatus
  else if a = Reg.GLB_STATUS then w32 (b2n s.pmu.otpOpen + 2 * b2n (clocked s.mode) + 4 * b2n (s.cmd.restarting && decide (s.cmd.cause = 4)))
  else s.reg a

/-- PMU (R116 to R127, R667); the Umpire registers read as zero in MOORED and WATCH (R666). -/
def State.readPmu (s : State) (a : Nat) : Word :=
  if a = Reg.PMU_MODE then s.pmuMode
  else if a = Reg.PMU_HS then s.pmuHs
  else if a = Reg.PMU_STATUS then s.pmuStatus
  else if a < 0x4100 then s.reg a
  else if !(clocked s.mode) then 0
  else if a = Reg.PMU_UMP_STATUS then s.umpStatus
  else s.reg a

/-- HIF_STATUS (R203). -/
def State.hifStatus (s : State) : Word :=
  let h := s.hif
  w32 (b2n s.cmd.ready + 2 * b2n s.pmu.straps.hostSel + 4 * b2n h.linkUp + 8 * b2n (h.msixEn && !h.funcMask) + 16 * b2n h.bme
    + 32 * b2n h.d3hot + (if h.linkUp then 2 ^ 8 * h.width.toNat + 2 ^ 10 * h.speed.toNat else 0))

/-- The reply words that wait for a path: those at its reply port, and those of the replies held for it (R182, R190,
R207). -/
def State.replyWordsFor (s : State) (p : Path) : Nat :=
  (s.replyPort p).length + ((s.unposted.filter fun r => decide (r.src = .path p)).map fun r => (replyWords r).length).sum

/-- HIF_CMD_LEVEL as path `p` reads it (R207). -/
def State.cmdLevel (s : State) (p : Path) : Word := w32 (s.cqFree + 2 ^ 16 * satNat 8448 (s.replyWordsFor p))

/-- HIF (R203 to R209). -/
def State.readHif (s : State) (p : Path) (a : Nat) : Word :=
  if a = Reg.HIF_STATUS then s.hifStatus
  else if a = Reg.HIF_STROKE then stroke32 s.mck.stroke
  else if a = Reg.HIF_WEIGH then w32 (b2n s.cmd.weigh.isSome)
  else if a = Reg.HIF_CQ_HEAD then w32 s.hif.cqHead
  else if a = Reg.HIF_RQ_TAIL then w32 s.hif.rqTail
  else if a = Reg.HIF_CMD_LEVEL then s.cmdLevel p
  else if a = Reg.HIF_PCIE_ID then w32 (0x20480000 + s.vendorId)
  else s.reg a

/-- CMD (R247 to R251, R669). -/
def State.readCmd (s : State) (a : Nat) : Word :=
  if a = Reg.CMD_STATUS then s.cmdStatus
  else if a = Reg.CMD_GEN then s.cmd.gen
  else if a = Reg.CMD_LAST_FAIL then s.cmd.lastFail
  else if a = Reg.CMD_RESTART then s.cmdRestartWord
  else if Reg.CMD_TAG_BUSY 0 ≤ a && a ≤ Reg.CMD_TAG_BUSY 3 then s.tagBusyWord (arrIx a (Reg.CMD_TAG_BUSY 0) 4)
  else if a = Reg.CMD_PATCH_STATUS then s.patchStatus
  else if a = Reg.CMD_OTP_DATA then s.otpData
  else s.reg a

/-- The time registers of NTU (R349 to R351, R371, R389). -/
def State.readTime (s : State) (a : Nat) : Word :=
  if a = Reg.NTU_TICK_HI then w32 (s.tick64 / 2 ^ 32)
  else if a = Reg.NTU_TICK_LO then w32 (s.tick64 % 2 ^ 32)
  else if a = Reg.NTU_COURSE_HI then w32 (s.ntu.course / 2 ^ 32)
  else if a = Reg.NTU_COURSE_LO then w32 (s.ntu.course % 2 ^ 32)
  else if a = Reg.NTU_RATE then satWord s.ntRate
  else if a = Reg.NTU_STEP_COUNT then w32 (satNat 0xFFFF s.ntu.steps + 2 ^ 16 * (s.ntu.epoch % 16))
  else s.reg a

/-- NTU (R389). -/
def State.readNtu (s : State) (a : Nat) : Word :=
  if a = Reg.NTU_STATUS then s.ntuStatus
  else if a = Reg.NTU_PTP_STATUS then s.ptpStatus
  else if a = Reg.NTU_PTP_OFFSET then s.offsetWord
  else if 0x10040 ≤ a && a < 0x10080 && a % 0x20 = 0 then s.facTs (arrIx a 0x10040 0x20) 0
  else if 0x10040 ≤ a && a < 0x10080 && a % 0x20 = 4 then s.facTs (arrIx a 0x10040 0x20) 1
  else if a = Reg.NTU_MPD 0 then s.mpdWord 0
  else if a = Reg.NTU_MPD 1 then s.mpdWord 1
  else if 0x10090 ≤ a && a < 0x100D0 && a % 16 = 0 then s.reg a ||| w32 (8 * b2n (s.evtLevel (arrIx a 0x10090 16)))
  else if a = Reg.NTU_SL_STATUS then s.slStatus
  else if a = Reg.NTU_SL_ENTRY then s.slEntryWord
  else s.readTime a

/-- MCK (R402, R419). -/
def State.readMck (s : State) (a : Nat) : Word :=
  if a = Reg.MCK_STATUS then s.mckStatus
  else if a = Reg.MCK_PHASE_ERR then phaseWord s.phaseErr
  else if a = Reg.MCK_REF_PHASE then phaseWord s.refPhase
  else if a = Reg.MCK_HELD then phaseWord s.mck.held
  else if a = Reg.MCK_ABSORB then phaseWord s.mck.absorb
  else if a = Reg.MCK_FREQ then satWord s.mck.freq
  else if a = Reg.MCK_HO_TE then s.hoTe
  else if a = Reg.MCK_HO_TIME then s.hoTime
  else if a = Reg.MCK_XO_TRIM_FAC then s.record 5
  else if Reg.MCK_REF_STATUS 0 ≤ a && a ≤ Reg.MCK_REF_STATUS 5 then s.refStatus (arrIx a (Reg.MCK_REF_STATUS 0) 4)
  else if Reg.MCK_REF_FREQ 0 ≤ a && a ≤ Reg.MCK_REF_FREQ 5 then s.refFreq (arrIx a (Reg.MCK_REF_FREQ 0) 4)
  else s.reg a

/-- NPA and NPB (R317). -/
def State.readNp (s : State) (p a : Nat) : Word :=
  if a = Reg.NP_STATUS p then s.npStatus p
  else if a = Reg.NP_PAUSE_STATE p then s.npPauseState p
  else if a = Reg.NP_PAUSE_TX p then s.reg a ||| w32 (2 ^ 31 * b2n (s.npGoBusy p))
  else s.reg a

/-- RUD (R348). -/
def State.readRud (s : State) (a : Nat) : Word :=
  if a = Reg.RUD_STATUS then s.rudStatus
  else if a = Reg.RUD_FLOW_USED then w32 s.rud.flows.length
  else s.reg a

/-- The receive stream that SRX_SEL names, and its registers; an UNDEFINED one reads as zero (R487, R488). -/
def State.readRx (s : State) (a : Nat) : Word :=
  let n := s.regField Reg.SRX_SEL 8 0
  match tget s.srx.streams n with
  | none => 0
  | some r =>
    if a = Reg.SRX_STREAM_CTRL then r.ctrl
    else if a = Reg.SRX_STREAM_STATUS then s.rxStatusWord n
    else if a = Reg.SRX_STREAM_EVENT then r.event
    else if a = Reg.SRX_STREAM_EVENT_EN then r.eventEn
    else if a = Reg.SRX_STREAM_SSRC then r.ssrcWord
    else if a = Reg.SRX_STREAM_MARGIN then w32 r.margin
    else w32 (r.cnt.getD (arrIx a (Reg.SRX_STREAM_CNT 0) 4) 0)

/-- SRX (R488). -/
def State.readSrx (s : State) (a : Nat) : Word :=
  if a = Reg.SRX_STATUS then s.srxStatus
  else if 0x24040 ≤ a && a < 0x24080 then s.readRx a
  else if 0x24080 ≤ a && a < 0x240C0 then s.srxPendWord (arrIx a 0x24080 4)
  else if a = Reg.SRX_RR_OUTSTANDING then w32 s.rrOutstanding
  else s.reg a

/-- The transmit stream that STX_SEL names, and its registers (R522, R523). -/
def State.readTx (s : State) (a : Nat) : Word :=
  let n := s.regField Reg.STX_SEL 8 0
  match tget s.stx.streams n with
  | none => 0
  | some t =>
    if a = Reg.STX_STREAM_CTRL then t.ctrl
    else if a = Reg.STX_STREAM_STATUS then s.txStatusWord n
    else if a = Reg.STX_STREAM_EVENT then t.event
    else if a = Reg.STX_STREAM_EVENT_EN then t.eventEn
    else if a = Reg.STX_STREAM_HELD then s.txHeldWord n
    else w32 (t.cnt.getD (arrIx a (Reg.STX_STREAM_CNT 0) 4) 0)

/-- STX (R523). -/
def State.readStx (s : State) (a : Nat) : Word :=
  if a = Reg.STX_STATUS then s.stxStatus
  else if a = Reg.STX_RR_OUTSTANDING 0 then w32 (s.rrList 0).length
  else if a = Reg.STX_RR_OUTSTANDING 1 then w32 (s.rrList 1).length
  else if 0x28040 ≤ a && a < 0x28080 then s.readTx a
  else if 0x28080 ≤ a && a < 0x280C0 then s.stxPendWord (arrIx a 0x28080 4)
  else s.reg a

/-- BUF (R291). -/
def State.readBuf (s : State) (a : Nat) : Word :=
  if a = Reg.BUF_STATUS then s.bufStatus
  else if a = Reg.BUF_ALLOC then w32 s.freeKib
  else if a = Reg.BUF_USED then w32 s.memUsed
  else if a = Reg.BUF_MIGRATE then s.migWord
  else if a = Reg.BUF_MIG_PROGRESS then w32 s.migCopied
  else if a = Reg.BUF_RETIRED_LO then w32 (s.buf.retired.toNat % 2 ^ 32)
  else if a = Reg.BUF_RETIRED_HI then w32 (s.buf.retired.toNat / 2 ^ 32)
  else if 0x2C060 ≤ a && a < 0x2C080 then s.bufMapWord (arrIx a 0x2C060 4)
  else if 0x2C080 ≤ a && a < 0x2C0A0 then s.qPendWord (arrIx a 0x2C080 4)
  else s.reg a

/-- The stream that RAL_SEL names, and its registers (R541, R542). -/
def State.readRalStream (s : State) (a : Nat) : Word :=
  let n := s.regField Reg.RAL_SEL 8 0
  if !(thas s.srx.streams n) then 0
  else if a = Reg.RAL_STREAM_CTRL then (s.ralOf n).ctrl
  else if a = Reg.RAL_STREAM_STATUS then s.ralStatusWord n
  else if a = Reg.RAL_STREAM_RATIO then s.ralRatio n
  else if a = Reg.RAL_STREAM_EVENT then (s.ralOf n).event
  else (s.ralOf n).eventEn

/-- RAL (R542). -/
def State.readRal (s : State) (a : Nat) : Word :=
  if a = Reg.RAL_STATUS then s.ralStatus
  else if a = Reg.RAL_LOAD then s.ralLoadWord
  else if 0x30040 ≤ a && a < 0x30054 then s.readRalStream a
  else if 0x30080 ≤ a && a < 0x300C0 then s.ralPendWord (arrIx a 0x30080 4)
  else s.reg a

/-- DRV (R578). -/
def State.readDrv (s : State) (a : Nat) : Word :=
  let idle := s.bank (1 - s.drv.active)
  if a = Reg.DRV_STATUS then s.drvStatus
  else if a = Reg.DRV_COUNT_ACT then countWord s.activeBank
  else if a = Reg.DRV_COUNT_ACT_TERMS then countTermsWord s.activeBank
  else if a = Reg.DRV_COUNT_INACT then countWord idle
  else if a = Reg.DRV_COUNT_INACT_TERMS then countTermsWord idle
  else s.reg a

/-- TDM (R590, R600). -/
def State.readTdm (s : State) (a : Nat) : Word :=
  if a = Reg.TDM_STATUS then s.tdmStatusAll
  else if a = Reg.TDM_PEND then s.tdmPend
  else if 0x38300 ≤ a && a < 0x38340 then s.tdmStatus (arrIx a 0x38300 4)
  else if 0x38100 ≤ a && a < 0x38300 && a % 32 = 0x18 then (s.tdmPort (arrIx a 0x38100 32)).ts
  else if 0x38100 ≤ a && a < 0x38300 && a % 32 = 0x1C then (s.tdmPort (arrIx a 0x38100 32)).phaseHeld
  else s.reg a

/-- OBL (R631). -/
def State.readObl (s : State) (a : Nat) : Word :=
  if a = Reg.OBL_STATUS then s.oblStatus
  else if a = Reg.OBL_HOP_ERR then s.oblHopErr
  else if a = Reg.OBL_COX_ID_HI then w32 (s.oblCoxId / 2 ^ 32)
  else if a = Reg.OBL_COX_ID_LO then w32 (s.oblCoxId % 2 ^ 32)
  else if 0x3C040 ≤ a && a < 0x3C080 && a % 32 = 0 then s.oblPortStatus (arrIx a 0x3C040 32)
  else if 0x3C040 ≤ a && a < 0x3C080 && a % 32 = 4 then satWord (s.oblDelay (arrIx a 0x3C040 32))
  else if 0x3C040 ≤ a && a < 0x3C080 && a % 32 = 8 then satWord (s.oblFac (arrIx a 0x3C040 32))
  else if Reg.OBL_SEAT_STATUS 1 ≤ a && a ≤ Reg.OBL_SEAT_STATUS 7 then s.seatStatus (arrIx a 0x3C080 4)
  else if 0x3C100 ≤ a && a < 0x3C200 then s.laneOwners (arrIx a 0x3C100 4)
  else s.reg a

/-- The value of the register with canonical address `a` as path `p` reads it; an index that no unit implements and a
keyed word read as zero (R136, R139, R150). -/
def State.readReg (s : State) (p : Path) (a : Nat) : Word :=
  match regRow a with
  | none => 0
  | some r =>
    if r.key then 0 else
    match a / 0x4000 with
    | 0 => s.readGlb a
    | 1 => s.readPmu a
    | 2 => s.readHif p a
    | 3 => s.readCmd a
    | 4 => s.readNtu a
    | 5 => s.readMck a
    | 6 => s.readNp 0 a
    | 7 => s.readNp 1 a
    | 8 => s.readRud a
    | 9 => s.readSrx a
    | 10 => s.readStx a
    | 11 => s.readBuf a
    | 12 => s.readRal a
    | 13 => s.readDrv a
    | 14 => s.readTdm a
    | _ => s.readObl a

/-! ## Clearing reads (R139, R142, R153) -/

/-- Clear the RC bits of a stream's register, in the bytes of `m`: its events, or one of its counters. -/
def rxClear (a : Nat) (m : Word) (s : State) : State :=
  s.onRx (s.regField Reg.SRX_SEL 8 0) fun r =>
    if a = Reg.SRX_STREAM_EVENT then { r with event := r.event &&& ~~~m }
    else { r with cnt := listMod r.cnt (arrIx a (Reg.SRX_STREAM_CNT 0) 4) fun c => (w32 c &&& ~~~m).toNat }
def txClear (a : Nat) (m : Word) (s : State) : State :=
  s.onTx (s.regField Reg.STX_SEL 8 0) fun t =>
    if a = Reg.STX_STREAM_EVENT then { t with event := t.event &&& ~~~m }
    else { t with cnt := listMod t.cnt (arrIx a (Reg.STX_STREAM_CNT 0) 4) fun c => (w32 c &&& ~~~m).toNat }

/-- A read of GLB_ERR that leaves it all zero re-arms the capture (R161). -/
def rearm (s : State) : State :=
  if s.reg Reg.GLB_ERR = 0 then s.setField Reg.GLB_ERR_ADDR 31 31 0 else s

/-- Clear the RC bits `m` of register `a` (R139). -/
def clearBits (a : Nat) (m : Word) (s : State) : State :=
  if 0x24040 ≤ a && a < 0x24080 then rxClear a m s
  else if 0x28040 ≤ a && a < 0x28080 then txClear a m s
  else if 0x30040 ≤ a && a < 0x30054 then
    s.onRal (s.regField Reg.RAL_SEL 8 0) fun l => { l with event := l.event &&& ~~~m }
  else
    let s1 := s.setReg a (s.reg a &&& ~~~m)
    if a = Reg.GLB_ERR then rearm s1
    else if a = Reg.PMU_WAKE_REASON then { s1 with pmu := { s1.pmu with wakeOutN := false } }
    else s1

/-- What a normal-view read does: the RC bits in the bytes read are cleared, and a read of TDM_TS latches TDM_PHASE
(R109, R139, R153, R590). -/
def readEffect (a : Nat) (m : Word) (s : State) : State :=
  match regRow a with
  | none => s
  | some r =>
    if r.rc ≠ 0 then clearBits a (w32 r.rc &&& m) s
    else if 0x38100 ≤ a && a < 0x38300 && a % 32 = 0x18 then
      s.onTdm (arrIx a 0x38100 32) fun t => { t with phaseHeld := t.phase }
    else s

/-- A read of a unit window (R135, R139, R142, R153). -/
def regRead (p : Path) (addr : Nat) (be : BitVec 4) (s : State) : Word × State :=
  let a := busCanon addr
  (s.readReg p a, if busView addr = 0 then readEffect a (beMask be) s else s)

/-! ## Disabled-only fields (R143, R144) -/

/-- The error register whose STALE_WRITE flag a window's RWD fields set (R144). -/
def staleReg (w : Nat) : Option Nat :=
  match w with
  | 2 => some Reg.HIF_ERR
  | 4 => some Reg.NTU_ERR
  | 5 => some Reg.MCK_ERR
  | 6 => some (Reg.NP_ERR 0)
  | 7 => some (Reg.NP_ERR 1)
  | 8 => some Reg.RUD_ERR
  | 9 => some Reg.SRX_ERR
  | 10 => some Reg.STX_ERR
  | 12 => some Reg.RAL_ERR
  | 14 => some Reg.TDM_ERR
  | 15 => some Reg.OBL_ERR
  | _ => none

/-- Set the STALE_WRITE flag of the unit with register `a`. -/
def State.staleWrite (s : State) (a : Nat) : State :=
  match staleReg (a / 0x4000) with
  | some e => s.flag e 0
  | none => s

/-- The object of the RWD fields of register `a` counts as enabled (R143). -/
def State.rwdHeld (s : State) (a : Nat) : Bool :=
  match a / 0x4000 with
  | 2 => if a < 0x8100 then s.bit Reg.HIF_Q_CFG 0 else s.ringOn (arrIx a 0x8100 16)
  | 4 => decide (s.evtMode (arrIx a 0x10090 16) = 2)
  | 5 => s.bit a 0
  | 6 => (s.port 0).live
  | 7 => (s.port 1).live
  | 8 => s.rudEn
  | 14 => s.tdmEnabled (arrIx a 0x38100 32)
  | 15 => s.bit Reg.OBL_CFG 0 || s.bit Reg.OBL_CFG 1
  | _ => false

/-- The new contents of a register with fields of types `row`, after a write of `v` in the bytes of `m` through a view;
`held` says that its RWD fields cannot change (R139, R141, R144, R152). -/
def merged (row : RegRow) (view : Nat) (m v old : Word) (held : Bool) : Word :=
  let live := w32 (row.rw ||| row.rwl) &&& m
  match view with
  | 0 =>
    let w := live ||| (if held then 0 else w32 row.rwd &&& m)
    (old &&& ~~~w) ||| (v &&& w)
  | 1 => old ||| (v &&& live)
  | 2 => old &&& ~~~(v &&& live)
  | _ => old ^^^ (v &&& live)

/-- The write meets an RWD field that it cannot change (R144). -/
def stale (row : RegRow) (view : Nat) (m : Word) (held : Bool) : Bool :=
  decide (view = 0) && held && decide (w32 row.rwd &&& m ≠ 0)

/-! ## Writes with an effect of their own -/

/-- HIF_Q_CFG: an EN that rises zeroes the four indices, or is refused (R189). -/
def qCfgWrite (w : Word) (s : State) : State :=
  if bitOf w 0 && !(s.bit Reg.HIF_Q_CFG 0) then
    let cq := fieldOf w 7 4
    let rq := fieldOf w 11 8
    if fieldOf (s.reg Reg.HIF_CQ_BASE_LO) 7 0 ≠ 0 || fieldOf (s.reg Reg.HIF_RQ_BASE_LO) 7 0 ≠ 0 || cq < 4 || 10 < cq
        || rq < 4 || 10 < rq then
      (s.setReg Reg.HIF_Q_CFG (withField w 0 0 0)).flag Reg.HIF_ERR 4
    else
      let s1 := ((s.setReg Reg.HIF_Q_CFG w).setReg Reg.HIF_CQ_TAIL 0).setReg Reg.HIF_RQ_HEAD 0
      { s1 with hif := { s1.hif with cqHead := 0, rqTail := 0 } }
  else s.setReg Reg.HIF_Q_CFG w

/-- HIF_CQ_TAIL and HIF_RQ_HEAD: an index that is not below the slot count is ignored and sets HIF_ERR.CFG (R207). -/
def indexWrite (a : Nat) (w : Word) (s : State) : State :=
  let n := 2 ^ (if a = Reg.HIF_CQ_TAIL then s.regField Reg.HIF_Q_CFG 7 4 else s.regField Reg.HIF_Q_CFG 11 8)
  if w.toNat < n then s.setReg a w else s.flag Reg.HIF_ERR 4

/-- HIF beside its plain fields (R189, R192, R193, R207). -/
def writeHif (a : Nat) (w : Word) (s : State) : State :=
  if a = Reg.HIF_Q_CFG then qCfgWrite w s
  else if a = Reg.HIF_CQ_TAIL || a = Reg.HIF_RQ_HEAD then indexWrite a w s
  else if 0x8100 ≤ a && a % 16 = 8 then ringEnWrite (arrIx a 0x8100 16) w s
  else s.setReg a w

/-- The slopes of queues 5 and 4 would sum to more than 1024, with `w` in register `a` (R305, R317). -/
def slopesBad (p a : Nat) (w : Word) (s : State) : Bool :=
  let sl := fun (r : Nat) => satNat 1024 (fieldOf (if a = r then w else s.reg r) 10 0)
  decide (1024 < sl (Reg.NP_CBS_A p) + sl (Reg.NP_CBS_B p))

/-- A network port beside its plain fields (R296, R305, R317). -/
def writeNp (p a : Nat) (w : Word) (s : State) : State :=
  if a = Reg.NP_CFG p then
    let s1 := s.setReg a w
    if bitOf w 0 = s.bit a 0 then s1 else portEnable p (bitOf w 0) s1
  else if a = Reg.NP_MAX_FRAME p then
    if fieldOf w 13 0 < 1518 || 9216 < fieldOf w 13 0 then s.flag (Reg.NP_ERR p) 0 else s.setReg a w
  else if a = Reg.NP_CBS_A p || a = Reg.NP_CBS_B p then
    if slopesBad p a w s then s.flag (Reg.NP_ERR p) 5 else (creditStep p s).setReg a w
  else (creditStep p s).setReg a w

/-- OBL_CFG: UP_EN and DN_EN are ignored on a Solo, and decide which ports are OFF (R601, R605, R631). -/
def writeOblCfg (w : Word) (s : State) : State :=
  oblPower (s.setReg Reg.OBL_CFG (if s.role = 0 then withField w 1 0 0 else w))

/-- A port event of TDM has become pending (R599). -/
def writeTdmEn (w : Word) (s : State) : State :=
  let s1 := s.setReg Reg.TDM_PORT_EVENT_EN w
  if (List.range 16).any fun n => s1.tdmPending n && !(s.tdmPending n) then s1.flag Reg.TDM_EVENT 0 else s1

/-- TDM beside its plain fields (R591, R592, R594, R599). -/
def writeTdm (a : Nat) (w : Word) (s : State) : State :=
  if a = Reg.TDM_PORT_EVENT_EN then writeTdmEn w s
  else if 0x38100 ≤ a && a < 0x38300 && a % 32 = 0 then
    tdmSetEn (arrIx a 0x38100 32) (bitOf w 0) (s.setReg a (withField w 0 0 (b2n (s.bit a 0))))
  else if 0x38100 ≤ a && a < 0x38300 && a % 32 = 16 then
    let n := arrIx a 0x38110 32
    (s.setReg a w).onTdm n fun p => { p with mutesIn := noteMute s.ntu.course (s.reg a) w p.mutesIn }
  else if 0x38100 ≤ a && a < 0x38300 && a % 32 = 20 then
    let n := arrIx a 0x38114 32
    (s.setReg a w).onTdm n fun p => { p with mutesOut := noteMute s.ntu.course (s.reg a) w p.mutesOut }
  else s.setReg a w

/-- The new contents `w` of register `a` are stored, with what the unit does then. -/
def storeReg (a : Nat) (w : Word) (s : State) : State :=
  match a / 0x4000 with
  | 2 => writeHif a w s
  | 4 =>
    if 0x10090 ≤ a && a < 0x100D0 && a % 16 = 0 then evtCfgWritten (arrIx a 0x10090 16) s (s.setReg a w)
    else s.setReg a w
  | 5 => storeMck a w s
  | 6 => writeNp 0 a w s
  | 7 => writeNp 1 a w s
  | 8 => if a = Reg.RUD_CTRL then rudCtrlWritten (s.reg a) (s.setReg a w) else s.setReg a w
  | 13 =>
    if (0x34040 ≤ a && a < 0x34080) || (0x34100 ≤ a && a < 0x34180) then noteLateMute a (s.reg a) (s.setReg a w) else s.setReg a w
  | 14 => writeTdm a w s
  | 15 => if a = Reg.OBL_CFG then writeOblCfg w s else s.setReg a w
  | _ => s.setReg a w

/-- A 1 is written to the W1P bit of register `a` (R145). -/
def startAction (p : Path) (addr a : Nat) (s : State) : State :=
  if a = Reg.HIF_WEIGH then weighGo p addr s
  else if a = Reg.PMU_UMP_ACK then umpireAck s
  else if a = Reg.OBL_CFG then oblRelearn s
  else
    let r := pauseGoWrite (a / 0x4000 - 6) s
    if r.2 then r.1.busError addr p 2 else r.1

/-! ## The registers of a stream (R487, R522, R541) -/

/-- A write to SRX_STREAM_CTRL or SRX_STREAM_EVENT_EN of the stream named (R488). -/
def writeRx (row : RegRow) (view a : Nat) (m v : Word) (s : State) : State :=
  let n := s.regField Reg.SRX_SEL 8 0
  match tget s.srx.streams n with
  | none => s
  | some r =>
    if a = Reg.SRX_STREAM_CTRL then
      let w := merged row view m v r.ctrl r.enabled
      let empty := decide (fieldOf w 9 8 = 0)
      let s1 := if stale row view m r.enabled || empty then s.staleWrite a else s
      s1.onRx n fun r => { r with ctrl := if empty then withField w 9 8 (fieldOf r.ctrl 9 8) else w }
    else if a = Reg.SRX_STREAM_EVENT_EN then
      s.withPend (fun s => s.rxPending n) Reg.SRX_EVENT 0 fun s =>
        s.onRx n fun r => { r with eventEn := merged row view m v r.eventEn false }
    else s

/-- A write to STX_STREAM_CTRL or STX_STREAM_EVENT_EN of the stream named (R523). -/
def writeTx (row : RegRow) (view a : Nat) (m v : Word) (s : State) : State :=
  let n := s.regField Reg.STX_SEL 8 0
  match tget s.stx.streams n with
  | none => s
  | some t =>
    if a = Reg.STX_STREAM_CTRL then
      let w := merged row view m v t.ctrl t.enabled
      let empty := decide (fieldOf w 9 8 = 0)
      let s1 := if stale row view m t.enabled || empty then s.staleWrite a else s
      s1.onTx n fun t => { t with ctrl := if empty then withField w 9 8 (fieldOf t.ctrl 9 8) else w }
    else if a = Reg.STX_STREAM_EVENT_EN then
      s.withPend (fun s => s.txPending n) Reg.STX_EVENT 0 fun s =>
        s.onTx n fun t => { t with eventEn := merged row view m v t.eventEn false }
    else s

/-- A write to RAL_STREAM_CTRL or RAL_STREAM_EVENT_EN of the stream named (R542). -/
def writeRal (row : RegRow) (view a : Nat) (m v : Word) (s : State) : State :=
  let n := s.regField Reg.RAL_SEL 8 0
  match tget s.srx.streams n with
  | none => s
  | some r =>
    if a = Reg.RAL_STREAM_CTRL then
      let w := merged row view m v (s.ralOf n).ctrl r.enabled
      let s1 := if stale row view m r.enabled then s.staleWrite a else s
      s1.onRal n fun l => { l with ctrl := w }
    else if a = Reg.RAL_STREAM_EVENT_EN then
      s.withPend (fun s => s.ralPending n) Reg.RAL_EVENT 0 fun s =>
        s.onRal n fun l => { l with eventEn := merged row view m v l.eventEn false }
    else s

/-! ## A write of a register (R139 to R145, R152 to R154) -/

/-- The register is one of those shown through a SEL register. -/
def isBanked (a : Nat) : Bool :=
  (0x24040 ≤ a && a < 0x24080) || (0x28040 ≤ a && a < 0x28080) || (0x30040 ≤ a && a < 0x30054)

/-- The stream that the SEL register of a stream's register names (R487, R522, R541). -/
def State.selected (s : State) (a : Nat) : Nat :=
  s.regField (if a < 0x28000 then Reg.SRX_SEL else if a < 0x30000 then Reg.STX_SEL else Reg.RAL_SEL) 8 0

/-- A write of a stream's register, and of its parity with it (R158). -/
def writeBanked (row : RegRow) (view a : Nat) (m v : Word) (s : State) : State :=
  let s1 := s.goodParity (bankedKey a (s.selected a))
  if a < 0x28000 then writeRx row view a m v s1
  else if a < 0x30000 then writeTx row view a m v s1
  else writeRal row view a m v s1

/-- A write of MCK_CORE_CFG: its fields are RWD with MCK as their object (R24, R419). -/
def writeCore (view : Nat) (m v : Word) (s : State) : State :=
  if view = 0 && m &&& 0xF ≠ 0 then coreCfgWrite ((s.reg Reg.MCK_CORE_CFG &&& ~~~m) ||| (v &&& m)) s else s

/-- A write of the fields of a register that is not keyed, in the bytes of `m` (R139, R141, R144). -/
def writeFields (p : Path) (row : RegRow) (addr : Nat) (m v : Word) (s : State) : State :=
  let a := busCanon addr
  let view := busView addr
  if isBanked a then writeBanked row view a m v s
  else if a = Reg.MCK_CORE_CFG then writeCore view m v s
  else
    let held := decide (row.rwd ≠ 0) && s.rwdHeld a
    let s1 := if stale row view m held then s.staleWrite a else s
    let s2 := if w32 (row.rw ||| row.rwl ||| row.rwd) &&& m = 0 then s1
      else storeReg a (merged row view m v (s.reg a) held) s1
    if view = 0 && w32 row.w1p &&& v ≠ 0 then startAction p addr a s2 else s2

/-- A write to a register that is not keyed; one that is narrow, to a register that holds an RC or W1P field, is
ignored (R154). -/
def plainWrite (p : Path) (row : RegRow) (addr : Nat) (be : BitVec 4) (v : Word) (s : State) : State :=
  if be ≠ 0xF && (row.rc ≠ 0 || row.w1p ≠ 0) then s.busError addr p 1
  else writeFields p row addr (beMask be) v s

/-! ## Keyed registers (R147 to R151) -/

/-- A keyed write takes effect: the register and the value (R118, R119, R172, R173, R292, R317, R657). -/
def keyedEffect (a : Nat) (v : Word) (s : State) : State :=
  if a = Reg.GLB_RESET then (if bitOf v 0 then s.cmdRestart 4 else s)
  else if a = Reg.GLB_OTP_ACCESS then { s with pmu := { s.pmu with otpOpen := bitOf v 0 } }
  else if a = Reg.PMU_MODE_FORCE then modeForceKey (fieldOf v 2 0) s
  else if a = Reg.PMU_RAIL then (if bitOf v 0 || decide (s.mode = .moored) then railCycle s else s)
  else if a = Reg.NP_SERDES_RESET 0 then (if bitOf v 0 then portRestart 0 s else s)
  else if a = Reg.NP_SERDES_RESET 1 then (if bitOf v 0 then portRestart 1 s else s)
  else if a = Reg.CMD_PATCH_SWAP then (if bitOf v 0 then patchKeyed (bitOf v 1) s else s)
  else bankMapWrite v s

/-- The canonical address is the value word of a keyed register; its complement word is 4 above. -/
def isKeyValue (a : Nat) : Bool := decide (a % 8 = 0) && (match regRow a with | some r => r.key | none => false)

/-- An error on a keyed word; a narrow write sets PARTIAL too (R148). -/
def keyFault (p : Path) (addr : Nat) (be : BitVec 4) (s : State) : State :=
  let s1 := s.busError addr p 0
  if be ≠ 0xF then s1.busError addr p 1 else s1

/-- A write to a keyed word while no sequence is open in its window (R147, R148). -/
def keyWrite (p : Path) (addr : Nat) (be : BitVec 4) (v : Word) (s : State) : State :=
  let a := busCanon addr
  if busView addr = 0 && be = 0xF && isKeyValue a then
    { s with keys := tset s.keys (busWindow addr) { addr := a, issued := addr, path := p, value := v } }
  else keyFault p addr be s

/-- The write completes the open sequence `k` (R147). -/
def completes (k : KeySeq) (addr : Nat) (be : BitVec 4) (v : Word) : Bool :=
  decide (busView addr = 0) && decide (be = 0xF) && decide (busCanon addr = k.addr + 4) && decide (v = ~~~k.value)
    && decide (k.age ≤ keyNs)

/-- A write to a unit window (R136, R139, R147, R148). -/
def regWrite (p : Path) (addr : Nat) (be : BitVec 4) (v : Word) (s : State) : State :=
  let row := regRow (busCanon addr)
  let keyed := match row with | some r => r.key | none => false
  let ordinary := fun (s : State) => match row with | some r => plainWrite p r addr be v s | none => s
  match tget s.keys (busWindow addr) with
  | some k =>
    let s1 := { s with keys := terase s.keys (busWindow addr) }
    if completes k addr be v then keyedEffect k.addr k.value s1
    else
      let s2 := if keyed then keyFault p addr be s1 else s1.busError addr p 0
      if keyed then s2 else ordinary s2
  | none => if keyed then keyWrite p addr be v s else ordinary s

/-! ## The command window and the aperture (R181 to R183, R282 to R284) -/

/-- A byte of the ring memory of the parallel host bus. -/
def State.audioByte (s : State) (a : Nat) : Byte := tgetD s.hif.audio a 0

/-- Write a byte of ring memory. -/
def State.setAudio (s : State) (a : Nat) (b : Byte) : State :=
  { s with hif := { s.hif with audio := tput s.hif.audio a b 0 } }

/-- The word at an address of the audio area. -/
def State.audioWord (s : State) (a : Nat) : Word :=
  w32 (leNat ((List.range 4).map fun i => s.audioByte (a / 4 * 4 + i)))

/-- A write to the audio area, under its byte enables (R183, R199). -/
def audioWrite (addr : Nat) (be : BitVec 4) (v : Word) (s : State) : State :=
  (List.range 4).foldl (fun s i =>
    if be.getLsbD i then s.setAudio (addr / 4 * 4 + i) (v.extractLsb' (8 * i) 8) else s) s

/-- A write to the command window (R181 to R183). -/
def windowWrite (p : Path) (addr : Nat) (be : BitVec 4) (v : Word) (s : State) : State :=
  if p = .host && s.pcie then s.flag Reg.HIF_ERR 2
  else if addr < 0x90000 && be ≠ 0xF then s.busError addr p 1
  else if addr < 0x88000 then commandPortWord p v s
  else if addr < 0x90000 then s.flag Reg.HIF_ERR 2
  else audioWrite addr be v s

/-- A read of the command window (R181 to R183). -/
def windowRead (p : Path) (addr : Nat) (be : BitVec 4) (s : State) : Word × State :=
  if p = .host && s.pcie then (0, s.flag Reg.HIF_ERR 2)
  else if addr < 0x90000 && be ≠ 0xF then (0, s.busError addr p 1)
  else if addr < 0x88000 then (s.cmdLevel p, s)
  else if addr < 0x90000 then replyPortRead p s
  else (s.audioWord addr, s)

/-- A queue-page register of type PORT or RC (R282, R283). -/
def pageNarrow (off : Nat) : Bool := has [0x10, 0x18, 0x28, 0x2C, 0x30, 0x34] off

/-- Q_EVENT_EN of queue `q` (R280, R283). -/
def writeQEvEn (q : Nat) (m v : Word) (s : State) : State :=
  let w := ((tgetD s.buf.qEvEn q 0 &&& ~~~m) ||| (v &&& m)) &&& 0x7FF
  s.withPend (fun s => s.qPending q) Reg.BUF_EVENT 0 fun s =>
    { s with buf := { s.buf with qEvEn := tput s.buf.qEvEn q w 0 } }

/-- A write to a queue page (R282, R283). -/
def pageWrite (p : Path) (addr : Nat) (be : BitVec 4) (v : Word) (s : State) : State :=
  let q := (addr - 0xC0000) / 64
  let off := addr % 64 / 4 * 4
  if be ≠ 0xF && (pageNarrow off || off = 0x24) then s.busError addr p 1
  else if off = 0x14 then writeQEvEn q (beMask be) v s
  else if off = 0x24 then s.qpOp q v
  else if off = 0x28 then s.flag Reg.BUF_ERR 0
  else if off = 0x2C then s.qpWdata q v
  else if off = 0x30 then s.qpOpen q v
  else if off = 0x34 then s.qpCommit q v
  else s

/-- A read of a queue page: RC fields clear, and Q_RDATA advances RP (R282, R283). -/
def pageRead (p : Path) (addr : Nat) (be : BitVec 4) (s : State) : Word × State :=
  let q := (addr - 0xC0000) / 64
  let off := addr % 64 / 4 * 4
  if be ≠ 0xF && pageNarrow off then (0, s.busError addr p 1)
  else if off = 0x28 then s.qpRdata q
  else if off = 0x10 then (s.qPage q off, s.onQueue q fun x => { x with event := 0 })
  else if off = 0x18 then (s.qPage q off, s.onQueue q fun x => { x with wmCount := 0 })
  else (s.qPage q off, s)

/-! ## Every access (R134, R137, R154, R185) -/

/-- The address can be reached on the path: the management port stops short of the audio area and the aperture (R185). -/
def reachable (p : Path) (addr : Nat) : Bool := decide (addr < 0x90000) || (decide (p = .host) && decide (addr < 0x100000))

/-- A write on a path (R134, R154). -/
def busWrite (p : Path) (addr : Nat) (be : BitVec 4) (v : Word) (s : State) : State :=
  if be = 0 || !(reachable p addr) then s
  else if addr < 0x80000 then (if s.answers p addr then regWrite p addr be v s else s)
  else if !s.coreAnswers then s
  else if addr < 0xC0000 then windowWrite p addr be v s
  else if addr < 0xC4000 then pageWrite p addr be v s
  else viewWrite addr be v s

/-- A read on a path (R134, R154). -/
def busRead (p : Path) (addr : Nat) (be : BitVec 4) (s : State) : Word × State :=
  if be = 0 || !(reachable p addr) then (0, s)
  else if addr < 0x80000 then (if s.answers p addr then regRead p addr be s else (0, s))
  else if !s.coreAnswers then (0, s)
  else if addr < 0xC0000 then windowRead p addr be s
  else if addr < 0xC4000 then pageRead p addr be s
  else viewRead addr none s

end Sys2Proof.Machine
end

