-- ==== Sys2Proof/Machine/BusRows.lean ====
section
/-! DEFINITION. The accesses of software to the register space, one meaning for each (R118, R119, R139, R145, R147, R148,
R172, R173, R271 to R273, R284, R292, R296, R311, R317, R342, R422, R603, R645, R657). -/
namespace Sys2Proof.Machine

/-- A full-width write, with what was driven outward before it dropped. -/
def wordWrite (p : Path) (a : Nat) (v : Word) (s : State) : State := busWrite p a 0xF v (fresh s)

/-- A full-width normal-view read, whose word the path is answered with. -/
def wordRead (p : Path) (a : Nat) (s : State) : State :=
  let r := busRead p a 0xF (fresh s)
  r.2.driveOut [r.1]

/-- A keyed write: the value word at `a`, then its complement at `a` + 4 (R147). -/
def keyedWrite (p : Path) (a : Nat) (v : Word) (s : State) : State := busWrite p (a + 4) 0xF (~~~v) (wordWrite p a v s)

/-- The request is one of PCIe's that does not access BAR0. -/
def State.beside (s : State) (p : Path) (req : PcieReq) : Bool := decide (p = .host) && s.pcie && decide (req ≠ .bar0)

/-- REGISTER_WRITE (R139, R155, R178). -/
def execRegisterWrite (req : BusReq) (addr : Nat) (be : BitVec 4) (v : Word) (s : State) : Host.Outcome State Fault Refusal :=
  .next (settle (
    if s.beside req.path req.pcie then pcieWrite req.pcie addr (beMask be) v (fresh s)
    else busWrite req.path addr be v (fresh s)))

/-- RC_READ (R139, R142, R153, R155, R178). -/
def execRcRead (req : BusReq) (addr : Nat) (be : BitVec 4) (s : State) : Host.Outcome State Fault Refusal :=
  let s0 := fresh s
  .next (settle (
    if s.beside req.path req.pcie then
      if req.pcie = .wide then wideRequest s0 else s0.driveOut [s0.pcieWord req.pcie addr]
    else let r := busRead req.path addr be s0; r.2.driveOut [r.1]))

/-- PMU_WAKE_REASON_READ (R109). -/
def execPmuWakeReasonRead (path : Path) (s : State) : Host.Outcome State Fault Refusal :=
  .next (settle (wordRead path Reg.PMU_WAKE_REASON s))

/-- TDM_TS_READ (R590). -/
def execTdmTsRead (path : Path) (port : Nat) (s : State) : Host.Outcome State Fault Refusal :=
  .next (settle (if port < 16 then wordRead path (Reg.TDM_TS port) s else fresh s))

/-- KEY_VALUE_WRITE: a value word is written to a keyed register (R147). -/
def execKeyValueWrite (path : Path) (addr : Nat) (v : Word) (s : State) : Host.Outcome State Fault Refusal :=
  .next (settle (if addr < 0x80000 && isKeyValue (busCanon addr) then wordWrite path addr v s else fresh s))

/-- KEY_SEQUENCE_TIMEOUT: 64 CLK_CTL cycles have passed since the value write of the window's open sequence (R148). -/
def execKeySequenceTimeout (window : Nat) (s : State) : Host.Outcome State Fault Refusal :=
  let s0 := fresh s
  .next (settle (match tget s0.keys window with
    | some k =>
      if clocked s0.mode then { s0 with keys := terase s0.keys window }.keyError k.issued k.path 0 else s0
    | none => s0))

/-- MODE_FORCE_QUIET (R118). -/
def execModeForceQuiet (path : Path) (s : State) : Host.Outcome State Fault Refusal :=
  .next (settle (keyedWrite path Reg.PMU_MODE_FORCE 3 s))

/-- MODE_FORCE_SAFE (R118). -/
def execModeForceSafe (path : Path) (s : State) : Host.Outcome State Fault Refusal :=
  .next (settle (keyedWrite path Reg.PMU_MODE_FORCE 6 s))

/-- MODE_FORCE_MOORED (R118). -/
def execModeForceMoored (path : Path) (s : State) : Host.Outcome State Fault Refusal :=
  .next (settle (keyedWrite path Reg.PMU_MODE_FORCE 0 s))

/-- RAIL_CYCLE (R119). -/
def execRailCycle (path : Path) (s : State) : Host.Outcome State Fault Refusal :=
  .next (settle (keyedWrite path Reg.PMU_RAIL 1 s))

/-- CMD_RESET (R172). -/
def execCmdReset (path : Path) (s : State) : Host.Outcome State Fault Refusal :=
  .next (settle (keyedWrite path Reg.GLB_RESET 1 s))

/-- OTP_OPEN (R173). -/
def execOtpOpen (path : Path) (s : State) : Host.Outcome State Fault Refusal :=
  .next (settle (keyedWrite path Reg.GLB_OTP_ACCESS 1 s))

/-- OTP_CLOSE (R173). -/
def execOtpClose (path : Path) (s : State) : Host.Outcome State Fault Refusal :=
  .next (settle (keyedWrite path Reg.GLB_OTP_ACCESS 0 s))

/-- SERDES_RESET (R317, R320). -/
def execSerdesReset (path : Path) (port : Nat) (s : State) : Host.Outcome State Fault Refusal :=
  .next (settle (if port < 2 then keyedWrite path (Reg.NP_SERDES_RESET port) 1 s else fresh s))

/-- PATCH_SWAP_KEYED (R657). -/
def execPatchSwapKeyed (path : Path) (s : State) : Host.Outcome State Fault Refusal :=
  .next (settle (keyedWrite path Reg.CMD_PATCH_SWAP 1 s))

/-- PATCH_REVERT_KEYED (R657). -/
def execPatchRevertKeyed (path : Path) (s : State) : Host.Outcome State Fault Refusal :=
  .next (settle (keyedWrite path Reg.CMD_PATCH_SWAP 3 s))

/-- BANK_MAP_MIGRATE (R292). -/
def execBankMapMigrate (path : Path) (bank : Nat) (s : State) : Host.Outcome State Fault Refusal :=
  .next (settle (keyedWrite path Reg.BUF_BANK_MAP (w32 (2 ^ 8 + bank % 64)) s))

/-- BANK_MAP_UNRETIRE (R292). -/
def execBankMapUnretire (path : Path) (s : State) : Host.Outcome State Fault Refusal :=
  .next (settle (keyedWrite path Reg.BUF_BANK_MAP (w32 (2 * 2 ^ 8)) s))

/-- MCK_CORE_CFG_WRITE (R24, R422). -/
def execMckCoreCfgWrite (path : Path) (v : Word) (s : State) : Host.Outcome State Fault Refusal :=
  .next (settle (wordWrite path Reg.MCK_CORE_CFG v s))

/-- NPX_CFG_EN_WRITE (R296). -/
def execNpxCfgEnWrite (path : Path) (port : Nat) (v : Word) (s : State) : Host.Outcome State Fault Refusal :=
  .next (settle (if port < 2 then wordWrite path (Reg.NP_CFG port) v s else fresh s))

/-- PAUSE_TX_GO: a write of NPx_PAUSE_TX with GO (R311). -/
def execPauseTxGo (path : Path) (port : Nat) (v : Word) (s : State) : Host.Outcome State Fault Refusal :=
  .next (settle (if port < 2 then wordWrite path (Reg.NP_PAUSE_TX port) (v ||| w32 (2 ^ 31)) s else fresh s))

/-- RUD_CTRL_EN_WRITE (R342). -/
def execRudCtrlEnWrite (path : Path) (v : Word) (s : State) : Host.Outcome State Fault Refusal :=
  .next (settle (wordWrite path Reg.RUD_CTRL v s))

/-- OBL_RELEARN: OBL_CFG is written as it stands, with RELEARN (R603, R631). -/
def execOblRelearn (path : Path) (s : State) : Host.Outcome State Fault Refusal :=
  .next (settle (wordWrite path Reg.OBL_CFG (s.reg Reg.OBL_CFG ||| 0x10) s))

/-- UMPIRE_ACK (R645). -/
def execUmpireAck (path : Path) (s : State) : Host.Outcome State Fault Refusal :=
  .next (settle (wordWrite path Reg.PMU_UMP_ACK 1 s))

/-! ## Queue pages (R271 to R273, R283) -/

/-- The address of a register of queue page `q`. -/
def pageAddr (q off : Nat) : Nat := 0xC0000 + 64 * q + off

/-- A write to the page of queue `q`. -/
def onPage (path : Path) (q off : Nat) (v : Word) (s : State) : State :=
  if q < 256 then wordWrite path (pageAddr q off) v s else fresh s

/-- Q_OPEN (R271). -/
def execQOpen (path : Path) (q : Nat) (v : Word) (s : State) : Host.Outcome State Fault Refusal :=
  .next (settle (onPage path q 0x30 v s))

/-- Q_WDATA (R271). -/
def execQWdata (path : Path) (q : Nat) (v : Word) (s : State) : Host.Outcome State Fault Refusal :=
  .next (settle (onPage path q 0x2C v s))

/-- Q_COMMIT (R271). -/
def execQCommit (path : Path) (q : Nat) (v : Word) (s : State) : Host.Outcome State Fault Refusal :=
  .next (settle (onPage path q 0x34 v s))

/-- A word of queue `q` is read: one with a double-bit error is delivered as read, and the item holds it so (R253, R272). -/
def rdataRead (path : Path) (q : Nat) (ecc : Option Ecc) (s : State) : State :=
  let at_ := (tget s.buf.queues q).map Queue.rpOff |>.getD 0
  let e := ecc.map fun x => { x with off := at_ - 4 }
  let s1 := if decide (0 < at_) && ecc.isSome then s.onQueue q (qUpset e) else s
  let r := busRead path (pageAddr q 0x28) 0xF s1
  let w := match ecc with | some x => if at_ = 0 && x.ded then r.1 ^^^ x.flips else r.1 | none => r.1
  queueEcc q ecc (r.2.driveOut [w])

/-- Q_RDATA; `ecc` is the error found in the word, if any (R253, R272). A read that finds no word meets none. -/
def execQRdata (path : Path) (q : Nat) (ecc : Option Ecc) (s : State) : Host.Outcome State Fault Refusal :=
  let s0 := fresh s
  let word := match tget s.buf.queues q with | some x => hostConsumes q && qVisible x && !x.resync && !x.nextHeld | none => false
  let go := s.coreAnswers && decide (path = .host) && decide (q < 256)
  .next (settle (
    if go && word then rdataRead path q ecc s0 else if go then wordRead path (pageAddr q 0x28) s else s0))

/-- Q_OP_NEXT (R273). -/
def execQOpNext (path : Path) (q : Nat) (s : State) : Host.Outcome State Fault Refusal :=
  .next (settle (onPage path q 0x24 1 s))

/-- Q_OP_RELEASE (R273). -/
def execQOpRelease (path : Path) (q : Nat) (s : State) : Host.Outcome State Fault Refusal :=
  .next (settle (onPage path q 0x24 2 s))

/-- Q_OP_MARK (R273). -/
def execQOpMark (path : Path) (q : Nat) (s : State) : Host.Outcome State Fault Refusal :=
  .next (settle (onPage path q 0x24 4 s))

/-- Q_OP_REWIND (R273). -/
def execQOpRewind (path : Path) (q : Nat) (s : State) : Host.Outcome State Fault Refusal :=
  .next (settle (onPage path q 0x24 8 s))

/-- Q_OP_ABANDON (R272). -/
def execQOpAbandon (path : Path) (q : Nat) (s : State) : Host.Outcome State Fault Refusal :=
  .next (settle (onPage path q 0x24 16 s))

/-- APERTURE_MEMORY_ACCESS (R253, R284). -/
def execApertureMemoryAccess (path : Path) (addr : Nat) (be : BitVec 4) (act : ViewAct) (s : State) :
    Host.Outcome State Fault Refusal :=
  let s0 := fresh s
  .next (settle (if addr < 0xC4000 then s0 else match act with
    | .write w => busWrite path addr be w s0
    | .read ecc =>
      let r := if be = 0 || !(reachable path addr) || !s0.coreAnswers then (0, s0) else viewRead addr ecc s0
      r.2.driveOut [r.1]))

/-! ## The parity checker (R158 to R160) -/

/-- The bits of a register that its parity covers: those of its RW, RWL and RWD fields (R158). -/
def configMask (a : Nat) : Word :=
  match regRow a with
  | some r => w32 (r.rw ||| r.rwl ||| r.rwd)
  | none => 0

/-- The registers that the parity checker visits: those that hold an RW, RWL or RWD field (R158). -/
def isConfigReg (a : Nat) : Bool := decide (configMask a ≠ 0)

/-- The last configuration register of the register space: a visit to it ends the checker's pass (R159). -/
def lastConfigReg : Nat := Reg.OBL_USR_ASYM 1

/-- The number of bits set in a word is odd. -/
def oddOnes (w : Word) : Bool := (List.range 32).foldl (fun b i => xor b (w.getLsbD i)) false

/-- The bits `u` of register `a` are upset, with no write: its contents change and its parity bit does not. -/
def upsetContents (a : Nat) (u : Word) (s : State) : State :=
  let n := s.selected a
  if a = Reg.SRX_STREAM_CTRL then s.onRx n fun r => { r with ctrl := r.ctrl ^^^ u }
  else if a = Reg.SRX_STREAM_EVENT_EN then s.onRx n fun r => { r with eventEn := r.eventEn ^^^ u }
  else if a = Reg.STX_STREAM_CTRL then s.onTx n fun t => { t with ctrl := t.ctrl ^^^ u }
  else if a = Reg.STX_STREAM_EVENT_EN then s.onTx n fun t => { t with eventEn := t.eventEn ^^^ u }
  else if a = Reg.RAL_STREAM_CTRL then s.onRal n fun l => { l with ctrl := l.ctrl ^^^ u }
  else if a = Reg.RAL_STREAM_EVENT_EN then s.onRal n fun l => { l with eventEn := l.eventEn ^^^ u }
  else { s with regs := tput s.regs a (s.reg a ^^^ u) (regReset a) }

/-- An upset of register `a`: an odd number of changed bits turns the parity over (R158). -/
def upsetReg (a : Nat) (u : Word) (s : State) : State :=
  let k := if isBanked a then bankedKey a (s.selected a) else a
  let m := u &&& configMask a
  let s1 := if m = 0 then s else upsetContents a m s
  if !(oddOnes m) then s1
  else if s.misparity.contains k then s1.goodParity k else { s1 with misparity := s1.misparity ++ [k] }

/-- The checker visits configuration register `addr`, which an upset of the bits `upset` has met since its last visit: a
mismatch stays at every visit until the register is rewritten (R159). -/
def parityVisit (addr : Nat) (upset : Word) (s : State) : State :=
  if !(isConfigReg addr) || !(clocked s.mode) then s else
  let s0 := upsetReg addr upset s
  let bad := s0.misparity.any fun k => decide (k % 2 ^ 20 = addr)
  let s1 := if !bad then s0 else
    let s' := (s0.setField Reg.GLB_PARITY 19 0 addr).bumpField Reg.GLB_PARITY 31 24
    let s' := { s' with ump := { s'.ump with passBad := true } }
    (s'.raise 1 0 (w32 addr)).setCond 1 true
  if addr = lastConfigReg then
    let s2 := if s1.ump.passBad || bad then s1 else s1.setCond 1 false
    { s2 with ump := { s2.ump with passBad := bad } }
  else s1

/-- PARITY_CHECK_VISIT: the background checker visits a configuration register (R159, R160). -/
def execParityCheckVisit (addr : Nat) (upset : Word) (s : State) : Host.Outcome State Fault Refusal :=
  .next (settle (parityVisit addr upset (fresh s)))

end Sys2Proof.Machine
end

