-- ==== Sys2Proof/Machine/Commands.lean ====
section
/-! DEFINITION. The Dadin commands as they arrive on their path: one meaning for each opcode of the index (R239). The
opcode selects the checks of the packet alone, the objects and the commit in the Command Processor. -/
namespace Sys2Proof.Machine

/-- NOP (R241), opcode 0x01. -/
def execNop (p : Pkt) (s : State) : Host.Outcome State Fault Refusal :=
  .next (settle (arrive 0x01 p (fresh s)))

/-- WEIGH_IN (R243), opcode 0x02. -/
def execWeighIn (p : Pkt) (s : State) : Host.Outcome State Fault Refusal :=
  .next (settle (arrive 0x02 p (fresh s)))

/-- ABORT (R233), opcode 0x03. -/
def execAbort (p : Pkt) (s : State) : Host.Outcome State Fault Refusal :=
  .next (settle (arrive 0x03 p (fresh s)))

/-- MODE_SET (R128), opcode 0x04. -/
def execModeSet (p : Pkt) (s : State) : Host.Outcome State Fault Refusal :=
  .next (settle (arrive 0x04 p (fresh s)))

/-- POWER_REQUEST (R130), opcode 0x05. -/
def execPowerRequest (p : Pkt) (s : State) : Host.Outcome State Fault Refusal :=
  .next (settle (arrive 0x05 p (fresh s)))

/-- SRX_DEFINE (R481), opcode 0x10. -/
def execSrxDefine (p : Pkt) (s : State) : Host.Outcome State Fault Refusal :=
  .next (settle (arrive 0x10 p (fresh s)))

/-- SRX_ENABLE (R483), opcode 0x11. -/
def execSrxEnable (p : Pkt) (s : State) : Host.Outcome State Fault Refusal :=
  .next (settle (arrive 0x11 p (fresh s)))

/-- SRX_DISABLE (R484), opcode 0x12. -/
def execSrxDisable (p : Pkt) (s : State) : Host.Outcome State Fault Refusal :=
  .next (settle (arrive 0x12 p (fresh s)))

/-- SRX_QUERY (R485), opcode 0x13. -/
def execSrxQuery (p : Pkt) (s : State) : Host.Outcome State Fault Refusal :=
  .next (settle (arrive 0x13 p (fresh s)))

/-- SRX_RETARGET (R486), opcode 0x14. -/
def execSrxRetarget (p : Pkt) (s : State) : Host.Outcome State Fault Refusal :=
  .next (settle (arrive 0x14 p (fresh s)))

/-- STX_DEFINE (R516), opcode 0x18. -/
def execStxDefine (p : Pkt) (s : State) : Host.Outcome State Fault Refusal :=
  .next (settle (arrive 0x18 p (fresh s)))

/-- STX_ENABLE (R518), opcode 0x19. -/
def execStxEnable (p : Pkt) (s : State) : Host.Outcome State Fault Refusal :=
  .next (settle (arrive 0x19 p (fresh s)))

/-- STX_DISABLE (R519), opcode 0x1A. -/
def execStxDisable (p : Pkt) (s : State) : Host.Outcome State Fault Refusal :=
  .next (settle (arrive 0x1A p (fresh s)))

/-- STX_QUERY (R520), opcode 0x1B. -/
def execStxQuery (p : Pkt) (s : State) : Host.Outcome State Fault Refusal :=
  .next (settle (arrive 0x1B p (fresh s)))

/-- STX_TEMPLATE (R521), opcode 0x1C. -/
def execStxTemplate (p : Pkt) (s : State) : Host.Outcome State Fault Refusal :=
  .next (settle (arrive 0x1C p (fresh s)))

/-- BUS_DEFINE (R568), opcode 0x20. -/
def execBusDefine (p : Pkt) (s : State) : Host.Outcome State Fault Refusal :=
  .next (settle (arrive 0x20 p (fresh s)))

/-- MEMBER_SET (R569), opcode 0x21. -/
def execMemberSet (p : Pkt) (s : State) : Host.Outcome State Fault Refusal :=
  .next (settle (arrive 0x21 p (fresh s)))

/-- LISTEN_SET (R570), opcode 0x22. -/
def execListenSet (p : Pkt) (s : State) : Host.Outcome State Fault Refusal :=
  .next (settle (arrive 0x22 p (fresh s)))

/-- XPOINT_SET (R571), opcode 0x23. -/
def execXpointSet (p : Pkt) (s : State) : Host.Outcome State Fault Refusal :=
  .next (settle (arrive 0x23 p (fresh s)))

/-- GAIN_SET (R572), opcode 0x24. -/
def execGainSet (p : Pkt) (s : State) : Host.Outcome State Fault Refusal :=
  .next (settle (arrive 0x24 p (fresh s)))

/-- GATE_CONFIG (R573), opcode 0x25. -/
def execGateConfig (p : Pkt) (s : State) : Host.Outcome State Fault Refusal :=
  .next (settle (arrive 0x25 p (fresh s)))

/-- DUCK_SET (R574), opcode 0x26. -/
def execDuckSet (p : Pkt) (s : State) : Host.Outcome State Fault Refusal :=
  .next (settle (arrive 0x26 p (fresh s)))

/-- DRV_BANK_SWAP (R575), opcode 0x27. -/
def execDrvBankSwap (p : Pkt) (s : State) : Host.Outcome State Fault Refusal :=
  .next (settle (arrive 0x27 p (fresh s)))

/-- DRV_QUERY (R576), opcode 0x28. -/
def execDrvQuery (p : Pkt) (s : State) : Host.Outcome State Fault Refusal :=
  .next (settle (arrive 0x28 p (fresh s)))

/-- REF_CONFIG (R421), opcode 0x30. -/
def execRefConfig (p : Pkt) (s : State) : Host.Outcome State Fault Refusal :=
  .next (settle (arrive 0x30 p (fresh s)))

/-- REF_RANK (R423), opcode 0x31. -/
def execRefRank (p : Pkt) (s : State) : Host.Outcome State Fault Refusal :=
  .next (settle (arrive 0x31 p (fresh s)))

/-- HOLDOVER_CONFIG (R424), opcode 0x32. -/
def execHoldoverConfig (p : Pkt) (s : State) : Host.Outcome State Fault Refusal :=
  .next (settle (arrive 0x32 p (fresh s)))

/-- ALIGN_OUTPUTS (R425), opcode 0x33. -/
def execAlignOutputs (p : Pkt) (s : State) : Host.Outcome State Fault Refusal :=
  .next (settle (arrive 0x33 p (fresh s)))

/-- MCK_QUERY (R426), opcode 0x34. -/
def execMckQuery (p : Pkt) (s : State) : Host.Outcome State Fault Refusal :=
  .next (settle (arrive 0x34 p (fresh s)))

/-- PTP_CONFIG (R382), opcode 0x38. -/
def execPtpConfig (p : Pkt) (s : State) : Host.Outcome State Fault Refusal :=
  .next (settle (arrive 0x38 p (fresh s)))

/-- PTP_PORT (R383), opcode 0x39. -/
def execPtpPort (p : Pkt) (s : State) : Host.Outcome State Fault Refusal :=
  .next (settle (arrive 0x39 p (fresh s)))

/-- TIME_SET (R384), opcode 0x3A. -/
def execTimeSet (p : Pkt) (s : State) : Host.Outcome State Fault Refusal :=
  .next (settle (arrive 0x3A p (fresh s)))

/-- STARTLIST_LOAD (R385), opcode 0x3B. -/
def execStartlistLoad (p : Pkt) (s : State) : Host.Outcome State Fault Refusal :=
  .next (settle (arrive 0x3B p (fresh s)))

/-- STARTLIST_ARM (R386), opcode 0x3C. -/
def execStartlistArm (p : Pkt) (s : State) : Host.Outcome State Fault Refusal :=
  .next (settle (arrive 0x3C p (fresh s)))

/-- STARTLIST_CANCEL (R387), opcode 0x3D. -/
def execStartlistCancel (p : Pkt) (s : State) : Host.Outcome State Fault Refusal :=
  .next (settle (arrive 0x3D p (fresh s)))

/-- RUD_LOAD (R344), opcode 0x40. -/
def execRudLoad (p : Pkt) (s : State) : Host.Outcome State Fault Refusal :=
  .next (settle (arrive 0x40 p (fresh s)))

/-- RUD_SWAP (R345), opcode 0x41. -/
def execRudSwap (p : Pkt) (s : State) : Host.Outcome State Fault Refusal :=
  .next (settle (arrive 0x41 p (fresh s)))

/-- FLOW_SET (R346), opcode 0x42. -/
def execFlowSet (p : Pkt) (s : State) : Host.Outcome State Fault Refusal :=
  .next (settle (arrive 0x42 p (fresh s)))

/-- QUEUE_CONFIG (R285), opcode 0x48. -/
def execQueueConfig (p : Pkt) (s : State) : Host.Outcome State Fault Refusal :=
  .next (settle (arrive 0x48 p (fresh s)))

/-- QUEUE_QUERY (R287), opcode 0x49. -/
def execQueueQuery (p : Pkt) (s : State) : Host.Outcome State Fault Refusal :=
  .next (settle (arrive 0x49 p (fresh s)))

/-- PORT_CONFIG (R318), opcode 0x50. -/
def execPortConfig (p : Pkt) (s : State) : Host.Outcome State Fault Refusal :=
  .next (settle (arrive 0x50 p (fresh s)))

/-- PORT_RESTART (R320), opcode 0x51. -/
def execPortRestart (p : Pkt) (s : State) : Host.Outcome State Fault Refusal :=
  .next (settle (arrive 0x51 p (fresh s)))

/-- PORT_STATS (R321), opcode 0x52. -/
def execPortStats (p : Pkt) (s : State) : Host.Outcome State Fault Refusal :=
  .next (settle (arrive 0x52 p (fresh s)))

/-- TDM_CONFIG (R597), opcode 0x58. -/
def execTdmConfig (p : Pkt) (s : State) : Host.Outcome State Fault Refusal :=
  .next (settle (arrive 0x58 p (fresh s)))

/-- TDM_RESTART (R598), opcode 0x59. -/
def execTdmRestart (p : Pkt) (s : State) : Host.Outcome State Fault Refusal :=
  .next (settle (arrive 0x59 p (fresh s)))

/-- RAL_CONFIG (R539), opcode 0x60. -/
def execRalConfig (p : Pkt) (s : State) : Host.Outcome State Fault Refusal :=
  .next (settle (arrive 0x60 p (fresh s)))

/-- RAL_QUERY (R540), opcode 0x61. -/
def execRalQuery (p : Pkt) (s : State) : Host.Outcome State Fault Refusal :=
  .next (settle (arrive 0x61 p (fresh s)))

/-- CASCADE_CONFIG (R632), opcode 0x68. -/
def execCascadeConfig (p : Pkt) (s : State) : Host.Outcome State Fault Refusal :=
  .next (settle (arrive 0x68 p (fresh s)))

/-- CASCADE_STATUS (R634), opcode 0x69. -/
def execCascadeStatus (p : Pkt) (s : State) : Host.Outcome State Fault Refusal :=
  .next (settle (arrive 0x69 p (fresh s)))

/-- PATCH_LOAD (R655), opcode 0x70. -/
def execPatchLoad (p : Pkt) (s : State) : Host.Outcome State Fault Refusal :=
  .next (settle (arrive 0x70 p (fresh s)))

/-- PATCH_SWAP (R656), opcode 0x71. -/
def execPatchSwap (p : Pkt) (s : State) : Host.Outcome State Fault Refusal :=
  .next (settle (arrive 0x71 p (fresh s)))

/-- BANK_REPAIR (R288), opcode 0x78. -/
def execBankRepair (p : Pkt) (s : State) : Host.Outcome State Fault Refusal :=
  .next (settle (arrive 0x78 p (fresh s)))

/-- BANK_STATUS (R289), opcode 0x79. -/
def execBankStatus (p : Pkt) (s : State) : Host.Outcome State Fault Refusal :=
  .next (settle (arrive 0x79 p (fresh s)))

/-- LOOPBACK (R663), opcode 0xE0. -/
def execLoopback (p : Pkt) (s : State) : Host.Outcome State Fault Refusal :=
  .next (settle (arrive 0xE0 p (fresh s)))

/-- BIST (R664), opcode 0xE1. -/
def execBist (p : Pkt) (s : State) : Host.Outcome State Fault Refusal :=
  .next (settle (arrive 0xE1 p (fresh s)))

/-- FAULT_INJECT (R665), opcode 0xE2. -/
def execFaultInject (p : Pkt) (s : State) : Host.Outcome State Fault Refusal :=
  .next (settle (arrive 0xE2 p (fresh s)))

end Sys2Proof.Machine
end

