-- ==== Sys2Proof/Machine/Fire.lean ====
section
/-! DEFINITION. What ends in the Command Processor from other units: the firing of the Start List, packets that arrive over
the Obien link, and the end of a Rudder swap (R220, R340, R368, R375 to R378, R622). -/
namespace Sys2Proof.Machine

/-! ## The Start List fires (R375 to R378) -/

/-- The command that an action other than CMD and EVT_EDGE acts as: its opcode and basic parameter word (R375). -/
def actionCmd (e : SlEntry) : Nat × List Word :=
  match e.action with
  | 3 => (0x27, [0])
  | 4 => (0x11, [w32 e.stream])
  | 5 => (0x12, [w32 e.stream])
  | 6 => (0x19, [w32 e.stream])
  | _ => (0x1A, [w32 e.stream])

/-- The unit would make the action wait (R483, R514, R561). -/
def actionWaits (e : SlEntry) (s : State) : Bool :=
  let c := actionCmd e
  (match (commitOp 0 c.1 0 false c.2 s).2 with | .start _ => true | _ => false)

/-- The edges that a pin holds. -/
def State.pinHeld (s : State) (pin : Nat) : Nat := (s.ntu.evtOut.getD pin {}).handed.length

/-- The entry is ARMED and its instant has come: an edge is handed 2 µs early, and four at most to a pin (R368, R377). -/
def slDue (s : State) (e : SlEntry) : Bool :=
  decide (e.state = .armed)
    && (e.due || decide (e.time ≤ s.tick64 + (if e.action = 2 then 2000 else 0)))
    && (match e.action with
      | 1 => s.takes
      | 2 => decide (s.pinHeld e.pin < 4)
      | _ => !(actionWaits e s))

/-- Of the entries due, the one of the earliest TIME, and of those the one of the lowest index (R377). -/
def slNext (s : State) : Option (Nat × SlEntry) :=
  let l := s.ntu.list.filter fun x => slDue s x.2
  l.find? fun x => l.all fun y => decide (x.2.time ≤ y.2.time)

/-- Change Start List entry `i`. -/
def State.onEntry (s : State) (i : Nat) (f : SlEntry → SlEntry) : State :=
  { s with ntu := { s.ntu with list := tmod s.ntu.list i f } }

/-- A stream that an entry disables ends the enables of it that have not committed (R234). -/
def abortNamed (e : SlEntry) (s : State) : State :=
  let names := fun (g : Flight) => match g.fin with
    | .rxAt ns => decide (e.action = 5) && has ns e.stream
    | .txAt ns => decide (e.action = 7) && has ns e.stream
    | _ => false
  s.abortFlights names

/-- An action of a unit fires: it commits at once, and its entry is done (R377). -/
def fireAction (i : Nat) (e : SlEntry) (s : State) : State :=
  let c := actionCmd e
  let done : SlState := if e.isLate then .late else .fired
  let r := commitOp 0 c.1 0 false c.2 (abortNamed e s)
  match r.2 with
  | .fail st _ _ => r.1.slDone i .failed (statusCode st)
  | .ok _ g => (genIf g r.1).slDone i done 0
  | .later _ _ g => (genIf g r.1).slDone i done 0
  | .start _ => s

/-- The edges that a pin holds, with one more, in ascending TIME: each is driven at its TIME (R368). -/
def handEdge (h : HandedEdge) : List HandedEdge → List HandedEdge
  | [] => [h]
  | x :: l => if h.time < x.time then h :: x :: l else x :: handEdge h l

/-- An edge is handed to its pin (R368). -/
def fireEdge (i : Nat) (e : SlEntry) (s : State) : State :=
  let h : HandedEdge := { entry := i, time := e.time, level := e.level, since := s.ntu.course }
  let s1 := s.onEntry i fun x => { x with state := .handed }
  { s1 with ntu := { s1.ntu with evtOut := listMod s1.ntu.evtOut e.pin fun o => { o with handed := handEdge h o.handed } } }

/-- Entry `i` fires (R377, R378). -/
def fireEntry (i : Nat) (e0 : SlEntry) (s : State) : State :=
  let l := s.lateness e0
  let late := if e0.due then e0.isLate else decide (0 ≤ l) && s.beyondWin l
  let e := { e0 with isLate := late, lateness := if e0.due || l < 0 then e0.lateness else l }
  let s1 := s.onEntry i fun _ => e
  if late && e.lateDrop then s1.slDone i .dropped 0
  else match e.action with
    | 1 => takeWords (.starter i) .host e.packet (s1.onEntry i fun x => { x with state := .handed })
    | 2 => fireEdge i e s1
    | _ => fireAction i e s1

/-- START_LIST_FIRE: Network Time reaches the TIME of an armed entry, or a late one fires (R377, R378). -/
def execStartListFire (dt : Nat) (s : State) : Host.Outcome State Fault Refusal :=
  let s1 := (fresh s).advance dt
  .next (settle (
    if !s1.ntu.valid || !(clocked s1.mode) then s1 else
    match slNext s1 with
    | some (i, e) => fireEntry i e s1
    | none => s1))

/-! ## Packets over the Obien link (R621 to R623) -/

/-- The TUNNEL frame in 64 bytes, where they hold one (R607). -/
def tunnelOf (bs : List Byte) : Option OblFrame :=
  match readObl bs with
  | some f => if oblFieldsOk f && decide (f.typ = 7) then some f else none
  | none => none

/-- A TUNNEL frame arrives; a packet that it completes on a Seat is taken in (R622, R623). -/
def tunnelArrives (q : Nat) (bs : List Byte) (s : State) : State :=
  match tunnelOf bs with
  | none => s
  | some f =>
    let r := tunnelFrame q f s
    match r.2 with
    | none => r.1
    | some pkt =>
      let s1 := { r.1 with cmd := { r.1.cmd with tunnelIn := r.1.cmd.tunnelIn ++ [pkt] } }
      drainTunnel s1.cmd.tunnelIn.length s1

/-- OBL_TUNNEL_FRAME (R622). -/
def execOblTunnelFrame (port : Nat) (bytes : List Byte) (s : State) : Host.Outcome State Fault Refusal :=
  let s0 := fresh s
  let heard := decide (s0.role ≠ 0) && decide (port < 2) && decide (2 ≤ (s0.oblPort port).state)
  .next (settle (
    if heard then oblReceive port bytes (fun bs s => tunnelArrives port bs (oblFrameIn port bs s)) s0 else s0))

/-! ## The end of a Rudder swap (R340) -/

/-- RUD_SWAP_COMPLETE: the last frame of the old bank has been delivered (R340). -/
def execRudSwapComplete (s : State) : Host.Outcome State Fault Refusal :=
  let s0 := fresh s
  .next (settle (match s0.rud.swapTo with
    | some b => if s0.rudDrained b then rudSwapDone s0 else s0
    | none => s0))

end Sys2Proof.Machine
end

