-- ==== Sys2Proof/Machine/Host.lean ====
section
/-! DEFINITION. The host interfaces: the doorbells and enables of HIF, the events of the PCIe endpoint, MSI-X and the
management port (R108, R180, R184 to R193, R200, R201, R203, R204). -/
namespace Sys2Proof.Machine

/-! ## HIF registers with an effect of their own (R145, R189, R192, R193, R198) -/

/-- HIF_WEIGH_GO (R192). -/
def execHifWeighGo (path : Path) (s : State) : Host.Outcome State Fault Refusal :=
  .next (settle (wordWrite path Reg.HIF_WEIGH 1 s))

/-- HIF_CQ_TAIL_WRITE: the command doorbell (R189, R207). -/
def execHifCqTailWrite (path : Path) (v : Word) (s : State) : Host.Outcome State Fault Refusal :=
  .next (settle (wordWrite path Reg.HIF_CQ_TAIL v s))

/-- HIF_RQ_HEAD_WRITE (R189, R207). -/
def execHifRqHeadWrite (path : Path) (v : Word) (s : State) : Host.Outcome State Fault Refusal :=
  .next (settle (wordWrite path Reg.HIF_RQ_HEAD v s))

/-- HIF_Q_CFG_EN_WRITE (R189). -/
def execHifQCfgEnWrite (path : Path) (v : Word) (s : State) : Host.Outcome State Fault Refusal :=
  .next (settle (wordWrite path Reg.HIF_Q_CFG v s))

/-- HIF_RING_EN_WRITE (R193, R198). -/
def execHifRingEnWrite (path : Path) (ring : Nat) (v : Word) (s : State) : Host.Outcome State Fault Refusal :=
  .next (settle (if ring < 32 then wordWrite path (Reg.HIF_RING_CFG ring) v s else fresh s))

/-! ## The PCIe endpoint (R180, R203, R204) -/

/-- PE_PERST_N_LOW: the host path is lost and configuration space resets (R180). -/
def execPePerstNLow (s : State) : Host.Outcome State Fault Refusal :=
  let s0 := fresh s
  .next (settle (
    if !s0.pcie || !s0.hif.perstN then s0
    else linkGone false { hostPathLost s0 with hif := { (hostPathLost s0).hif with perstN := false } }))

/-- PE_PERST_N_RELEASE: the link starts training (R180). -/
def execPePerstNRelease (s : State) : Host.Outcome State Fault Refusal :=
  let s0 := fresh s
  .next (settle (if s0.pcie then linkTrain { s0 with hif := { s0.hif with perstN := true } } else s0))

/-- PCIE_LINK_DOWN: link down or hot reset; the link trains again (R180). -/
def execPcieLinkDown (s : State) : Host.Outcome State Fault Refusal :=
  let s0 := fresh s
  .next (settle (if s0.pcie && s0.hif.linkUp then linkTrain (linkGone false (hostPathLost s0)) else s0))

/-- PCIE_LINK_UP: training ends with the width and the speed negotiated; PE_WAKE_N is released (R109, R203, R204). -/
def execPcieLinkUp (width speed : BitVec 2) (s : State) : Host.Outcome State Fault Refusal :=
  let s0 := fresh s
  let h := { s0.hif with width := width, speed := speed }
  .next (settle (
    if !s0.pcie then s0
    else if s0.hif.linkUp then { s0 with hif := h }
    else if !s0.hif.training then s0
    else ({ s0 with hif := { h with linkUp := true, training := false }, pmu := { s0.pmu with peWakeN := false } }).flag
      Reg.HIF_EVENT 5))

/-- BME_CLEARED (R180). -/
def execBmeCleared (s : State) : Host.Outcome State Fault Refusal :=
  let s0 := fresh s
  .next (settle (
    if s0.pcie && s0.hif.linkUp then setBme false s0 else s0))

/-- BUS_MASTER_ENABLE_SET (R180). -/
def execBusMasterEnableSet (s : State) : Host.Outcome State Fault Refusal :=
  let s0 := fresh s
  .next (settle (if s0.pcie && s0.hif.linkUp then setBme true s0 else s0))

/-- D3HOT_ENTERED (R180). -/
def execD3hotEntered (s : State) : Host.Outcome State Fault Refusal :=
  let s0 := fresh s
  .next (settle (
    if s0.pcie && s0.hif.linkUp then setD3hot true s0 else s0))

/-- MSIX_VECTOR_UNMASK: the host unmasks vectors, or the function too, and the messages held are sent (R201, R203). -/
def execMsixVectorUnmask (what : Unmask) (s : State) : Host.Outcome State Fault Refusal :=
  let s0 := fresh s
  .next (settle (
    if !(s0.pcie && s0.hif.linkUp) then s0
    else unmaskVectors what.vectors (if what.function then msixControl true false s0 else s0)))

/-! ## The management port (R184 to R188) -/

/-- The address that A2, A1 and A0 give, its bits [1:0] ignored (R184). -/
def msAddr (addr : BitVec 24) : Nat := addr.toNat % 2 ^ 20 / 4 * 4

/-- The words that a command byte reads; 0 for a byte that opens no read (R184). -/
def msWords (cmd : Byte) : Nat := if 0x10 ≤ cmd && cmd ≤ 0x13 then cmd.toNat - 0x0F else 0

/-- The status code of an access whose words all arrive where `complete`, opened by a command byte that is `known`: the
first that applies (R185, R187, R188). ASLEEP also answers an access outside the PMU window in BOOT before HIF answers
(step 4 of R88), for which R187 names no code (DESIGN CHOICE). -/
def msStatus (known : Bool) (addr : BitVec 24) (complete : Bool) (s : State) : Byte :=
  let a := msAddr addr
  let asleep := !s.coreAnswers && !(decide (a < 0x80000) && decide (busWindow a = 1))
  if !known || decide (addr.toNat / 2 ^ 20 ≠ 0) then 2
  else if 0x90000 ≤ a then 3
  else if asleep then 1
  else if !complete then 4
  else 0

/-- The port answers: the always-on island is powered (R92, R187). -/
def State.msOn (s : State) : Bool := s.pmu.vddAon

/-- A write through the management port, its words at consecutive addresses in consecutive cycles (R184, R186). -/
def msWrite (known : Bool) (addr : BitVec 24) (ws : List Word) (complete : Bool) (s : State) : State :=
  if !s.msOn then s else
  let st := msStatus known addr complete s
  let s1 := { s with bus := { s.bus with rdata := [], ack := true, status := st, msWrite := st } }
  if st = 0 then ws.zipIdx.foldl (fun s e => busWrite .mgmt (msAddr addr + 4 * e.2) 0xF e.1 s) s1 else s1

/-- Words read at consecutive addresses, each fetched in turn (R186). -/
def msFetch : Nat → Nat → State → List Word × State
  | 0, _, s => ([], s)
  | n + 1, a, s =>
    let r := busRead .mgmt a 0xF s
    let rest := msFetch n (a + 4) r.2
    (r.1 :: rest.1, rest.2)

/-- A read of `count` words through the management port; under any status but OK its data are zero, and a byte that opens
no read has a count of 0 (R184 to R186, R188). -/
def msRead (count : Nat) (addr : BitVec 24) (complete : Bool) (s : State) : State :=
  if !s.msOn then s else
  let st := msStatus (decide (count ≠ 0)) addr complete s
  let r := if st = 0 then msFetch count (msAddr addr) s else (List.replicate count 0, s)
  { r.2 with bus := { r.2.bus with rdata := r.1, ack := true, status := st } }

/-- MS_WRITE_ONE: its command byte is 0x01 or one that opens no access (R184, R185). -/
def execMsWriteOne (head : MsHead) (w : Word) (complete : Bool) (s : State) : Host.Outcome State Fault Refusal :=
  .next (settle (msWrite (decide (head.cmd = 0x01)) head.addr [w] complete (fresh s)))

/-- MS_WRITE_TWO (R184). -/
def execMsWriteTwo (addr : BitVec 24) (w0 w1 : Word) (complete : Bool) (s : State) : Host.Outcome State Fault Refusal :=
  .next (settle (msWrite true addr [w0, w1] complete (fresh s)))

/-- MS_READ (R184). -/
def execMsRead (cmd : Byte) (addr : BitVec 24) (complete : Bool) (s : State) : Host.Outcome State Fault Refusal :=
  .next (settle (msRead (msWords cmd) addr complete (fresh s)))

/-- MS_READ_STATUS: the status of the last write (R184). -/
def execMsReadStatus (s : State) : Host.Outcome State Fault Refusal :=
  let s0 := fresh s
  .next (settle (if s0.msOn then { s0 with bus := { s0.bus with rdata := [], ack := true, status := s0.bus.msWrite } } else s0))

/-- MS_ADDRESS_MATCH: a target address is sent on the management bus; the Halyn's own is acknowledged, and starts a wake
where that is enabled (R108, R187). -/
def execMsAddressMatch (address : BitVec 7) (s : State) : Host.Outcome State Fault Refusal :=
  let s0 := fresh s
  let own := decide (address.toNat = 0b1011000 + s0.pmu.straps.msAddr.toNat)
  let s1 := { s0 with bus := { s0.bus with ack := own && s0.msOn } }
  .next (settle (if own && s0.msOn then wakeEvent 0 true s1 else s1))

end Sys2Proof.Machine
end

