-- ==== Sys2Proof/Machine/Phases.lean ====
section
/-! DEFINITION. The stroke: its boundary and its four phases, with the entries of the audio rings (R24 to R33, R193 to
R201, R415, R549, R551, R575). -/
namespace Sys2Proof.Machine

/-! ## The boundary (R24, R26, R32, R33) -/

/-- The number of the stroke whose place on the grid of R26 is nearest to now: by Network Time where the grid starts in a
mode change, and on the media clock where it restarts after a change of core rate or stroke size (R24, R83, R114). -/
def State.gridNumber (s : State) : Nat :=
  let t : Int := if s.mck.regrid then s.mediaTime / 2 ^ 40 else s.tick64
  (roundDiv (t * s.coreRate) (s.strokeSize * 1000000000)).toNat

/-- Network Time less the instant that R26 gives stroke `k`, in ns (R402). -/
def State.gridError (s : State) (k : Nat) : Int :=
  let at_ : Int := (k * s.strokeSize * 1000000000 * 2 ^ 40 : Nat)
  sgn 64 (unsgn 64 (roundDiv ((s.ntu.nt40 : Int) * s.coreRate - at_) (s.coreRate * 2 ^ 40)))

/-- The place of stroke `k` on the media clock, in 2^-40 ns (R26). -/
def State.strokeTime (s : State) (k : Nat) : Int :=
  ((k * s.strokeSize * 1000000000 * 2 ^ 40 : Nat) : Int) / (s.coreRate : Int)

/-- Stroke `k` begins now, and the media clock counts from its place; `omitted` frames of the stroke before it were left
out. PPS_OUT and the PERIODIC pins stay where they are (R26, R72, R194, R416). -/
def strokeBegins (k omitted : Nat) (s : State) : State :=
  let e := s.gridError k
  let t := s.tick64
  { s with mck := { s.mck with stroke := k, grid := true, gridStart := false, part := .boundary, strokeTick := t,
                               strokeAt := s.ntu.course, prevAt := s.mck.strokeAt, omitted := omitted, phaseErr := e,
                               mcBase := s.strokeTime k, mcAt := s.ntu.course, regrid := false },
           ntu := { s.ntu with aligned := s.outTime - s.strokeTime k } }

/-- The outputs as the grid starts: the first start aligns them, and later ones leave them at their aligned phase (R72,
R114, R412). -/
def gridAnchor (s : State) : State :=
  if s.mck.anchored then s
  else
    let s1 := evtAnchor s
    { s1 with mck := { s1.mck with anchored := true, secOff := 0 } }

/-- The command that awaits bank swap `q`. -/
def awaitsSwap (q : SwapReq) (f : Flight) : Bool := decide (f.fin = Fin.driveSwap q.id)

/-- Bank swap `q` takes effect at the boundary that begins stroke `k` (R559, R575). -/
def swapDone (k : Nat) (q : SwapReq) (s : State) : State :=
  let s1 := genIf q.unsure (drvSwap q.copy (s.setSwaps fun l => l.filter fun r => decide (r.id ≠ q.id)))
  let s2 := (s1.setReg Reg.DRV_SWAP_STROKE (stroke32 k)).flag Reg.DRV_EVENT 0
  s2.finish (fun f => decide (f = .driveSwap q.id)) fun _ => [w32 s2.drv.active, stroke32 k]

/-- One waiting bank swap at the boundary that begins stroke `k`, the grid's first where `first` (R575). One held for a
named stroke while the grid was stopped is certain, and changes a stored setting, once that stroke is still to come
(R232). -/
def swapStep (first : Bool) (k : Nat) (s : State) (q : SwapReq) : State :=
  match q.at_ with
  | none =>
    if q.wait ≤ 1 then swapDone k q s
    else s.setSwaps fun l => l.map fun r => if r.id = q.id then { r with wait := r.wait - 1 } else r
  | some n =>
    let d := strokeDist n k
    if 0 < d then
      genIf q.unsure (s.setSwaps fun l => l.map fun r => if r.id = q.id then { r with unsure := false } else r)
    else if first && decide (d < 0) then
      (s.setSwaps fun l => l.filter fun r => decide (r.id ≠ q.id)).endFlights .late (awaitsSwap q)
    else swapDone k q s

/-- The waiting bank swaps at the boundary that begins stroke `k`, oldest first (R33, R575). -/
def swapBoundary (first : Bool) (k : Nat) (s : State) : State := s.drv.swaps.foldl (swapStep first k) s

/-- Sink feeds whose boundary is now go into the bank that is active after any swap (R33, R560). -/
def feedBoundary (s : State) : State :=
  let due := s.drv.feedsNext.filter fun e => decide (e.1 ≤ 1)
  let later := (s.drv.feedsNext.filter fun e => decide (1 < e.1)).map fun e => (e.1 - 1, e.2)
  let b := due.foldl (fun b e => setFeed b e.2.1 e.2.2) s.activeBank
  { s.setBank s.drv.active b with drv := { (s.setBank s.drv.active b).drv with feedsNext := later } }

/-- The grid move that is now, to streams with a clock of their own: their samples keep their place (R534). -/
def ralMoved (q : Int) (s : State) : State :=
  let d := q * s.strokeSize
  { s with srx := { s.srx with streams := tmap s.srx.streams fun r => if r.async then { r with delta := r.delta + d } else r } }

/-- The grid move of (q, r) that takes effect at the boundary that is now, last under R33; one whose adjusted stroke ended
where the core rate or stroke size changed is settled as the new grid starts (R24, R415, R614). -/
def moveBoundary (move : Option (Int × Int)) (s : State) : State :=
  match move with
  | none => if s.mck.alignOwed then alignSettle s else s
  | some m => alignSettle (alignShift m.1 m.2 (ralMoved m.1 s))

/-- The grid move at the end of a stroke after which the core rate or stroke size changes: the alignments that wait are
measured again on the new grid (R24, R415). -/
def oweMove (move : Option (Int × Int)) (s : State) : State :=
  let s1 := match move with
    | none => s
    | some m => alignShift m.1 m.2 (ralMoved m.1 s)
  let wait := (s1.mck.aligns.filter fun a => decide (a.wait ≠ 0)).map fun a => { a with move := none }
  { s1 with mck := { s1.mck with aligns := wait, alignOwed := s1.mck.alignOwed || move.isSome } }

/-- What a command that a boundary completes awaits: the boundary of R32. -/
def atBoundary (f : Flight) : Bool := decide (f.fin = .boundary)

/-- What a command that a lane owner table completes awaits (R632). -/
def atLanes (f : Flight) : Bool := decide (f.fin = .lanes)

/-- The commands that the boundary into stroke `k` completes, and the others one boundary nearer. -/
def flightBoundary (k : Nat) (s : State) : State :=
  let s1 := s.finishDue atBoundary fun f => f.body ++ [stroke32 k]
  let s2 := s1.finishDue atLanes fun _ => [stroke32 k]
  { s2 with cmd := { s2.cmd with flights := s2.cmd.flights.map fun f => { f with due := f.due - 1 } } }

/-- The changes of R33 at the boundary that begins stroke `k`, in their order. -/
def orderedChanges (first : Bool) (k : Nat) (move : Option (Int × Int)) (s : State) : State :=
  let moved := match move with | some m => decide (m ≠ (0, 0)) | none => false
  let s1 := ringBoundary k (stxBoundaryOff k (srxBoundaryOff k s))
  let s2 := feedBoundary (swapBoundary first k s1)
  moveBoundary move (stxBoundaryOn moved (srxBoundaryOn s2))

/-- The stroke after `old` begins: the changes of R33, and what each unit does at a boundary. -/
def nextBegins (first : Bool) (k : Nat) (move : Option (Int × Int)) (s : State) : State :=
  let old := s.mck.stroke
  let omitted := if first then 0 else s.omitNow
  let frames := if first then s.strokeSize else s.strokeFrames
  let moved := match move with | some m => decide (m ≠ (0, 0)) | none => false
  let s0 := mckServo (strokeBegins k omitted s)
  let s1 := orderedChanges first k move (if first then gridAnchor s0 else s0)
  let s2 := migBoundary (alignTick s1)
  let announce := if s2.role = 1 then s2.gridMove else none
  flightBoundary k (oblBoundary old announce (tdmBoundary k frames moved s2))

/-- A stroke boundary in a mode whose grid runs or starts: the mode change of R83 comes first; a change of core rate or
stroke size ends the old grid, and the next boundary starts the new one (R24). -/
def boundary (s : State) : State :=
  if s.mck.grid then
    let s1 := modeBoundary s
    if !s1.mck.grid then s1
    else
      let s2 := coreBoundary s1
      if s2.coreSame s1.rateCode s1.s16 then nextBegins false s.nextStroke s.gridMove s2
      else
        let s3 := coreBoundary (oweMove s.gridMove s1)
        { s3 with mck := { s3.mck with grid := false, gridStart := true, regrid := true, part := .boundary } }
  else
    let s2 := modeBoundary (coreBoundary s)
    if s2.mck.gridStart then nextBegins true s2.gridNumber none s2 else s2

/-- STROKE_BOUNDARY: `dt` ns pass, and a stroke ends and the next begins (R32, R33). The grid's boundaries come in turn
with its four phases; another instant is none. -/
def execStrokeBoundary (dt : Nat) (s : State) : Host.Outcome State Fault Refusal :=
  let s0 := (fresh s).advance dt
  let ends := s0.mck.grid && decide (s0.mck.part = .recovered)
  .next (settle (if ends || (!s0.mck.grid && s0.mck.gridStart) then boundary s0 else s0))

/-! ## Entries of the audio rings (R194, R195) -/

/-- Words made from bytes, least significant first, the last one filled with zeros. -/
def bytesWords : Nat → List Byte → List Word
  | 0, _ => []
  | n + 1, bs => w32 (leNat (bs.take 4)) :: bytesWords n (bs.drop 4)

/-- Words that hold `n` bytes. -/
def wordsOf (bs : List Byte) : List Word := bytesWords ((bs.length + 3) / 4) bs

/-- The stroke of channel `c` in a playback entry (R195, R436). -/
def entryStroke (size : Nat) (cfg : RingCfg) (ws : List Word) (c : Nat) : Stroke :=
  if cfg.s20 then { groups := groupsAt (wordBytes ws) (16 + c * (21 * size / 8)) (size / 8) }
  else { groups := encodeStroke ((List.range size).map fun i =>
    entryValue 32 (ws.getD (4 + i * cfg.count + c) 0).toNat) }

/-- The last `o` samples of a stroke of `size` are those of omitted frames: they read as silence, and their groups carry DISC
(R416, R432). -/
def omitTail (size o : Nat) (st : Stroke) : Stroke :=
  if o = 0 then st else
  let xs := decodeStroke st.groups
  { groups := (st.groups.zip (eights st.groups.length ((List.range size).map fun i => if size ≤ i + o then 0 else xs.getD i 0))).zipIdx.map
      fun g =>
        if 8 * (g.2 + 1) + o ≤ size then g.1.1
        else if size ≤ 8 * g.2 + o then silentDisc
        else { encode g.1.2 with disc := true, salv := g.1.1.salv, rrw := g.1.1.rrw, conv := g.1.1.conv } }

/-- What live playback rings deliver at the Catch: host channel and stroke (R193, R196, R416). -/
def State.ringSources (s : State) : Table Stroke :=
  (List.range 16).flatMap fun i =>
    let cfg := s.ringCfg i
    match (if (s.ring i).live then (s.ring i).play else none) with
    | none => []
    | some ws => (List.range cfg.count).map fun c =>
      (0xA00 + cfg.first + c,
        if ws = [] then lostStroke s.strokeGroups else omitTail s.strokeSize s.omitNow (entryStroke s.strokeSize cfg ws c))

/-- The address of entry `k` of a ring (R194). -/
def ringEntryAt (size : Nat) (cfg : RingCfg) (k : Nat) : Nat := cfg.base + k % 2 ^ cfg.logN * ringStride size cfg

/-- An entry lies within the audio area of the parallel host bus (R199). -/
def inAudio (size : Nat) (cfg : RingCfg) (k : Nat) : Bool :=
  decide (0x90000 ≤ ringEntryAt size cfg k) && decide (ringEntryAt size cfg k + ringEntryBytes size cfg ≤ 0xC0000)

/-- Entry `k` of a playback ring as the Halyn reads it: from ring memory on the parallel host bus, from the host's answer
on PCIe; none where the read fails (R196, R199). -/
def State.readEntry (s : State) (playback : List (Nat × List Word)) (i k : Nat) (cfg : RingCfg) : Option (List Word) :=
  let n := (ringEntryBytes s.strokeSize cfg + 3) / 4
  if s.pcie then
    match playback.find? fun e => decide (e.1 = i) with
    | some e => if n ≤ e.2.length then some (e.2.take n) else none
    | none => none
  else if inAudio s.strokeSize cfg k then
    some ((List.range n).map fun j => s.audioWord (ringEntryAt s.strokeSize cfg k + 4 * j))
  else none

/-- Count a missed entry of ring `i` (R196, R197). -/
def State.ringMiss (s : State) (i : Nat) : State := s.bumpField (Reg.HIF_RING_STAT i) 31 16

/-- Entry `k` of ring `i` is complete (R197, R209). -/
def State.ringLast (s : State) (i k : Nat) (cfg : RingCfg) : State :=
  s.setField (Reg.HIF_RING_STAT i) 11 0 (k % 2 ^ cfg.logN)

/-- The read of entry `k` of playback ring `i` (R180, R196). -/
def playRing (playback : List (Nat × List Word)) (k : Nat) (s : State) (i : Nat) : State :=
  let r := s.ring i
  let cfg := s.ringCfg i
  let miss := fun (s : State) => (s.ringMiss i).onRing i fun r => { r with play := some [] }
  if !r.live || k < r.start then s
  else if s.pcie && !s.dmaOn then miss s
  else match s.readEntry playback i k cfg with
    | none => (miss s).flag Reg.HIF_ERR 5
    | some ws =>
      let s1 := s.ringLast i k cfg
      if ws.getD 0 0 = stroke32 k then s1.onRing i fun r => { r with play := some ws } else miss s1

/-- The sink strokes that a capture ring writes, with those that fail their check replaced (R42, R43). -/
def State.captureStrokes (s : State) (cfg : RingCfg) : List Stroke :=
  (List.range cfg.count).map fun c =>
    let id := 0xA00 + cfg.first + c
    if has s.drv.badSinks id then lostStroke s.strokeGroups else tgetD s.drv.sinks id (silentStroke s.strokeGroups)

/-- The payload of a capture entry (R195). -/
def capturePayload (size : Nat) (cfg : RingCfg) (sts : List Stroke) : List Byte :=
  if cfg.s20 then sts.flatMap fun st => strokeBytes st.groups
  else
    let cols := sts.map fun st => (exitStroke 32 false st 1).1
    (List.range size).flatMap fun i => cols.flatMap fun xs => leBytes 4 (xs.getD i 0)

/-- Words 0 to 3 of a capture entry (R194): a COUNT of 64 stands as 0. -/
def captureHeader (k : Nat) (tick : Word) (cfg : RingCfg) (disc : Bool) : List Word :=
  [stroke32 k, w32 (cfg.count % 64 + 2 ^ 7 * b2n cfg.s20 + 2 ^ 8 * b2n disc), tick, 0]

/-- Write bytes of ring memory from address `a`. -/
def putAudio : Nat → List Byte → State → State
  | _, [], s => s
  | a, b :: bs, s => putAudio (a + 1) bs (s.setAudio a b)

/-- Entry `k` − 1 was written, as far as the run of entries tells (R194). -/
def Ring.wroteBefore (r : Ring) (k : Nat) : Bool :=
  match r.run with
  | some (a, b) => decide (a < k) && decide (k ≤ b + 1)
  | none => false

/-- The run once entry `k` is written. -/
def Ring.wrote (r : Ring) (k : Nat) : Nat × Nat :=
  match r.run with
  | some (a, _) => if r.wroteBefore k then (a, k) else (k, k)
  | none => (k, k)

/-- The write of entry `k` of capture ring `i` (R42, R43, R194, R197, R199). -/
def captureRing (k : Nat) (s : State) (i : Nat) : State :=
  let r := s.ring i
  let cfg := s.ringCfg i
  if !r.live || k < r.start then s
  else if (s.pcie && !s.dmaOn) || (!s.pcie && !(inAudio s.strokeSize cfg k)) then
    (s.ringMiss i).onRing i fun r => { r with run := none }
  else
    let bad := (List.range cfg.count).filter fun c => has s.drv.badSinks (0xA00 + cfg.first + c)
    let s1 := bad.foldl (fun s c => s.raise 2 11 (w32 (0xA00 + cfg.first + c + 4096))) s
    let sts := s.captureStrokes cfg
    let head := captureHeader k (w32 (s.mck.strokeTick % 2 ^ 32)) cfg (!(r.wroteBefore k) || sts.any strokeDisc)
    let bytes := wordBytes head ++ capturePayload s.strokeSize cfg sts
    let s2 := (s1.ringLast i k cfg).onRing i fun r => { r with run := some (r.wrote k) }
    if s.pcie then { s2 with hif := { s2.hif with capture := s2.hif.capture ++ [(i, wordsOf bytes)] } }
    else putAudio (ringEntryAt s.strokeSize cfg k) bytes s2

/-- The signals of the rings in the Recovery phase of stroke `k` (R200, R201). -/
def ringSignals (k : Nat) (s : State) : State :=
  let every := 2 ^ satNat 8 (s.regField Reg.HIF_AUDIO_CFG 3 0)
  let on := (List.range 32).filter fun i => (s.ring i).live
  if k % every ≠ 0 || on = [] then s
  else on.foldl (fun s i => if 2 ≤ (s.ringCfg i).vec then s.message (s.ringCfg i).vec else s) (s.flag Reg.HIF_EVENT 3)

/-! ## Catch (R22, R30, R42, R43, R550) -/

/-- What a source of the TDM ports in use delivers. -/
def State.tdmSources (s : State) (ids : List Nat) : Table Stroke :=
  (ids.filter fun id => decide (0x800 ≤ id) && decide (id < 0xA00)).map fun id => (id, s.tdmSource id)

/-- The source is a position of a receive stream that converts: the Rate Aligner checks its stroke (R42). -/
def State.ralChecks (s : State) (id : Nat) : Bool :=
  s.srx.streams.any fun e => e.2.converts s.rateCode && e.2.map.any fun o => decide (o = some id)

/-- A source stroke that an upset changed is replaced where it is checked (R43, R550). -/
def catchUpset (s : State) (u : Upset) : State :=
  let s1 := match u.ded with
    | some d => s.dedFound d.1 d.2
    | none => s
  if s.ralChecks u.id then s1.raise 2 8 (w32 u.id)
  else
    let ids := s.rxShares u.id
    if !(ids.any fun id => thas s.drv.src id) then s1 else
    let src := ids.foldl (fun t id => tmod t id fun st => lostStroke st.groups.length) s1.drv.src
    ({ s1 with drv := { s1.drv with src := src } }.flag Reg.DRV_EVENT 4).raise 2 9 (w32 u.id)

/-- The Catch of stroke k: every source in use hands its stroke to the Drive engine, which checks it, and STX builds its
packets (R30). -/
def catchAll (pins : List (Nat × List (List Word))) (upset : List Upset) (s : State) : State :=
  let s1 := pins.foldl (fun s e => tdmPins s e.1 e.2) s
  let (rx, s2) := srxCatch (upset.map Upset.id) s1
  let (lanes, s3) := oblCatch s2
  let use := s3.sourcesInUse
  let all := rx ++ s3.tdmSources use ++ s3.ringSources ++ lanes
  let src := if s3.drv.running then (all.filter fun e => has use e.1).foldl (fun t e => tset t e.1 e.2) [] else []
  let rings := s3.hif.rings.map fun r => { r with play := none }
  let s4 := { s3 with drv := { s3.drv with src := src }, hif := { s3.hif with rings := rings } }
  stxCatch (upset.foldl catchUpset s4)

/-- Phase `p` of the stroke in progress comes after part `after` (R29): another order is none that the grid gives. -/
def inPhase (after p : StrokePart) (f : State → State) (s : State) : State :=
  if s.mck.grid && decide (s.mck.part = after) then
    let s1 := f s
    { s1 with mck := { s1.mck with part := p } }
  else s

/-- CATCH_PHASE: `pins` are the frames that master TDM ports captured in the stroke before, `errs` what the reads of the units
have met since the last Catch (R253). -/
def execCatchPhase (pins : List (Nat × List (List Word))) (errs : CatchErrs) (s : State) : Host.Outcome State Fault Refusal :=
  .next (settle (inPhase .boundary .caught
    (fun s => catchAll pins errs.upset (errs.ce.foldl (fun s e => s.ceFound e.1 e.2) s)) (fresh s)))

/-! ## Drive (R30, R196, R197, R527, R549) -/

/-- The Drive phase: the mixes, the conversion of the next stroke, and the ring accesses of HIF. -/
def driveAll (playback : List (Nat × List Word)) (s : State) : State :=
  let k := s.mck.stroke
  let s1 := (s.srx.streams.map Prod.fst).foldl (fun s n => ralConvert n s) (drvPhase s)
  let s2 := ((List.range 16).map fun i => 16 + i).foldl (captureRing k) s1
  (List.range 16).foldl (playRing playback s2.nextStroke) s2

/-- DRIVE_PHASE: `playback` holds what the host's memory answers to the reads of the playback rings, on PCIe. -/
def execDrivePhase (playback : List (Nat × List Word)) (s : State) : Host.Outcome State Fault Refusal :=
  .next (settle (inPhase .caught .driven (driveAll playback) (fresh s)))

/-! ## Finish (R21, R22, R28, R551) -/

/-- Sink `id` is the even ID of an exact-24 pair bound by a transmit stream or declared by a TDM port (R551, R584). -/
def State.boundPair (s : State) (id : Nat) : Bool :=
  if id % 2 ≠ 0 then false
  else if id < 0x800 then
    s.stx.streams.any fun e => (List.range e.2.map.length).any fun c =>
      decide (e.2.map.getD c none = some id) && decide (c % 2 = 0) && e.2.pair (c / 2)
  else if id < 0xA00 then (s.tdmCfg ((id - 0x800) / 32)).pair ((id - 0x800) % 32 / 2)
  else false

/-- Source `id` is the even ID of a pair in this stroke (R551). -/
def State.sourcePair (s : State) (id : Nat) : Bool :=
  match tget s.drv.src id with
  | some st => st.odd.isSome && decide (id % 2 = 0)
  | none => false

/-- The feed of a sink in the active bank (R21, R551). -/
def State.feedOf (s : State) (id : Nat) : Nat := tgetD s.activeBank.feeds id 0

/-- Sink `id` is the even ID of a sink pair in this stroke: a bound one, or an Obien lane or host channel that a source pair
feeds (R195, R551). -/
def State.pairSink (s : State) (id : Nat) : Bool :=
  s.boundPair id || (decide (0xA00 ≤ id) && decide (id % 2 = 0) && decide (s.feedOf id / 2 ^ 14 = 2)
    && s.sourcePair (s.feedOf id % 4096))

/-- The stroke that sink `id` takes from its feed; none where it is silent (R15, R22, R551). -/
def State.sinkStroke (s : State) (id feed : Nat) : Option Stroke :=
  if id % 2 = 1 && s.pairSink (id - 1) then none
  else
    let st := if feed / 2 ^ 14 = 1 then tget s.drv.mixes (feed % 4096)
      else if feed / 2 ^ 14 = 2 then some (s.sourceStroke (feed % 4096)) else none
    let pair := if feed / 2 ^ 14 = 1 then s.boundPair id else s.pairSink id && s.sourcePair (feed % 4096)
    st.map fun st => if pair then st else { st with odd := none }

/-- Every sink stroke that the active bank feeds: silence with MUTE in a mode in which the engine does not compute, and where
the feed gives none (R22, R28). -/
def State.sinkStrokes (s : State) : Table Stroke :=
  s.activeBank.feeds.map fun e =>
    (e.1, if s.drv.running then (s.sinkStroke e.1 e.2).getD (silentStroke s.strokeGroups) else silentStroke s.strokeGroups)

/-- The Finish: every sink stroke is written, its CRC formed, and the partial sums go to the Obien link. -/
def finishAll (upset : List Upset) (s : State) : State :=
  let sinks := s.sinkStrokes
  let s1 := { s with drv := { s.drv with sinks := sinks, badSinks := (upset.map Upset.id).dedup } }
  let s2 := upset.foldl (fun s u => match u.ded with
    | some d => s.dedFound d.1 d.2
    | none => s) s1
  oblFinish s2

/-- FINISH_PHASE: `upset` are the sink strokes that change before the unit that takes them checks them (R42). -/
def execFinishPhase (upset : List Upset) (s : State) : Host.Outcome State Fault Refusal :=
  .next (settle (inPhase .driven .finished (finishAll upset) (fresh s)))

/-! ## Recovery (R30, R201, R261, R415, R474, R501, R554) -/

/-- The Recovery phase. -/
def recoverAll (s : State) : State :=
  let s1 := drvRecovery (alignMeasure s)
  let s2 := stxRecovery (srxRecovery s1)
  ringSignals s2.mck.stroke (migCopy s2)

/-- RECOVERY_PHASE. -/
def execRecoveryPhase (s : State) : Host.Outcome State Fault Refusal :=
  .next (settle (inPhase .finished .recovered recoverAll (fresh s)))

end Sys2Proof.Machine
end

