-- ==== Sys2Proof/Machine/Dispatch.lean ====
section
/-! DEFINITION. One arm for each command of the table: a direct call of its meaning. -/
namespace Sys2Proof.Machine

/-- The effect of a command on everything but the queue of waiting commands. -/
def exec (i : Instr) (s : State) : Host.Outcome State Fault Refusal :=
  match i with
  | .nop p => Sys2Proof.Machine.execNop p s
  | .nopDelayEnd => Sys2Proof.Machine.execNopDelayEnd s
  | .weighIn p => Sys2Proof.Machine.execWeighIn p s
  | .abort p => Sys2Proof.Machine.execAbort p s
  | .modeSet p => Sys2Proof.Machine.execModeSet p s
  | .powerRequest p => Sys2Proof.Machine.execPowerRequest p s
  | .srxDefine p => Sys2Proof.Machine.execSrxDefine p s
  | .srxEnable p => Sys2Proof.Machine.execSrxEnable p s
  | .srxDisable p => Sys2Proof.Machine.execSrxDisable p s
  | .srxQuery p => Sys2Proof.Machine.execSrxQuery p s
  | .srxRetarget p => Sys2Proof.Machine.execSrxRetarget p s
  | .stxDefine p => Sys2Proof.Machine.execStxDefine p s
  | .stxEnable p => Sys2Proof.Machine.execStxEnable p s
  | .stxDisable p => Sys2Proof.Machine.execStxDisable p s
  | .stxQuery p => Sys2Proof.Machine.execStxQuery p s
  | .stxTemplate p => Sys2Proof.Machine.execStxTemplate p s
  | .busDefine p => Sys2Proof.Machine.execBusDefine p s
  | .memberSet p => Sys2Proof.Machine.execMemberSet p s
  | .listenSet p => Sys2Proof.Machine.execListenSet p s
  | .xpointSet p => Sys2Proof.Machine.execXpointSet p s
  | .gainSet p => Sys2Proof.Machine.execGainSet p s
  | .gateConfig p => Sys2Proof.Machine.execGateConfig p s
  | .duckSet p => Sys2Proof.Machine.execDuckSet p s
  | .drvBankSwap p => Sys2Proof.Machine.execDrvBankSwap p s
  | .drvQuery p => Sys2Proof.Machine.execDrvQuery p s
  | .refConfig p => Sys2Proof.Machine.execRefConfig p s
  | .refRank p => Sys2Proof.Machine.execRefRank p s
  | .holdoverConfig p => Sys2Proof.Machine.execHoldoverConfig p s
  | .alignOutputs p => Sys2Proof.Machine.execAlignOutputs p s
  | .mckQuery p => Sys2Proof.Machine.execMckQuery p s
  | .ptpConfig p => Sys2Proof.Machine.execPtpConfig p s
  | .ptpPort p => Sys2Proof.Machine.execPtpPort p s
  | .timeSet p => Sys2Proof.Machine.execTimeSet p s
  | .startlistLoad p => Sys2Proof.Machine.execStartlistLoad p s
  | .startlistArm p => Sys2Proof.Machine.execStartlistArm p s
  | .startlistCancel p => Sys2Proof.Machine.execStartlistCancel p s
  | .rudLoad p => Sys2Proof.Machine.execRudLoad p s
  | .rudSwap p => Sys2Proof.Machine.execRudSwap p s
  | .flowSet p => Sys2Proof.Machine.execFlowSet p s
  | .queueConfig p => Sys2Proof.Machine.execQueueConfig p s
  | .queueQuery p => Sys2Proof.Machine.execQueueQuery p s
  | .portConfig p => Sys2Proof.Machine.execPortConfig p s
  | .portRestart p => Sys2Proof.Machine.execPortRestart p s
  | .portStats p => Sys2Proof.Machine.execPortStats p s
  | .tdmConfig p => Sys2Proof.Machine.execTdmConfig p s
  | .tdmRestart p => Sys2Proof.Machine.execTdmRestart p s
  | .ralConfig p => Sys2Proof.Machine.execRalConfig p s
  | .ralQuery p => Sys2Proof.Machine.execRalQuery p s
  | .cascadeConfig p => Sys2Proof.Machine.execCascadeConfig p s
  | .cascadeStatus p => Sys2Proof.Machine.execCascadeStatus p s
  | .patchLoad p => Sys2Proof.Machine.execPatchLoad p s
  | .patchSwap p => Sys2Proof.Machine.execPatchSwap p s
  | .bankRepair p => Sys2Proof.Machine.execBankRepair p s
  | .bankStatus p => Sys2Proof.Machine.execBankStatus p s
  | .loopback p => Sys2Proof.Machine.execLoopback p s
  | .bist p => Sys2Proof.Machine.execBist p s
  | .faultInject p => Sys2Proof.Machine.execFaultInject p s
  | .commandStartAfterWait => Sys2Proof.Machine.execCommandStartAfterWait s
  | .commandFetch slot => Sys2Proof.Machine.execCommandFetch slot s
  | .commandPortWrite path w => Sys2Proof.Machine.execCommandPortWrite path w s
  | .replyPortRead path => Sys2Proof.Machine.execReplyPortRead path s
  | .replyPost => Sys2Proof.Machine.execReplyPost s
  | .vector1Message => Sys2Proof.Machine.execVector1Message s
  | .hifWeighGo path => Sys2Proof.Machine.execHifWeighGo path s
  | .hifCqTailWrite path v => Sys2Proof.Machine.execHifCqTailWrite path v s
  | .hifRqHeadWrite path v => Sys2Proof.Machine.execHifRqHeadWrite path v s
  | .hifQCfgEnWrite path v => Sys2Proof.Machine.execHifQCfgEnWrite path v s
  | .hifRingEnWrite path ring v => Sys2Proof.Machine.execHifRingEnWrite path ring v s
  | .pePerstNLow => Sys2Proof.Machine.execPePerstNLow s
  | .pcieLinkDown => Sys2Proof.Machine.execPcieLinkDown s
  | .pcieLinkUp width speed => Sys2Proof.Machine.execPcieLinkUp width speed s
  | .bmeCleared => Sys2Proof.Machine.execBmeCleared s
  | .d3hotEntered => Sys2Proof.Machine.execD3hotEntered s
  | .msWriteOne head w complete => Sys2Proof.Machine.execMsWriteOne head w complete s
  | .msWriteTwo addr w0 w1 complete => Sys2Proof.Machine.execMsWriteTwo addr w0 w1 complete s
  | .msRead cmd addr complete => Sys2Proof.Machine.execMsRead cmd addr complete s
  | .msReadStatus => Sys2Proof.Machine.execMsReadStatus s
  | .msAddressMatch address => Sys2Proof.Machine.execMsAddressMatch address s
  | .registerWrite req addr be v => Sys2Proof.Machine.execRegisterWrite req addr be v s
  | .rcRead req addr be => Sys2Proof.Machine.execRcRead req addr be s
  | .pmuWakeReasonRead path => Sys2Proof.Machine.execPmuWakeReasonRead path s
  | .tdmTsRead path port => Sys2Proof.Machine.execTdmTsRead path port s
  | .keyValueWrite path addr v => Sys2Proof.Machine.execKeyValueWrite path addr v s
  | .keySequenceTimeout window => Sys2Proof.Machine.execKeySequenceTimeout window s
  | .modeForceQuiet path => Sys2Proof.Machine.execModeForceQuiet path s
  | .modeForceSafe path => Sys2Proof.Machine.execModeForceSafe path s
  | .modeForceMoored path => Sys2Proof.Machine.execModeForceMoored path s
  | .railCycle path => Sys2Proof.Machine.execRailCycle path s
  | .cmdReset path => Sys2Proof.Machine.execCmdReset path s
  | .otpOpen path => Sys2Proof.Machine.execOtpOpen path s
  | .otpClose path => Sys2Proof.Machine.execOtpClose path s
  | .serdesReset path port => Sys2Proof.Machine.execSerdesReset path port s
  | .patchSwapKeyed path => Sys2Proof.Machine.execPatchSwapKeyed path s
  | .patchRevertKeyed path => Sys2Proof.Machine.execPatchRevertKeyed path s
  | .bankMapMigrate path bank => Sys2Proof.Machine.execBankMapMigrate path bank s
  | .bankMapUnretire path => Sys2Proof.Machine.execBankMapUnretire path s
  | .mckCoreCfgWrite path v => Sys2Proof.Machine.execMckCoreCfgWrite path v s
  | .npxCfgEnWrite path port v => Sys2Proof.Machine.execNpxCfgEnWrite path port v s
  | .pauseTxGo path port v => Sys2Proof.Machine.execPauseTxGo path port v s
  | .rudCtrlEnWrite path v => Sys2Proof.Machine.execRudCtrlEnWrite path v s
  | .oblRelearn path => Sys2Proof.Machine.execOblRelearn path s
  | .umpireAck path => Sys2Proof.Machine.execUmpireAck path s
  | .qOpen path q v => Sys2Proof.Machine.execQOpen path q v s
  | .qWdata path q v => Sys2Proof.Machine.execQWdata path q v s
  | .qCommit path q v => Sys2Proof.Machine.execQCommit path q v s
  | .qRdata path q ecc => Sys2Proof.Machine.execQRdata path q ecc s
  | .qOpNext path q => Sys2Proof.Machine.execQOpNext path q s
  | .qOpRelease path q => Sys2Proof.Machine.execQOpRelease path q s
  | .qOpMark path q => Sys2Proof.Machine.execQOpMark path q s
  | .qOpRewind path q => Sys2Proof.Machine.execQOpRewind path q s
  | .qOpAbandon path q => Sys2Proof.Machine.execQOpAbandon path q s
  | .apertureMemoryAccess path addr be act => Sys2Proof.Machine.execApertureMemoryAccess path addr be act s
  | .porNRise straps => Sys2Proof.Machine.execPorNRise straps s
  | .porNFall => Sys2Proof.Machine.execPorNFall s
  | .railEnableStep => Sys2Proof.Machine.execRailEnableStep s
  | .railDisableStep => Sys2Proof.Machine.execRailDisableStep s
  | .railOffElapsed => Sys2Proof.Machine.execRailOffElapsed s
  | .pwrGoodTimeout => Sys2Proof.Machine.execPwrGoodTimeout s
  | .pwrGoodFail => Sys2Proof.Machine.execPwrGoodFail s
  | .coreResetRelease record => Sys2Proof.Machine.execCoreResetRelease record s
  | .bufferClearDone => Sys2Proof.Machine.execBufferClearDone s
  | .bootImageLoad image => Sys2Proof.Machine.execBootImageLoad image s
  | .peWakeNAsserted => Sys2Proof.Machine.execPeWakeNAsserted s
  | .handshakeUnitAnswer unit => Sys2Proof.Machine.execHandshakeUnitAnswer unit s
  | .handshakeDelayExpired unit => Sys2Proof.Machine.execHandshakeDelayExpired unit s
  | .handshakeDelayCap => Sys2Proof.Machine.execHandshakeDelayCap s
  | .handshakeUnitComplete unit => Sys2Proof.Machine.execHandshakeUnitComplete unit s
  | .powerReplyWaitExpired => Sys2Proof.Machine.execPowerReplyWaitExpired s
  | .islandAutoEnter => Sys2Proof.Machine.execIslandAutoEnter s
  | .islandAutoReturn => Sys2Proof.Machine.execIslandAutoReturn s
  | .strokeBoundary dt => Sys2Proof.Machine.execStrokeBoundary dt s
  | .catchPhase pins errs => Sys2Proof.Machine.execCatchPhase pins errs s
  | .drivePhase playback => Sys2Proof.Machine.execDrivePhase playback s
  | .finishPhase upset => Sys2Proof.Machine.execFinishPhase upset s
  | .recoveryPhase => Sys2Proof.Machine.execRecoveryPhase s
  | .frameReceived dt port bytes errs => Sys2Proof.Machine.execFrameReceived dt port bytes errs s
  | .pauseTimerExpired port timer => Sys2Proof.Machine.execPauseTimerExpired port timer s
  | .portLinkUp port => Sys2Proof.Machine.execPortLinkUp port s
  | .portLinkDown port => Sys2Proof.Machine.execPortLinkDown port s
  | .transmitFrameStart dt port => Sys2Proof.Machine.execTransmitFrameStart dt port s
  | .launchLateDiscard port queue => Sys2Proof.Machine.execLaunchLateDiscard port queue s
  | .portDisableDone port => Sys2Proof.Machine.execPortDisableDone port s
  | .hostTxItemCopy read => Sys2Proof.Machine.execHostTxItemCopy read s
  | .wakeFrame port bytes => Sys2Proof.Machine.execWakeFrame port bytes s
  | .frameClassify => Sys2Proof.Machine.execFrameClassify s
  | .rudSwapComplete => Sys2Proof.Machine.execRudSwapComplete s
  | .mediaFrameAccept => Sys2Proof.Machine.execMediaFrameAccept s
  | .ssrcRelearn stream => Sys2Proof.Machine.execSsrcRelearn stream s
  | .srxPortLost stream port => Sys2Proof.Machine.execSrxPortLost stream port s
  | .rrWaitExpired stream seq => Sys2Proof.Machine.execRrWaitExpired stream seq s
  | .rerowRequestSend stream => Sys2Proof.Machine.execRerowRequestSend stream s
  | .rrRetryExpired stream seq => Sys2Proof.Machine.execRrRetryExpired stream seq s
  | .goneReceived => Sys2Proof.Machine.execGoneReceived s
  | .rerowRequestReceived => Sys2Proof.Machine.execRerowRequestReceived s
  | .rerowAnswer port => Sys2Proof.Machine.execRerowAnswer port s
  | .scrubPassComplete bank corrected uncorrectable => Sys2Proof.Machine.execScrubPassComplete bank corrected uncorrectable s
  | .evtInEdge dt pin rising => Sys2Proof.Machine.execEvtInEdge dt pin rising s
  | .evtOutEdge dt pin => Sys2Proof.Machine.execEvtOutEdge dt pin s
  | .startListFire dt => Sys2Proof.Machine.execStartListFire dt s
  | .ptpMessageReceived read => Sys2Proof.Machine.execPtpMessageReceived read s
  | .ptpMessageTimer port timer => Sys2Proof.Machine.execPtpMessageTimer port timer s
  | .rerouteHoldEnd => Sys2Proof.Machine.execRerouteHoldEnd s
  | .slewEnd => Sys2Proof.Machine.execSlewEnd s
  | .refQualified ref seen phase => Sys2Proof.Machine.execRefQualified ref seen phase s
  | .refDisqualified ref present seen => Sys2Proof.Machine.execRefDisqualified ref present seen s
  | .selectionEvaluate => Sys2Proof.Machine.execSelectionEvaluate s
  | .lockTestPass => Sys2Proof.Machine.execLockTestPass s
  | .holdoverExpired => Sys2Proof.Machine.execHoldoverExpired s
  | .ralLock stream => Sys2Proof.Machine.execRalLock stream s
  | .ralHold stream => Sys2Proof.Machine.execRalHold stream s
  | .tdmSlaveFrame dt port clocks slots => Sys2Proof.Machine.execTdmSlaveFrame dt port clocks slots s
  | .tdmFrameTimeout port => Sys2Proof.Machine.execTdmFrameTimeout port s
  | .oblTrainComplete port => Sys2Proof.Machine.execOblTrainComplete port s
  | .oblLinkFrame port bytes => Sys2Proof.Machine.execOblLinkFrame port bytes s
  | .oblBlockedClear port => Sys2Proof.Machine.execOblBlockedClear port s
  | .oblDelayTimer port => Sys2Proof.Machine.execOblDelayTimer port s
  | .oblDelayFrame dt port bytes => Sys2Proof.Machine.execOblDelayFrame dt port bytes s
  | .oblLinkLoss port leaving => Sys2Proof.Machine.execOblLinkLoss port leaving s
  | .oblSyncReceived dt port bytes => Sys2Proof.Machine.execOblSyncReceived dt port bytes s
  | .oblLaneFrame port bytes => Sys2Proof.Machine.execOblLaneFrame port bytes s
  | .oblRelayUp port bytes => Sys2Proof.Machine.execOblRelayUp port bytes s
  | .oblRelayDn port bytes => Sys2Proof.Machine.execOblRelayDn port bytes s
  | .oblTunnelFrame port bytes => Sys2Proof.Machine.execOblTunnelFrame port bytes s
  | .tunnelWaitExpired tag => Sys2Proof.Machine.execTunnelWaitExpired tag s
  | .oblConflictClear => Sys2Proof.Machine.execOblConflictClear s
  | .oblCoxSideSwitch => Sys2Proof.Machine.execOblCoxSideSwitch s
  | .obienWakePattern port => Sys2Proof.Machine.execObienWakePattern port s
  | .parityCheckVisit addr upset => Sys2Proof.Machine.execParityCheckVisit addr upset s
  | .unitMemParityPass bad => Sys2Proof.Machine.execUnitMemParityPass bad s
  | .temperatureSample tj => Sys2Proof.Machine.execTemperatureSample tj s
  | .cmdWatchdog => Sys2Proof.Machine.execCmdWatchdog s
  | .faultLogWindowClose code => Sys2Proof.Machine.execFaultLogWindowClose code s
  | .patchVerifyDone => Sys2Proof.Machine.execPatchVerifyDone s
  | .cmdRestartComplete => Sys2Proof.Machine.execCmdRestartComplete s
  | .patchRollback => Sys2Proof.Machine.execPatchRollback s
  | .vddAonPowerUp => Sys2Proof.Machine.execVddAonPowerUp s
  | .vddAonPowerLoss => Sys2Proof.Machine.execVddAonPowerLoss s
  | .pwrGoodRise => Sys2Proof.Machine.execPwrGoodRise s
  | .pePerstNRelease => Sys2Proof.Machine.execPePerstNRelease s
  | .busMasterEnableSet => Sys2Proof.Machine.execBusMasterEnableSet s
  | .msixVectorUnmask what => Sys2Proof.Machine.execMsixVectorUnmask what s
  | .autoNegotiationDone port agreed pause => Sys2Proof.Machine.execAutoNegotiationDone port agreed pause s
  | .portResetRelease port => Sys2Proof.Machine.execPortResetRelease port s
  | .migrationStepGridStopped => Sys2Proof.Machine.execMigrationStepGridStopped s
  | .flowScanComplete => Sys2Proof.Machine.execFlowScanComplete s
  | .bistComplete failing errors => Sys2Proof.Machine.execBistComplete failing errors s
  | .cmdBootReady => Sys2Proof.Machine.execCmdBootReady s

end Sys2Proof.Machine
end

