-- ==== Sys2Proof/Safety.lean ====
section
/-! DEFINITION. What a sound state of the Halyn is, in the terms that the claims use: sparse tables in their one
canonical form, and the device interrupt pin at the level that its causes give it. -/
namespace Sys2Proof.Machine

/-- The keys of a table strictly rise from above `lo`. -/
def risingFrom {α : Type} : Option Nat → List (Nat × α) → Bool
  | _, [] => true
  | none, (k, _) :: t => risingFrom (some k) t
  | some j, (k, _) :: t => decide (j < k) && risingFrom (some k) t

/-- The canonical form of a memory: addresses strictly rise, and no entry holds what an unlisted address reads as. -/
def Memory.wf (m : List Host.Cell) : Bool := risingFrom none m && m.all fun c => decide (c.2 ≠ 0)

/-- The canonical form of the register contents: addresses strictly rise, and no register at its reset value is
listed. -/
def regsWf (t : Table Word) : Bool := risingFrom none t && t.all fun e => decide (e.2 ≠ regReset e.1)

/-- IRQ_N is asserted just while a cause of the device interrupt is and the pin is enabled (R162). -/
def irqOk (s : State) : Prop := s.hif.irqN = (s.irqLevel && s.bit Reg.HIF_IRQ_CFG 0)

/-! ## Dadin commands -/

/-- The Command Processor takes commands and none is in flight, no power request is held or in progress and no bank swap
waits: a command that arrives then starts at once (R226 to R229, R561). -/
def cmdIdle (s : State) : Bool :=
  s.takes && !s.cmd.restarting && s.cmd.flights.isEmpty && s.pmu.req.isNone && s.pmu.slot.isNone && s.drv.swaps.isEmpty

/-- A packet of opcode `op` that passes checks 1 to 5 of R224: its length, its check word, its tag and its words. -/
def proper (op : Nat) (k : Pkt) (s : State) : Bool :=
  decide (2 ≤ pktLen k) && decide (pktLen k ≤ 64) && (!k.c || k.checkOk) && !(s.tagBusy k.tag.toNat)
    && (badPacket op k.tag k.x k.params).isNone

/-- What a command of opcode `op` of packet `k` needs in order to reach its commit point as it arrives. -/
def begins (op : Nat) (k : Pkt) (s : State) : Bool := cmdIdle s && proper op k s && !(modeRefuses op s.mode)

/-- The configuration generation counter after a command that changes a stored setting just where `g` (R232). -/
def genAfter (g : Bool) (s : State) : Word := if g then s.cmd.gen + 1 else s.cmd.gen

/-- The reply of a packet's command with intake number `ord`, as the Command Processor holds it for posting (R213, R223). -/
def replyOf (op ord : Nat) (k : Pkt) (st : Status) (word : Nat) (body : List Word) (gen : Word) : Reply :=
  { src := .path k.path, op := op, tag := k.tag, status := st, seq := k.seq, c := k.c, word := word,
    gen8 := gen.toNat % 256, body := body, ord := some ord }

/-- The next state of a command that arrives in `s`, whose effect is `s1`, and that completes at once: its reply is held
and nothing is in flight. -/
def replied (op : Nat) (k : Pkt) (st : Status) (word : Nat) (body : List Word) (g : Bool) (s s1 : State) : State :=
  settle { s1 with cmd := { s.cmd with
    nextOrd := s.cmd.nextOrd + 1, gen := genAfter g s,
    held := s.cmd.held ++ [replyOf op s.cmd.nextOrd k st word body (genAfter g s)] } }

/-- The command of a packet in flight since `s`, and since its arrival in the phase given. -/
def flightIn (op : Nat) (k : Pkt) (ph : CmdPhase) (fin : Fin) (body : List Word) (due : Nat) (s : State) : Flight :=
  { flightOf (.path k.path) op k s with phase := ph, fin := fin, body := body, due := due, startAt := s.ntu.course }

/-- The next state of a command that arrives in `s`, whose effect is `s1`, and that then waits in flight for `fin`. -/
def inFlight (op : Nat) (k : Pkt) (ph : CmdPhase) (fin : Fin) (body : List Word) (due : Nat) (g : Bool) (s s1 : State) :
    State :=
  settle { s1 with cmd := { s.cmd with
    nextOrd := s.cmd.nextOrd + 1, gen := genAfter g s, flights := [flightIn op k ph fin body due s] } }

/-- The state in which the command of a packet that arrives at an idle Command Processor reaches its commit point. -/
def begun (op : Nat) (k : Pkt) (s : State) : State :=
  { fresh s with cmd := { s.cmd with flights := [flightIn op k .started .none [] 0 s], nextOrd := s.cmd.nextOrd + 1 } }

/-- The constructor of a Dadin command, by its opcode (R239). -/
def dadinRow (op : Nat) (k : Pkt) : Option Instr :=
  match op with
  | 0x01 => some (.nop k) | 0x02 => some (.weighIn k) | 0x03 => some (.abort k) | 0x04 => some (.modeSet k)
  | 0x05 => some (.powerRequest k)
  | 0x10 => some (.srxDefine k) | 0x11 => some (.srxEnable k) | 0x12 => some (.srxDisable k) | 0x13 => some (.srxQuery k)
  | 0x14 => some (.srxRetarget k)
  | 0x18 => some (.stxDefine k) | 0x19 => some (.stxEnable k) | 0x1A => some (.stxDisable k) | 0x1B => some (.stxQuery k)
  | 0x1C => some (.stxTemplate k)
  | 0x20 => some (.busDefine k) | 0x21 => some (.memberSet k) | 0x22 => some (.listenSet k) | 0x23 => some (.xpointSet k)
  | 0x24 => some (.gainSet k) | 0x25 => some (.gateConfig k) | 0x26 => some (.duckSet k) | 0x27 => some (.drvBankSwap k)
  | 0x28 => some (.drvQuery k)
  | 0x30 => some (.refConfig k) | 0x31 => some (.refRank k) | 0x32 => some (.holdoverConfig k)
  | 0x33 => some (.alignOutputs k) | 0x34 => some (.mckQuery k)
  | 0x38 => some (.ptpConfig k) | 0x39 => some (.ptpPort k) | 0x3A => some (.timeSet k) | 0x3B => some (.startlistLoad k)
  | 0x3C => some (.startlistArm k) | 0x3D => some (.startlistCancel k)
  | 0x40 => some (.rudLoad k) | 0x41 => some (.rudSwap k) | 0x42 => some (.flowSet k)
  | 0x48 => some (.queueConfig k) | 0x49 => some (.queueQuery k)
  | 0x50 => some (.portConfig k) | 0x51 => some (.portRestart k) | 0x52 => some (.portStats k)
  | 0x58 => some (.tdmConfig k) | 0x59 => some (.tdmRestart k) | 0x60 => some (.ralConfig k) | 0x61 => some (.ralQuery k)
  | 0x68 => some (.cascadeConfig k) | 0x69 => some (.cascadeStatus k) | 0x70 => some (.patchLoad k)
  | 0x71 => some (.patchSwap k) | 0x78 => some (.bankRepair k) | 0x79 => some (.bankStatus k)
  | 0xE0 => some (.loopback k) | 0xE1 => some (.bist k) | 0xE2 => some (.faultInject k)
  | _ => none

end Sys2Proof.Machine
end

