-- ==== Sys2Proof/Certificates/Slice0/Obligations.lean ====
section
/-! DEFINITION. The statements for the provers: what the commands of the Halyn do, by the rules of its manual. A command
that is stated to answer `.next t` completes there; what `t` is stated to keep is its frame. -/
open Sys2Proof Sys2Proof.Machine

/-- A step takes the command at the front of the queue and is that command's meaning on the state with the queue's rest. No
command stops: every command of the table answers a next state from every state. The model's reading or choice stands in log
entries 1, 14. -/
def Obligations.StepRunsFront : Prop :=
  (∀ (c : Instr) (rest : List Instr) (s : State), s.pending = c :: rest →
      step s = exec c { s with pending := rest })
  ∧ (∀ (c : Instr) (s : State), ∃ t, exec c s = .next t)

/-- With no command waiting, a step is a tick: in a mode with CLK_CTL running Course Time counts 2 ns, in WATCH 40 ns, and in
MOORED nothing counts and no register changes (R13, R349; the length of a tick is the model's choice). While the stroke grid
of a Cox or a Seat is stopped, a LINK frame that has fallen due, 20 µs after the last, is sent too (R608). No command in
flight, no power state and no stream is touched. The model's reading or choice stands in log entry 2. -/
def Obligations.EmptyQueueTicks : Prop :=
  ∀ s : State, s.pending = [] →
    step s = .next (idleTick s)
    ∧ (clocked s.mode = true → (idleTick s).ntu.course = (s.ntu.course + 2) % 2 ^ 64)
    ∧ (s.mode = .watch → (idleTick s).ntu.course = (s.ntu.course + 40) % 2 ^ 64)
    ∧ (s.mode = .moored → (idleTick s).ntu = s.ntu ∧ (idleTick s).regs = s.regs)
    ∧ (idleTick s).pending = [] ∧ (idleTick s).cmd = s.cmd ∧ (idleTick s).pmu = s.pmu ∧ (idleTick s).srx = s.srx
    ∧ (idleTick s).stx = s.stx ∧ (idleTick s).drv = s.drv

/-- What the state after reset holds: BOOT with Network Time invalid, the Command Processor not ready, every register at its
reset value, the stroke grid stopped, nothing in any stream, Drive bank or flow table, and no command waiting. IRQ_N agrees
with its causes after reset. The model's reading or choice stands in log entries 5, 6, 7, 10. -/
def Obligations.ResetState : Prop :=
  (State.reset.mode = .boot ∧ State.reset.ntu.valid = false ∧ State.reset.cmd.ready = false
    ∧ (∀ a, State.reset.reg a = regReset a) ∧ State.reset.mck.grid = false ∧ State.reset.mck.state = .free
    ∧ State.reset.srx.streams = [] ∧ State.reset.stx.streams = [] ∧ State.reset.rud.flows = []
    ∧ (∀ i, i < 2 → State.reset.bank i = {}) ∧ State.reset.ump.active = 0 ∧ State.reset.hif.irqN = false
    ∧ State.reset.pending = [])
  ∧ (irqOk State.reset)

/-- IRQ_N is asserted, after every step, just while an enabled cause of the device interrupt stands and the pin is enabled
(R162). -/
def Obligations.IrqPinFollows : Prop :=
  ∀ s t : State, irqOk s → step s = .next t → irqOk t

/-- The checks of a Dadin packet that arrives on a path while the Command Processor takes commands, in the order of R224: its
length, its check word, its tag, and its words; the first that fails is answered, and nothing else happens. The reply to a
command that had S is posted after those of the commands taken in before it (R228). While the Command Processor takes no
commands, a packet on a path changes nothing (R226). The model's reading or choice stands in log entry 32. -/
def Obligations.DadinChecks : Prop :=
  (∀ (op : Nat) (k : Pkt) (c : Instr) (s : State), dadinRow op k = some c → s.takes = true → s.cmd.restarting = false →
      let reject := fun (st : Status) (word : Nat) (frees : Bool) =>
        ∃ t r, exec c s = .next t ∧ t.cmd = { s.cmd with held := s.cmd.held ++ [r] } ∧ t.regs = s.regs
          ∧ r.behind = (if k.s then some s.cmd.nextOrd else none) ∧ r.src = .path k.path ∧ r.op = op ∧ r.tag = k.tag ∧ r.status = st ∧ r.word = word ∧ r.seq = k.seq ∧ r.frees = frees
      (pktLen k < 2 ∨ 64 < pktLen k → reject .badParam 0 false)
      ∧ (2 ≤ pktLen k ∧ pktLen k ≤ 64 →
          (k.c = true ∧ k.checkOk = false → reject .checkFail 0 false)
          ∧ (k.c = false ∨ k.checkOk = true →
              (s.tagBusy k.tag.toNat = true → reject .tagBusy 0 false)
              ∧ (s.tagBusy k.tag.toNat = false → ∀ w, badPacket op k.tag k.x k.params = some w → reject .badParam w true))))
  ∧ (∀ (op : Nat) (k : Pkt) (c : Instr) (s : State), dadinRow op k = some c → s.takes = false →
      exec c s = .next (settle (fresh s)))

/-- `NOP` (R241): the basic form completes at once with its word as body; the expert form holds its tag until its delay ends, and
completes then with its words 2 to PCOUNT as body (R231). `WEIGH_IN` (R243): it answers at once with a snapshot and changes
nothing; only the model's count of free values advances, since the snapshot holds words to which the manual gives no value.
The model's reading or choice stands in log entry 44. -/
def Obligations.NopAndWeighInComplete : Prop :=
  ((∀ (k : Pkt) (s : State), begins 1 k s = true →
      exec (.nop k) s = .next (if k.x then inFlight 1 k .started .nopDelay [] 0 false s (fresh s)
        else replied 1 k .ok 0 [k.params.getD 0 0] false s (fresh s)))
    ∧ (∀ (s : State) (f : Flight) (p : Path),
        (s.cmd.flights.filter fun g => decide (g.fin = .nopDelay) && decide (g.phase = .started)) = [f] →
        f.src = .path p → s.cmd.restarting = false →
        ∃ t r, exec .nopDelayEnd s = .next t
          ∧ t.cmd = { s.cmd with flights := s.cmd.flights.filter (fun g => decide (g.ord ≠ f.ord)), held := s.cmd.held ++ [r] }
          ∧ r.tag = f.tag ∧ r.status = .ok ∧ r.body = f.params.drop 1 ∧ t.regs = s.regs ∧ t.pmu = s.pmu ∧ t.mck = s.mck))
  ∧ (∀ (k : Pkt) (s : State), begins 2 k s = true →
      exec (.weighIn k) s = .next (replied 2 k .ok 0 ((begun 2 k s).weighBody (.path k.path) k.x k.params) false s
        { fresh s with free := s.free + 2 }))

/-- `ABORT` (R233, R242): with one command in flight, not yet committed, under the target tag, that command ends with ABORTED and
the `ABORT` with OK; so does a power request that the PMU holds, which is then no request any more (R102); with none under
that tag, with one that has committed or is an `ABORT` itself, or with one whose sequence number is not the one the expert
form names, NOTHING_TO_ABORT. The body names the tag, and the opcode and the phase of the command under it. The model's
reading or choice stands in log entry 41. -/
def Obligations.AbortCompletes : Prop :=
  (∀ (k : Pkt) (s : State) (g : Flight) (p : Path), s.takes = true → s.cmd.restarting = false → proper 3 k s = true →
    s.pmu.slot = none → k.s = false → s.cmd.flights = [g] → g.src = .path p → g.ord < s.cmd.nextOrd →
    g.tag.toNat = fieldOf (k.params.getD 0 0) 6 0 →
    let other := k.x && bitOf (k.params.getD 0 0) 7 && decide (g.seq.toNat ≠ fieldOf (k.params.getD 0 0) 15 8)
    let body := [w32 (g.tag.toNat + 2 ^ 8 * g.op + 2 ^ 16 * phaseCode g.phase)]
    (g.phase ≠ .committed → g.op ≠ 3 → other = false →
      (s.pmu.req = none → ∃ t r q, exec (.abort k) s = .next t ∧ t.cmd.flights = [] ∧ t.cmd.held = s.cmd.held ++ [r, q]
        ∧ r.tag = g.tag ∧ r.status = .aborted
        ∧ r.body = (if g.op = 4 ∨ g.op = 5 then powerBody s.mode s.mode 0 0x22 0 else [])
        ∧ q.tag = k.tag ∧ q.status = .ok ∧ q.body = body
        ∧ t.bit Reg.CMD_EVENT 3 = true ∧ t.mck = s.mck ∧ t.srx = s.srx ∧ t.buf = s.buf)
      ∧ (∀ a, s.pmu.req = some a → a.ord = g.ord → (g.op = 4 ∨ g.op = 5) → s.pmu.forced = none → s.pmu.autoWait = none →
        ∃ t r q, exec (.abort k) s = .next t ∧ t.cmd.flights = [] ∧ t.cmd.held = s.cmd.held ++ [r, q] ∧ r.tag = g.tag
          ∧ r.status = .aborted ∧ q.tag = k.tag ∧ q.status = .ok ∧ q.body = body ∧ t.pmu.req = none ∧ t.mode = s.mode))
    ∧ (s.pmu.req = none → g.phase = .committed ∨ g.op = 3 ∨ other = true →
      ∃ t q, exec (.abort k) s = .next t ∧ t.cmd.flights = [g] ∧ t.cmd.held = s.cmd.held ++ [q]
        ∧ q.tag = k.tag ∧ q.status = .nothingToAbort ∧ q.body = body
        ∧ t.mck = s.mck ∧ t.srx = s.srx ∧ t.buf = s.buf ∧ t.regs = s.regs))
  ∧ (∀ (k : Pkt) (s : State), begins 3 k s = true → s.tagFlight (fieldOf (k.params.getD 0 0) 6 0) = none →
    let t := fieldOf (k.params.getD 0 0) 6 0
    exec (.abort k) s = .next (replied 3 k .nothingToAbort 0 [w32 (t + 2 ^ 8 * s.tagOp t + 2 ^ 16 * s.tagState t)] false s
      (fresh s)))

/-- `MODE_SET` and `POWER_REQUEST` (R97, R128, R130): to the mode in force, an immediate OK; to a mode that R82 does not permit,
WRONG_MODE; to SAFE, committed at once; and otherwise the handshake begins and every unit is asked. The model's reading or
choice stands in log entries 42, 57. -/
def Obligations.PowerCommandsComplete : Prop :=
  ∀ (op : Nat) (k : Pkt) (s : State), (op = 4 ∨ op = 5) → begins op k s = true →
    s.pmu.forced = none → s.pmu.autoWait = none →
    let target := modeOf (fieldOf (k.params.getD 0 0) 2 0)
    let body := powerBody s.mode s.mode 0 0 0
    ∃ t, exec (if op = 4 then .modeSet k else .powerRequest k) s = .next t
      ∧ t.mode = s.mode ∧ t.mck = s.mck ∧ t.srx = s.srx ∧ t.drv = s.drv
      ∧ (target = s.mode → t.pmu.req = none ∧ t.cmd.held = s.cmd.held ++ [replyOf op s.cmd.nextOrd k .ok 0 body s.cmd.gen])
      ∧ (target ≠ s.mode → permitted s.mode target = false →
          t.pmu.req = none ∧ t.cmd.held = s.cmd.held ++ [replyOf op s.cmd.nextOrd k .wrongMode 0 body s.cmd.gen])
      ∧ (target ≠ s.mode → permitted s.mode target = true →
          ∃ r, t.pmu.req = some r ∧ r.target = target ∧ r.before = s.mode ∧ r.ord = s.cmd.nextOrd
            ∧ (target = .safe → r.stage = .carrying ∧ t.pmu.modeNext = some .safe ∧ t.cmd.gen = s.cmd.gen + 1)
            ∧ (target ≠ .safe → r.stage = .asking ∧ r.ans = List.replicate 14 .none ∧ t.cmd.gen = s.cmd.gen
                ∧ t.reg Reg.PMU_UNIT_ANS = 0))

/-- `SRX_DEFINE` of a stream that is not enabled (R481, R482): CHANNELS 0 makes the stream undefined; else, where LATENCY is from
0.5 ms to 40 ms, no other stream holds a source ID of the map and the definition fits, the stream is DISABLED with the words
and bindings of the command, the Rate Aligner is evaluated, and the reply holds the free memory. `STX_DEFINE` of a stream
that is not enabled (R516, R517): CHANNELS 0 makes it undefined; else, where nothing in the configuration in force forbids it
and it fits, it is DISABLED with the words and bindings of the command, its templates are built where it names none, and a
store that it held is discarded. A definition of a stream that is enabled, right in every other respect, and a template that
an enabled or SERVING stream names, are refused with STALE_WRITE on word 1 and change nothing (R482, R515, R517). The model's
reading or choice stands in log entry 20. -/
def Obligations.StreamDefinitionsComplete : Prop :=
  (∀ (k : Pkt) (s : State), begins 0x10 k s = true →
      let b := begun 0x10 k s
      let n := fieldOf (k.params.getD 0 0) 8 0
      let new := newRxStream b k.x k.params
      (b.rxStream n).enabled = false →
      (fieldOf (k.params.getD 0 0) 22 16 = 0 →
        exec (.srxDefine k) s = .next (replied 0x10 k .ok 0 [w32 ((b.rxUndefined n).freeKib % 65536)]
          (thas s.srx.streams n) s (b.rxUndefined n))
        ∧ tget (terase s.srx.streams n) n = none)
      ∧ (fieldOf (k.params.getD 0 0) 22 16 ≠ 0 → s.latencyOk (fieldOf (k.params.getD 1 0) 25 16) = true →
          b.rxBindWord n new = none → b.rxFits n new = true →
          exec (.srxDefine k) s = .next (replied 0x10 k .ok 0 [w32 ((ralEvaluate (b.rxDefined n new)).freeKib % 65536)]
            (!(b.rxSame n new)) s (ralEvaluate (b.rxDefined n new)))
          ∧ new.state = .disabled ∧ new.words = srxWords k.x k.params
          ∧ tget (b.rxDefined n new).srx.streams n = some new
          ∧ ∀ j, j ≠ n → tget (b.rxDefined n new).srx.streams j = tget s.srx.streams j))
  ∧ (∀ (k : Pkt) (s : State), begins 0x18 k s = true →
      let b := begun 0x18 k s
      let n := fieldOf (k.params.getD 0 0) 8 0
      let new := newTxStream b k.x k.params n
      let tb := txTemplates b n new
      (b.txStream n).enabled = false →
      (fieldOf (k.params.getD 0 0) 18 12 = 0 →
        exec (.stxDefine k) s = .next (replied 0x18 k .ok 0 [w32 ((b.txUndefined n).freeKib % 65536)]
          (thas s.stx.streams n) s (b.txUndefined n))
        ∧ tget (b.txUndefined n).stx.streams n = none)
      ∧ (fieldOf (k.params.getD 0 0) 18 12 ≠ 0 → stxDefineBad b n new tb = none → b.txFits n new tb = true →
          exec (.stxDefine k) s = .next (replied 0x18 k .ok 0 [w32 ((b.txDefined n new tb).freeKib % 65536)]
            (!(b.txSame n new tb)) s (b.txDefined n new tb))
          ∧ new.state = .disabled ∧ new.store = [] ∧ tget (b.txDefined n new tb).stx.streams n = some new))
  ∧ (∀ (k : Pkt) (s : State), let n := fieldOf (k.params.getD 0 0) 8 0
      (begins 0x10 k s = true → (s.rxStream n).enabled = true →
        (fieldOf (k.params.getD 0 0) 22 16 = 0 ∨ (s.latencyOk (fieldOf (k.params.getD 1 0) 25 16) = true
          ∧ (begun 0x10 k s).rxBindWord n (newRxStream (begun 0x10 k s) k.x k.params) = none)) →
        exec (.srxDefine k) s = .next (replied 0x10 k .staleWrite 1 [] false s (fresh s)))
      ∧ (begins 0x18 k s = true → (s.txStream n).enabled = true →
        (let new := newTxStream (begun 0x18 k s) k.x k.params n
         fieldOf (k.params.getD 0 0) 18 12 = 0 ∨ stxDefineBad (begun 0x18 k s) n new (txTemplates (begun 0x18 k s) n new) = none) →
        exec (.stxDefine k) s = .next (replied 0x18 k .staleWrite 1 [] false s (fresh s)))
      ∧ (begins 0x1C k s = true →
        (∃ e ∈ s.stx.streams, e.2.names n = true ∧ (e.2.enabled = true ∨ e.2.state = .serving)) →
        exec (.stxTemplate k) s = .next (replied 0x1C k .staleWrite 1 [] false s (fresh s))))

/-- `SRX_ENABLE` (R483): where every stream named is defined and none is draining, the DISABLED ones among them wait for frames
and present from the boundary at which the command completes; with none DISABLED it completes at once and changes nothing.
Its body counts the streams it enabled and the others. `STX_ENABLE` (R514, R518): where every stream named fits the
configuration in force and none is stopping, the idle ones are ENABLED from the boundary at which the command completes; with
none idle it completes at once and changes nothing. `SRX_ENABLE` and `STX_ENABLE` of a stream that is still being disabled
start and wait, and change no stream (R479, R483, R514, R518). `SRX_DISABLE` (R478, R484), with the DRAIN override of the
expert form: each stream named that accepts frames accepts no more, and fades at the next Catch, or drains first; one that is
draining already fades at once where the override asks so. The command completes when all of these are DISABLED, and at once,
with nothing changed, where there are none. It counts as a change of a stored setting where one of the streams accepted
frames (R232). `STX_DISABLE` (R513, R519): each ENABLED stream named is stopping until the boundary after its last packet,
with DROP_STORE as given, and the command completes when all of these have stopped; a stream that is not ENABLED is left as
it is, and with none ENABLED the command completes at once. The model's reading or choice stands in log entries 46, 47. -/
def Obligations.StreamEnablesAndDisables : Prop :=
  (∀ (k : Pkt) (s : State), begins 0x11 k s = true →
      let ns := namedStreams k.x k.params
      let on := ns.filter fun n => decide ((s.rxStream n).state = .disabled)
      let w := w32 (on.length + 2 ^ 10 * (ns.length - on.length))
      (∀ n ∈ ns, thas s.srx.streams n = true ∧ (s.rxStream n).state ≠ .draining) →
      (on = [] → exec (.srxEnable k) s = .next (replied 0x11 k .ok 0 [w, w32 (Config.freeNat s.free)] false s
        { fresh s with free := s.free + 1 }))
      ∧ (on ≠ [] → exec (.srxEnable k) s = .next (inFlight 0x11 k .committed .boundary [w] s.boundaryWait true s
        (on.foldl (fun t n => (t.onRx n (rxEnable s.boundaryWait n)).onRal n fun l => { l with lfsr := 1 + n })
          (begun 0x11 k s)))))
  ∧ (∀ (k : Pkt) (s : State), begins 0x19 k s = true →
      let ns := namedStreams k.x k.params
      let on := ns.filter s.txIdle
      let w := w32 (on.length + 2 ^ 10 * (ns.length - on.length))
      (∀ n ∈ ns, s.txUnfit n = false ∧ (s.txStream n).state ≠ .stopping) →
      (on = [] → exec (.stxEnable k) s = .next (replied 0x19 k .ok 0 [w, w32 (Config.freeNat s.free)] false s
        { fresh s with free := s.free + 1 }))
      ∧ (on ≠ [] → exec (.stxEnable k) s = .next (inFlight 0x19 k .committed .boundary [w] s.boundaryWait true s
        (on.foldl (fun t n => t.onTx n (txEnable t n)) (begun 0x19 k s)))))
  ∧ (∀ (k : Pkt) (s : State), let ns := namedStreams k.x k.params
      (begins 0x11 k s = true → (∀ n ∈ ns, thas s.srx.streams n = true) → (∃ n ∈ ns, (s.rxStream n).state = .draining) →
        exec (.srxEnable k) s = .next (inFlight 0x11 k .started (.rxAt ns) [] 0 false s (fresh s)))
      ∧ (begins 0x19 k s = true → (∀ n ∈ ns, s.txUnfit n = false) → (∃ n ∈ ns, (s.txStream n).state = .stopping) →
        exec (.stxEnable k) s = .next (inFlight 0x19 k .started (.txAt ns) [] 0 false s (fresh s))))
  ∧ (∀ (k : Pkt) (s : State), begins 0x12 k s = true →
      let ns := namedStreams k.x k.params
      let ovr := if k.x then fieldOf (k.params.getD 1 0) 11 10 else 0
      let off := ns.filter fun n => (s.rxStream n).accepting || (decide ((s.rxStream n).state = .draining) && decide (ovr = 2))
      let w := w32 (off.length + 2 ^ 10 * (ns.length - off.length))
      (∀ n ∈ ns, thas s.srx.streams n = true) →
      (off ≠ [] → exec (.srxDisable k) s = .next (inFlight 0x12 k .committed (.rxIdle off) [w] s.boundaryWait
        (off.any fun n => (s.rxStream n).accepting) s
        (off.foldl (fun t n => (t.rxDisable ovr n).1) (fresh s))))
      ∧ (off = [] → exec (.srxDisable k) s = .next (replied 0x12 k .ok 0 [w, w32 (Config.freeNat s.free)] false s
          { fresh s with free := s.free + 1 }))
      ∧ (∀ n ∈ ns, (s.rxStream n).accepting = true →
        let drain := if ovr = 0 then bitOf (s.rxStream n).ctrl 1 else decide (ovr = 1)
        let last := if drain then Nat.max s.nextCatch ((s.rxStream n).lastFilled s) else s.nextCatch
        (s.rxDisable ovr n).1 = s.onRx n fun r => { r with state := .draining, fade := some last }))
  ∧ (∀ (k : Pkt) (s : State), begins 0x1A k s = true →
      let ns := namedStreams k.x k.params
      let drop := k.x && bitOf (k.params.getD 1 0) 10
      let off := ns.filter fun n => decide ((s.txStream n).state = .enabled)
      let w := w32 (off.length + 2 ^ 10 * (ns.length - off.length))
      (∀ n ∈ ns, thas s.stx.streams n = true) →
      (off ≠ [] → exec (.stxDisable k) s = .next (inFlight 0x1A k .committed (.txIdle off) [w] s.boundaryWait true s
        (off.foldl (fun t n => t.onTx n fun r =>
          { r with state := .stopping, stopWait := some s.boundaryWait, dropStore := drop }) (fresh s))))
      ∧ (off = [] → exec (.stxDisable k) s = .next (replied 0x1A k .ok 0 [w, w32 (Config.freeNat s.free)] false s
          { fresh s with free := s.free + 1 })))

/-- `SRX_QUERY` and `STX_QUERY` (R485, R520): they answer with the stream's snapshot, and only an expert form with CLEAR changes
anything: the counters of the stream, and for a receive stream its margin, start again. `SRX_RETARGET` (R224, R486): of a
stream that accepts frames, with bindings that are free, the new bindings wait for the boundary at which the command
completes; nothing else of the stream changes but, where the expert form asks so, the SSRC to be accepted and the anchor. The
boundary gives the stream the bindings, FIRST_ID and MAPPED. A binding that is wrong or taken is BAD_PARAM on its word; else
a stream that does not accept frames, or is undefined, is left alone, with ABORTED. `STX_TEMPLATE` (R515, R521): where no
enabled or SERVING stream names the slot, the slot holds the template of the command, or is empty where it asks so, and
nothing else changes; the body tells the slot, whether it holds a template, and how many streams name it. The model's reading
or choice stands in log entry 81. -/
def Obligations.StreamQueriesRetargetTemplate : Prop :=
  (∀ (k : Pkt) (s : State), let n := fieldOf (k.params.getD 0 0) 8 0
      let clear := k.x && bitOf (k.params.getD 0 0) 9
      (begins 0x13 k s = true → exec (.srxQuery k) s = .next (replied 0x13 k .ok 0 (srxBody s k.x n) false s
        (if clear then (fresh s).onRx n fun r => { r with cnt := List.replicate 8 0, margin := 0xFFFF } else fresh s)))
      ∧ (begins 0x1B k s = true → exec (.stxQuery k) s = .next (replied 0x1B k .ok 0 (stxBody s k.x n) false s
        (if clear then (fresh s).onTx n fun r => { r with cnt := List.replicate 8 0 } else fresh s))))
  ∧ ((∀ (k : Pkt) (s : State), begins 0x14 k s = true →
      let w := k.params.getD 0 0
      let n := fieldOf w 8 0
      let mapped := k.x && bitOf w 9
      let r := s.rxStream n
      let first := fieldOf (k.params.getD 1 0) 11 0
      let m := bindings mapped first r.chans (k.params.drop 3)
      let bad := firstPos (if mapped then 64 else r.chans) (fun c => bindBad 0x800 r.pair m c || s.bindTaken n m c
          || (mapped && entryBad (k.params.drop 3) r.chans c)) (bindWord mapped 4 2)
      let next : SrxPending := { wait := s.boundaryWait, map := m, first := first, mapped := mapped }
      let ssrc := fun (ws : List Word) => if k.x && bitOf w 10 then
        listMod (listMod ws 4 fun _ => k.params.getD 2 0) 3 fun v => withField v 7 7 0 else ws
      let soon := r.retarget.foldl RxStream.retargeted r
      let t := (fresh s).onRx n fun r => { r with words := ssrc r.words, retarget := r.retarget ++ [next] }
      (r.accepting = true → bad = none →
        exec (.srxRetarget k) s = .next (inFlight 0x14 k .committed .boundary [] s.boundaryWait
          (decide (m ≠ soon.map) || decide (ssrc (soon.retargeted next).words ≠ soon.words)) s (if k.x && bitOf w 11 then t.rxReanchor n else t)))
      ∧ (∀ i, thas s.srx.streams n = true → bad = some i →
          exec (.srxRetarget k) s = .next (replied 0x14 k .badParam i [] false s (fresh s)))
      ∧ (thas s.srx.streams n = false ∨ (r.accepting = false ∧ bad = none) →
          exec (.srxRetarget k) s = .next (replied 0x14 k .aborted 0 [] false s
            ((fresh s).flag Reg.CMD_EVENT 3))))
    ∧ ∀ (r : RxStream) (p : SrxPending), r.enableWait = none → r.retarget = [p] → p.wait ≤ 1 →
      (rxEnableStep r).map = p.map ∧ (rxEnableStep r).retarget = []
      ∧ (2 ≤ r.words.length → fieldOf ((rxEnableStep r).words.getD 1 0) 11 0 = p.first % 4096)
      ∧ (7 ≤ r.words.length → bitOf ((rxEnableStep r).words.getD 6 0) 5 = p.mapped))
  ∧ (∀ (k : Pkt) (s : State), begins 0x1C k s = true →
      let w := k.params.getD 0 0
      let i := fieldOf w 8 0
      let users := s.stx.streams.filter fun e => e.2.names i
      let remove := k.x && bitOf (k.params.getD 1 0) 0
      let new : Template := {
        kind := fieldOf w 10 9, tagged := bitOf w 11, randSeq := k.x && bitOf (k.params.getD 1 0) 1
        bytes := (templateBytes (k.params.drop (if k.x then 2 else 1))).take (templateLen (fieldOf w 10 9) (bitOf w 11)) }
      let tb := if remove then terase s.stx.templates i else tset s.stx.templates i new
      (∀ e ∈ users, e.2.enabled = false ∧ e.2.state ≠ .serving) →
      exec (.stxTemplate k) s = .next (replied 0x1C k .ok 0
          [w32 (i + 2 ^ 9 * b2n (!remove) + 2 ^ 10 * users.length)] (decide (tb ≠ s.stx.templates)) s
          { fresh s with stx := { s.stx with templates := tb } })
      ∧ tget tb i = (if remove then none else some new))

/-- `BUS_DEFINE` (R568): without DEFINED the bus goes from the bank named, with its memberships, the subscriptions to it and the
duck relations that name it; with it the bus is there, CASCADE as given and every other setting kept, unless CASCADE is asked
of a Solo, which is BAD_PARAM, or differs from the one that the active bank holds, which is STALE_WRITE with its flag. The
body counts the buses of the bank. The model's reading or choice stands in log entry 20. -/
def Obligations.BusDefineCompletes : Prop :=
  ∀ (k : Pkt) (s : State), begins 0x20 k s = true →
    let b := begun 0x20 k s
    let w := k.params.getD 0 0
    let bus := fieldOf w 8 0
    let inact := k.x && bitOf w 11
    let i := s.bankIx inact
    let old := s.bank i
    let o := (tget old.buses bus).getD {}
    let new := { old with buses := tset old.buses bus { o with cascade := bitOf w 10 } }
    (bitOf w 9 = false →
      exec (.busDefine k) s = .next (replied 0x20 k .ok 0 [w32 (dropBus old bus).buses.length]
        (b.writeBank i (dropBus old bus)).2 s
        ((b.setBank i (dropBus old bus)).forget (!inact) (fun m => decide (m / 4096 = bus)) bus true))
      ∧ tget (dropBus old bus).buses bus = none ∧ membersOf (dropBus old bus) bus = [])
    ∧ (bitOf w 9 = true → (bitOf w 10 && decide (s.role = 0)) = true →
      exec (.busDefine k) s = .next (replied 0x20 k .badParam 1 [] false s (fresh s)))
    ∧ (bitOf w 9 = true → (bitOf w 10 && decide (s.role = 0)) = false →
      (inact = false ∧ thas old.buses bus = true ∧ o.cascade ≠ bitOf w 10 →
        exec (.busDefine k) s = .next (replied 0x20 k .staleWrite 1 [] false s ((fresh s).flag Reg.DRV_ERR 0)))
      ∧ (inact = true ∨ thas old.buses bus = false ∨ o.cascade = bitOf w 10 →
        exec (.busDefine k) s = .next (replied 0x20 k .ok 0 [w32 new.buses.length] (b.writeBank i new).2 s
          ((fresh s).setBank i new))))

/-- `MEMBER_SET` (R569), where the bus exists: setting members within the limits of R565, each source named is a member of the
bus with the gain given, ramped to in the active bank; removing members that exist, each goes, over a ramp in the active bank
where RAMP asks one. Other memberships are as before, and nothing outside the Drive engine changes. The model's reading or
choice stands in log entry 85. -/
def Obligations.MemberSetCompletes : Prop :=
  ∀ (k : Pkt) (s : State), begins 0x21 k s = true →
    let w := k.params.getD 0 0
    let bus := fieldOf w 8 0
    let act := !(k.x && bitOf w 10)
    let i := s.bankIx (!act)
    let old := s.bank i
    let ramp := fieldOf w 18 11
    let items := (k.params.drop 1).map fun v => (memKey bus (fieldOf v 11 0), sgn 18 (fieldOf v 29 12))
    thas old.buses bus = true → s.drv.active < 2 → s.drv.banks.length = 2 →
    let done := fun (b' : Bank) => ∃ t, exec (.memberSet k) s = .next t
      ∧ t.cmd.held = s.cmd.held ++ [replyOf 0x21 s.cmd.nextOrd k .ok 0 [w32 b'.members.length] (genAfter (s.writeBank i b').2 s)]
      ∧ t.bank i = b' ∧ t.bank (1 - i) = s.bank (1 - i) ∧ t.drv.active = s.drv.active ∧ t.srx = s.srx ∧ t.stx = s.stx
      ∧ t.tdm = s.tdm ∧ t.mck = s.mck ∧ t.buf = s.buf ∧ (s.ump.badMem = [] → t.regs = s.regs)
    (bitOf w 9 = false →
      (∀ n, 0 < n → let ms := (items.take n).foldl (fun t e => setTerm act s.strokeSize ramp t e.1 e.2) old.members
        ms.length ≤ s.memberLimit ∧ selfFits { old with members := ms } = true) →
      done { old with members := items.foldl (fun t e => setTerm act s.strokeSize ramp t e.1 e.2) old.members })
    ∧ (bitOf w 9 = true → (∀ e ∈ items, hasTerm old.members e.1 = true) →
      done { old with members := items.foldl (fun t e => dropTerm act s.strokeSize ramp t e.1) old.members })

/-- What setting and removing a term do (R552, R553, R559): a term set in the active bank ramps to its gain over the strokes
given, from where it stands or from zero; in the inactive bank it takes its gain; a term removed is gone, or in the active
bank ramps to zero first where a ramp is asked; the other terms of the table are as before. A ramp of length L (R552): sample
j + 1 of it carries a + round((b − a) × (j + 1) / L), halves away from zero, and every sample from the L-th on carries its
target. A bank swap takes effect so (R559): the other bank is active, with its settings and every ramp at its end; with COPY
the bank that was active becomes identical to it, and without it keeps its own settings; the level detectors of the members
of both banks go on. -/
def Obligations.TermsRampAndBanksSwap : Prop :=
  (∀ (act : Bool) (sz n : Nat) (t : Table Term) (j m : Nat) (g : Int),
      (act = true → tget (setTerm act sz n t j g) j
        = some { gain := { cur := match tget t j with | some x => x.gain.cur | none => 0,
                           a := match tget t j with | some x => x.gain.cur | none => 0, b := g, len := n * sz } })
      ∧ (act = false → tget (setTerm act sz n t j g) j = some { gain := rampAt g })
      ∧ (act = true ∧ 0 < n → tget (dropTerm act sz n t j) j
        = (tget t j).map fun x => { gain := { cur := x.gain.cur, a := x.gain.cur, b := 0, len := n * sz }, leaving := true })
      ∧ (act = false ∨ n = 0 → tget (dropTerm act sz n t j) j = none)
      ∧ (m ≠ j → tget (setTerm act sz n t j g) m = tget t m ∧ tget (dropTerm act sz n t j) m = tget t m))
  ∧ (∀ (a b : Int) (len j : Nat), j < len →
      ((rampRun (j + 1) { cur := a, a := a, b := b, len := len }).2).cur
        = (if j + 1 = len then b else a + roundDiv ((b - a) * ((j + 1 : Nat) : Int)) len)
      ∧ (∀ n, ((rampRun (len + n) { cur := a, a := a, b := b, len := len }).2).cur = b))
  ∧ (∀ (copy : Bool) (s : State), s.drv.banks.length = 2 → s.drv.active < 2 →
      let t := drvSwap copy s
      t.drv.active = 1 - s.drv.active ∧ t.activeBank = bankSettings (s.bank (1 - s.drv.active))
      ∧ t.bank s.drv.active = (if copy then bankSettings (s.bank (1 - s.drv.active)) else bankSettings s.activeBank)
      ∧ (∀ m, thas t.activeBank.members m = true → tget t.drv.dets m = tget s.drv.dets m)
      ∧ (∀ m, thas t.activeBank.members m = false → tget t.drv.dets m = none)
      ∧ t.drv.hist = s.drv.hist ∧ t.srx = s.srx ∧ t.tdm = s.tdm ∧ t.regs = s.regs)

/-- `LISTEN_SET` (R570): the listener mix is removed from the bank, or is there with its latency, its output form, its
subscriptions and its self list as given; subscriptions that the command does not name leave as removed terms do. The body
counts the self terms and the listener mixes. A number that the core rate does not allow is BAD_PARAM. -/
def Obligations.ListenSetCompletes : Prop :=
  ∀ (k : Pkt) (s : State), begins 0x22 k s = true →
    let b := begun 0x22 k s
    let w := k.params.getD 0 0
    let num := fieldOf w 10 0
    let act := !(k.x && bitOf w 14)
    let i := s.bankIx (!act)
    let old := s.bank i
    let nsub := fieldOf w 20 16
    let ramp := fieldOf (k.params.getD 1 0) 7 0
    let subs := (List.range nsub).map fun j =>
      (fieldOf (k.params.getD (2 + j) 0) 8 0, sgn 18 (fieldOf (k.params.getD (2 + j) 0) 26 9))
    let selfs := (List.range (fieldOf w 25 21)).map fun j =>
      let v := k.params.getD (2 + nsub + j / 2) 0
      if j % 2 = 0 then fieldOf v 11 0 else fieldOf v 27 16
    let was := (tget old.listeners num).getD {}
    let gone := (was.subs.map Prod.fst).filter fun m => !(subs.any fun e => decide (e.1 = m))
    let left := gone.foldl (fun t m => match tget t m with
      | some y => if y.leaving then t else dropTerm act s.strokeSize ramp t m
      | none => t) was.subs
    let l : Listener := { was with eqLat := bitOf w 12, out24 := bitOf w 13, selfs := selfs,
                                   subs := subs.foldl (fun t e => setTerm act s.strokeSize ramp t e.1 e.2) left }
    let new := { old with listeners := tset old.listeners num l }
    let without := { old with listeners := terase old.listeners num }
    (s.listenerLimit ≤ num → exec (.listenSet k) s = .next (replied 0x22 k .badParam 1 [] false s (fresh s)))
    ∧ (num < s.listenerLimit → bitOf w 11 = false → exec (.listenSet k) s = .next (replied 0x22 k .ok 0 [w32 (2 ^ 5 * without.listeners.length)]
      (b.writeBank i without).2 s ((fresh s).setBank i without)))
    ∧ (num < s.listenerLimit → bitOf w 11 = true → (∀ e ∈ subs, thas old.buses e.1 = true) →
      (act = false ∨ thas old.listeners num = false ∨ was.eqLat = bitOf w 12) → l.subs.length ≤ 16 → selfTerms new l ≤ 16 →
      exec (.listenSet k) s = .next (replied 0x22 k .ok 0 [w32 (selfTerms new l + 2 ^ 5 * new.listeners.length)]
        (b.writeBank i new).2 s ((fresh s).setBank i new)))

/-- `XPOINT_SET` (R571): the feeds of the sinks named are written to the inactive bank at once, or to the active one at the
boundary at which the command completes, and a feed from a listener mix that the core rate does not allow is BAD_PARAM on its
word; the crosspoints of a listener mix that exists are set within its 16, or removed. `GAIN_SET` (R572): where every term
named exists, each has the gain given, ramped to in the active bank; nothing else of the bank changes. -/
def Obligations.XpointAndGainSetComplete : Prop :=
  (∀ (k : Pkt) (s : State), begins 0x23 k s = true →
      let b := begun 0x23 k s
      let w := k.params.getD 0 0
      let inact := k.x && bitOf w 2
      let i := s.bankIx inact
      let old := s.bank i
      let feeds := (k.params.drop 1).map fun v => (fieldOf v 11 0, storedFeed (fieldOf v 27 12))
      let fed := feeds.foldl (fun c e => setFeed c e.1 e.2) old
      let num := fieldOf w 13 3
      let ramp := fieldOf w 21 14
      let items := (k.params.drop 1).map fun v => (fieldOf v 11 0, sgn 18 (fieldOf v 29 12))
      let far := fun (v : Word) => fieldOf v 27 26 = 1 ∧ s.listenerLimit ≤ fieldOf v 23 12
      (bitOf w 0 = true → ∀ i, i < (k.params.drop 1).length → far ((k.params.drop 1).getD i 0) →
        (∀ j, j < i → ¬far ((k.params.drop 1).getD j 0)) →
        exec (.xpointSet k) s = .next (replied 0x23 k .badParam (2 + i) [] false s (fresh s)))
      ∧ (bitOf w 0 = true ∧ inact = true → (∀ v ∈ k.params.drop 1, ¬far v) →
        exec (.xpointSet k) s = .next (replied 0x23 k .ok 0 [0] (b.writeBank i fed).2 s ((fresh s).setBank i fed)))
      ∧ (bitOf w 0 = true ∧ inact = false → (∀ v ∈ k.params.drop 1, ¬far v) →
        exec (.xpointSet k) s = .next (inFlight 0x23 k .committed .boundary [] s.boundaryWait
          (feeds.any fun e => decide (tgetD old.feeds e.1 0 ≠ e.2)) s
          { fresh s with drv := { s.drv with
              feedsNext := s.drv.feedsNext ++ feeds.map fun e => (s.boundaryWait, e.1, e.2) } }))
      ∧ (bitOf w 0 = false → ∀ l, tget old.listeners num = some l →
        let put := fun (x : Table Term) =>
          let c := { old with listeners := tset old.listeners num { l with xpts := x } }
          exec (.xpointSet k) s = .next (replied 0x23 k .ok 0 [w32 (tcount x termLive)] (b.writeBank i c).2 s
            ((fresh s).setBank i c))
        (bitOf w 1 = false → let x := items.foldl (fun t e => setTerm (!inact) s.strokeSize ramp t e.1 e.2) l.xpts
          x.length ≤ 16 → put x)
        ∧ (bitOf w 1 = true → (∀ e ∈ items, hasTerm l.xpts e.1 = true) →
          put (items.foldl (fun t e => dropTerm (!inact) s.strokeSize ramp t e.1) l.xpts))))
  ∧ (∀ (k : Pkt) (s : State), begins 0x24 k s = true →
      let w := k.params.getD 0 0
      let n := fieldOf w 12 8
      let act := !(k.x && bitOf w 13)
      let i := s.bankIx (!act)
      let new := (List.range n).foldl (fun c j => setGainTerm act (fieldOf w 7 0 * s.strokeSize) c
        (gainItem (k.params.getD (2 * j + 1) 0)) (sgn 18 (fieldOf (k.params.getD (2 * j + 2) 0) 17 0))) (s.bank i)
      (∀ j, j < n → gainTermExists (s.bank i) (gainItem (k.params.getD (2 * j + 1) 0)) = true) →
      exec (.gainSet k) s = .next (replied 0x24 k .ok 0 [] ((begun 0x24 k s).writeBank i new).2 s ((fresh s).setBank i new)))

/-- `GATE_CONFIG` (R573) and `DUCK_SET` (R574), where the buses named exist: the bus has the gate settings given, HOLD 500 ms and
GATE_RAMP 60 in the basic form; the ducker has the targets, times and depth given, or none. `DRV_BANK_SWAP` (R575): the
engine accepts the swap, for the next boundary or for the stroke that the expert form names, and the command completes when
it takes effect; a stroke whose boundary can no longer be met ends it with LATE. While the grid is stopped no stroke is too
late yet. `DRV_QUERY` (R576): it answers with what it names, and changes nothing but the clip count that CLEAR names; a
listener mix that the core rate does not allow is BAD_PARAM. The model's reading or choice stands in log entries 82, 83. -/
def Obligations.GateDuckSwapQueryComplete : Prop :=
  (∀ (k : Pkt) (s : State), let w := k.params.getD 0 0
      let v := k.params.getD 1 0
      let bus := fieldOf w 8 0
      (begins 0x25 k s = true → let i := s.bankIx (k.x && bitOf w 12)
        ∀ o, tget (s.bank i).buses bus = some o →
        let new := { s.bank i with buses := tset (s.bank i).buses bus { o with
          gating := bitOf w 9, share := bitOf w 10, lastHold := bitOf w 11, nomMax := fieldOf w 17 13,
          openTh := sgn 16 (fieldOf v 15 0), hyst := fieldOf v 23 16, atten := fieldOf v 31 24,
          holdMs := if k.x then fieldOf (k.params.getD 2 0) 15 0 else 500,
          gateRamp := if k.x then fieldOf (k.params.getD 2 0) 23 16 else 60 } }
        exec (.gateConfig k) s = .next (replied 0x25 k .ok 0 [] ((begun 0x25 k s).writeBank i new).2 s
          ((fresh s).setBank i new)))
      ∧ (begins 0x26 k s = true → let i := s.bankIx (k.x && bitOf w 9)
        let n := fieldOf w 14 10
        let ts := duckTargets k.params n
        thas (s.bank i).buses bus = true → (∀ t ∈ ts, thas (s.bank i).buses t = true) →
        let d : Duck := { targets := ts, attack := fieldOf w 22 15, release := fieldOf w 30 23, depth := fieldOf v 7 0 }
        let ducks := if n = 0 then terase (s.bank i).ducks bus else tset (s.bank i).ducks bus d
        let new := { s.bank i with ducks := ducks }
        exec (.duckSet k) s = .next (replied 0x26 k .ok 0 [] ((begun 0x26 k s).writeBank i new).2 s
          ((fresh s).setBank i new))))
  ∧ (∀ (k : Pkt) (s : State), begins 0x27 k s = true →
      let w := k.params.getD 0 0
      let copy := !k.x || bitOf w 0
      let n := (k.params.getD 1 0).toNat
      let d := strokeDist n s.mck.stroke
      ((k.x && bitOf w 1) = false →
        exec (.drvBankSwap k) s = .next (inFlight 0x27 k .committed (.driveSwap s.drv.swapSeq) [] s.boundaryWait true s
          ((fresh s).addSwap { id := s.drv.swapSeq, copy := copy, wait := s.boundaryWait })))
      ∧ ((k.x && bitOf w 1) = true → s.mck.grid = false ∨ 1 < d ∨ (d = 1 ∧ s.boundaryWait = 1) →
        exec (.drvBankSwap k) s = .next (inFlight 0x27 k .committed (.driveSwap s.drv.swapSeq) [] s.boundaryWait s.mck.grid s
          ((fresh s).addSwap { id := s.drv.swapSeq, copy := copy, at_ := some n, wait := 0, unsure := !s.mck.grid })))
      ∧ ((k.x && bitOf w 1) = true → s.mck.grid = true → d ≤ 0 ∨ (d = 1 ∧ s.boundaryWait = 2) →
        exec (.drvBankSwap k) s = .next (replied 0x27 k .late 0 [] false s (fresh s))))
  ∧ (∀ (k : Pkt) (s : State), begins 0x28 k s = true →
      let w := k.params.getD 0 0
      (k.x = false → exec (.drvQuery k) s = .next (replied 0x28 k .ok 0
        [s.drvStatus, countWord s.activeBank, countTermsWord s.activeBank, countWord (s.bank (1 - s.drv.active)),
          countTermsWord (s.bank (1 - s.drv.active)), s.reg Reg.DRV_SWAP_STROKE] false s (fresh s)))
      ∧ (k.x = true → fieldOf w 2 0 = 2 → s.listenerLimit ≤ fieldOf w 27 16 →
        exec (.drvQuery k) s = .next (replied 0x28 k .badParam 1 [] false s (fresh s)))
      ∧ (k.x = true → (fieldOf w 2 0 = 2 → fieldOf w 27 16 < s.listenerLimit) → exec (.drvQuery k) s = .next (replied 0x28 k .ok 0
        (drvQueryBody s (fieldOf w 2 0) (s.bankIx (bitOf w 3)) (fieldOf w 27 16) (fieldOf (k.params.getD 1 0) 8 0)) false s
        (if bitOf w 4 then { fresh s with drv := { s.drv with clips := terase s.drv.clips (fieldOf w 27 16) } } else fresh s))))

/-- `REF_CONFIG` of a reference (R420, R421): the reference has the enable, rank, form, windows and time of the command, the
basic form with its defaults; the others keep their settings, and the selection stays until it is evaluated. A change of the
form of an enabled reference 3 is STALE_WRITE. The core form of `REF_CONFIG` (R24, R421, R422): RATE and STROKE as they are,
with no change waiting, change nothing; a change outside BOOT and QUIET is STALE_WRITE; with the grid stopped, one that the
configuration does not fit is NO_RESOURCE, and another is in force at once; with the grid running, a change waits for the end
of the stroke, where it is tested and applied, or refused, in the same way. The model's reading or choice stands in log
entries 91, 94, 97. -/
def Obligations.RefConfigCompletes : Prop :=
  (∀ (k : Pkt) (s : State), begins 0x30 k s = true → s.mck.refs.length = 6 →
      let w := k.params.getD 0 0
      let i := fieldOf w 2 0
      let v := k.params.getD 1 0
      let u := k.params.getD 2 0
      i < 6 →
      ((i = 3 ∧ (s.refClock i).en = true ∧ fieldOf w 9 8 ≠ (s.refClock i).form) →
        exec (.refConfig k) s = .next (replied 0x30 k .staleWrite 1 [] false s (fresh s)))
      ∧ (i ≠ 3 ∨ (s.refClock i).en = false ∨ fieldOf w 9 8 = (s.refClock i).form →
        ∃ t q, exec (.refConfig k) s = .next t ∧ t.cmd.held = s.cmd.held ++ [q] ∧ q.tag = k.tag ∧ q.status = .ok
          ∧ (t.refClock i).settings = (bitOf w 3, fieldOf w 6 4, fieldOf w 9 8, if k.x then fieldOf v 15 0 else 500,
              if k.x then fieldOf v 31 16 else 100, if k.x then fieldOf u 15 0 else 100, if k.x then fieldOf u 23 16 else 10)
          ∧ (∀ j, j ≠ i → (t.refClock j).settings = (s.refClock j).settings)
          ∧ (bitOf w 3 = false → (t.refClock i).qualified = false)
          ∧ t.mck.sel = s.mck.sel ∧ t.mck.state = s.mck.state ∧ t.mck.stroke = s.mck.stroke ∧ t.srx = s.srx ∧ t.drv = s.drv))
  ∧ ((∀ (k : Pkt) (s : State), begins 0x30 k s = true → s.mck.coreNext = [] →
      let w := k.params.getD 0 0
      let rate := fieldOf w 12 10
      let b := bitOf w 13
      fieldOf w 2 0 = 6 →
      (s.coreSame rate b = true →
        exec (.refConfig k) s = .next (replied 0x30 k .ok 0 [s.reg Reg.MCK_CORE_CFG] false s (fresh s)))
      ∧ (s.coreSame rate b = false → s.mode ≠ .boot → s.mode ≠ .quiet →
        exec (.refConfig k) s = .next (replied 0x30 k .staleWrite 1 [] false s (fresh s)))
      ∧ (s.coreSame rate b = false → (s.mode = .boot ∨ s.mode = .quiet) →
        (s.mck.grid = false → s.coreFits rate = false →
          exec (.refConfig k) s = .next (replied 0x30 k .noResource 1 [] false s (fresh s)))
        ∧ (s.mck.grid = false → s.coreFits rate = true → ∃ t q, exec (.refConfig k) s = .next t
          ∧ t.reg Reg.MCK_CORE_CFG = w32 (rate + 8 * b2n b)
          ∧ t.cmd.held = s.cmd.held ++ [q] ∧ q.status = .ok ∧ q.body = [w32 (rate + 8 * b2n b)]
          ∧ t.cmd.gen = s.cmd.gen + 1)
        ∧ (s.mck.grid = true → exec (.refConfig k) s = .next (inFlight 0x30 k .started .core [] 0 false s
          { fresh s with mck := { s.mck with coreNext := [{ rate := rate, s16 := b, ord := some s.cmd.nextOrd }] } }))))
    ∧ ∀ (s : State) (f : Flight) (p : Path) (rate : Nat) (b : Bool),
      s.mck.coreNext = [{ rate := rate, s16 := b, ord := some f.ord }] → s.cmd.flights = [f] → f.fin = .core →
      f.src = .path p → s.cmd.restarting = false → rate < 7 → s.coreSame rate b = false →
      let t := coreBoundary s
      t.mck.coreNext = [] ∧ t.cmd.flights = [] ∧ ∃ q ∈ t.cmd.held, q.tag = f.tag
      ∧ (s.mode ≠ .boot → s.mode ≠ .quiet → q.status = .staleWrite ∧ t.regs = s.regs)
      ∧ ((s.mode = .boot ∨ s.mode = .quiet) → s.coreFits rate = false → q.status = .noResource ∧ t.regs = s.regs)
      ∧ ((s.mode = .boot ∨ s.mode = .quiet) → s.coreFits rate = true → q.status = .ok
          ∧ t.reg Reg.MCK_CORE_CFG = w32 (rate + 8 * b2n b) ∧ t.cmd.gen = s.cmd.gen + 1))

/-- `REF_RANK` (R399, R423): every reference has its rank, REVERT, HITLESS and DISAGREE are as given, or 1, 0 and 10 ppm in the
basic form, and MCK evaluates its selection. `HOLDOVER_CONFIG` (R409, R424): the limit, and the error and drift as given or
100 and 10, are in force, a limit that is exceeded is reported, and the body tells the time to the limit. `ALIGN_OUTPUTS`
(R414, R417, R425): with a target it is accepted, one move for all that the same boundary serves, and completes at the end of
the adjusted stroke; CLEAR_ABSORB forgets the absorbed phase at once. In BOOT it is WRONG_MODE, at a Seat that follows the
Cox NOT_COX, and without a target REFUSED. `MCK_QUERY` (R426) answers and changes nothing. The model's reading or choice
stands in log entries 94, 96. -/
def Obligations.RankHoldoverAlignQuery : Prop :=
  (∀ (k : Pkt) (s : State), let w := k.params.getD 0 0
      let v := k.params.getD 1 0
      (begins 0x31 k s = true →
        let refs := s.mck.refs.zipIdx.map fun e => { e.1 with rank := fieldOf w (3 * e.2 + 2) (3 * e.2) }
        let m := { s.mck with refs := refs, revert := !k.x || bitOf v 0, hitless := k.x && bitOf v 1,
                              disagreeLim := if k.x then fieldOf v 15 8 else 10 }
        let t := selectNow { begun 0x31 k s with mck := m }
        exec (.refRank k) s = .next (replied 0x31 k .ok 0 [t.mckStatus]
          (decide (refs ≠ s.mck.refs) || decide (m.revert ≠ s.mck.revert) || decide (m.hitless ≠ s.mck.hitless)
            || decide (m.disagreeLim ≠ s.mck.disagreeLim)) s t))
      ∧ (begins 0x32 k s = true →
        let limit := fieldOf w 19 0
        let fe0 := if k.x then fieldOf v 15 0 else 100
        let drift := if k.x then fieldOf (k.params.getD 2 0) 15 0 else 10
        exec (.holdoverConfig k) s = .next (replied 0x32 k .ok 0 [w32 (satNat 0xFFFFFFFF (expireTime limit fe0 drift))]
          (decide (limit ≠ s.mck.hoLimit) || decide (fe0 ≠ s.mck.fe0) || decide (drift ≠ s.mck.drift)) s
          (holdoverReport { fresh s with mck := { s.mck with hoLimit := limit, fe0 := fe0, drift := drift } }))))
  ∧ (∀ (k : Pkt) (s : State), let w := k.params.getD 0 0
      (begins 0x33 k s = true →
        let follows := s.role = 2 ∧ s.mck.sel = some 4
        (s.mode = .boot → exec (.alignOutputs k) s = .next (replied 0x33 k .wrongMode 0 [] false s (fresh s)))
        ∧ (s.mode ≠ .boot → follows → exec (.alignOutputs k) s = .next (replied 0x33 k .notCox 0 [] false s (fresh s)))
        ∧ (s.mode ≠ .boot → ¬follows → s.hasTarget = false →
          exec (.alignOutputs k) s = .next (replied 0x33 k .refused 0 [] false s (fresh s)))
        ∧ (s.mode ≠ .boot → ¬follows → s.hasTarget = true →
          let absorb := if k.x && bitOf w 0 then 0 else s.mck.absorb
          let aligns := if s.mck.aligns.any fun a => decide (a.wait = s.alignWait) then s.mck.aligns
            else s.mck.aligns ++ [{ wait := s.alignWait, lead := b2n s.seatsFollow }]
          exec (.alignOutputs k) s = .next (inFlight 0x33 k .committed .align [] (s.alignWait + 1) false s
            { fresh s with mck := { s.mck with absorb := absorb, aligns := aligns } })))
      ∧ (begins 0x34 k s = true →
        let i := fieldOf w 2 0
        let r := s.refClock i
        exec (.mckQuery k) s = .next (replied 0x34 k .ok 0 (if k.x then
            [s.refStatus i, s.refFreq i, w32 (r.freqWin + 2 ^ 16 * r.hyst),
             w32 (r.phaseWin + 2 ^ 16 * r.qualTime + 2 ^ 24 * s.mck.disagreeLim)]
          else [s.mckStatus, phaseWord s.phaseErr, phaseWord s.refPhase, phaseWord s.mck.held, phaseWord s.mck.absorb,
            satWord s.mck.freq, s.hoTe, s.hoTime, s.reg Reg.MCK_CORE_CFG, w32 s.mck.hoLimit, w32 (s.mck.fe0 + 2 ^ 16 * s.mck.drift)])
          false s (fresh s))))

/-- The selection (R397, R398): it is a candidate, of the best rank unless REVERT = 0 keeps the current one; it is empty just
where there is no candidate; and with no disagreement the current one of the best rank stays, else the one of the lowest
index is chosen. The events of the references and of the media clock take effect so (R392 to R395, R399 to R401, R409): the
selection is evaluated; a reference that passes its tests is qualified at the average given, corrected by the trim, with its
event; a measurement at which a qualified one fails a test, or at which reference 2 or 3 stops being present, disqualifies
it, with its event, and one that it passes only gives it a new average; the lock test brings ACQUIRE to LOCKED, with its
event; and an estimate that exceeds the limit brings HOLDOVER to HO_EXPIRED, with its event. The model's reading or choice
stands in log entries 92, 94, 95. -/
def Obligations.SelectionAndReferenceEvents : Prop :=
  (∀ s : State, (∀ i, (s.refClock i).rank < 8) →
      (∀ i, s.selection = some i → i ∈ s.candidates)
      ∧ (s.selection = none ↔ s.candidates = [])
      ∧ (∀ i, s.mck.revert = true → s.selection = some i → ∀ j ∈ s.candidates, (s.refClock i).rank ≤ (s.refClock j).rank)
      ∧ (∀ i, s.mck.revert = false → s.mck.sel = some i → i ∈ s.candidates → s.selection = some i)
      ∧ (s.disagreeing = [] → s.mck.revert = true →
          (∀ i, s.mck.sel = some i → i ∈ s.bestRank → s.selection = some i)
          ∧ ((∀ i, s.mck.sel = some i → i ∉ s.bestRank) → s.selection = s.bestRank.head?)))
  ∧ (∀ s : State, clocked s.mode = true →
      (∃ t, exec .selectionEvaluate s = .next t ∧ t.mck.sel = (noteDisagree (fresh s).trackRefs).selection
        ∧ t.mck.stroke = s.mck.stroke ∧ t.cmd = s.cmd ∧ t.drv = s.drv ∧ t.srx = s.srx)
      ∧ (∀ (i : Nat) (raw phase : Int) (pp : Nat), i < 5 → s.mck.refs.length = 6 → (s.refClock i).en = true →
        (i = 2 ∨ i = 3 ∨ s.refPresent i = true) → (s.refClock i).qualified = false →
        let freq := s.corrected raw
        (freq.natAbs : Int) ≤ ((s.refClock i).freqWin : Int) * 100000 - ((s.refClock i).hyst : Int) * 10000 →
        pp ≤ (s.refClock i).phaseWin * 10 →
        ∃ t, exec (.refQualified i ⟨raw, pp⟩ phase) s = .next t ∧ (t.refClock i).qualified = true ∧ (t.refClock i).avg = freq
          ∧ (t.refClock i).settings = (s.refClock i).settings ∧ (∀ j, j ≠ i → t.refClock j = s.refClock j)
          ∧ t.bit Reg.MCK_REF_EVENT 3 = true ∧ t.mck.sel = s.mck.sel ∧ t.mck.state = s.mck.state ∧ t.ntu = s.ntu)
      ∧ (∀ (i : Nat) (present : Bool) (raw : Int) (pp : Nat), i < 5 → s.mck.refs.length = 6 →
        (s.refClock i).qualified = true →
        let freq := s.corrected raw
        let fails := ((s.refClock i).freqWin : Int) * 100000 < (freq.natAbs : Int) ∨ (s.refClock i).phaseWin * 10 < pp
          ∨ ((i = 2 ∨ i = 3) ∧ present = false)
        ∃ t, exec (.refDisqualified i present ⟨raw, pp⟩) s = .next t ∧ (t.refClock i).avg = freq
          ∧ (fails → (t.refClock i).qualified = false ∧ t.bit Reg.MCK_REF_EVENT 2 = true)
          ∧ (¬fails → (s.refClock i).en = true → (i = 2 ∨ i = 3 ∨ s.refPresent i = true) → (t.refClock i).qualified = true)
          ∧ (∀ j, (t.refClock j).settings = (s.refClock j).settings)
          ∧ t.mck.sel = s.mck.sel ∧ t.mck.state = s.mck.state ∧ t.ntu = s.ntu)
      ∧ (∀ i, s.mck.sel = some i → s.mck.state = .acquire → s.phaseReached i = true →
        ∃ t, exec .lockTestPass s = .next t ∧ t.mck.state = .locked ∧ t.mck.sel = some i ∧ t.mck.absorb = 0
          ∧ t.bit Reg.MCK_REF_EVENT 4 = true ∧ t.mck.lockedAt = s.ntu.course ∧ t.ntu = s.ntu)
      ∧ (s.mck.state = .holdover →
        2000000000000000000000 * s.mck.hoLimit < timeError s.mck.fe0 s.mck.drift s.holdoverNs →
        ∃ t, exec .holdoverExpired s = .next t ∧ t.mck = { s.mck with state := .hoExpired }
          ∧ t.bit Reg.MCK_REF_EVENT 6 = true ∧ t.ntu = s.ntu ∧ t.cmd = s.cmd))

/-- `PTP_CONFIG` (R381, R382): the configuration is that of the command, with the settings that only the expert form carries at
their defaults in the basic form, unless an instance is enabled and CTRL, PROFILE or DOMAIN would change, which is
STALE_WRITE. A re-route hold goes on only under basic control, and references 0 and 1 are as present as CTRL makes them
(R390). `PTP_PORT` (R356, R381, R383) under basic control, with a transport and delay mechanism that the profile permits: the
instance has the settings of the command; it enters LISTENING where it is enabled, and is DISABLED with nothing heard where
it is not; the other instance is as before. Without basic control it is REFUSED. A transport or delay mechanism that the
profile does not permit is BAD_PARAM, and a change of an enabled instance's transport, mechanism, tag, VLAN or address
STALE_WRITE. `TIME_SET` (R371, R384), where neither PTP nor the Cox governs time: SET steps Network Time to the value, STEP
by it, SLEW has the value moved at the rate given, RATE sets the base rate; a step counts, begins a new epoch and makes time
valid. Under either it is REFUSED and changes nothing. The model's reading or choice stands in log entries 98, 100. -/
def Obligations.PtpAndTimeCommandsComplete : Prop :=
  (∀ (k : Pkt) (s : State), begins 0x38 k s = true →
      let c := ptpConfigOf k.x k.params
      let old := s.ntu.ptp
      let fixed := c.ctrl = old.ctrl ∧ c.profile = old.profile ∧ c.domain = old.domain
      let ntu := { s.ntu with ptp := c, reroute := if c.ctrl = 1 then s.ntu.reroute else none }
      (s.ptpOn = true → ¬fixed → exec (.ptpConfig k) s = .next (replied 0x38 k .staleWrite 1 [] false s (fresh s)))
      ∧ (s.ptpOn = false ∨ fixed → exec (.ptpConfig k) s
          = .next (replied 0x38 k .ok 0 [({ s with ntu := ntu }).ptpStatus] (decide (c ≠ old)) s
              ({ fresh s with ntu := ntu }).trackRefs)))
  ∧ (∀ (k : Pkt) (s : State), begins 0x39 k s = true → s.ntu.ports.length = 2 →
      let n := fieldOf (k.params.getD 0 0) 0 0
      let q := s.ptpPort n
      let new := s.ptpPortOf k.x k.params q
      let permits := profileTransport s.ntu.ptp.profile new.transport = true ∧ new.p2p = profileP2p s.ntu.ptp.profile
      let same := q.transport = new.transport ∧ q.p2p = new.p2p ∧ q.tagged = new.tagged ∧ q.vid = new.vid
      (¬permits → exec (.ptpPort k) s = .next (replied 0x39 k .badParam 1 [] false s (fresh s)))
      ∧ (permits → q.en = true → ¬same → exec (.ptpPort k) s = .next (replied 0x39 k .staleWrite 1 [] false s (fresh s)))
      ∧ (permits → q.en = true → same → q.ipv4 ≠ new.ipv4 →
        exec (.ptpPort k) s = .next (replied 0x39 k .staleWrite 2 [] false s (fresh s)))
      ∧ (permits → (q.en = false ∨ (same ∧ q.ipv4 = new.ipv4)) →
      (s.ntu.ptp.ctrl ≠ 1 → exec (.ptpPort k) s = .next (replied 0x39 k .refused 0 [] false s (fresh s)))
      ∧ (s.ntu.ptp.ctrl = 1 → ∃ t r, exec (.ptpPort k) s = .next t ∧ t.cmd.held = s.cmd.held ++ [r] ∧ r.tag = k.tag
          ∧ r.status = .ok
          ∧ (q.en = true → new.en = true → t.ptpPort n = new)
          ∧ (q.en = false → new.en = true → t.ptpPort n = { new.cleared with state := 4 })
          ∧ (new.en = false → t.ptpPort n = { new.cleared with state := 0 })
          ∧ t.ptpPort (1 - n) = s.ptpPort (1 - n) ∧ t.ntu.nt40 = s.ntu.nt40 ∧ t.ntu.list = s.ntu.list ∧ t.np = s.np)))
  ∧ (∀ (k : Pkt) (s : State), begins 0x3A k s = true →
      let op := fieldOf (k.params.getD 0 0) 1 0
      let v := (k.params.getD 1 0).toNat + 2 ^ 32 * (k.params.getD 2 0).toNat
      let ok := fun (t : State) => ∃ r, t.cmd.held = s.cmd.held ++ [r] ∧ r.tag = k.tag ∧ r.status = .ok
        ∧ r.body = [w32 (s.tick64 % 2 ^ 32), w32 (s.tick64 / 2 ^ 32), w32 (t.tick64 % 2 ^ 32), w32 (t.tick64 / 2 ^ 32),
            w32 t.ntu.steps] ∧ t.ntu.course = s.ntu.course
      ((s.ntu.ptp.ctrl = 1 ∨ s.timeFollow = true) →
        exec (.timeSet k) s = .next (replied 0x3A k .refused 0 [] false s (fresh s)))
      ∧ (s.ntu.ptp.ctrl ≠ 1 → s.timeFollow = false → ∃ t, exec (.timeSet k) s = .next t ∧ ok t
        ∧ (op = 0 → t.tick64 = v % 2 ^ 64 ∧ t.ntu.slew = none ∧ t.ntu.valid = true ∧ t.ntu.epoch = (s.ntu.epoch + 1) % 16
            ∧ t.bit Reg.NTU_EVENT 1 = true)
        ∧ (op = 1 → v ≠ 0 → (t.tick64 : Int) = ((s.tick64 : Int) + sgn 64 v) % 2 ^ 64 ∧ t.ntu.slew = none
            ∧ t.ntu.valid = true ∧ t.ntu.epoch = (s.ntu.epoch + 1) % 16 ∧ t.bit Reg.NTU_EVENT 1 = true)
        ∧ (op = 1 → v = 0 → t.ntu = s.ntu ∧ t.regs = s.regs)
        ∧ (op = 2 →
            let rate := if k.x then fieldOf (k.params.getD 3 0) 15 0 else s.ntu.ptp.slewMax
            let slew : Slew := { left := sgn 64 v * 2 ^ 40, rate := slewRate rate }
            t.ntu = { s.ntu with slew := if v = 0 then none else some slew } ∧ t.regs = s.regs)
        ∧ (op = 3 → t.ntu = { s.ntu with rate := sgn 32 (v % 2 ^ 32) } ∧ t.regs = s.regs)))

/-- `STARTLIST_LOAD` (R375, R378, R385) of an entry that is neither ARMED nor HANDED, where the pool has room: the entry holds
the time, action and packet of the command; it is LOADED, or with ARM, which needs valid time and a TIME that is not too late
unless LATE_OK lets it be, it is ARMED, or DONE at once where it is dropped. The other entries are as before. An entry that
is ARMED or HANDED is STALE_WRITE, and a pool without room NO_RESOURCE. The model's reading or choice stands in log entry
101. -/
def Obligations.StartlistLoadCompletes : Prop :=
  ∀ (k : Pkt) (s : State), begins 0x3B k s = true →
    let i := fieldOf (k.params.getD 0 0) 9 0
    let e := slEntryOf k.x k.params
    let arm := k.x && bitOf (k.params.getD 4 0) 0
    let lateOk := k.x && bitOf (k.params.getD 4 0) 1
    let held := match tget s.ntu.list i with | some o => o.packet.length | none => 0
    let busy := match tget s.ntu.list i with | some o => o.state = .armed ∨ o.state = .handed | none => False
    (busy → exec (.startlistLoad k) s = .next (replied 0x3B k .staleWrite 1 [] false s (fresh s)))
    ∧ (¬busy → 16384 < s.slPool - held + e.packet.length →
      exec (.startlistLoad k) s = .next (replied 0x3B k .noResource (if k.x then 6 else 5) [] false s (fresh s)))
    ∧ (¬busy → s.slPool - held + e.packet.length ≤ 16384 →
      (arm = true → s.ntu.valid = false →
        exec (.startlistLoad k) s = .next (replied 0x3B k .refused 0 [] false s (fresh s)))
      ∧ (arm = true → s.ntu.valid = true → lateOk = false → s.beyondWin (s.lateness e) = true →
        exec (.startlistLoad k) s = .next (replied 0x3B k .late 0 [] false s (fresh s)))
      ∧ (arm = false ∨ (s.ntu.valid = true ∧ (lateOk = true ∨ s.beyondWin (s.lateness e) = false)) →
        ∃ t r x, exec (.startlistLoad k) s = .next t ∧ t.cmd.held = s.cmd.held ++ [r] ∧ r.tag = k.tag ∧ r.status = .ok
          ∧ tget t.ntu.list i = some x ∧ x.content = e
          ∧ (arm = false → x.state = .loaded)
          ∧ (arm = true → (x.state = .armed ∨ x.state = .dropped)
              ∧ (x.state = .dropped ↔ 0 ≤ s.lateness e ∧ s.beyondWin (s.lateness e) = true ∧ e.lateDrop = true))
          ∧ (∀ j, j ≠ i → tget t.ntu.list j = tget s.ntu.list j) ∧ t.ntu.nt40 = s.ntu.nt40 ∧ t.ntu.evtOut = s.ntu.evtOut))

/-- `STARTLIST_ARM` (R378, R386) with valid time and no entry too late unless LATE_OK: every LOADED entry of the range is ARMED,
or dropped where it is too late; the others keep their states; without valid time it is REFUSED, and with an entry too late
and no LATE_OK it is LATE. `STARTLIST_CANCEL` (R387): what it names is no longer armed nor handed to a pin; with CLEAR
nothing of it remains, but for the packets that are with the Command Processor. The model's reading or choice stands in log
entry 101. -/
def Obligations.StartlistArmAndCancelComplete : Prop :=
  ∀ (k : Pkt) (s : State), let w := k.params.getD 0 0
    (begins 0x3C k s = true →
      let l := s.ntu.list.filter fun e => slInRange w e.1 && decide (e.2.state = .loaded)
      (s.ntu.valid = false → exec (.startlistArm k) s = .next (replied 0x3C k .refused 0 [] false s (fresh s)))
      ∧ (s.ntu.valid = true → trising s.ntu.list = true → (k.x && bitOf w 21) = false →
          (∃ e ∈ l, s.beyondWin (s.lateness e.2) = true) →
          exec (.startlistArm k) s = .next (replied 0x3C k .late 0 [] false s (fresh s)))
      ∧ (s.ntu.valid = true → trising s.ntu.list = true →
          ((k.x && bitOf w 21) = true ∨ ∀ e ∈ l, s.beyondWin (s.lateness e.2) = false) →
          ∃ t r, exec (.startlistArm k) s = .next t ∧ t.cmd.held = s.cmd.held ++ [r] ∧ r.tag = k.tag ∧ r.status = .ok
            ∧ r.body = [w32 (l.length + 2 ^ 11 * (fieldOf w 20 10 - l.length))]
            ∧ (∀ e ∈ l, ∃ x, tget t.ntu.list e.1 = some x ∧ x.content = e.2.content
                ∧ (x.state = .armed ∨ (x.state = .dropped ∧ e.2.lateDrop = true)))
            ∧ (∀ j, (∀ e ∈ l, e.1 ≠ j) → tget t.ntu.list j = tget s.ntu.list j) ∧ t.ntu.nt40 = s.ntu.nt40))
    ∧ (begins 0x3D k s = true → trising s.ntu.list = true →
      let named := fun (i : Nat) => (k.x && bitOf w 22) || slInRange w i
      ∃ t r, exec (.startlistCancel k) s = .next t ∧ t.cmd.held = s.cmd.held ++ [r] ∧ r.tag = k.tag ∧ r.status = .ok
        ∧ (∀ i x, named i = true → tget t.ntu.list i = some x → x.cancels = false)
        ∧ (∀ o ∈ t.ntu.evtOut, ∀ h ∈ o.handed, (match tget s.ntu.list h.entry with
            | some x => named h.entry && x.cancels | none => false) = false)
        ∧ (bitOf w 21 = true → ∀ i x, named i = true → tget t.ntu.list i = some x → x.state = .handed ∧ x.action ≠ 2)
        ∧ (∀ i, named i = false → tget t.ntu.list i = tget s.ntu.list i) ∧ t.ntu.nt40 = s.ntu.nt40)

/-- Event inputs (R72, R366): an edge that the pin's setting does not choose changes nothing but time; a chosen one that comes
100 ns or more after the last stamped one is stamped; a closer one is counted as missed, with its event. Event outputs (R368,
R376, R377): the first edge handed to a pin in LEVEL mode, once its time has come and 20 ns have passed since the last edge,
sets the level that it names and its entry is FIRED, or LATE; a pin that is not in LEVEL mode does not move, and the entry is
FAILED with WRONG_MODE. The model's reading or choice stands in log entries 3, 102. -/
def Obligations.EventPinsComplete : Prop :=
  (∀ (dt pin : Nat) (rising : Bool) (s : State), pin < 8 → clocked s.mode = true → s.ntu.evtIn.length = 8 →
      let u := (fresh s).advance dt
      let close := match (u.ntu.evtIn.getD pin {}).lastStamp with
        | some c => u.ntu.course < c + 100
        | none => False
      (u.edgeChosen pin rising = false → exec (.evtInEdge dt pin rising) s = .next (settle u))
      ∧ (u.edgeChosen pin rising = true → close →
        ∃ t, exec (.evtInEdge dt pin rising) s = .next t ∧ t.bit Reg.NTU_EVENT 5 = true
          ∧ (t.ntu.evtIn.getD pin {}).missed = satNat 255 ((u.ntu.evtIn.getD pin {}).missed + 1)
          ∧ (t.ntu.evtIn.getD pin {}).lastStamp = (u.ntu.evtIn.getD pin {}).lastStamp ∧ t.buf = s.buf
          ∧ ∀ j, j ≠ pin → t.ntu.evtIn.getD j {} = s.ntu.evtIn.getD j {})
      ∧ (u.edgeChosen pin rising = true → ¬close →
        ∃ t, exec (.evtInEdge dt pin rising) s = .next t
          ∧ t.ntu.evtIn.getD pin {} = { lastStamp := some u.ntu.course, missed := 0 }
          ∧ (∀ j, j ≠ pin → t.ntu.evtIn.getD j {} = s.ntu.evtIn.getD j {}) ∧ t.cmd = s.cmd ∧ t.mck = u.mck))
  ∧ (∀ (dt pin : Nat) (s : State), let u := (fresh s).advance dt
      ∀ (h : HandedEdge) (rest : List HandedEdge) (e : SlEntry), pin < 4 → s.ntu.evtOut.length = 4 → clocked s.mode = true →
      (u.ntu.evtOut.getD pin {}).handed = h :: rest → tget u.ntu.list h.entry = some e → h.time ≤ u.tick64 →
      (u.evtMode pin = 1 → evtWaits pin h u = false →
        ∃ t x, exec (.evtOutEdge dt pin) s = .next t
          ∧ (t.ntu.evtOut.getD pin {}).level = (match h.level with
              | 0 => false | 1 => true | _ => !(u.ntu.evtOut.getD pin {}).level)
          ∧ (t.ntu.evtOut.getD pin {}).handed = rest
          ∧ tget t.ntu.list h.entry = some x ∧ x.state = (if e.isLate then .late else .fired)
          ∧ t.bit Reg.NTU_EVENT 7 = true ∧ t.cmd = s.cmd ∧ ∀ j, j ≠ pin → t.ntu.evtOut.getD j {} = s.ntu.evtOut.getD j {})
      ∧ (u.evtMode pin ≠ 1 →
        ∃ t x, exec (.evtOutEdge dt pin) s = .next t
          ∧ (t.ntu.evtOut.getD pin {}).level = (u.ntu.evtOut.getD pin {}).level
          ∧ (t.ntu.evtOut.getD pin {}).handed = rest
          ∧ tget t.ntu.list h.entry = some x ∧ x.state = .failed ∧ x.status = statusCode .wrongMode))

/-- The Start List fires (R368, R375 to R378): of the entries that are due, the one of the earliest TIME, and of those the
lowest. An entry that is too late, by its evaluation or by its lateness now, is dropped where it asks so. Else an edge is
handed to its pin, whose edges stand in ascending TIME; the packet of a CMD action goes to the Command Processor, and its
entry is HANDED; another action commits at once in its unit, and its entry is FIRED, or LATE, or FAILED with the status. With
nothing due only time passes. The model's reading or choice stands in log entry 101. -/
def Obligations.StartListFires : Prop :=
  ∀ (dt : Nat) (s : State), let u := (fresh s).advance dt
    clocked s.mode = true → s.ntu.valid = true →
    (∀ (h : HandedEdge) (l : List HandedEdge), l.Pairwise (fun a b => a.time ≤ b.time) →
      (handEdge h l).Pairwise (fun a b => a.time ≤ b.time) ∧ (handEdge h l).length = l.length + 1 ∧ h ∈ handEdge h l)
    ∧ (slNext u = none → exec (.startListFire dt) s = .next (settle u))
    ∧ (∀ i e, slNext u = some (i, e) →
      exec (.startListFire dt) s = .next (settle (fireEntry i e u))
      ∧ (∀ j x, (j, x) ∈ u.ntu.list → slDue u x = true → e.time ≤ x.time)
      ∧ (let late := if e.due then e.isLate else decide (0 ≤ u.lateness e) && u.beyondWin (u.lateness e)
        let e1 := { e with isLate := late, lateness := if e.due = true ∨ u.lateness e < 0 then e.lateness else u.lateness e }
        let done := if late then SlState.late else .fired
        ((late && e.lateDrop) = true → ∃ x, tget (fireEntry i e u).ntu.list i = some x ∧ x.state = .dropped)
        ∧ ((late && e.lateDrop) = false →
          (e.action = 2 → e.pin < 4 → u.ntu.evtOut.length = 4 →
            (∃ x, tget (fireEntry i e u).ntu.list i = some x ∧ x.state = .handed ∧ x.isLate = late)
              ∧ ((fireEntry i e u).ntu.evtOut.getD e.pin {}).handed
                = handEdge { entry := i, time := e.time, level := e.level, since := u.ntu.course }
                    (u.ntu.evtOut.getD e.pin {}).handed)
          ∧ (e.action = 1 → fireEntry i e u
              = takeWords (.starter i) .host e.packet (u.onEntry i fun _ => { e1 with state := .handed }))
          ∧ (e.action ≠ 1 → e.action ≠ 2 →
              let r := commitOp 0 (actionCmd e).1 0 false (actionCmd e).2 (abortNamed e1 (u.onEntry i fun _ => e1))
              (∀ st w b, r.2 = .fail st w b → fireEntry i e u = r.1.slDone i .failed (statusCode st))
              ∧ (∀ b g, r.2 = .ok b g → fireEntry i e u = (genIf g r.1).slDone i done 0)
              ∧ (∀ fin b g, r.2 = .later fin b g → fireEntry i e u = (genIf g r.1).slDone i done 0)))))

/-- The firmware's PTP work (R253, R354 to R357): under basic control the oldest message of queue 31, as its read finds it,
leaves the queue; one that fails the checks is counted as dropped, and nothing else comes of it. The timers send what the
instance's state calls for, unless an interval request has stopped it, and the receipt timeout makes an instance that is no
MASTER a MASTER, or LISTENING where it is slave-only. The end of a re-route hold (R373) and of a slew (R384): the hold ends
with its event, and where the median of the offsets of its last second, a free value where there are none, has moved by more
than half of ASYM_THRESH it is slewed away; a slew that has moved all of its value is over. The model's reading or choice
stands in log entries 98, 99, 100. -/
def Obligations.PtpEventsComplete : Prop :=
  ((∀ (dt : Nat) (ecc : Option Ecc) (s : State) (q0 q : Queue) (it : Item), let u := (fresh s).advance dt
      let w := queueEcc 31 ecc (u.onQueue 31 (qUpset ecc))
      u.ptpRuns = true → tget u.buf.queues 31 = some q0 → q0.rpItem < q0.items.length →
      tget w.buf.queues 31 = some q → q.items[q.rpItem]? = some it →
      let m := ptpPayload (it.data.drop 16)
      let v := w.setQueue 31 (qReadAll { q with rpOff := 0 })
      ((∀ bs, m = some bs → ptpGood v (leNat (slice it.data 0 2) / 2 ^ 14 % 2) (readPtp bs) = false) →
        exec (.ptpMessageReceived ⟨dt, ecc⟩) s = .next (settle (v.bump Reg.NTU_PTP_DROP)))
      ∧ (∀ bs, m = some bs → ptpGood v (leNat (slice it.data 0 2) / 2 ^ 14 % 2) (readPtp bs) = true →
        exec (.ptpMessageReceived ⟨dt, ecc⟩) s = .next (settle (ptpTaken (leNat (slice it.data 0 2) / 2 ^ 14 % 2) (readPtp bs)
          (unsgn 64 (extendNear 32 (leNat (slice it.data 8 4)) w.tick64)) v))))
    ∧ (∀ (p : Nat) (s : State), p < 2 → s.ntu.ports.length = 2 → s.ptpRuns = true → (s.ptpPort p).en = true →
      ((s.ptpPort p).state ≠ 6 → ∃ t, exec (.ptpMessageTimer p .receipt) s = .next t
        ∧ (t.ptpPort p).state = (if s.ntu.ptp.slaveOnly then 4 else 6) ∧ (t.ptpPort p).best = none
        ∧ t.ptpPort (1 - p) = s.ptpPort (1 - p) ∧ t.np = s.np)
      ∧ ((s.ptpPort p).state = 6 → s.ptpAble p = true →
          ((s.ptpPort p).annLog ≠ logStop → ∃ t, exec (.ptpMessageTimer p .announce) s = .next t
            ∧ (t.ptpPort p).annSeq = ((s.ptpPort p).annSeq + 1) % 2 ^ 16)
          ∧ ((s.ptpPort p).syncLog ≠ logStop → ∃ t, exec (.ptpMessageTimer p .sync) s = .next t
            ∧ (t.ptpPort p).syncSeq = ((s.ptpPort p).syncSeq + 1) % 2 ^ 16))
      ∧ (((s.ptpPort p).p2p = true ∧ (s.ptpPort p).delayLog ≠ logStop)
          ∨ ((s.ptpPort p).p2p = false ∧ ((s.ptpPort p).state = 8 ∨ (s.ptpPort p).state = 9)) →
          ∃ t, exec (.ptpMessageTimer p .delay) s = .next t
            ∧ (t.ptpPort p).delaySeq = ((s.ptpPort p).delaySeq + 1) % 2 ^ 16)))
  ∧ (∀ s : State,
      (∀ h, s.ntu.reroute = some h → s.timeFollow = false →
        let l := (s.ntu.offsets.filter fun e => decide (s.ntu.course < 1000000000 + e.1)).map Prod.snd
        let m := if l = [] then Config.freeInt s.free else median l
        let away : Slew := { left := -m * 2 ^ 40, rate := slewRate s.ntu.ptp.slewMax, reroute := true }
        let slew := if (s.ntu.ptp.asymThresh : Int) < 2 * (m - h.offsetBefore).natAbs then some away else s.ntu.slew
        ∃ t, exec .rerouteHoldEnd s = .next t ∧ t.bit Reg.NTU_EVENT 3 = true
          ∧ t.ntu = { s.ntu with reroute := none, slew := slew } ∧ t.mck = s.mck ∧ t.cmd = s.cmd)
      ∧ (∀ sl, s.ntu.slew = some sl → sl.left = 0 →
        exec .slewEnd s = .next (settle { fresh s with ntu := { s.ntu with slew := none } })))

/-- `RUD_LOAD` (R333, R339, R344): a write to a bank that is enabled is STALE_WRITE; else the instructions are written, which
unseals the bank, and without SEAL the command is done; with SEAL the checks of R333 decide: the bank is sealed and is the
one loaded, or the command is REFUSED, what it wrote stays, and the body names the engine, the address and the reason. What a
write of instructions leaves (R344): the instructions given, from the start address on; zero elsewhere in that engine where
it is cleared first; and every other instruction of either bank as it was. The model's reading or choice stands in log
entries 106, 107. -/
def Obligations.RudLoadCompletes : Prop :=
  (∀ (k : Pkt) (s : State), begins 0x40 k s = true →
      let b := begun 0x40 k s
      let w := k.params.getD 0 0
      let n := fieldOf w 0 0
      let s1 := rudLoaded k.x k.params b
      let found := sealBank s1 n 8 0 0
      (rudWrites k.x k.params = true ∧ s.rudBankOn n = true →
        exec (.rudLoad k) s = .next (replied 0x40 k .staleWrite 1 [] false s (fresh s)))
      ∧ (rudWrites k.x k.params = false ∨ s.rudBankOn n = false →
        (bitOf w 1 = false → exec (.rudLoad k) s = .next (replied 0x40 k .ok 0 (rudLoadBody n (s1.rudSealed n) 0 0 0 0)
          (decide (s1.rud ≠ s.rud)) s s1))
        ∧ (bitOf w 1 = true → found.2.2.1 = 0 → ∃ t q, exec (.rudLoad k) s = .next t ∧ t.rudSealed n = true
          ∧ t.rud.loaded = n ∧ t.rud.prog = s1.rud.prog ∧ t.rudSealed (1 - n) = s.rudSealed (1 - n)
          ∧ t.cmd.held = s.cmd.held ++ [q] ∧ q.tag = k.tag ∧ q.status = .ok ∧ q.body = rudLoadBody n true 0 0 0 found.2.2.2)
        ∧ (bitOf w 1 = true → found.2.2.1 ≠ 0 → ∃ t q, exec (.rudLoad k) s = .next t ∧ t.rud = s1.rud
          ∧ t.cmd.held = s.cmd.held ++ [q] ∧ q.tag = k.tag ∧ q.status = .refused
          ∧ q.body = rudLoadBody n (s1.rudSealed n) found.1 found.2.1 found.2.2.1 found.2.2.2)))
  ∧ (∀ (b start e : Nat) (clear : Bool) (ins : List (BitVec 64)) (s : State), e < 8 → start + ins.length ≤ 512 →
      let t := rudWrite b start clear ins e s
      (∀ i v, ins[i]? = some v → t.rudIns b e (start + i) = v)
      ∧ (∀ a, a < 512 → (a < start ∨ start + ins.length ≤ a) → t.rudIns b e a = if clear then 0 else s.rudIns b e a)
      ∧ (∀ b' e' a, e' < 8 → a < 512 → (b' ≠ b ∨ e' ≠ e) → t.rudIns b' e' a = s.rudIns b' e' a)
      ∧ t.rud.flows = s.rud.flows ∧ t.rud.inq = s.rud.inq)

/-- `RUD_SWAP` (R340, R345): under the boot program it is WRONG_MODE; to a bank that is not sealed it is REFUSED; to the active
bank it is done; with the Rudder stopped the other bank is active at once; else with a swap in progress it waits, and with
none the other bank is active at once and the command completes when the old bank's frames are delivered. The ends of a
Rudder swap and of a removal scan (R340, R345, R346): once the frames of the old bank are delivered the swap is over, with
its event, and its command is answered; the scan's command is answered with whether it removed any entry. -/
def Obligations.RudSwapAndScanComplete : Prop :=
  (∀ (k : Pkt) (s : State), begins 0x41 k s = true →
      let w := k.params.getD 0 0
      let n := fieldOf w 0 0
      let clear := fun (t : State) => if k.x && bitOf w 1 then t.clearDrops else t
      (s.rud.bootProg = true → exec (.rudSwap k) s = .next (replied 0x41 k .wrongMode 0 [] false s (fresh s)))
      ∧ (s.rud.bootProg = false →
          (s.rudSealed n = false →
            exec (.rudSwap k) s = .next (replied 0x41 k .refused 0 [w32 s.rudBank] false s (fresh s)))
          ∧ (s.rudSealed n = true → s.rudBank ≠ n → s.rudEn = true → s.rud.swapTo.isSome = true →
            exec (.rudSwap k) s = .next (inFlight 0x41 k .started .rudSwap [] 0 false s (fresh s)))
          ∧ (s.rudSealed n = true → s.rudBank = n →
            exec (.rudSwap k) s = .next (replied 0x41 k .ok 0 [w32 (n + 2)] false s (fresh s)))
          ∧ (s.rudSealed n = true → s.rudBank ≠ n → s.rudEn = false →
            ∃ t q, exec (.rudSwap k) s = .next t ∧ t.rudBank = n ∧ t.rud = s.rud ∧ t.cmd.held = s.cmd.held ++ [q]
              ∧ q.status = .ok ∧ q.body = [w32 (n + 2)] ∧ t.cmd.gen = s.cmd.gen + 1)
          ∧ (s.rudSealed n = true → s.rudBank ≠ n → s.rudEn = true → s.rud.swapTo = none →
            exec (.rudSwap k) s = .next (inFlight 0x41 k .committed .rudSwap [] s.boundaryWait true s
              (clear ((fresh s).rudSwapTo n)))
            ∧ ((fresh s).rudSwapTo n).rudBank = n)))
  ∧ (∀ (s : State) (f : Flight) (p : Path), s.cmd.flights = [f] → f.phase = .committed → f.src = .path p →
      s.cmd.restarting = false →
      (∀ b, s.rud.swapTo = some b → s.rudDrained b = true → f.fin = .rudSwap →
        ∃ t q, exec .rudSwapComplete s = .next t ∧ t.rud = { s.rud with swapTo := none } ∧ t.bit Reg.RUD_EVENT 0 = true
          ∧ t.cmd.flights = [] ∧ t.cmd.held = s.cmd.held ++ [q] ∧ q.tag = f.tag ∧ q.status = .ok)
      ∧ (∀ typ n rest, s.rud.scan = (typ, n) :: rest → f.fin = .flowScan →
        ∃ t q, exec .flowScanComplete s = .next t ∧ t.rud = { s.rud with scan := rest } ∧ t.regs = s.regs
          ∧ t.cmd.flights = [] ∧ t.cmd.held = s.cmd.held ++ [q] ∧ q.tag = f.tag ∧ q.status = .ok
          ∧ q.body = [w32 (n + 2 ^ 14 * b2n (decide (n ≠ 0)) + 2 ^ 16 * s.rud.flows.length)]))

/-- `FLOW_SET` (R335, R346): OP 0 replaces the entry of its type and key, unless NO_REPLACE asks for REFUSED, or takes the first
free one of its eight slots, and is NO_RESOURCE with none free; OP 1 removes the entry; OP 2 removes every entry of its type,
and completes when its scan does. The body tells the index, what was found, and how many entries stand. The model's reading
or choice stands in log entry 106. -/
def Obligations.FlowSetCompletes : Prop :=
  ∀ (k : Pkt) (s : State), begins 0x42 k s = true →
    let b := begun 0x42 k s
    let w := k.params.getD 0 0
    let v := k.params.getD 5 0
    let typ : Byte := BitVec.ofNat 8 (fieldOf w 7 0)
    let key : BitVec 128 := BitVec.ofNat 128 (leNat (wordBytes ((k.params.drop 1).take 4)))
    let e : FlowEntry := {
      key := key, typ := typ, action := BitVec.ofNat 2 (fieldOf w 11 10), cls := BitVec.ofNat 2 (fieldOf w 13 12)
      target := BitVec.ofNat 9 (fieldOf w 24 16), user := BitVec.ofNat 8 (fieldOf v 7 0)
      dropCtr := BitVec.ofNat 4 (fieldOf v 11 8) }
    let noReplace := k.x && bitOf (k.params.getD 6 0) 0
    let n := s.rud.flows.length
    (fieldOf w 9 8 = 0 →
      (∀ i old, s.flowFind typ key = some (i, old) →
        (noReplace = true → exec (.flowSet k) s
          = .next (replied 0x42 k .refused 0 [w32 (i + 2 ^ 14 + 2 ^ 16 * n)] false s (fresh s)))
        ∧ (noReplace = false → exec (.flowSet k) s = .next (replied 0x42 k .ok 0 (flowBody (b.flowPut i e) i true false)
          (decide (old ≠ e)) s (b.flowPut i e))))
      ∧ (s.flowFind typ key = none →
        (∀ i, (flowSlots typ key).find? (fun i => !(thas s.rud.flows i)) = some i →
          exec (.flowSet k) s = .next (replied 0x42 k .ok 0 (flowBody (b.flowPut i e) i false true) true s (b.flowPut i e))
          ∧ tget (b.flowPut i e).rud.flows i = some e
          ∧ ∀ j, j ≠ i → tget (b.flowPut i e).rud.flows j = tget s.rud.flows j)
        ∧ ((∀ i ∈ flowSlots typ key, thas s.rud.flows i = true) →
          exec (.flowSet k) s = .next (replied 0x42 k .noResource 2 [] false s (fresh s)))))
    ∧ (fieldOf w 9 8 = 1 →
      (s.flowFind typ key = none →
        exec (.flowSet k) s = .next (replied 0x42 k .ok 0 [w32 (2 ^ 16 * n)] false s (fresh s)))
      ∧ (∀ i old, s.flowFind typ key = some (i, old) → let t := b.flowDrop fun j => decide (j = i)
        exec (.flowSet k) s = .next (replied 0x42 k .ok 0 (flowBody t i true false) true s t)
        ∧ tget t.rud.flows i = none ∧ ∀ j, j ≠ i → tget t.rud.flows j = tget s.rud.flows j))
    ∧ (fieldOf w 9 8 = 2 → ∃ t, exec (.flowSet k) s = .next t
        ∧ (∀ i f, tget t.rud.flows i = some f → f.typ ≠ typ)
        ∧ t.cmd.flights = [flightIn 0x42 k .committed .flowScan [] s.boundaryWait s] ∧ t.rud.prog = s.rud.prog
        ∧ t.rud.scan = s.rud.scan ++ [(typ, (tkeys s.rud.flows fun f => decide (f.typ = typ)).length)])

/-- The Rudder classifies the oldest frame passed to it (R298, R323, R325, R332, R342): the frame leaves the Rudder; stopped, or
with its bank not sealed, the Rudder counts the frame in RUD_DROP[15]; one for a stream waits for that stream, one that the
program drops is counted in the counter it names, and one for a queue goes there with its descriptor, where it is free of
error flags or its class keeps such frames. The arithmetic of the Rudder's instructions (R328): 32-bit words that wrap, and
shifts by the low five bits of B. A jump whose condition holds goes on at its target, and one whose condition does not at the
next instruction. The model's reading or choice stands in log entry 103. -/
def Obligations.FramesClassified : Prop :=
  (∀ (d : Dispatched) (rest : List Dispatched) (s : State), s.rud.inq = d :: rest → clocked s.mode = true →
      let v := (rudClassify (fresh s) d).1
      let e := (rudClassify (fresh s) d).2
      let keep := !d.frame.bad || s.bit (Reg.NP_RX_CTRL d.frame.port) v.cls
      ∃ t, exec .frameClassify s = .next t ∧ t.rud = { s.rud with inq := rest } ∧ t.cmd = s.cmd ∧ t.mck = s.mck
        ∧ t.ntu = s.ntu ∧ t.drv = s.drv
        ∧ (s.rudEn = false → t.reg (Reg.RUD_DROP 15) = w32 (satNat 0xFFFFFFFF ((s.reg (Reg.RUD_DROP 15)).toNat + 1))
            ∧ t.srx = s.srx ∧ t.stx = s.stx ∧ t.buf = s.buf)
        ∧ (s.rudEn = true → d.boot = false → s.rudSealed d.bank = false →
            t.reg (Reg.RUD_DROP 15) = w32 (satNat 0xFFFFFFFF ((s.reg (Reg.RUD_DROP 15)).toNat + 1))
            ∧ t.srx = s.srx ∧ t.stx = s.stx ∧ t.buf = s.buf)
        ∧ (∀ n, v.dest = .stream n → keep = true →
            t.srx.inq = s.srx.inq ++ [{ frame := d.frame, stream := n, cls := v.cls, rudder := rudderWord d v e }]
            ∧ t.stx = s.stx ∧ t.buf = s.buf)
        ∧ (v.dest = .rerow → keep = true →
            t.stx.inq = s.stx.inq ++ [{ frame := d.frame, cls := v.cls, rudder := rudderWord d v e }]
            ∧ t.srx = s.srx ∧ t.buf = s.buf)
        ∧ (∀ n q, v.dest = .queue n → keep = true → s.buf.ready = true → tget s.buf.queues n = some q →
            let bs := descriptor d v (rudderWord d v e)
            tget t.buf.queues n = some (qAppend q { len := some bs.length, data := bs }).1 ∧ t.srx = s.srx ∧ t.stx = s.stx)
        ∧ (keep = false → (∀ c, v.dest ≠ .drop c) → t.srx = s.srx ∧ t.stx = s.stx ∧ t.buf = s.buf))
  ∧ ((∀ a b : Word, rudAlu 0x08 a b = a + b ∧ rudAlu 0x09 a b = a - b ∧ rudAlu 0x0A a b = a &&& b
      ∧ rudAlu 0x0B a b = a ||| b ∧ rudAlu 0x0C a b = a ^^^ b ∧ rudAlu 0x0D a b = a <<< (b.toNat % 32)
      ∧ rudAlu 0x0E a b = a >>> (b.toNat % 32))
    ∧ (∀ (s : State) (d : Dispatched) (prog : Nat → BitVec 64) (fuel pc : Nat) (e : Engine),
      let w := prog pc
      let a := e.a.getD (insRd w) 0
      let b := if insI w then insImm w else e.a.getD (insRs w) 0
      (0x08 ≤ insOp w ∧ insOp w ≤ 0x0E →
        rudRun s d prog (fuel + 1) pc e
          = rudRun s d prog fuel (pc + 1) { e with a := e.a.set (insRd w) (rudAlu (insOp w) a b) })
      ∧ (insOp w = 0x18 →
        rudRun s d prog (fuel + 1) pc e
          = rudRun s d prog fuel (if rudCond s d (insCond w) a b e then insX w % 512 else pc + 1) e)
      ∧ (0x30 ≤ insOp w → rudRun s d prog (fuel + 1) pc e = (rudDeliver w e, e))))

/-- `QUEUE_CONFIG` (R285, R286), where the memory suffices: the queue is empty with the size, mode, MRR, cut-through and
watermark given, the basic form taking no cut-through and three quarters, or is unconfigured for size 0; without it,
NO_RESOURCE. `QUEUE_QUERY` (R287) answers and changes nothing. The operations of the host on a queue page (R253, R271 to
R273, R282, R283): on a configured queue that the host produces, or consumes, each does its work on that queue alone; a read
of Q_RDATA gives the word, corrected where it meets a single-bit error, which counts, and at a header as read where it meets
a double-bit one, with the queue's ECC event. An operation on a queue that does not permit it (R271, R273, R282): a
producer's on a queue that the host does not produce or that is not configured, a consumer's on one it does not consume, and
RELEASE, MARK and REWIND without MRR set BUF_ERR.OP and change nothing else. The model's reading or choice stands in log
entries 47, 67, 69. -/
def Obligations.QueueCommandsAndRows : Prop :=
  (∀ (k : Pkt) (s : State), let w := k.params.getD 0 0
      let v := k.params.getD 1 0
      let n := fieldOf w 7 0
      (begins 0x48 k s = true →
        let size := fieldOf w 29 16
        let q : Queue := { sizeKib := size, hold := bitOf w 8, mrr := bitOf w 9, cut := if k.x then fieldOf v 7 0 else 0,
                           wm := if k.x then fieldOf v 31 16 else 3 * size }
        let held := match tget s.buf.queues n with | some o => 1024 * o.sizeKib | none => 0
        let queues := if size = 0 then terase s.buf.queues n else tset s.buf.queues n q
        let same := match tget s.buf.queues n with
          | some o => decide (o.sizeKib = size) && decide (o.hold = q.hold) && decide (o.mrr = q.mrr)
              && decide (o.cut = q.cut) && decide (o.wm = q.wm)
          | none => decide (size = 0)
        let t := { fresh s with buf := { s.buf with queues := queues } }
        (s.memUsed - held + 1024 * size ≤ s.memCap →
          exec (.queueConfig k) s = .next (replied 0x48 k .ok 0 [w32 t.freeKib] (!same) s t))
        ∧ (s.memCap < s.memUsed - held + 1024 * size →
          exec (.queueConfig k) s = .next (replied 0x48 k .noResource 1 [] false s (fresh s))))
      ∧ (begins 0x49 k s = true →
        exec (.queueQuery k) s = .next (replied 0x49 k .ok 0 (queueBody s k.x n) false s (fresh s))))
  ∧ (∀ (s : State) (n : Nat) (v : Word) (q : Queue), s.coreAnswers = true → tget s.buf.queues n = some q →
      let put := fun (x : Queue) => Host.Outcome.next (settle ((fresh s).setQueue n x))
      (hostProduces n = true →
        (qOpenItem q = none →
          exec (.qOpen .host n v) s = put (qOpen q (fieldOf v 15 0) (BitVec.ofNat 8 (fieldOf v 23 16))))
        ∧ (∀ it, qOpenItem q = some it →
          exec (.qWdata .host n v) s = put (qWrite q v)
          ∧ (fieldOf v 15 0 ≤ it.reserve → fieldOf v 15 0 ≠ 0xFFFF →
              exec (.qCommit .host n v) s = put (qCommit q (fieldOf v 15 0)))
          ∧ exec (.qOpAbandon .host n) s = put (qAbandon q)))
      ∧ (hostConsumes n = true →
        exec (.qRdata .host n none) s
          = .next (settle (((fresh s).setQueue n (qRead q).2).driveOut [(qRead q).1]))
        ∧ (qVisible q = true → q.resync = false → q.nextHeld = false → ∀ e : Ecc,
          (e.ded = false → q.rpOff = 0 → exec (.qRdata .host n (some e)) s = .next (settle
            ((((fresh s).setQueue n (qRead q).2).driveOut [(qRead q).1]).ceFound e.bank e.word)))
          ∧ (e.ded = true → q.rpOff = 0 → exec (.qRdata .host n (some e)) s = .next (settle
            (((((fresh s).setQueue n (qRead q).2).driveOut [(qRead q).1 ^^^ e.flips]).onQueue n
              fun x => qFlag x 7).dedFound e.bank e.word))))
        ∧ exec (.qOpNext .host n) s = put (qNext q)
        ∧ (q.mrr = true →
          exec (.qOpRelease .host n) s = put (qRelease q)
          ∧ exec (.qOpMark .host n) s = put { q with mark := some q.rpItem, markLost := false }
          ∧ exec (.qOpRewind .host n) s = put (qRewind q))))
  ∧ (∀ (s : State) (n : Nat) (v : Word), s.coreAnswers = true → n < 256 →
      let err := Host.Outcome.next (settle ((fresh s).flag Reg.BUF_ERR 0))
      (hostProduces n = false ∨ tget s.buf.queues n = none →
        exec (.qOpen .host n v) s = err ∧ exec (.qWdata .host n v) s = err ∧ exec (.qCommit .host n v) s = err
        ∧ exec (.qOpAbandon .host n) s = err)
      ∧ (hostConsumes n = false ∨ tget s.buf.queues n = none →
        exec (.qOpNext .host n) s = err
        ∧ exec (.qRdata .host n none) s = .next (settle (((fresh s).flag Reg.BUF_ERR 0).driveOut [0])))
      ∧ ((hostConsumes n = false ∨ ∀ q, tget s.buf.queues n = some q → q.mrr = false) →
        exec (.qOpRelease .host n) s = err ∧ exec (.qOpMark .host n) s = err ∧ exec (.qOpRewind .host n) s = err))

/-- An item that a producer appends (R268 to R270): a queue never holds more than its memory; a held queue takes the item whole,
as its last one, or not at all, and discards nothing; an overwrite queue that the item fits takes it as its last, and
discards only its oldest items. An item that a producer opens, writes and commits (R271) holds the first LENGTH bytes of its
words, zeros where fewer were written, and stands last in the queue; the consumer has not begun the item at RP. What the
consumer reads of a committed item (R266, R268, R272, R273): its header, then its payload words in order; the read of the
last word passes the item, which counts as read in full. NEXT passes the rest of it. The model's reading or choice stands in
log entry 67. -/
def Obligations.QueueItems : Prop :=
  (∀ (q : Queue) (it : Item), qTaken q ≤ qCap q →
      let r := qAppend q it
      qTaken r.1 ≤ qCap r.1 ∧ qCap r.1 = qCap q
      ∧ (q.hold = true → r.1.items = if r.2 then q.items ++ [it] else q.items)
      ∧ (q.hold = true → (r.2 = true ↔ qTaken q + itemTaken it ≤ qCap q))
      ∧ (q.hold = false → (r.2 = true ↔ itemTaken it ≤ qCap q))
      ∧ (q.hold = false → r.2 = true → ∃ n, r.1.items = q.items.drop n ++ [it])
      ∧ (q.hold = false → qTaken q + itemTaken it ≤ qCap q → r.1.items = q.items ++ [it] ∧ r.1.lost = q.lost))
  ∧ (∀ (q : Queue) (reserve len : Nat) (pf : Byte) (ws : List Word), qOpenItem q = none → 0 < qCap q →
      qTaken q + 4 + 4 * ((reserve + 3) / 4) ≤ qCap q → ws.length ≤ (reserve + 3) / 4 → len ≤ reserve →
      q.rpOff = 0 → q.nextHeld = false →
      (qCommit (ws.foldl qWrite (qOpen q reserve pf)) len).items
        = q.items ++ [{ len := some len, reserve := reserve, pflags := pf,
                        data := (wordBytes ws ++ List.replicate (len - 4 * ws.length) 0).take len }])
  ∧ (∀ (q : Queue) (it : Item) (n : Nat), q.items[q.rpItem]? = some it → it.len = some n → it.data.length = n →
      q.resync = false → q.nextHeld = false →
      (q.rpOff = 0 → (qRead q).1 = w32 (n + 2 ^ 16 * it.pflags.toNat + 2 ^ 24 * b2n it.abandoned))
      ∧ (0 < q.rpOff → (qRead q).1 = w32 (leNat (slice it.data (q.rpOff - 4) 4)))
      ∧ (q.rpOff + 4 < itemTaken it → (qRead q).2 = { q with rpOff := q.rpOff + 4 })
      ∧ (itemTaken it ≤ q.rpOff + 4 → (qRead q).2 = qReadAll { q with rpOff := q.rpOff + 4 }
        ∧ (q.mrr = false → (qRead q).2.items = q.items.drop (q.rpItem + 1) ∧ (qRead q).2.rpOff = 0)
        ∧ (q.mrr = true → (qRead q).2.items[q.rpItem]? = some { it with read := true } ∧ (qRead q).2.rpItem = q.rpItem + 1
            ∧ (qRead q).2.rpOff = 0))
      ∧ qNext q = qPass q
      ∧ (q.mrr = true → qPass q = { q with rpItem := q.rpItem + 1, rpOff := 0 })
      ∧ (q.mrr = false → (qPass q).items = q.items.drop (q.rpItem + 1) ∧ (qPass q).rpOff = 0))

/-- The memory view (R185, R253, R256, R284): a read gives the word shown at the address and changes no memory; a single-bit
error in it is corrected and counted, and a double-bit one delivered as read and counted. A byte that no allocation takes
reads as it was last written, and a byte of a queue as the queue holds it. A write in TEST stores the enabled bytes there and
every other byte of memory stays; one byte of a queue changes that byte of its items. Outside TEST a write sets BUF_ERR and
stores nothing. An address in no present bank sets BUF_ERR. The memory keeps its canonical form. The management port does not
reach the view. The model's reading or choice stands in log entries 8, 68. -/
def Obligations.ApertureComplete : Prop :=
  ∀ (s : State) (addr : Nat) (be : BitVec 4) (v : Word), s.coreAnswers = true → 0xC4000 ≤ addr → addr < 0x100000 →
    be ≠ 0 →
    let o := s.viewAddr (addr / 4 * 4)
    (∀ f a, s.placedAt a = .open → s.viewByte f a = s.memByte a)
    ∧ (∀ f a n off q x, s.placedAt a = .queue n off → s.queueView n = some q →
      itemsByte (qDistance q off) q.items = some x → s.viewByte f a = x)
    ∧ (s.memPresent o = true → s.buf.poison = [] →
      (∃ t, exec (.apertureMemoryAccess .host addr be (.read none)) s = .next t
        ∧ t.bus.rdata = [s.viewWord o] ∧ t.buf = s.buf ∧ t.regs = s.regs)
      ∧ ∀ e : Ecc,
        (e.ded = false → ∃ t, exec (.apertureMemoryAccess .host addr be (.read (some e))) s = .next t
          ∧ t.bus.rdata = [s.viewWord o] ∧ t.buf = s.buf
          ∧ t.reg Reg.BUF_CE_COUNT = w32 (satNat 0xFFFFFFFF ((s.reg Reg.BUF_CE_COUNT).toNat + 1)))
        ∧ (e.ded = true → ∃ t, exec (.apertureMemoryAccess .host addr be (.read (some e))) s = .next t
          ∧ t.bus.rdata = [s.viewWord o ^^^ e.flips] ∧ t.buf.mem = s.buf.mem
          ∧ t.reg Reg.BUF_DED_COUNT = w32 (satNat 0xFFFFFFFF ((s.reg Reg.BUF_DED_COUNT).toNat + 1))))
    ∧ (s.memPresent o = true → s.mode = .test →
      ∃ t, exec (.apertureMemoryAccess .host addr be (.write v)) s = .next t
        ∧ (∀ i, i < 4 → be.getLsbD i = true → t.memByte (o + i) = v.extractLsb' (8 * i) 8)
        ∧ (∀ a, (∀ i, i < 4 → be.getLsbD i = true → a ≠ o + i) → t.memByte a = s.memByte a)
        ∧ (Memory.wf s.buf.mem = true → Memory.wf t.buf.mem = true) ∧ t.regs = s.regs
        ∧ ((∀ i n off, i < 4 → be.getLsbD i = true → s.placedAt (o + i) ≠ .queue n off) → t.buf.queues = s.buf.queues)
        ∧ (∀ n off, be = 1 → s.placedAt o = .queue n off → t.buf.queues = tmod s.buf.queues n fun q =>
            { q with items := itemsSet (v.extractLsb' 0 8) (qDistance q off) q.items }))
    ∧ (s.mode ≠ .test ∨ s.memPresent o = false →
      exec (.apertureMemoryAccess .host addr be (.write v)) s = .next (settle ((fresh s).flag Reg.BUF_ERR 1)))
    ∧ (s.memPresent o = false →
      exec (.apertureMemoryAccess .host addr be (.read none)) s
        = .next (settle (((fresh s).flag Reg.BUF_ERR 1).driveOut [0])))
    ∧ exec (.apertureMemoryAccess .mgmt addr be (.write v)) s = .next (settle (fresh s))
    ∧ exec (.apertureMemoryAccess .mgmt addr be (.read none)) s = .next (settle ((fresh s).driveOut [0]))

/-- `BANK_REPAIR` (R261, R264, R288): the expert form that asks so clears the retired mask; else a migration of the bank named
starts to the lowest spare, and the command completes at its remap, unless the bank is absent, a migration runs or no spare
is left, which is REFUSED with its reason. `BANK_STATUS` (R289) answers, and CLEAR forgets the counts. The model's reading or
choice stands in log entry 71. -/
def Obligations.BankCommandsComplete : Prop :=
  ∀ (k : Pkt) (s : State), let w := k.params.getD 0 0
    let l := fieldOf w 5 0
    let n := s.spareBanks.length
    let refuse := fun (reason : Nat) =>
      exec (.bankRepair k) s = .next (replied 0x78 k .refused 0 (repairBody l 0x3F 0x3F n reason) false s (fresh s))
    (begins 0x78 k s = true →
      ((k.x && bitOf w 6) = true → exec (.bankRepair k) s
        = .next (replied 0x78 k .ok 0 (repairBody l 0x3F 0x3F n 0) false s { fresh s with buf := { s.buf with retired := 0 } }))
      ∧ ((k.x && bitOf w 6) = false →
        ((s.buf.map[l]?).join = none → refuse 3)
        ∧ (∀ src, (s.buf.map[l]?).join = some src →
          (s.buf.mig ≠ none → refuse 1)
          ∧ (s.buf.mig = none → s.spareBanks = [] → refuse 2)
          ∧ (∀ t rest, s.buf.mig = none → s.spareBanks = t :: rest →
            exec (.bankRepair k) s = .next (inFlight 0x78 k .committed (.migrate l) [] s.boundaryWait false s
              { fresh s with buf := { s.buf with
                  mig := some { logical := l, source := src, target := t } } })))))
    ∧ (begins 0x79 k s = true →
      exec (.bankStatus k) s = .next (replied 0x79 k .ok 0 (bankBody s) false s
        (if k.x && bitOf w 0 then { fresh s with buf := { s.buf with cePass := [], deds := [] } } else fresh s)))

/-- A migration (R261, R262): accepted, it begins at its boundary; copying, each step with the grid stopped copies 256 words and
carries the known double-bit errors along; copied whole, the bank maps to the target, the source is retired, and the command
that asked for it is answered. A scrub pass (R254, R260): the pass's corrected words are the bank's count, each found counts
and is recorded, and a pass without a find changes nothing but that count and what was known of the bank. The model's reading
or choice stands in log entries 70, 71. -/
def Obligations.MigrationAndScrub : Prop :=
  (∀ (s : State) (m : Migration), s.buf.mig = some m → s.mck.grid = false → clocked s.mode = true →
      (m.phase = .accepted → exec .migrationStepGridStopped s = .next (settle
        (({ fresh s with buf := { s.buf with mig := some { m with phase := .copying, wait := 0 } } }).flag Reg.BUF_EVENT 3)))
      ∧ (m.phase = .copying → ∃ t, exec .migrationStepGridStopped s = .next t
        ∧ t.buf.mig = some { m with copied := m.copied + 256,
                                    phase := if 65536 ≤ m.copied + 256 then .remap else .copying }
        ∧ (∀ w, m.copied ≤ w → w < m.copied + 256 → (m.source, w) ∈ s.buf.poison → (m.target, w) ∈ t.buf.poison)
        ∧ (∀ e, e ∈ s.buf.poison → e ∈ t.buf.poison) ∧ t.buf.map = s.buf.map ∧ t.buf.mem = s.buf.mem ∧ t.regs = s.regs)
      ∧ (m.phase = .remap → s.buf.pendTrig = [] → m.logical < s.buf.map.length →
        ∃ t, exec .migrationStepGridStopped s = .next t ∧ t.buf.mig = none
        ∧ (t.buf.map[m.logical]?).join = some m.target ∧ (∀ j, j ≠ m.logical → t.buf.map[j]? = s.buf.map[j]?)
        ∧ t.buf.retired = s.buf.retired ||| (1 <<< m.source) ∧ t.bit Reg.BUF_EVENT 4 = true ∧ t.buf.mem = s.buf.mem))
  ∧ (∀ (p : Nat) (s : State), p < 42 → clocked s.mode = true → (∀ e ∈ s.buf.poison, e.1 ≠ p) →
      exec (.scrubPassComplete p [] []) s
        = .next (settle { fresh s with buf := { s.buf with cePass := terase s.buf.cePass p } })
      ∧ (∀ w, s.bit Reg.BUF_REPAIR_CFG 0 = false → (s.carried p).isSome = true →
        ∃ t, exec (.scrubPassComplete p [w] []) s = .next t ∧ tget t.buf.cePass p = some 1
          ∧ t.reg Reg.BUF_ECC_LAST = w32 (2 ^ 31 + 2 ^ 6 * w + p)
          ∧ t.reg Reg.BUF_CE_COUNT = w32 (satNat 0xFFFFFFFF ((s.reg Reg.BUF_CE_COUNT).toNat + 1))
          ∧ t.bit Reg.BUF_EVENT 1 = true ∧ t.buf.mig = s.buf.mig ∧ t.buf.map = s.buf.map ∧ t.buf.queues = s.buf.queues))

/-- `REGISTER_WRITE` (R139, R141, R144, R152, R154, R155, R178) of a register that is no keyed one and is not shown through a
selector: a narrow write to a register with an RC or W1P field is ignored with PARTIAL; where the unit stores its registers
plainly, the RW and RWL bits of the bytes written are replaced, set, cleared or toggled as the view says, and nothing else
changes; and a write of RWD fields while their object is enabled leaves them as they are, with the unit's STALE_WRITE.
`RC_READ`: the word, and the RC bits of the bytes read clear, in the normal view alone. A PCIe request over 8 bytes accesses
nothing, sets WIDE and is answered with Completer Abort, and one to BAR2 or to configuration space reaches no register. The
reads with an effect of their own: `PMU_WAKE_REASON_READ` (R109, R123) clears the reasons and releases WAKE_OUT_N;
`TDM_TS_READ` (R590) answers the stamp and latches the phase that belongs to it. The model's reading or choice stands in log
entries 16, 17, 19, 26. -/
def Obligations.RegisterAccessCompletes : Prop :=
  (∀ (p : Path) (a view : Nat) (be : BitVec 4) (v : Word) (row : RegRow) (req : PcieReq) (s : State),
      a < 0x40000 → busCanon a = a → view < 4 → regRow a = some row → row.key = false → isBanked a = false →
      a ≠ Reg.MCK_CORE_CFG → tget s.keys (busWindow a) = none → s.answers p a = true → be ≠ 0 →
      let addr := a + 0x1000 * view
      (s.beside p req = true →
        (req = .wide → s.hif.up = true → clocked s.mode = true →
          (∃ t, exec (.registerWrite ⟨p, req⟩ addr be v) s = .next t ∧ t.bus.abort = true ∧ t.bit Reg.HIF_ERR 1 = true
            ∧ (∀ b, b ≠ Reg.HIF_ERR → t.reg b = s.reg b) ∧ t.cmd = s.cmd)
          ∧ ∃ t, exec (.rcRead ⟨p, req⟩ addr be) s = .next t ∧ t.bus.abort = true ∧ t.bit Reg.HIF_ERR 1 = true
            ∧ (∀ b, b ≠ Reg.HIF_ERR → t.reg b = s.reg b) ∧ t.cmd = s.cmd)
        ∧ (req ≠ .wide → exec (.rcRead ⟨p, req⟩ addr be) s = .next (settle ((fresh s).driveOut [s.pcieWord req addr]))
          ∧ exec (.registerWrite ⟨p, req⟩ addr be v) s = .next (settle (pcieWrite req addr (beMask be) v (fresh s)))))
      ∧ (s.beside p req = false →
      let m := w32 (row.rw ||| row.rwl) &&& beMask be
      let old := s.reg a
      let new := match view with
        | 0 => (old &&& ~~~m) ||| (v &&& m)
        | 1 => old ||| (v &&& m)
        | 2 => old &&& ~~~(v &&& m)
        | _ => old ^^^ (v &&& m)
      let mute := (0x34040 ≤ a ∧ a < 0x34080) ∨ (0x34100 ≤ a ∧ a < 0x34180)
      (be ≠ 0xF → (row.rc ≠ 0 ∨ row.w1p ≠ 0) →
        exec (.registerWrite ⟨p, req⟩ addr be v) s = .next (settle ((fresh s).busError addr p 1)))
      ∧ (be = 0xF ∨ row.rc = 0 → row.w1p = 0 → row.rwd = 0 → has [0, 1, 3, 9, 10, 11, 12, 13] (a / 0x4000) = true →
        (mute → ∃ t, exec (.registerWrite ⟨p, req⟩ addr be v) s = .next t ∧ t.reg a = new ∧ ∀ b, b ≠ a → t.reg b = s.reg b)
        ∧ (¬mute → exec (.registerWrite ⟨p, req⟩ addr be v) s
          = .next (settle (if w32 (row.rw ||| row.rwl) &&& beMask be = 0 then fresh s else (fresh s).setReg a new))))
      ∧ (be = 0xF → view = 0 → row.w1p = 0 → row.rwd ≠ 0 → (fresh s).rwdHeld a = true →
        ∃ t e, exec (.registerWrite ⟨p, req⟩ a be v) s = .next t ∧ staleReg (a / 0x4000) = some e ∧ t.bit e 0 = true
          ∧ t.reg a &&& w32 row.rwd = s.reg a &&& w32 row.rwd)
      ∧ (view = 0 → row.rc ≠ 0 → a ≠ Reg.GLB_ERR → a ≠ Reg.PMU_WAKE_REASON →
        exec (.rcRead ⟨p, req⟩ addr be) s = .next (settle
          (((fresh s).setReg a (s.reg a &&& ~~~(w32 row.rc &&& beMask be))).driveOut [(fresh s).readReg p a])))
      ∧ (a = Reg.GLB_ERR → view = 0 → be = 0xF → ∃ t, exec (.rcRead ⟨p, req⟩ addr be) s = .next t ∧ t.bus.rdata = [s.reg a]
        ∧ t.reg a &&& w32 row.rc = 0)
      ∧ (view ≠ 0 ∨ row.rc = 0 → (a < 0x38100 ∨ 0x38300 ≤ a ∨ a % 32 ≠ 0x18) →
        exec (.rcRead ⟨p, req⟩ addr be) s = .next (settle ((fresh s).driveOut [(fresh s).readReg p a])))))
  ∧ (∀ (p : Path) (s : State),
      (s.answers p Reg.PMU_WAKE_REASON = true → ∃ t, exec (.pmuWakeReasonRead p) s = .next t
        ∧ t.bus.rdata = [s.reg Reg.PMU_WAKE_REASON] ∧ t.pmu = { s.pmu with wakeOutN := false }
        ∧ (∀ row, regRow Reg.PMU_WAKE_REASON = some row → t.reg Reg.PMU_WAKE_REASON = s.reg Reg.PMU_WAKE_REASON &&& ~~~w32 row.rc)
        ∧ ∀ b, b ≠ Reg.PMU_WAKE_REASON → t.reg b = s.reg b)
      ∧ (∀ n, n < 16 → s.tdm.length = 16 → s.answers p (Reg.TDM_TS n) = true → ∃ t, exec (.tdmTsRead p n) s = .next t
        ∧ t.bus.rdata = [(s.tdmPort n).ts] ∧ t.tdmPort n = { s.tdmPort n with phaseHeld := (s.tdmPort n).phase }
        ∧ (∀ j, j ≠ n → t.tdmPort j = s.tdmPort j) ∧ t.regs = s.regs))

/-- Keyed writes (R147, R148): `KEY_VALUE_WRITE` opens a sequence in its window; the complement word at the next address, within
64 cycles of CLK_CTL, 128 ns, has the effect; any other access to a keyed word of the window, and `KEY_SEQUENCE_TIMEOUT`,
discard it with KEY, and nothing else happens. The keyed registers (R118, R119, R172, R173, R292, R317, R657), each written
with its key: `OTP_OPEN` and `OTP_CLOSE`, `CMD_RESET`, the three `MODE_FORCE` commands and `RAIL_CYCLE`, `SERDES_RESET` on a
live port, `PATCH_SWAP_KEYED` with an image staged, `PATCH_REVERT_KEYED` with one in force, `BANK_MAP_MIGRATE` with a spare
to take, and `BANK_MAP_UNRETIRE`. The model's reading or choice stands in log entries 21, 52, 54, 55, 61. -/
def Obligations.KeyedWritesComplete : Prop :=
  (∀ (p : Path) (a : Nat) (v : Word) (s : State), a < 0x40000 → busCanon a = a → isKeyValue a = true →
      (s.answers p a = true → tget s.keys (busWindow a) = none →
        let k : KeySeq := { addr := a, issued := a, path := p, value := v }
        exec (.keyValueWrite p a v) s = .next (settle { fresh s with keys := tset s.keys (busWindow a) k }))
      ∧ (∀ k, tget s.keys (busWindow a) = some k → k.addr = a →
        let closed : State := { fresh s with keys := terase s.keys (busWindow a) }
        (clocked s.mode = true →
          exec (.keySequenceTimeout (busWindow a)) s = .next (settle (closed.keyError k.issued k.path 0)))
        ∧ (s.answers p (a + 4) = true →
          (k.age ≤ 128 → exec (.registerWrite ⟨p, .bar0⟩ (a + 4) 0xF (~~~k.value)) s = .next (settle (keyedEffect a k.value closed)))
          ∧ (v ≠ ~~~k.value → exec (.registerWrite ⟨p, .bar0⟩ (a + 4) 0xF v) s = .next (settle (keyFault p (a + 4) 0xF closed))))))
  ∧ (∀ (p : Path) (s : State), s.keys = [] → s.coreAnswers = true →
      exec (.otpOpen p) s = .next (settle { fresh s with pmu := { s.pmu with otpOpen := true } })
      ∧ exec (.otpClose p) s = .next (settle { fresh s with pmu := { s.pmu with otpOpen := false } })
      ∧ (∃ t, exec (.cmdReset p) s = .next t ∧ t.cmd.ready = false ∧ t.cmd.restarting = true ∧ t.cmd.cause = 4
          ∧ (∀ f ∈ t.cmd.flights, f.phase = .committed) ∧ t.cmd.gen = s.cmd.gen ∧ t.mode = s.mode ∧ t.srx = s.srx
          ∧ t.drv = s.drv ∧ t.buf = s.buf)
      ∧ (s.mode ≠ .quiet → ∃ t, exec (.modeForceQuiet p) s = .next t ∧ t.pmu.forced = some .quiet
          ∧ t.pmu.modeNext = some .quiet ∧ t.mode = s.mode)
      ∧ (s.mode ≠ .safe → ∃ t, exec (.modeForceSafe p) s = .next t ∧ t.pmu.forced = some .safe
          ∧ t.pmu.modeNext = some .safe ∧ t.mode = s.mode)
      ∧ (∃ t, exec (.modeForceMoored p) s = .next t ∧ t.pmu.forced = some .moored ∧ t.pmu.modeNext = some .moored
          ∧ t.mode = s.mode ∧ t.ntu.list = [])
      ∧ (∃ t, exec (.railCycle p) s = .next t ∧ t.mode = .moored ∧ t.pmu.prevMode = s.mode
          ∧ t.pmu.seq = .falling .moored (some (.boot 3)) ∧ t.pmu.req = none ∧ t.cmd.flights = [] ∧ t.srx.streams = [])
      ∧ (∀ n, n < 2 → s.np.length = 2 → (s.port n).live = true → ∃ t, exec (.serdesReset p n) s = .next t
          ∧ (t.port n).inReset = true ∧ (t.port n).link = false ∧ (t.port n).live = true ∧ (t.port n).sending = none
          ∧ t.port (1 - n) = s.port (1 - n) ∧ t.mode = s.mode)
      ∧ (s.inactive.staged = true → ∃ t, exec (.patchSwapKeyed p) s = .next t ∧ t.patch.active = s.idleBank
          ∧ t.patch.level = s.inactive.level ∧ t.patch.busy = true ∧ t.cmd.ready = false ∧ t.cmd.gen = s.cmd.gen + 1)
      ∧ (s.patch.level ≠ 0 → ∃ t, exec (.patchRevertKeyed p) s = .next t ∧ t.patch.level = 0 ∧ t.patch.active = s.patch.active
          ∧ t.patch.busy = true ∧ t.cmd.ready = false ∧ t.cmd.gen = s.cmd.gen + 1)
      ∧ (∀ l src b rest, l < 64 → (s.buf.map[l]?).join = some src → s.buf.mig = none → s.spareBanks = b :: rest →
          let mig : Migration := { logical := l, source := src, target := b }
          exec (.bankMapMigrate p l) s = .next (settle { fresh s with buf := { s.buf with mig := some mig } }))
      ∧ exec (.bankMapUnretire p) s = .next (settle { fresh s with buf := { s.buf with retired := 0 } }))

/-- The registers whose write acts (R24, R145, R296, R311, R342, R422, R603, R645): `MCK_CORE_CFG_WRITE` in BOOT or QUIET with
the grid stopped sets rate and stroke size where the configuration still fits and sets CFG where it does not, waits for the
end of the stroke while the grid runs, sets STALE_WRITE in another mode, and keeps the rate, with STALE_WRITE, for RATE 7;
`NPX_CFG_EN_WRITE` starts a port and asks a live one to end; `PAUSE_TX_GO` asks for one frame, is lost where one is being
sent and one waits, or two wait, and sets its error before the first SERVICE; `RUD_CTRL_EN_WRITE` enables a sealed program
and refuses an unsealed one; `OBL_RELEARN` has a Seat forget its position; and `UMPIRE_ACK` leaves only the faults whose
condition still holds. The model's reading or choice stands in log entries 19, 104. -/
def Obligations.ActingRegistersComplete : Prop :=
  ∀ (p : Path) (v : Word) (s : State), s.keys = [] → s.coreAnswers = true →
    (s.coreLocked = true →
      exec (.mckCoreCfgWrite p v) s = .next (settle ((fresh s).flag Reg.MCK_ERR 0)))
    ∧ (s.coreLocked = false → fieldOf v 2 0 < 7 → s.mck.grid = false → (fresh s).coreFits (fieldOf v 2 0) = true →
      (fieldOf v 2 0 ≠ s.rateCode ∨ bitOf v 3 ≠ s.s16) → ∃ t, exec (.mckCoreCfgWrite p v) s = .next t
        ∧ t.rateCode = fieldOf v 2 0 ∧ t.s16 = bitOf v 3 ∧ t.mode = s.mode)
    ∧ (s.coreLocked = false → fieldOf v 2 0 < 7 → s.mck.grid = false → (fresh s).coreFits (fieldOf v 2 0) = false →
      (fieldOf v 2 0 ≠ s.rateCode ∨ bitOf v 3 ≠ s.s16) →
      exec (.mckCoreCfgWrite p v) s = .next (settle ((fresh s).flag Reg.MCK_ERR 1)))
    ∧ (s.coreLocked = false → fieldOf v 2 0 = 7 → bitOf v 3 = s.s16 → s.mck.coreNext = [] →
      exec (.mckCoreCfgWrite p v) s = .next (settle ((fresh s).flag Reg.MCK_ERR 0)))
    ∧ (s.coreLocked = false → fieldOf v 2 0 < 7 → s.mck.grid = true → (fieldOf v 2 0 ≠ s.rateCode ∨ bitOf v 3 ≠ s.s16) →
      exec (.mckCoreCfgWrite p v) s = .next (settle { fresh s with mck := { s.mck with
        coreNext := s.mck.coreNext ++ [{ rate := fieldOf v 2 0, s16 := bitOf v 3 }] } }))
    ∧ (∀ n, n < 2 → s.np.length = 2 → (s.port n).disabling = false →
      (bitOf v 0 = true → (s.port n).live = false → s.bit (Reg.NP_CFG n) 0 = false → ∃ t, exec (.npxCfgEnWrite p n v) s = .next t
        ∧ (t.port n).live = true ∧ (t.port n).inReset = true ∧ t.bit (Reg.NP_CFG n) 0 = true)
      ∧ (bitOf v 0 = false → (s.port n).live = true → s.bit (Reg.NP_CFG n) 0 = true → ∃ t, exec (.npxCfgEnWrite p n v) s = .next t
        ∧ (t.port n).live = true ∧ (t.port n).disabling = true ∧ t.bit (Reg.NP_CFG n) 0 = false))
    ∧ (∀ n, n < 2 → s.np.length = 2 → s.pmu.firstService = true → (s.port n).live = true →
      (s.port n).pauseGo.length + b2n (s.port n).sendsPause < 2 → ∃ t b, exec (.pauseTxGo p n v) s = .next t ∧ (t.port n).pauseGo = (s.port n).pauseGo ++ [b]
        ∧ t.port (1 - n) = s.port (1 - n))
    ∧ (∀ n, n < 2 → s.np.length = 2 → s.pmu.firstService = true → (s.port n).live = true →
      2 ≤ (s.port n).pauseGo.length + b2n (s.port n).sendsPause → ∃ t, exec (.pauseTxGo p n v) s = .next t
        ∧ (t.port n).pauseGo = (s.port n).pauseGo ∧ t.bit Reg.GLB_ERR 2 = true)
    ∧ (∀ n, n < 2 → s.np.length = 2 → s.pmu.firstService = false → ∃ t, exec (.pauseTxGo p n v) s = .next t
        ∧ (t.port n).pauseGo = (s.port n).pauseGo ∧ t.bit (Reg.NP_ERR n) 1 = true)
    ∧ (bitOf v 0 = true → s.rudEn = false → ∃ t, exec (.rudCtrlEnWrite p v) s = .next t
      ∧ t.rudBank = b2n (bitOf v 1) ∧ t.rudEn = (s.rud.bootProg || s.rudSealed t.rudBank) ∧ t.bit Reg.RUD_ERR 1 = (s.bit Reg.RUD_ERR 1 || !t.rudEn))
    ∧ (s.role = 2 → ∃ t, exec (.oblRelearn p) s = .next t ∧ t.obl.posValid = false ∧ t.obl.pos = 0)
    ∧ (∃ t, exec (.umpireAck p) s = .next t ∧ t.ump = { s.ump with active := s.ump.active &&& s.ump.cond }
      ∧ (s.ump.active &&& s.ump.cond = 0 ∨ s.ump.active &&& ~~~s.ump.cond ≠ 0 → t.bit Reg.PMU_UMP_EVENT 12 = true)
      ∧ (s.ump.active &&& s.ump.cond ≠ 0 → t.bit Reg.PMU_UMP_EVENT 13 = true) ∧ t.pmu = s.pmu)

/-- The registers of HIF that act (R189, R192, R193, R198, R207): `HIF_WEIGH_GO` has the reserved path answer at once, or take
the pending slot; `HIF_CQ_TAIL_WRITE` and `HIF_RQ_HEAD_WRITE` take an index within the ring and ignore another with CFG;
`HIF_Q_CFG_EN_WRITE` zeroes the indices as EN rises, or refuses with CFG; `HIF_RING_EN_WRITE` asks for the ring to start or
stop at the boundary, or refuses. The model's reading or choice stands in log entries 40, 45. -/
def Obligations.HifRegistersComplete : Prop :=
  ∀ (p : Path) (v : Word) (s : State), s.keys = [] → s.coreAnswers = true →
    (s.cmd.weigh = none → s.cmd.ready = true → (s.unposted.any Reply.w) = false → s.cmd.restarting = false →
      ∃ t r, exec (.hifWeighGo p) s = .next t ∧ t.cmd.held = s.cmd.held ++ [r] ∧ r.w = true ∧ r.tag = 127 ∧ r.op = 2
        ∧ r.status = .ok ∧ r.src = .path p ∧ t.cmd.weigh = some p ∧ t.regs = s.regs)
    ∧ (s.cmd.weigh.isSome = true → s.cmd.weighNext = none →
        exec (.hifWeighGo p) s = .next (settle { fresh s with cmd := { s.cmd with weighNext := some p } }))
    ∧ (v.toNat < 2 ^ 16 → (s.reg Reg.HIF_CQ_TAIL).toNat < 2 ^ 16 → (s.reg Reg.HIF_RQ_HEAD).toNat < 2 ^ 16 →
      (v.toNat < 2 ^ s.regField Reg.HIF_Q_CFG 7 4 → ∃ t, exec (.hifCqTailWrite p v) s = .next t
        ∧ t.regField Reg.HIF_CQ_TAIL 15 0 = v.toNat ∧ t.bit Reg.HIF_ERR 4 = s.bit Reg.HIF_ERR 4)
      ∧ (2 ^ s.regField Reg.HIF_Q_CFG 7 4 ≤ v.toNat → ∃ t, exec (.hifCqTailWrite p v) s = .next t
        ∧ t.reg Reg.HIF_CQ_TAIL = s.reg Reg.HIF_CQ_TAIL ∧ t.bit Reg.HIF_ERR 4 = true)
      ∧ (v.toNat < 2 ^ s.regField Reg.HIF_Q_CFG 11 8 → ∃ t, exec (.hifRqHeadWrite p v) s = .next t
        ∧ t.regField Reg.HIF_RQ_HEAD 15 0 = v.toNat ∧ t.bit Reg.HIF_ERR 4 = s.bit Reg.HIF_ERR 4)
      ∧ (2 ^ s.regField Reg.HIF_Q_CFG 11 8 ≤ v.toNat → ∃ t, exec (.hifRqHeadWrite p v) s = .next t
        ∧ t.reg Reg.HIF_RQ_HEAD = s.reg Reg.HIF_RQ_HEAD ∧ t.bit Reg.HIF_ERR 4 = true))
    ∧ (s.bit Reg.HIF_Q_CFG 0 = false → bitOf v 0 = true → s.regField Reg.HIF_CQ_BASE_LO 7 0 = 0 →
      s.regField Reg.HIF_RQ_BASE_LO 7 0 = 0 →
      (4 ≤ fieldOf v 7 4 → fieldOf v 7 4 ≤ 10 → 4 ≤ fieldOf v 11 8 → fieldOf v 11 8 ≤ 10 →
        ∃ t, exec (.hifQCfgEnWrite p v) s = .next t ∧ t.bit Reg.HIF_Q_CFG 0 = true ∧ t.hif.cqHead = 0 ∧ t.hif.rqTail = 0
          ∧ t.reg Reg.HIF_CQ_TAIL = 0 ∧ t.reg Reg.HIF_RQ_HEAD = 0 ∧ t.regField Reg.HIF_Q_CFG 11 4 = fieldOf v 11 4)
      ∧ (fieldOf v 7 4 < 4 ∨ 10 < fieldOf v 7 4 →
        ∃ t, exec (.hifQCfgEnWrite p v) s = .next t ∧ t.bit Reg.HIF_Q_CFG 0 = false ∧ t.bit Reg.HIF_ERR 4 = true
          ∧ t.hif.cqHead = s.hif.cqHead))
    ∧ (∀ i, i < 32 → s.hif.rings.length = 32 →
      (bitOf v 0 = true → (fresh s).ringOn i = false → (fresh s).ringRefused i v = false →
        ∃ t, exec (.hifRingEnWrite p i v) s = .next t ∧ t.ringEn i = true ∧ (t.ring i).want = some (s.boundaryWait, true)
          ∧ ∀ j, j ≠ i → t.ring j = s.ring j)
      ∧ (bitOf v 0 = true → (fresh s).ringOn i = false → (fresh s).ringRefused i v = true →
        ∃ t, exec (.hifRingEnWrite p i v) s = .next t ∧ t.ringEn i = false ∧ t.bit Reg.HIF_ERR 4 = true ∧ t.ring i = s.ring i)
      ∧ (bitOf v 0 = false → s.ringEn i = true → (s.ring i).live = true →
        ∃ t, exec (.hifRingEnWrite p i v) s = .next t ∧ t.ringEn i = false
          ∧ (t.ring i).want = some (s.boundaryWait, false)))

/-- The command transport (R182, R183, R189 to R191, R201, R212, R228): `COMMAND_PORT_WRITE` gathers the words of a packet and
queues it whole, drops it where the queue has no room, and flags a header without an opcode; `COMMAND_FETCH` advances the
head and takes the slot's packet in; `REPLY_POST` posts the first reply that can go, on the reply port or in the reply ring;
`REPLY_PORT_READ` removes and answers the next reply word, or answers zero; `VECTOR1_MESSAGE` sends, or pends, what the index
advances have earned, and keeps it while the endpoint can send nothing; and `COMMAND_START_AFTER_WAIT` starts the first
command that no longer waits. The model's reading or choice stands in log entries 30, 31, 33, 34, 35, 37. -/
def Obligations.TransportCompletes : Prop :=
  ∀ (p : Path) (w : Word) (s : State), s.coreAnswers = true →
    ((p = .mgmt ∨ s.pcie = false) →
      let ws := s.asm p ++ [w]
      let n := portLen (ws.headD 0)
      (s.asm p = [] → fieldOf w 31 24 = 0 →
        exec (.commandPortWrite p w) s = .next (settle ((fresh s).flag Reg.CMD_ERR 0)))
      ∧ (s.asm p ≠ [] ∨ fieldOf w 31 24 ≠ 0 →
        (s.cqFree < n → exec (.commandPortWrite p w) s = .next (settle (((fresh s).setAsm p []).flag Reg.HIF_ERR 3)))
        ∧ (n ≤ s.cqFree → ws.length < n → exec (.commandPortWrite p w) s = .next (settle ((fresh s).setAsm p ws)))
        ∧ (n ≤ s.cqFree → n ≤ ws.length → s.takes = false → s.hif.cmdQueue = [] →
          ∃ t, exec (.commandPortWrite p w) s = .next t ∧ t.asm p = [] ∧ t.hif.cmdQueue = [(p, ws)] ∧ t.regs = s.regs))
      ∧ (∀ v rest, s.replyPort p = v :: rest →
        exec (.replyPortRead p) s = .next (settle (((fresh s).setReplyPort p rest).driveOut [v])))
      ∧ (s.replyPort p = [] → exec (.replyPortRead p) s = .next (settle ((fresh s).driveOut [0])))
      ∧ (∀ r rest, s.cmd.held = r :: rest → r.behind = none → r.src = .path p → r.w = false → r.op ≠ 5 → r.status = .ok →
        exec .replyPost s = .next (settle ((({ fresh s with cmd := { s.cmd with held := rest } }).setReplyPort p
          (s.replyPort p ++ replyWords r)).flag Reg.HIF_EVENT 1))))
    ∧ (∀ r rest, s.cmd.held = r :: rest → r.behind = none → r.src = .path .host → s.pcie = true → s.canPost .host = true → r.w = false →
      r.op ≠ 5 → r.status = .ok →
      ∃ t, exec .replyPost s = .next t ∧ t.cmd.held = rest ∧ t.hif.rqWrite = replyWords r ∧ t.hif.rqSlot = s.hif.rqTail
        ∧ t.hif.rqTail = (s.hif.rqTail + 1) % 2 ^ s.regField Reg.HIF_Q_CFG 11 8 ∧ t.hif.vec1 = true
        ∧ t.bit Reg.HIF_EVENT 1 = true)
    ∧ (∀ slot, s.canFetch = true →
      let head := (s.hif.cqHead + 1) % 2 ^ s.regField Reg.HIF_Q_CFG 7 4
      let u : State := { fresh s with hif := { (fresh s).hif with cqHead := head, vec1 := true } }
      let k := readPacket .host slot
      exec (.commandFetch slot) s = .next (settle (takeIn (.path .host) k.1 k.2 (u.flag Reg.HIF_EVENT 2))))
    ∧ (s.hif.vec1 = true → s.hif.msixEn = true → s.pcie = true →
      (s.vecMasked 1 = false → s.dmaOn = true →
        ∃ t, exec .vector1Message s = .next t ∧ t.hif.vec1 = false ∧ 1 ∈ t.hif.sent)
      ∧ (s.vecMasked 1 = false → s.dmaOn = false → exec .vector1Message s = .next (settle (fresh s)))
      ∧ (s.vecMasked 1 = true → ∃ t, exec .vector1Message s = .next t ∧ t.hif.vec1 = false
          ∧ t.hif.pba.getLsbD 1 = true))
    ∧ (∀ f, ((fresh s).cmd.flights.find? fun f => mayStart (fresh s) f || nowReady (fresh s) f) = some f →
      f.phase = .waiting → f.op = 1 → f.x = false → f.src = .path p → s.cmd.restarting = false → s.cmd.weigh = none →
      s.cmd.imageAt = none → s.hif.cmdQueue = [] → s.cmd.tunnelIn = [] →
      ∃ t r, exec .commandStartAfterWait s = .next t ∧ t.cmd.held = s.cmd.held ++ [r] ∧ r.tag = f.tag ∧ r.status = .ok
        ∧ r.body = [f.params.getD 0 0] ∧ ∀ g ∈ t.cmd.flights, g.ord ≠ f.ord)

/-- The PCIe endpoint (R176, R180, R201, R203), where it is the host path. A fundamental reset and a link down lose the host path
and reset configuration space: HIF_Q_CFG.EN and the EN of every ring clear, each live ring stops at the next boundary,
RING_STOP is set where one or the transport was enabled, the link is down, and Bus Master Enable, MSI-X Enable, Function Mask
and D3hot are clear with every vector masked and none pending. A clearing of Bus Master Enable, and D3hot, lose the host path
in the same way and keep the link and configuration space. PE_PERST_N released and a link down have the link train again
where HIF answers; training ends with the link up at the width and the speed given. Bus Master Enable set is set. And a
vector unmasked, or for the function MSI-X Enable set and Function Mask clear, sends what it had pending. With the parallel
bus strapped, none of these does anything. The model's reading or choice stands in log entries 38, 39. -/
def Obligations.PcieEventsComplete : Prop :=
  ∀ (s : State), s.hif.rings.length = 32 →
    let lost := fun (t : State) => t.bit Reg.HIF_Q_CFG 0 = false
      ∧ (∀ i, i < 32 → t.ringEn i = false)
      ∧ (∀ i, i < 32 → s.mck.grid = true → (s.ring i).live = true → (t.ring i).want = some (1, false))
      ∧ (∀ i, i < 32 → s.mck.grid = false → s.ringOn i = true → (t.ring i).live = false)
      ∧ ((s.bit Reg.HIF_Q_CFG 0 = true ∨ ∃ i, i < 32 ∧ s.ringOn i = true) → t.bit Reg.HIF_EVENT 4 = true)
      ∧ t.cmd = s.cmd ∧ t.pmu = s.pmu ∧ t.mck = s.mck
    let cfgReset := fun (t : State) => t.hif.linkUp = false ∧ t.hif.bme = false ∧ t.hif.msixEn = false
      ∧ t.hif.funcMask = false ∧ t.hif.d3hot = false ∧ t.hif.vecMask = 0xFFFFFFFF ∧ t.hif.pba = 0
    (s.pcie = true → s.hif.perstN = true → ∃ t, exec .pePerstNLow s = .next t ∧ t.hif.perstN = false
      ∧ t.hif.training = false ∧ cfgReset t ∧ lost t)
    ∧ (s.pcie = true → s.hif.linkUp = false → ∃ t, exec .pePerstNRelease s = .next t ∧ t.hif.perstN = true
      ∧ t.hif.training = (s.hif.training || s.coreAnswers) ∧ t.regs = s.regs ∧ t.cmd = s.cmd)
    ∧ (s.pcie = true → s.hif.linkUp = true → ∃ t, exec .pcieLinkDown s = .next t ∧ t.hif.perstN = s.hif.perstN
      ∧ t.hif.training = (s.coreAnswers && s.hif.perstN) ∧ cfgReset t ∧ lost t)
    ∧ (∀ width speed, s.pcie = true → s.hif.linkUp = false → s.hif.training = true →
      ∃ t, exec (.pcieLinkUp width speed) s = .next t
        ∧ t.hif.linkUp = true ∧ t.hif.training = false ∧ t.hif.width = width ∧ t.hif.speed = speed ∧ t.pmu.peWakeN = false
        ∧ t.bit Reg.HIF_EVENT 5 = true ∧ t.cmd = s.cmd)
    ∧ (s.pcie = true → s.hif.linkUp = true → s.hif.bme = true → ∃ t, exec .bmeCleared s = .next t ∧ t.hif.bme = false
      ∧ t.hif.linkUp = true ∧ t.hif.msixEn = s.hif.msixEn ∧ t.hif.d3hot = s.hif.d3hot ∧ lost t)
    ∧ (s.pcie = true → s.hif.linkUp = true →
      exec .busMasterEnableSet s = .next (settle { fresh s with hif := { (fresh s).hif with bme := true } }))
    ∧ (s.pcie = true → s.hif.linkUp = true → s.hif.d3hot = false → ∃ t, exec .d3hotEntered s = .next t
      ∧ t.hif.d3hot = true ∧ t.hif.linkUp = true ∧ t.hif.bme = s.hif.bme ∧ t.hif.msixEn = s.hif.msixEn ∧ lost t)
    ∧ (∀ (m : BitVec 32) (function : Bool), s.pcie = true → s.hif.linkUp = true →
      ∃ t, exec (.msixVectorUnmask ⟨m, function⟩) s = .next t
        ∧ t.hif.msixEn = (function || s.hif.msixEn) ∧ t.hif.funcMask = (!function && s.hif.funcMask)
        ∧ (∀ v, v < 32 → t.hif.vecMask.getLsbD v = (s.hif.vecMask.getLsbD v && !(m.getLsbD v)))
        ∧ (t.hif.msixEn = true → t.hif.funcMask = false → s.dmaOn = true → ∀ v, v < 32 → m.getLsbD v = true →
            t.hif.pba.getLsbD v = false ∧ (s.hif.pba.getLsbD v = true → v ∈ t.hif.sent))
        ∧ t.regs = s.regs ∧ t.cmd = s.cmd)
    ∧ (s.pcie = false → ∀ (c : Instr) (width speed : BitVec 2) (m : BitVec 32) (function : Bool),
      c ∈ [.pePerstNLow, .pePerstNRelease, .pcieLinkDown, .pcieLinkUp width speed, .bmeCleared, .busMasterEnableSet,
        .d3hotEntered, .msixVectorUnmask ⟨m, function⟩] → exec c s = .next (settle (fresh s)))

/-- The management port (R184 to R188), where the always-on island is powered. The status of an access is the first that applies:
BAD_CMD for a command byte that opens no access and for an address beyond 20 bits, BAD_ADDR from 0x90000 on, ASLEEP where the
register does not answer, SHORT for a transaction cut off, and OK. A write and a read of a complete transaction at a
reachable address are accesses on the management path, word by word at consecutive addresses; under any other status nothing
is written and zeros are read. `MS_READ_STATUS` gives the status of the last write; and `MS_ADDRESS_MATCH` acknowledges the
Halyn's own address alone and, in a sleeping mode with that source enabled, starts a wake. Without power the port answers
nothing. The model's reading or choice stands in log entries 24, 25. -/
def Obligations.ManagementPortCompletes : Prop :=
  ∀ (cmd : Byte) (addr : BitVec 24) (w w1 : Word) (full : Bool) (s : State),
    let a := msAddr addr
    let n := msWords cmd
    (∀ known, (known = false ∨ 2 ^ 20 ≤ addr.toNat) → msStatus known addr full s = 2)
    ∧ (addr.toNat < 2 ^ 20 → 0x90000 ≤ a → msStatus true addr full s = 3)
    ∧ (addr.toNat < 2 ^ 20 → a < 0x90000 → s.coreAnswers = false → (0x80000 ≤ a ∨ busWindow a ≠ 1) →
        msStatus true addr full s = 1)
    ∧ (addr.toNat < 2 ^ 20 → a < 0x90000 → (s.coreAnswers = true ∨ (a < 0x80000 ∧ busWindow a = 1)) →
        msStatus true addr full s = if full then 0 else 4)
    ∧ (s.pmu.vddAon = true →
      let st := fun (known : Bool) => msStatus known addr full s
      let put := fun (c wr : Byte) (ws : List Word) (t : State) =>
        ({ t with bus := { t.bus with rdata := ws, ack := true, status := c, msWrite := wr } } : State)
      (st (decide (cmd = 1)) = 0 →
        exec (.msWriteOne ⟨cmd, addr⟩ w full) s = .next (settle (busWrite .mgmt a 0xF w (put 0 0 [] (fresh s)))))
      ∧ (st (decide (cmd = 1)) ≠ 0 → exec (.msWriteOne ⟨cmd, addr⟩ w full) s
        = .next (settle (put (st (decide (cmd = 1))) (st (decide (cmd = 1))) [] (fresh s))))
      ∧ (st true = 0 → exec (.msWriteTwo addr w w1 full) s
        = .next (settle (busWrite .mgmt (a + 4) 0xF w1 (busWrite .mgmt a 0xF w (put 0 0 [] (fresh s))))))
      ∧ (st true ≠ 0 → exec (.msWriteTwo addr w w1 full) s = .next (settle (put (st true) (st true) [] (fresh s))))
      ∧ (st (decide (n ≠ 0)) ≠ 0 → exec (.msRead cmd addr full) s
        = .next (settle (put (st (decide (n ≠ 0))) s.bus.msWrite (List.replicate n 0) (fresh s))))
      ∧ (st (decide (n ≠ 0)) = 0 → let r := msFetch n a (fresh s)
        n = cmd.toNat - 0x0F ∧ r.1.length = n ∧ r.1.head? = some (busRead .mgmt a 0xF (fresh s)).1
        ∧ exec (.msRead cmd addr full) s
          = .next (settle { r.2 with bus := { r.2.bus with rdata := r.1, ack := true, status := 0 } }))
      ∧ exec .msReadStatus s = .next (settle (put s.bus.msWrite s.bus.msWrite [] (fresh s)))
      ∧ (∀ x : BitVec 7,
        (x.toNat ≠ 0b1011000 + s.pmu.straps.msAddr.toNat → ∃ t, exec (.msAddressMatch x) s = .next t ∧ t.bus.ack = false
          ∧ t.regs = s.regs ∧ t.pmu = s.pmu)
        ∧ (x.toNat = 0b1011000 + s.pmu.straps.msAddr.toNat → ∃ t, exec (.msAddressMatch x) s = .next t ∧ t.bus.ack = true
          ∧ (clocked s.mode = true → t.regs = s.regs ∧ t.pmu = s.pmu)
          ∧ (clocked s.mode = false → s.pmu.porN = true → s.bit Reg.PMU_WAKE_CFG 0 = true → s.pmu.seq = .idle →
              t.pmu.seq = .rising (wakeGoal s.mode) ∧ t.pmu.waking = true ∧ t.bit Reg.PMU_WAKE_REASON 1 = true))))
    ∧ (s.pmu.vddAon = false → exec (.msWriteOne ⟨cmd, addr⟩ w full) s = .next (settle (fresh s))
      ∧ exec (.msWriteTwo addr w w1 full) s = .next (settle (fresh s))
      ∧ exec (.msRead cmd addr full) s = .next (settle (fresh s)) ∧ exec .msReadStatus s = .next (settle (fresh s))
      ∧ ∀ x, exec (.msAddressMatch x) s = .next (settle { fresh s with bus := { (fresh s).bus with ack := false } }))

/-- The rail sequencer (R55 to R57, R104, R119). Each RAIL_ENABLE_STEP of a raise raises the lowest enable that is low, and
PWR_GOOD is awaited once none is low. Each RAIL_DISABLE_STEP of a fall to MOORED drops the highest enable that is high, one
of a fall to WATCH drops RAIL_EN[3] alone, PWR_GOOD falls with them, and T_OFF runs after the last; a power request whose
rails fall ends there. After T_OFF a raise that waited begins, a rail cycle setting PMU_WAKE_REASON.RAIL_CYCLE, and otherwise
the sequencer rests. PWR_GOOD high while it is awaited leads to the release of the core reset, or to the mode of the return
from WATCH with a wake's PMU_EVENT.WAKE. PWR_GOOD late, or lost with all four enables high, leaves every enable to fall,
MOORED in force, FAULT_N low while POR_N is high, PMU_EVENT.PG_FAIL and PMU_WAKE_REASON.PG_FAIL set, and no power request.
The model's reading or choice stands in log entries 3, 50, 51. -/
def Obligations.RailSequenceCompletes : Prop :=
  ∀ (s : State) (g : RailGoal),
    (s.pmu.seq = .rising g →
      (∀ i, lowestLow s.pmu.railEn = some i → exec .railEnableStep s = .next (settle { fresh s with pmu := { s.pmu with
          railEn := s.pmu.railEn ||| ((1 : BitVec 4) <<< i)
          seq := if s.pmu.railEn ||| ((1 : BitVec 4) <<< i) = 0xF then .waitGood g else .rising g } }))
      ∧ (lowestLow s.pmu.railEn = none →
          exec .railEnableStep s = .next (settle { fresh s with pmu := { s.pmu with seq := .waitGood g } })))
    ∧ (∀ next i, s.pmu.seq = .falling .moored next → highestHigh s.pmu.railEn = some i →
      ∃ t, exec .railDisableStep s = .next t ∧ t.pmu.railEn = s.pmu.railEn &&& ~~~((1 : BitVec 4) <<< i)
        ∧ t.pmu.pwrGood = false ∧ t.pmu.seq = (if t.pmu.railEn = 0 then .off next else .falling .moored next)
        ∧ (s.pmu.req = none → t.regs = s.regs ∧ t.mode = s.mode))
    ∧ (∀ next, s.pmu.seq = .falling .watch next → s.pmu.railEn = 0xF →
      ∃ t, exec .railDisableStep s = .next t ∧ t.pmu.railEn = 7 ∧ t.pmu.pwrGood = false ∧ t.pmu.seq = .off next
        ∧ ∀ r, s.pmu.req = some r → r.stage = .rails → s.pmu.slot = none → s.pmu.autoWait = none →
          t.pmu.req = none ∧ t.bit Reg.PMU_EVENT 1 = true)
    ∧ (s.pmu.seq = .off none → exec .railOffElapsed s = .next (settle { fresh s with pmu := { s.pmu with seq := .idle } }))
    ∧ (s.pmu.seq = .off (some g) → ∃ t, exec .railOffElapsed s = .next t ∧ t.pmu = { s.pmu with seq := .rising g }
        ∧ (g = .boot 3 → t.bit Reg.PMU_WAKE_REASON 10 = true) ∧ (g ≠ .boot 3 → t.regs = s.regs))
    ∧ (∀ c, s.pmu.seq = .waitGood (.boot c) →
        exec .pwrGoodRise s = .next (settle { fresh s with pmu := { s.pmu with pwrGood := true, seq := .release c } }))
    ∧ (∀ m, m = .quiet ∨ m = .safe → s.pmu.seq = .waitGood (.back m) → s.mode = .watch → s.pmu.req = none →
        s.pmu.slot = none → s.pmu.autoWait = none → ∃ t, exec .pwrGoodRise s = .next t ∧ t.mode = m
          ∧ t.pmu.prevMode = .watch ∧ t.pmu.pwrGood = true ∧ t.pmu.seq = .idle ∧ t.pmu.waking = false
          ∧ t.bit Reg.PMU_EVENT 0 = true ∧ (s.pmu.waking = true → t.bit Reg.PMU_EVENT 5 = true))
    ∧ (let fails := fun (t : State) => t.pmu.pgFault = true ∧ t.faultN = t.pmu.porN ∧ t.pmu.porN = s.pmu.porN
          ∧ t.pmu.seq = .falling .moored none ∧ t.pmu.railEn = s.pmu.railEn ∧ t.pmu.req = none ∧ t.pmu.slot = none
          ∧ t.bit Reg.PMU_EVENT 6 = true ∧ t.bit Reg.PMU_WAKE_REASON 9 = true ∧ t.mode = .moored ∧ t.cmd.flights = []
      (s.pmu.seq = .waitGood g → ∃ t, exec .pwrGoodTimeout s = .next t ∧ fails t)
      ∧ ((∀ g, s.pmu.seq ≠ .rising g ∧ s.pmu.seq ≠ .waitGood g) → s.pmu.railEn = 0xF → s.pmu.pwrGood = true →
          (fallsMoored s = true → s.mode = .moored ∧ s.cmd.flights = []) →
          ∃ t, exec .pwrGoodFail s = .next t ∧ t.pmu.pwrGood = false ∧ fails t))

/-- The handshake of a mode change (R97 to R102, R131), shown with the request's command the one in flight: a unit's DELAY is
noted; the last GRANT commits a request for WATCH, which counts a generation; a REFUSE ends the request with REFUSED and
names its unit and reason, and so do an expired delay (reason 0x0A) and the cap (0x0B, the lowest unit that delays), the mode
staying; with the last unit's part a request for WATCH is answered OK, its mode still to come, and a change from BOOT to
QUIET brings QUIET into force and answers OK; and when the wait for the posting of that reply has expired, MOORED or WATCH is
in force and the enables begin to fall. ISLAND by itself (R81, R85, R105): with both links down in SERVICE and AUTO set,
ISLAND is to take effect at the boundary; with a link up in an automatic ISLAND, and the return enabled, SERVICE is; where a
power request is in progress the change waits for its end. The model's reading or choice stands in log entries 50, 56, 57,
59. -/
def Obligations.HandshakeCompletes : Prop :=
  (∀ (s : State) (r : PowerReq) (f : Flight) (p : Path), s.pmu.req = some r → s.pmu.slot = none → s.pmu.autoWait = none →
      s.pmu.forced = none → s.cmd.flights = [f] → f.ord = r.ord → f.src = .path p → f.op = 5 → f.tag = r.tag →
      s.cmd.restarting = false → clocked s.mode = true →
      let ends := fun (t : State) (st : Status) (unit reason : Nat) => ∃ q, t.cmd.held = s.cmd.held ++ [q] ∧ q.status = st
        ∧ q.tag = r.tag ∧ q.body.length = 1 ∧ fieldOf (q.body.getD 0 0) 11 8 = unit ∧ fieldOf (q.body.getD 0 0) 17 12 = reason
        ∧ t.pmu.req = none ∧ t.cmd.flights = [] ∧ t.mode = s.mode
      (r.stage = .asking →
        (∀ u, 0 < u → u ≤ 14 → r.ans.length = 14 → r.ans.getD (u - 1) .grant = .none →
          (∀ k, unitAnswer (fresh s) r u = (.refuse, k) → k < 64 →
            ∃ t, exec (.handshakeUnitAnswer u) s = .next t ∧ ends t .refused u k)
          ∧ (unitAnswer (fresh s) r u = (.delay, 0) → ∃ t, exec (.handshakeUnitAnswer u) s = .next t
              ∧ t.pmu.req = some { r with ans := r.ans.set (u - 1) .delay } ∧ t.cmd = s.cmd)
          ∧ (unitAnswer (fresh s) r u = (.grant, 0) → r.force = false → r.wake = none → r.target = .watch →
              (∀ i, i < 14 → i ≠ u - 1 → r.ans.getD i .none = .grant) →
              ∃ t, exec (.handshakeUnitAnswer u) s = .next t ∧ t.pmu.req.map PowerReq.stage = some .carrying
                ∧ t.pmu.modeNext = some .watch ∧ t.cmd.gen = s.cmd.gen + 1 ∧ t.mode = s.mode))
        ∧ (∀ u, 0 < u → u ≤ 14 → r.ans.getD (u - 1) .none = .delay →
            ∃ t, exec (.handshakeDelayExpired u) s = .next t ∧ ends t .refused u 0x0A)
        ∧ (∀ i, r.cap ≠ 0 → firstDelay r.ans = some i →
            ∃ t, exec .handshakeDelayCap s = .next t ∧ ends t .refused (i + 1) 0x0B))
      ∧ (r.stage = .carrying → r.target = .watch → s.pmu.modeNext = some .watch → s.pmu.parts ||| 1 <<< 13 = 0x3FFF →
          allDone .watch true (fresh s) = true →
          ∃ t q, exec (.handshakeUnitComplete 14) s = .next t ∧ t.cmd.held = s.cmd.held ++ [q] ∧ q.status = .ok ∧ q.tag = r.tag
            ∧ t.pmu.req.map PowerReq.stage = some .replying ∧ t.mode = s.mode)
      ∧ (r.stage = .carrying → r.target = .quiet → s.mode = .boot → s.pmu.modeNext = some .quiet →
          s.pmu.parts ||| 1 <<< 13 = 0x3FFF → allDone .quiet true (fresh s) = true →
          ∃ t q, exec (.handshakeUnitComplete 14) s = .next t ∧ t.cmd.held = s.cmd.held ++ [q] ∧ q.status = .ok ∧ q.tag = r.tag
            ∧ t.pmu.req = none ∧ t.mode = .quiet)
      ∧ (r.stage = .replying →
          (r.target = .moored → ∃ t, exec .powerReplyWaitExpired s = .next t ∧ t.mode = .moored
            ∧ t.pmu.seq = .falling .moored none)
          ∧ (r.target = .watch → ∃ t, exec .powerReplyWaitExpired s = .next t ∧ t.mode = .watch
            ∧ t.pmu.seq = .falling .watch none ∧ t.cmd.held = s.cmd.held)))
  ∧ (∀ (s : State), s.pmu.forced = none → s.pmu.modeNext = none →
      (autoHolds .island (fresh s) = true →
        (s.pmu.req = none → exec .islandAutoEnter s = .next (settle ((fresh s).startChange .island true false)))
        ∧ (s.pmu.req.isSome = true → exec .islandAutoEnter s
            = .next (settle { fresh s with pmu := { s.pmu with autoWait := some .island } })))
      ∧ (autoHolds .service (fresh s) = true →
        (s.pmu.req = none → exec .islandAutoReturn s = .next (settle ((fresh s).startChange .service true false)))
        ∧ (s.pmu.req.isSome = true → exec .islandAutoReturn s
            = .next (settle { fresh s with pmu := { s.pmu with autoWait := some .service } }))))

/-- Power, reset and boot (R49 to R59, R80, R88, R92, R115, R264). VDD_AON lost: MOORED, every enable low, the always-on
registers at reset and the buffer as at power-on; VDD_AON up: the island runs. POR_N low: every enable low, MOORED, HIF and
the Command Processor gone. POR_N high: the straps latched, MOORED, the registers at reset but PMU_MOOR_COUNT, and the raise
begins, after T_OFF where that still runs. The core reset released: BOOT with the record read and checked, the straps kept
and the rest at reset. The buffer cleared: HIF answers. The Command Processor started with no boot image: CMD_READY, one
marker for each path and CMD_EVENT.READY. A boot image of no packets and no patch: CMD_READY likewise; one that fails its
checks under BOOT_SRC 2: CMD_READY as well, with the failure kept. A restart complete: CMD_READY and its markers, then the
kept replies. Wake (R57, R106 to R109, R314, R317, R625). In a sleeping mode whose enable the source has, a wake event sets
its reason and, from rest, begins the raise, to QUIET from WATCH and to BOOT from MOORED; during a fall, or in T_OFF, it has
the raise follow. A frame in WATCH that matches a magic pattern or the filter of its port is such an event, sets its bit and
keeps its length in NPx_WAKE_STATUS, and the Obien pattern is one; both drive WAKE_OUT_N where it is enabled and, with the
PCIe host, PE_WAKE_N. Without the enable, without a match or in a clocked mode nothing comes of it. The model's reading or
choice stands in log entries 5, 48, 49, 52, 62. -/
def Obligations.BootAndWakeComplete : Prop :=
  (∀ (s : State),
      (∃ t, exec .vddAonPowerLoss s = .next t ∧ t.pmu.vddAon = false ∧ t.mode = .moored ∧ t.buf = {} ∧ t.pmu.railEn = 0
        ∧ t.pmu.seq = seqDown s ∧ ∀ a, t.reg a = regReset a)
      ∧ (s.pmu.vddAon = false →
          exec .vddAonPowerUp s = .next (settle { fresh s with pmu := { s.pmu with vddAon := true } }))
      ∧ (s.pmu.porN = true → ∃ t, exec .porNFall s = .next t ∧ t.pmu.porN = false ∧ t.pmu.railEn = 0 ∧ t.mode = .moored
          ∧ t.pmu.pwrGood = false ∧ t.hif.up = false ∧ t.cmd.flights = [] ∧ t.cmd.ready = false ∧ t.pmu.seq = seqDown s)
      ∧ (∀ st : Straps, s.pmu.porN = false → s.pmu.vddAon = true → ∃ t, exec (.porNRise st) s = .next t
          ∧ t.pmu.straps = st ∧ t.pmu.porN = true ∧ t.mode = .moored
          ∧ (s.pmu.seq = .idle → t.pmu.seq = .rising (.boot 1))
          ∧ (s.pmu.seq = .off none → t.pmu.seq = .off (some (.boot 1)))
          ∧ t.reg Reg.PMU_MOOR_COUNT = s.reg Reg.PMU_MOOR_COUNT ∧ ∀ a, a ≠ Reg.PMU_MOOR_COUNT → t.reg a = regReset a)
      ∧ (∀ c rec, s.pmu.seq = .release c → ∃ t, exec (.coreResetRelease rec) s = .next t ∧ t.mode = .boot
          ∧ t.otp = recordTable rec ∧ t.otpBad = recordCheck (recordTable rec) ∧ t.pmu.seq = .idle ∧ t.hif.up = false
          ∧ t.cmd.ready = false ∧ t.cmd.cause = c ∧ t.srx.streams = [] ∧ t.stx.streams = [] ∧ t.mck.grid = false
          ∧ t.pmu.straps = s.pmu.straps)
      ∧ (clocked s.mode = true → s.buf.ready = false → ∃ t, exec .bufferClearDone s = .next t ∧ t.buf.ready = true
          ∧ t.hif.up = true ∧ t.mode = s.mode ∧ t.ump.early = [] ∧ (s.ump.early = [] → t.buf.mem = s.buf.mem))
      ∧ (s.mode = .boot → s.hif.up = true → s.cmd.ready = false → s.cmd.restarting = false → s.patch.busy = false →
          s.bootsFromFlash = false → s.cmd.weigh = none → s.hif.cmdQueue = [] → s.cmd.tunnelIn = [] → s.cmd.after = [] →
          ∃ t m n, exec .cmdBootReady s = .next t ∧ t.cmd.ready = true ∧ t.cmd.held = s.cmd.held ++ [m, n]
            ∧ m.op = 0xFF ∧ m.src = .path .host ∧ n.op = 0xFF ∧ n.src = .path .mgmt ∧ t.bit Reg.CMD_EVENT 0 = true)
      ∧ (∀ ws, s.mode = .boot → s.hif.up = true → s.cmd.ready = false → s.cmd.restarting = false → s.patch.busy = false →
          s.bootsFromFlash = true → s.cmd.imageFail = false → s.cmd.imageAt = none → s.cmd.flights = [] → s.cmd.weigh = none →
          s.hif.cmdQueue = [] → s.cmd.tunnelIn = [] →
          (imageCheck ws = .ok [] → ws.getD 4 0 = 0 →
            ∃ t, exec (.bootImageLoad ws) s = .next t ∧ t.cmd.imageLoaded = true ∧ t.cmd.imageFail = false
              ∧ t.cmd.ready = true ∧ t.mode = .boot)
          ∧ (∀ e, imageCheck ws = .error e → s.pmu.straps.bootSrc = 2 →
            ∃ t, exec (.bootImageLoad ws) s = .next t ∧ t.cmd.imageFail = true ∧ t.cmd.ready = true ∧ t.mode = .boot))
      ∧ (clocked s.mode = true → s.cmd.restarting = true → s.cmd.weigh = none → s.patch.busy = false → s.hif.cmdQueue = [] →
          s.cmd.tunnelIn = [] → ∃ t m n, exec .cmdRestartComplete s = .next t ∧ t.cmd.ready = true
            ∧ t.cmd.restarting = false ∧ t.cmd.held = s.cmd.held ++ [m, n] ++ s.cmd.after ∧ m.op = 0xFF ∧ m.src = .path .host
            ∧ n.op = 0xFF ∧ n.src = .path .mgmt ∧ t.mode = s.mode))
  ∧ (∀ (s : State),
      let pins := fun (t : State) => t.pmu.wakeOutN = (s.pmu.wakeOutN || s.bit Reg.PMU_WAKE_CFG 8)
        ∧ t.pmu.peWakeN = (s.pmu.peWakeN || !s.pmu.straps.hostSel)
      (s.bit Reg.PMU_WAKE_CFG 1 = false ∨ clocked s.mode = true → exec .peWakeNAsserted s = .next (settle (fresh s)))
      ∧ (s.pmu.porN = true → clocked s.mode = false → s.bit Reg.PMU_WAKE_CFG 1 = true →
          ∀ q, (s.pmu.seq = .idle ∧ q = .rising (wakeGoal s.mode))
              ∨ (s.pmu.seq = .off none ∧ q = .off (some (wakeGoal s.mode)))
              ∨ (∃ d, s.pmu.seq = .falling d none ∧ q = .falling d (some (wakeGoal s.mode))) →
          exec .peWakeNAsserted s = .next (settle (({ fresh s with pmu := { s.pmu with
            seq := q, waking := true } }).flag Reg.PMU_WAKE_REASON 2)))
      ∧ (∀ q, q < 2 → s.pmu.porN = true → s.mode = .watch → s.pmu.seq = .idle →
          (s.bit Reg.PMU_WAKE_CFG (6 + q) = true → ∃ t, exec (.obienWakePattern q) s = .next t
            ∧ t.pmu.seq = .rising (.back .quiet) ∧ t.pmu.waking = true ∧ t.bit Reg.PMU_WAKE_REASON (7 + q) = true ∧ pins t)
          ∧ (s.bit Reg.PMU_WAKE_CFG (6 + q) = false → exec (.obienWakePattern q) s = .next (settle (fresh s)))
          ∧ ∀ bytes, (s.port q).live = true →
            let magic := magicMatch (fresh s) q bytes && s.bit Reg.PMU_WAKE_CFG (2 + 2 * q)
            let pattern := patternMatch (fresh s) q bytes && s.bit Reg.PMU_WAKE_CFG (3 + 2 * q)
            ((magic || pattern) = true → ∃ t, exec (.wakeFrame q bytes) s = .next t ∧ t.pmu.seq = .rising (.back .quiet)
                ∧ t.pmu.waking = true ∧ t.regField (Reg.NP_WAKE_STATUS q) 15 2 = bytes.length % 2 ^ 14 ∧ pins t
                ∧ (magic = true → t.bit (Reg.NP_WAKE_STATUS q) 0 = true ∧ t.bit Reg.PMU_WAKE_REASON (3 + 2 * q) = true)
                ∧ (pattern = true → t.bit (Reg.NP_WAKE_STATUS q) 1 = true ∧ t.bit Reg.PMU_WAKE_REASON (4 + 2 * q) = true))
            ∧ (magic = false → pattern = false → exec (.wakeFrame q bytes) s = .next (settle (fresh s)))))

/-- The stroke (R26, R28, R29, R30, R32, R43): its boundary and its four phases come in turn, and an instant of one that does not
come next changes nothing, time apart at a boundary (the order is the model's choice, a log entry). With no change of mode or
core form waiting, a boundary of a running grid begins the next stroke, at the grid tick of its instant, and where the grid
starts it begins the stroke whose place is nearest. The Catch is the Catch of every unit (`catchAll`) after the single-bit
errors that its reads corrected are counted, and with the engine stopped no source has a stroke; the Drive phase mixes,
converts and serves the rings (`driveAll`); the Finish writes a stroke for every sink that the active bank feeds, silence
with the engine stopped, names the sinks whose data have changed since, and leaves the banks; the Recovery ends the stroke's
work and leaves its number. The model's reading or choice stands in log entries 4, 84, 90, 91. -/
def Obligations.StrokeCompletes : Prop :=
  ∀ (dt : Nat) (pins : List (Nat × List (List Word))) (plays : List (Nat × List Word)) (ups : List Upset)
    (ce : List (Nat × Nat)) (s : State),
    let at_ := fun (p : StrokePart) (t : State) => ({ t with mck := { t.mck with part := p } } : State)
    let u := (fresh s).advance dt
    (s.mck.grid = true → s.mck.part ≠ .recovered → exec (.strokeBoundary dt) s = .next (settle u))
    ∧ (s.mck.grid = false → s.mck.gridStart = false → exec (.strokeBoundary dt) s = .next (settle u))
    ∧ (s.mck.grid = true → s.mck.part = .recovered → s.mck.coreNext = [] → s.pmu.modeNext = none →
        ∃ t, exec (.strokeBoundary dt) s = .next t ∧ t.mck.stroke = u.nextStroke ∧ t.mck.part = .boundary
          ∧ t.mck.grid = true ∧ t.mck.strokeTick = u.tick64 ∧ t.mode = s.mode)
    ∧ (s.mck.grid = false → s.mck.gridStart = true → s.mck.coreNext = [] → s.pmu.modeNext = none →
        ∃ t, exec (.strokeBoundary dt) s = .next t ∧ t.mck.stroke = u.gridNumber ∧ t.mck.part = .boundary
          ∧ t.mck.grid = true ∧ t.mode = s.mode)
    ∧ (s.mck.grid = true → s.mck.part = .boundary →
        exec (.catchPhase pins ⟨ups, ce⟩) s
          = .next (settle (at_ .caught (catchAll pins ups (ce.foldl (fun s e => s.ceFound e.1 e.2) (fresh s)))))
        ∧ (s.drv.running = false → ups = [] → ce = [] → ∃ t, exec (.catchPhase pins ⟨ups, ce⟩) s = .next t ∧ t.drv.src = []
            ∧ t.mck.part = .caught ∧ t.mck.stroke = s.mck.stroke))
    ∧ (s.mck.grid = true → s.mck.part = .caught →
        exec (.drivePhase plays) s = .next (settle (at_ .driven (driveAll plays (fresh s)))))
    ∧ (s.mck.grid = true → s.mck.part = .driven → ∃ t, exec (.finishPhase ups) s = .next t
        ∧ t.drv.sinks = (fresh s).sinkStrokes ∧ t.drv.badSinks = (ups.map Upset.id).dedup ∧ t.mck.part = .finished
        ∧ t.drv.sinks.map Prod.fst = s.activeBank.feeds.map Prod.fst
        ∧ (s.drv.running = false → ∀ e ∈ t.drv.sinks, e.2 = silentStroke s.strokeGroups) ∧ t.drv.banks = s.drv.banks)
    ∧ (s.mck.grid = true → s.mck.part = .finished → ∃ t, exec .recoveryPhase s = .next t ∧ t.mck.part = .recovered
        ∧ t.mck.stroke = s.mck.stroke)
    ∧ (s.mck.grid = false ∨ s.mck.part ≠ .boundary → exec (.catchPhase pins ⟨ups, ce⟩) s = .next (settle (fresh s)))
    ∧ (s.mck.grid = false ∨ s.mck.part ≠ .caught → exec (.drivePhase plays) s = .next (settle (fresh s)))
    ∧ (s.mck.grid = false ∨ s.mck.part ≠ .driven → exec (.finishPhase ups) s = .next (settle (fresh s)))
    ∧ (s.mck.grid = false ∨ s.mck.part ≠ .finished → exec .recoveryPhase s = .next (settle (fresh s)))

/-- `PORT_CONFIG` (R296, R318, R319): of an enabled port a change of an RWD field is STALE_WRITE; else the registers hold the
configuration. An enable of a port that is not live, or is being disabled, starts it in reset and the command waits for the
release; a disable of a live port waits for its end; and with EN as it is the command completes. `PORT_RESTART` (R320): a
live port ends its link and frame and is in reset, and the command waits for the release; another is BAD_PARAM. `PORT_STATS`
(R321): the counters of the page, and CLEAR zeroes them all. Links, enables and resets of a port (R294 to R296, R309, R310,
R320): auto-negotiation ends with an ability in common, or with a fault that takes the link down; the link rises and falls
with its event; a disable takes effect with the egress queues emptied; a release ends the reset and answers the command that
awaits it; and a pause timer whose time has come pauses no more, while one whose time has not come runs on. The model's
reading or choice stands in log entry 105. -/
def Obligations.PortCommandsAndLinks : Prop :=
  (∀ (k : Pkt) (s : State), s.np.length = 2 →
      let n := fieldOf (k.params.getD 0 0) 0 0
      (begins 0x50 k s = true →
        let en := bitOf (k.params.getD 0 0) 1
        (∀ w, (s.port n).live = true → portStale k.x k.params n s = some w →
          exec (.portConfig k) s = .next (replied 0x50 k .staleWrite w [] false s (fresh s)))
        ∧ ((s.port n).live = false ∨ portStale k.x k.params n s = none → ∃ t, exec (.portConfig k) s = .next t
          ∧ (∀ e ∈ portConfigRegs k.x k.params n, t.reg e.1 = e.2) ∧ t.port (1 - n) = s.port (1 - n)
          ∧ (en = true → (s.port n).live = false ∨ (s.port n).disabling = true →
              (t.port n).live = true ∧ (t.port n).inReset = true ∧ (t.port n).disabling = false ∧ t.cmd.held = s.cmd.held
              ∧ ∃ f, t.cmd.flights = [f] ∧ f.fin = .portUp n ∧ f.phase = .committed ∧ f.tag = k.tag)
          ∧ (en = false → (s.port n).live = true → (t.port n).disabling = true ∧ (t.port n).egress = (s.port n).egress
              ∧ t.cmd.held = s.cmd.held
              ∧ ∃ f, t.cmd.flights = [f] ∧ f.fin = .portDown n ∧ f.phase = .committed ∧ f.tag = k.tag)
          ∧ (en = (s.port n).live → (en = true → (s.port n).disabling = false) →
              t.port n = (creditStep n s).port n ∧ t.cmd.flights = [] ∧ ∃ r, t.cmd.held = s.cmd.held ++ [r] ∧ r.tag = k.tag
              ∧ r.status = .ok)))
      ∧ (begins 0x51 k s = true →
        ((s.port n).live = false → exec (.portRestart k) s = .next (replied 0x51 k .badParam 1 [] false s (fresh s)))
        ∧ ((s.port n).live = true → ∃ t f, exec (.portRestart k) s = .next t ∧ (t.port n).live = true
          ∧ (t.port n).inReset = true ∧ (t.port n).link = false ∧ (t.port n).sending = none
          ∧ (t.port n).egress = (s.port n).egress ∧ t.port (1 - n) = s.port (1 - n) ∧ t.cmd.flights = [f]
          ∧ f.fin = .portUp n ∧ f.phase = .committed ∧ f.tag = k.tag ∧ t.cmd.gen = s.cmd.gen))
      ∧ (begins 0x52 k s = true →
        let ext := k.x && bitOf (k.params.getD 0 0) 1
        let body := s.tick32 :: (List.range 48).map fun i => s.reg (if ext then Reg.NP_STAT_EXT n i else Reg.NP_STAT n i)
        ((k.x && bitOf (k.params.getD 0 0) 2) = false →
          exec (.portStats k) s = .next (replied 0x52 k .ok 0 body false s (fresh s)))
        ∧ ((k.x && bitOf (k.params.getD 0 0) 2) = true → ∃ t r, exec (.portStats k) s = .next t
          ∧ t.cmd.held = s.cmd.held ++ [r] ∧ r.status = .ok ∧ r.body = body
          ∧ (∀ i, i < 48 → t.reg (Reg.NP_STAT n i) = 0 ∧ t.reg (Reg.NP_STAT_EXT n i) = 0) ∧ t.np = s.np)))
  ∧ (∀ (n : Nat) (s : State), n < 2 → s.np.length = 2 →
      let np := s.port n
      let only := fun (t : State) => t.port (1 - n) = s.port (1 - n) ∧ t.mode = s.mode
        ∧ (s.nearLoop n = false → t.rud = s.rud ∧ t.srx = s.srx)
      ((np.live = true → np.inReset = false → s.portAn n = true → s.mode ≠ .moored →
        (∀ pause, ∃ t, exec (.autoNegotiationDone n true pause) s = .next t ∧ only t
          ∧ t.port n = { np with anDone := true, anFault := false, partnerPause := pause } ∧ t.regs = s.regs)
        ∧ (∃ t, exec (.autoNegotiationDone n false false) s = .next t ∧ only t ∧ (t.port n).anDone = false
          ∧ (t.port n).anFault = true ∧ (t.port n).link = false ∧ t.bit (Reg.NP_EVENT n) 4 = true))
      ∧ (s.linkMay n = true → np.link = false → s.mode ≠ .moored → ∃ t, exec (.portLinkUp n) s = .next t ∧ only t
        ∧ t.port n = { np with link := true, linkAt := s.ntu.course } ∧ t.bit (Reg.NP_EVENT n) 0 = true)
      ∧ (np.link = true → ∃ t, exec (.portLinkDown n) s = .next t ∧ only t
        ∧ t.port n = { np with link := false, linkAt := s.ntu.course } ∧ t.bit (Reg.NP_EVENT n) 1 = true)
      ∧ (np.disabling = true → ∃ t, exec (.portDisableDone n) s = .next t ∧ only t ∧ (t.port n).live = false
        ∧ (t.port n).disabling = false ∧ (t.port n).link = false ∧ (t.port n).egress = List.replicate 8 []
        ∧ (t.port n).sending = none ∧ ∀ f ∈ t.cmd.flights, f.phase = .committed → f.fin ≠ .portDown n)
      ∧ (np.inReset = true → ∃ t, exec (.portResetRelease n) s = .next t ∧ only t
        ∧ t.port n = { np with inReset := false }
        ∧ (∀ f p, s.cmd.flights = [f] → f.phase = .committed → f.fin = .portUp n → f.src = .path p → s.cmd.restarting = false →
            ∃ r, t.cmd.held = s.cmd.held ++ [r] ∧ r.tag = f.tag ∧ r.status = .ok ∧ r.body = f.body ∧ t.cmd.flights = []))
      ∧ (np.pauseUntil ≤ 10 * s.ntu.course → ∃ t, exec (.pauseTimerExpired n 8) s = .next t ∧ only t
        ∧ (t.port n).linkPause = false ∧ (t.port n).pfc = np.pfc)
      ∧ (∀ i, i < 8 → np.pfcUntil.getD i 0 ≤ 10 * s.ntu.course → ∃ t, exec (.pauseTimerExpired n i) s = .next t ∧ only t
        ∧ (t.port n).linkPause = np.linkPause ∧ ∀ j, j < 8 → (t.port n).pfc.getLsbD j = (np.pfc.getLsbD j && decide (j ≠ i)))
      ∧ (∀ i, i ≤ 8 → 10 * s.ntu.course < (if i = 8 then np.pauseUntil else np.pfcUntil.getD i 0) →
          exec (.pauseTimerExpired n i) s = .next (settle (fresh s)))))

/-- Frames at a port (R253, R297, R301 to R304, R306 to R309, R312, R663): nothing but an error outside frames, a runt and a
frame that is too long are counted and dropped; a good frame goes to the Rudder whole, and one for which the buffer had no
room is counted; a PAUSE frame that is enabled loads the timer and goes no further; a near-end loopback shuts the balls out.
At a frame boundary the transmitter starts a PAUSE frame of the host, or else the head frame of the highest-numbered eligible
queue, or none, and none on a port being disabled. A frame too late for its launch is discarded with its event. A host item
without fault enters its egress queue, where that has room; one with a fault is discarded with its error; and while the
host's queues are held none is taken. The model's reading or choice stands in log entries 103, 104. -/
def Obligations.PortFramesComplete : Prop :=
  ∀ (dt n : Nat) (bs : List Byte) (e : FrameErrs) (s : State), n < 2 → s.np.length = 2 → clocked s.mode = true →
    (s.port n).live = true → (s.port n).inReset = false →
    let u := (fresh s).advance dt
    let w := if s.tst.points.getD n 0 = 3 then echoed n bs u else u
    let v := txEnd n u
    let f := parseFrame bs
    (s.nearLoop n = true → exec (.frameReceived dt n bs e) s = .next (settle u))
    ∧ (s.nearLoop n = false →
      (bs = [] → exec (.frameReceived dt n bs e) s = .next (settle (w.stat n 37 (b2n (e.sym && w.portMode n = 0)))))
      ∧ (bs ≠ [] → bs.length < 64 → exec (.frameReceived dt n bs e) s = .next (settle (w.stat n 34)))
      ∧ (64 ≤ bs.length → u.maxFrame n < bs.length →
        exec (.frameReceived dt n bs e) s = .next (settle (w.stat n (if e.fcs then 36 else 35))))
      ∧ (64 ≤ bs.length → bs.length ≤ u.maxFrame n →
        (u.rxNoRoom n bs.length = true → ∃ t, exec (.frameReceived dt n bs e) s = .next t ∧ t.rud = s.rud ∧ t.np = w.np
          ∧ t.reg (Reg.NP_RX_OVF n) = w32 (satNat 0xFFFFFFFF ((s.reg (Reg.NP_RX_OVF n)).toNat + 1)))
        ∧ (u.rxNoRoom n bs.length = false → f.etype ≠ 0x8808 ∨ f.tagged = true → ∃ t d,
            exec (.frameReceived dt n bs e) s = .next t ∧ t.rud.inq = s.rud.inq ++ [d] ∧ d.frame.bytes = bs
            ∧ d.frame.port = n ∧ d.frame.fcsErr = e.fcs ∧ d.mode = s.mode ∧ t.np = w.np)
        ∧ (u.rxNoRoom n bs.length = false → f.etype = 0x8808 → f.tagged = false → e = {} → f.dst = 0x0180C2000001 →
            beAt bs 14 2 = 1 → u.bit (Reg.NP_PAUSE_CTRL n) 0 = true →
            ∃ t, exec (.frameReceived dt n bs e) s = .next t ∧ t.rud = s.rud
              ∧ (t.port n).linkPause = decide (beAt bs 16 2 ≠ 0)
              ∧ (t.port n).pauseUntil = 10 * u.ntu.course + beAt bs 16 2 * u.quantum n
              ∧ (t.port n).pfc = (s.port n).pfc ∧ t.port (1 - n) = s.port (1 - n))))
    ∧ ((s.port n).disabling = true → exec (.transmitFrameStart dt n) s = .next (settle v))
    ∧ ((s.port n).disabling = false → s.nearLoop n = false →
      (∀ b rest, (v.port n).pauseGo = b :: rest → ∃ t x, exec (.transmitFrameStart dt n) s = .next t
        ∧ (t.port n).sending = some (8, x) ∧ x.bytes = b ∧ (t.port n).lastTx = wireFrame b
        ∧ (t.port n).pauseGo = rest ∧ (t.port n).egress = (v.port n).egress)
      ∧ (∀ q x rest, (v.port n).pauseGo = [] → ([7, 6, 5, 4, 3, 2, 1, 0].find? fun q => v.eligible n q) = some q →
          (v.port n).egress.getD q [] = x :: rest → x.oneStep = false → ∃ t, exec (.transmitFrameStart dt n) s = .next t
            ∧ (t.port n).sending = some (q, x) ∧ (t.port n).lastTx = wireFrame x.bytes
            ∧ (t.port n).egress = (v.port n).egress.set q rest)
      ∧ ((v.port n).pauseGo = [] → (∀ q, q < 8 → v.eligible n q = false) →
          exec (.transmitFrameStart dt n) s = .next (settle v)))
    ∧ (∀ q x rest, (q = 4 ∨ q = 5) → (s.port n).egress.getD q [] = x :: rest → x.launch + s.lateMax n ≤ s.tick64 →
        ∃ t, exec (.launchLateDiscard n q) s = .next t ∧ (t.port n).egress = (s.port n).egress.set q rest
          ∧ t.bit (Reg.NP_EVENT n) 5 = true ∧ t.port (1 - n) = s.port (1 - n))
    ∧ (∀ i ecc, i < 4 →
      let q := 16 + 4 * n + i
      let r := queueEcc q ecc ((fresh s).onQueue q (qUpset ecc))
      ((s.port n).holdHost = true → exec (.hostTxItemCopy ⟨q, ecc⟩) s = .next (settle (fresh s)))
      ∧ (∀ x it, tget r.buf.queues q = some x → x.items[x.rpItem]? = some it → it.len.isSome = true →
        (s.port n).holdHost = false → (s.port n).egress.length = 8 →
        let l := if it.pflags.getLsbD 1 then 7 else i
        (itemErrors r n it = [] → s.takesFrame (.hostItem q x.copies) = true →
          (((s.port n).egress.getD l []).length < egressDepth l →
            ∃ t y z, exec (.hostTxItemCopy ⟨q, ecc⟩) s = .next t
              ∧ (t.port n).egress.getD l [] = (s.port n).egress.getD l [] ++ [y]
              ∧ y.bytes = it.data ∧ y.kind = .hostItem q x.copies ∧ tget t.buf.queues q = some z ∧ z.rpItem = x.rpItem + 1
              ∧ z.copies = x.copies + 1 ∧ z.fp = x.fp ∧ z.items.map Item.data = x.items.map Item.data)
          ∧ (egressDepth l ≤ ((s.port n).egress.getD l []).length →
            exec (.hostTxItemCopy ⟨q, ecc⟩) s = .next (settle r)))
        ∧ (∀ b, b ∈ itemErrors r n it → ∃ t, exec (.hostTxItemCopy ⟨q, ecc⟩) s = .next t ∧ t.np = s.np
            ∧ t.bit (Reg.NP_ERR n) b = true)))

/-- A frame at a receive stream (R455, R460, R461, R466, R477): for a stream that does not accept, or that ISLAND has shut, or in
ISLAND, it is dropped with its count and event; on a port not selected, or malformed, it is a format error; with another SSRC
it is one too and is noted; and the first good frame of a waiting stream anchors it, where it is not too early and some of it
can be written. A relearn re-anchors a learning stream where one other SSRC alone has been heard for RELEARN_MS, and does
nothing where more have; a lost port of two, with the other accepting frames, sets its event alone. The model's reading or
choice stands in log entries 72, 73, 74. -/
def Obligations.MediaFramesComplete : Prop :=
  ∀ (s : State) (n : Nat) (r : RxStream), tget s.srx.streams n = some r →
    (∀ d rest, s.srx.inq = d :: rest → d.stream = n →
      let u : State := { fresh s with srx := { s.srx with inq := rest } }
      (r.accepting = false ∨ s.mode = .island ∨ r.shut = true →
        exec .mediaFrameAccept s = .next (settle ((u.bump Reg.SRX_DROP_IDLE).flag Reg.SRX_EVENT 2)))
      ∧ (r.accepting = true → s.mode ≠ .island → r.shut = false →
        (r.onPort d.frame.port = false ∨ readMedia u r d.frame = none →
          exec .mediaFrameAccept s = .next (settle (u.rxFormatErr n)))
        ∧ (∀ m, r.onPort d.frame.port = true → readMedia u r d.frame = some m →
          (ssrcOk r m = false → exec .mediaFrameAccept s = .next (settle (u.rxWrongSsrc n m.ssrc)))
          ∧ (ssrcOk r m = true → d.frame.fcsErr = false → d.frame.alignErr = false → d.frame.symErr = false →
              r.state = .waiting → tooEarly u (anchorAt u r m) m = false →
              (placeMedia u (anchorAt u r m) m).first.isSome = true →
              ∃ t, exec .mediaFrameAccept s = .next t ∧ (t.rxStream n).state = .running ∧ t.srx.inq = rest
                ∧ (t.rxStream n).ssrc = (if r.learn then some m.ssrc else r.ssrc) ∧ t.stx = s.stx ∧ t.drv = s.drv
                ∧ t.cmd = s.cmd))))
    ∧ (r.accepting = true → r.learn = true → r.ssrc.isSome = true → r.other.isSome = true →
        (r.otherMany = false ∨ r.otherAt + r.relearnNs ≤ s.ntu.course → ∃ t, exec (.ssrcRelearn n) s = .next t
          ∧ (t.rxStream n).state = .waiting ∧ (t.rxStream n).slots = [] ∧ (t.rxStream n).ssrc = none ∧ (t.rxStream n).relearn = true ∧ t.stx = s.stx ∧ t.cmd = s.cmd)
        ∧ (r.otherMany = true → s.ntu.course < r.otherAt + r.relearnNs →
          exec (.ssrcRelearn n) s = .next (settle (fresh s))))
    ∧ (∀ p, p < 2 → r.accepting = true → r.ports = 3 → (if p = 0 then r.accB else r.accA).isSome = true →
        exec (.srxPortLost n p) s = .next (settle ((fresh s).rxFlag n 8)))

/-- Re-row at the receive stream (R470 to R473, R475): a block that every port has missed, or whose wait has expired, is to be
asked for where R471 and the limit permit; it is asked once more after its retry; the request frame enters egress queue 6 of
its port, where the port takes it, and its blocks no longer wait to be asked; and a GONE reply has its blocks not asked
again. Re-row at the transmit stream (R504 to R509, R511): a frame that fails a check counts as bad; a GONE frame is handed
on; a request that passes is admitted, or counted as overflow where 256 are outstanding; and a request that no store serves
is answered with a GONE frame for all of its blocks, where the port and its budget take it, and is done. The model's reading
or choice stands in log entries 79, 80. -/
def Obligations.RerowCompletes : Prop :=
  (∀ (s : State) (n : Nat) (r : RxStream), tget s.srx.streams n = some r →
      (∀ m, (r.missing.find? fun x => decide (x.seq = m.seq)) = some m →
        (m.detected = false → ∃ t, exec (.rrWaitExpired n m.seq) s = .next t ∧ t.np = s.np ∧ t.stx = s.stx
          ∧ ∃ x, ((t.rxStream n).missing.find? fun y => decide (y.seq = m.seq)) = some x ∧ x.detected = true
            ∧ ((fresh s).rrMayAsk r m.pos = true → s.rrOutstanding < 1024 → x.toAsk = true)
            ∧ ((fresh s).rrMayAsk r m.pos = false → x.toAsk = m.toAsk))
        ∧ (m.asks = 1 → m.gone = false → m.toAsk = false → s.rrMayAsk r m.pos = true → ∃ t x,
            exec (.rrRetryExpired n m.seq) s = .next t ∧ x.toAsk = true
            ∧ ((t.rxStream n).missing.find? fun y => decide (y.seq = m.seq)) = some x))
      ∧ (∀ h, s.np.length = 2 → (askBlocks r).2 ≠ [] →
        let rs := (askBlocks r).2
        let p := (fresh s).askPort r (askBlocks r).1
        (if p = 0 then r.hdrA else r.hdrB) = some h → (fresh s).rrSource p h.ip6 ≠ 0 →
        (if p = 0 then s.srx.sentA else s.srx.sentB) < 32 → p < 2 → (s.port p).live = true → (s.port p).egress.length = 8 →
        ((s.port p).egress.getD 6 []).length < 32 → s.takesFrame .rerowAsk = true →
        ∃ t x, exec (.rerowRequestSend n) s = .next t ∧ (t.port p).egress.getD 6 [] = (s.port p).egress.getD 6 [] ++ [x]
          ∧ x.kind = .rerowAsk ∧ t.port (1 - p) = s.port (1 - p)
          ∧ (if p = 0 then t.srx.sentA else t.srx.sentB) = (if p = 0 then s.srx.sentA else s.srx.sentB) + 1
          ∧ ∀ m ∈ (t.rxStream n).missing, inRanges rs m.seq = true → m.toAsk = false)
      ∧ (∀ d rest typ q, s.stx.gones = d :: rest → readRerow d.frame = some (typ, q) → q.rx = n → r.enabled = true →
        ∃ t, exec .goneReceived s = .next t ∧ t.stx.gones = rest ∧ t.np = s.np
          ∧ ∀ m ∈ (t.rxStream n).missing, inRanges q.ranges m.seq = true → m.gone = true ∧ m.toAsk = false))
  ∧ (∀ (s : State),
      (∀ d rest, s.stx.inq = d :: rest →
        let u : State := { fresh s with stx := { s.stx with inq := rest } }
        (readRerow d.frame = none → exec .rerowRequestReceived s = .next (settle u.rrBad))
        ∧ (∀ q, readRerow d.frame = some (2, q) → exec .rerowRequestReceived s
            = .next (settle { u with stx := { u.stx with gones := s.stx.gones ++ [d] } }))
        ∧ (∀ q, readRerow d.frame = some (1, q) →
          (u.rrPortOk q = false → exec .rerowRequestReceived s = .next (settle u.rrBad))
          ∧ (u.rrPortOk q = true → (s.rrList d.frame.port).length < 256 → exec .rerowRequestReceived s
              = .next (settle (u.setRrList d.frame.port (s.rrList d.frame.port ++ [q]))))
          ∧ (u.rrPortOk q = true → 256 ≤ (s.rrList d.frame.port).length → exec .rerowRequestReceived s
              = .next (settle ((u.bump (Reg.STX_RR_OVERFLOW d.frame.port)).flag Reg.STX_EVENT 2)))))
      ∧ (∀ p q, p < 2 → s.np.length = 2 → s.rrList p = [q] → q.decided = false → s.rrServes q = none →
        firstOnly (rangeSeqs q.ranges) ≠ [] → (s.port p).live = true → (s.port p).egress.length = 8 →
        ((s.port p).egress.getD 6 []).length < 32 → s.takesFrame (.rerowAnswer q.tx) = true →
        let frame := goneFrameOf s p q (firstOnly (rangeSeqs q.ranges))
        s.rrFits p (wireSize frame) = true →
        ∃ t x, exec (.rerowAnswer p) s = .next t ∧ t.rrList p = [] ∧ x.bytes = frame ∧ x.kind = .rerowAnswer q.tx
          ∧ (t.port p).egress.getD 6 [] = (s.port p).egress.getD 6 [] ++ [x] ∧ t.port (1 - p) = s.port (1 - p)
          ∧ t.srx = s.srx))

/-- `TDM_CONFIG` (R591, R597): a bit clock that the core rate cannot give is BAD_PARAM; a change of an enabled port is
STALE_WRITE; else the registers hold the configuration, and an enable or disable is asked for the boundary, which completes
the command. `TDM_RESTART` (R595, R598): a port that is not enabled is BAD_PARAM, one that is being disabled is ABORTED, and
another is to stop at the end of its frame in progress, until which it goes on, and the command waits. A slave TDM port
(R586, R591, R595): in SEEK the fourth good frame in succession locks it, with LOCK, and a bad one starts the count again; in
LOCKED a good frame in its place is assigned to the next grid sample, a bad frame counts, and the fourth loses lock; frames
are for a live slave alone, one that a forced action stops ends with its frame, and one that a restart stops takes no more;
and a locked port whose frames have stopped seeks again. The Rate Aligner (R532, R538 to R540): `RAL_CONFIG` sets a stream's
control, unless it is enabled and its quality would change, and is BAD_PARAM for a stream that is not defined; `RAL_QUERY`
answers and changes nothing; the ratio loop locks, and a locked stream without frames holds, each with its event. The model's
reading or choice stands in log entries 108, 110, 111. -/
def Obligations.TdmAndRateAlignerComplete : Prop :=
  (∀ (k : Pkt) (s : State), s.tdm.length = 16 →
      let n := fieldOf (k.params.getD 0 0) 3 0
      let g := tdmWords k.x k.params
      (begins 0x58 k s = true →
        (tdmRateBad s.rateCode (tdmCfgOf g.1 g.2.1 g.2.2.1 g.2.2.2) = true →
          exec (.tdmConfig k) s = .next (replied 0x58 k .badParam 1 [] false s (fresh s)))
        ∧ (tdmRateBad s.rateCode (tdmCfgOf g.1 g.2.1 g.2.2.1 g.2.2.2) = false →
          (∀ w, s.tdmEnabled n = true → tdmDiffers k.x s n g = some w →
            exec (.tdmConfig k) s = .next (replied 0x58 k .staleWrite w [] false s (fresh s)))
          ∧ (s.tdmEnabled n = false ∨ tdmDiffers k.x s n g = none → ∃ t, exec (.tdmConfig k) s = .next t ∧ t.reg (Reg.TDM_CFG n) = g.1
            ∧ t.reg (Reg.TDM_RX_MASK n) = g.2.1 ∧ t.reg (Reg.TDM_TX_MASK n) = g.2.2.1 ∧ t.reg (Reg.TDM_X24 n) = g.2.2.2
            ∧ (∀ j, j ≠ n → t.tdmPort j = s.tdmPort j) ∧ t.drv = s.drv
            ∧ (bitOf g.1 0 = s.tdmWanted n → t.tdmPort n = s.tdmPort n ∧ ∃ r, t.cmd.held = s.cmd.held ++ [r] ∧ r.status = .ok)
            ∧ (bitOf g.1 0 ≠ s.tdmWanted n →
                (t.tdmPort n).wants = (s.tdmPort n).wants ++ [(s.boundaryWait, bitOf g.1 0)] ∧ ∃ f, t.cmd.flights = [f]
                ∧ f.fin = .tdm n ∧ f.phase = .committed ∧ f.due = s.boundaryWait))))
      ∧ (begins 0x59 k s = true →
        (s.tdmEnabled n = false → exec (.tdmRestart k) s = .next (replied 0x59 k .badParam 1 [] false s (fresh s)))
        ∧ (s.tdmEnabled n = true →
          ((s.tdmPort n).ending = true ∨ (∃ e ∈ (s.tdmPort n).wants, e.2 = false) →
            exec (.tdmRestart k) s = .next (replied 0x59 k .aborted 0 [] false s ((fresh s).flag Reg.CMD_EVENT 3)))
          ∧ ((s.tdmPort n).ending = false → (∀ e ∈ (s.tdmPort n).wants, e.2 = true) → ∃ t f,
            exec (.tdmRestart k) s = .next t ∧ (t.tdmPort n).state = (s.tdmPort n).state
            ∧ (t.tdmPort n).stopAt = some ((s.tdmPort n).stopAt.getD (s.tdmEndAt n))
            ∧ ((s.tdmPort n).stopAt = none → (t.tdmPort n).holdClk = (k.x && bitOf (k.params.getD 0 0) 4))
            ∧ (∀ j, j ≠ n → t.tdmPort j = s.tdmPort j)
            ∧ t.cmd.flights = [f] ∧ f.fin = .tdm n ∧ f.phase = .committed ∧ t.regs = s.regs))))
  ∧ (∀ (dt n clocks : Nat) (slots : List Word) (s : State), n < 16 → s.tdm.length = 16 →
      let u := (fresh s).advance dt
      let p := s.tdmPort n
      let c := s.tdmCfg n
      (p.ending = true → c.master = false → exec (.tdmSlaveFrame dt n clocks slots) s = .next (settle (u.tdmDrop n)))
      ∧ (p.ending = false ∨ c.master = true → p.live = false ∨ c.master = true ∨ s.mck.grid = false →
        exec (.tdmSlaveFrame dt n clocks slots) s = .next (settle u))
      ∧ (∀ e, p.live = true → p.ending = false → c.master = false → s.mck.grid = true → p.stopAt = some e →
        exec (.tdmSlaveFrame dt n clocks slots) s
          = .next (settle (u.onTdm n fun p => { p with stopAt := some (Nat.min e u.ntu.course), frameOut := [] })))
      ∧ (p.live = true → p.ending = false → c.master = false → s.mck.grid = true → p.stopAt = none →
        (p.state = 1 → clocks ≠ c.slots * c.len → ∃ t, exec (.tdmSlaveFrame dt n clocks slots) s = .next t
          ∧ (t.tdmPort n).state = 1 ∧ (t.tdmPort n).good = 0 ∧ ∀ j, j ≠ n → t.tdmPort j = s.tdmPort j)
        ∧ (∀ e, p.state = 1 → clocks = c.slots * c.len → p.good = 3 → p.lastEdge = some e →
            ((((u.ntu.course : Int) - e) * s.coreRate - 1000000000).natAbs) ≤ 10000000 →
            ∃ t, exec (.tdmSlaveFrame dt n clocks slots) s = .next t ∧ (t.tdmPort n).state = 2 ∧ (t.tdmPort n).bad = 0
              ∧ bitOf (t.reg (Reg.TDM_PORT_EVENT n)) 0 = true ∧ ∀ j, j ≠ n → t.tdmPort j = s.tdmPort j)
        ∧ (let dev := u.relEdge - p.nextIx * 1000000000 - p.offset * u.coreRate
          p.state = 2 → clocks = c.slots * c.len → p.reassign = false → -1000000000 ≤ 2 * dev → 2 * dev ≤ 1000000000 →
            ∃ t, exec (.tdmSlaveFrame dt n clocks slots) s = .next t ∧ (t.tdmPort n).state = 2 ∧ (t.tdmPort n).bad = 0
              ∧ (t.tdmPort n).nextIx = p.nextIx + 1 ∧ ∀ j, j ≠ n → t.tdmPort j = s.tdmPort j)
        ∧ (p.state = 2 → clocks ≠ c.slots * c.len → ∃ t, exec (.tdmSlaveFrame dt n clocks slots) s = .next t
          ∧ (t.tdmPort n).state = (if p.bad + 1 < 4 then 2 else 1) ∧ bitOf (t.reg (Reg.TDM_PORT_EVENT n)) 3 = true
          ∧ (p.bad + 1 < 4 → (t.tdmPort n).bad = p.bad + 1) ∧ ∀ j, j ≠ n → t.tdmPort j = s.tdmPort j))
      ∧ (p.live = true → p.state = 2 → c.master = false → p.stopAt = none →
        exec (.tdmFrameTimeout n) s = .next (settle ((fresh s).tdmSeek n))
        ∧ (((fresh s).tdmSeek n).tdmPort n).state = 1))
  ∧ (∀ (k : Pkt) (s : State),
      let w := k.params.getD 0 0
      let n := fieldOf w 8 0
      let bw := if k.x then fieldOf (k.params.getD 1 0) 2 0 else 1
      let range := if k.x then fieldOf (k.params.getD 1 0) 15 8 else 50
      let new := w32 (fieldOf w 10 9 + 2 ^ 4 * bw + 2 ^ 8 * range)
      let u := begun 0x60 k s
      (begins 0x60 k s = true →
        (tget s.srx.streams n = none → exec (.ralConfig k) s = .next (replied 0x60 k .badParam 1 [] false s (fresh s)))
        ∧ (∀ r, tget s.srx.streams n = some r →
          (r.enabled = true → fieldOf (s.ralOf n).ctrl 1 0 ≠ fieldOf w 10 9 →
            exec (.ralConfig k) s = .next (replied 0x60 k .staleWrite 1 [] false s (fresh s)))
          ∧ (r.enabled = false ∨ fieldOf (s.ralOf n).ctrl 1 0 = fieldOf w 10 9 →
            let v := (u.goodParity (bankedKey Reg.RAL_STREAM_CTRL n)).onRal n fun l => { l with ctrl := new }
            exec (.ralConfig k) s
              = .next (replied 0x60 k .ok 0 [v.ralStatusWord n] (decide (new ≠ (s.ralOf n).ctrl)) s v))))
      ∧ (begins 0x61 k s = true →
          exec (.ralQuery k) s = .next (replied 0x61 k .ok 0 (ralBody (begun 0x61 k s) k.x n) false s (fresh s)))
      ∧ (∀ i, (s.ralOf i).state = .acquire → exec (.ralLock i) s
          = .next (settle (((fresh s).onRal i fun r => { r with state := .locked }).ralFlag i 0)))
      ∧ (∀ i, (s.ralOf i).state = .locked → exec (.ralHold i) s
          = .next (settle (((fresh s).onRal i fun r => { r with state := .hold }).ralFlag i 2))))

/-- `CASCADE_CONFIG` (R601, R621, R625, R632, R633): SETUP sets the link's configuration, a change of its latency with a port
enabled being STALE_WRITE, and is REFUSED on a Solo; TUNNEL and LANES are for a Cox alone, else NOT_COX; TUNNEL without a way
to its Seat is REFUSED, and with one its packet leaves and the command waits for the inner reply; LANES sets the owners, at
once with the grid stopped and else from the stroke that completes the command; WAKE sends the wake pattern on the ports
named that are not in RUN, and is REFUSED on a Solo. `CASCADE_STATUS` (R634) answers its words and changes nothing; its
expert form is for a Cox alone. The other events of the Obien link (R604, R605, R610, R622, R623, R626, R627): training ends
in LINK with a frame sent; a blocked port whose cause has gone goes on to TIME; the timer sends a DELAY request in TIME and
RUN alone; a loss has the port train again and is counted, and one in RUN has its event and its reach gone; a conflict that
has gone lets the held replies leave on a Cox side in RUN; a Seat in a broken ring moves its Cox side to DN, and back to UP
where that leads to a Cox again; without loopbacks, a TUNNEL packet of one frame for this Seat reaches the Command Processor,
and one that replies to a Cox's waiting command answers it with OK; and a tunnel without a reply ends with REFUSED. The
model's reading or choice stands in log entries 112, 114. -/
def Obligations.OblLinkComplete : Prop :=
  (∀ (k : Pkt) (s : State),
      let p := k.params
      let w := p.getD 0 0
      (begins 0x68 k s = true →
        (cascadeForm p = 0 → s.role = 0 → exec (.cascadeConfig k) s = .next (replied 0x68 k .refused 0 [3] false s (fresh s)))
        ∧ (cascadeForm p = 0 → s.role ≠ 0 →
            (bitOf (s.reg Reg.OBL_CFG) 2 = bitOf (setupWord k.x p) 2 ∨ s.regField Reg.OBL_CFG 1 0 = 0) →
            ∃ t r, exec (.cascadeConfig k) s = .next t ∧ t.reg Reg.OBL_CFG = setupWord k.x p ∧ t.cmd.held = s.cmd.held ++ [r]
              ∧ r.tag = k.tag ∧ r.status = .ok ∧ (k.x = true → bitOf (p.getD 1 0) 1 = true → s.role = 2 → t.obl.posValid = false))
        ∧ (cascadeForm p = 0 → s.role ≠ 0 → bitOf (s.reg Reg.OBL_CFG) 2 ≠ bitOf (setupWord k.x p) 2 →
            s.regField Reg.OBL_CFG 1 0 ≠ 0 →
            exec (.cascadeConfig k) s = .next (replied 0x68 k .staleWrite 1 [] false s (fresh s)))
        ∧ ((cascadeForm p = 1 ∨ cascadeForm p = 2) → s.role ≠ 1 →
            exec (.cascadeConfig k) s = .next (replied 0x68 k .notCox 0 [] false s (fresh s)))
        ∧ (cascadeForm p = 1 → s.role = 1 →
          (s.portTo (fieldOf w 4 2) = none ∨ s.obl.conflict = true →
            exec (.cascadeConfig k) s = .next (replied 0x68 k .refused 0 [1] false s (fresh s)))
          ∧ (∀ q, s.portTo (fieldOf w 4 2) = some q → s.obl.conflict = false → ∃ t f, exec (.cascadeConfig k) s = .next t
              ∧ t.cmd.flights = [f] ∧ f.fin = .tunnelled (fieldOf w 4 2) ∧ f.phase = .committed ∧ f.tag = k.tag
              ∧ t.obl.sent.map Prod.fst = List.replicate ((p.length + 11) / 13) q))
        ∧ (cascadeForm p = 2 → s.role = 1 →
            let first := fieldOf (p.getD 1 0) 8 0
            let count := fieldOf (p.getD 1 0) 18 9
            let owner := fieldOf (p.getD 1 0) 22 19
            (s.mck.grid = false → ∃ t r, exec (.cascadeConfig k) s = .next t
              ∧ t.cmd.held = s.cmd.held ++ [r] ∧ r.status = .ok ∧ r.body = [0] ∧ t.obl.sent = []
              ∧ ∀ l, first ≤ l → l < first + count → tget t.obl.owners l = (if owner < 8 then some owner else none))
            ∧ (s.mck.grid = true → ∃ t f, exec (.cascadeConfig k) s = .next t ∧ t.cmd.flights = [f] ∧ f.fin = .lanes
              ∧ f.phase = .committed ∧ f.tag = k.tag ∧ t.cmd.held = s.cmd.held ∧ t.obl.owners = s.obl.owners
              ∧ t.obl.ownersNext = s.obl.ownersNext ++ [(s.laneWait, first, List.replicate count owner)]))
        ∧ (cascadeForm p = 3 → s.role = 0 → exec (.cascadeConfig k) s = .next (replied 0x68 k .refused 0 [3] false s (fresh s)))
        ∧ (cascadeForm p = 3 → s.role ≠ 0 →
            let go := fun (q : Nat) => bitOf w (2 + q) && !(s.oblRun q)
            ∃ t r, exec (.cascadeConfig k) s = .next t ∧ t.cmd.held = s.cmd.held ++ [r] ∧ r.status = .ok
              ∧ r.body = [w32 (b2n (go 0) + 2 * b2n (go 1))] ∧ t.obl.waked.getLsbD 0 = go 0 ∧ t.obl.waked.getLsbD 1 = go 1))
      ∧ (begins 0x69 k s = true →
          let die := (tgetD s.obl.seatInfo (fieldOf w 2 0) {}).die
          (k.x = true → s.role ≠ 1 → exec (.cascadeStatus k) s = .next (replied 0x69 k .notCox 0 [] false s (fresh s)))
          ∧ (k.x = true → s.role = 1 → exec (.cascadeStatus k) s = .next (replied 0x69 k .ok 0
              [s.seatStatus (fieldOf w 2 0), w32 (die / 2 ^ 32), w32 die] false s (fresh s)))
          ∧ (k.x = false → exec (.cascadeStatus k) s = .next (replied 0x69 k .ok 0
              [s.oblStatus, s.oblPortStatus 0, s.oblPortStatus 1, satWord (s.oblDelay 0), satWord (s.oblDelay 1), s.oblHopErr,
                w32 (s.oblCoxId / 2 ^ 32), w32 s.oblCoxId] false s (fresh s)))))
  ∧ (∀ (q : Nat) (s : State), q < 2 → s.obl.ports.length = 2 →
      ((s.oblPort q).state = 1 → ∃ t b, exec (.oblTrainComplete q) s = .next t ∧ (t.oblPort q).state = 2
        ∧ (t.oblPort q).agree = 0 ∧ t.obl.sent = [(q, b)] ∧ t.oblPort (1 - q) = s.oblPort (1 - q))
      ∧ ((s.oblPort q).state = 5 → (s.oblPort q).cause ≠ 3 → s.linkConflict q (s.oblPort q).peer = false →
          s.posCause q (s.oblPort q).peer ≠ 2 → exec (.oblBlockedClear q) s
            = .next (settle ((fresh s).onObl q fun p => { p with state := 3, cause := 0, delays := [] })))
      ∧ ((s.oblPort q).state ≠ 3 → (s.oblPort q).state ≠ 4 → exec (.oblDelayTimer q) s = .next (settle (fresh s)))
      ∧ ((s.oblPort q).state = 3 ∨ (s.oblPort q).state = 4 → ∃ t b, exec (.oblDelayTimer q) s = .next t
          ∧ t.obl.sent = [(q, b)] ∧ (t.oblPort q).asked = some ((s.oblPort q).nextId, s.oblTx q)
          ∧ (t.oblPort q).nextId = ((s.oblPort q).nextId + 1) % 65536)
      ∧ (∀ leaving, ((s.oblPort q).state = 0 → exec (.oblLinkLoss q leaving) s = .next (settle (fresh s)))
        ∧ ((s.oblPort q).state ≠ 0 → ∃ t, exec (.oblLinkLoss q leaving) s = .next t ∧ (t.oblPort q).state = 1
          ∧ t.reg (Reg.OBL_DOWN_COUNT q) = w32 (satNat 0xFFFFFFFF ((s.reg (Reg.OBL_DOWN_COUNT q)).toNat + 1))
          ∧ ((s.oblPort q).state = 4 → (t.oblPort q).peerLeaving = leaving ∧ (t.oblPort q).reach = 0
              ∧ t.bit Reg.OBL_EVENT 1 = true)))
      ∧ (s.obl.heldReplies = [] → exec .oblConflictClear s
          = .next (settle { fresh s with obl := { (fresh s).obl with conflict := false } }))
      ∧ (s.oblRun s.coxSide = true →
          ∃ t, exec .oblConflictClear s = .next t ∧ t.obl.conflict = false ∧ t.obl.heldReplies = [] ∧ t.cmd = s.cmd)
      ∧ (s.role = 2 →
        (s.obl.coxDn = false → s.obl.ring = true → s.obl.cut = true ∨ (s.oblPort 0).state ≠ 4 → (s.oblPort 1).state = 4 →
          ∃ t, exec .oblCoxSideSwitch s = .next t ∧ t.obl.coxDn = true ∧ t.obl.frozen = true
            ∧ t.obl.coxId = (s.oblPort 1).peer.cox ∧ t.bit Reg.OBL_EVENT 6 = true)
        ∧ (s.obl.coxDn = true → (s.oblPort 0).state = 4 → (s.oblPort 0).peerUp = false → (s.oblPort 0).peer.cox ≠ 0 →
          ∃ t, exec .oblCoxSideSwitch s = .next t ∧ t.obl.coxDn = false ∧ t.obl.frozen = true
            ∧ t.obl.coxId = (s.oblPort 0).peer.cox ∧ t.bit Reg.OBL_EVENT 6 = true))
      ∧ (∀ bs f, readObl bs = some f → oblFieldsOk f = true → f.typ = 7 → (s.oblPort q).state = 4 →
          s.obl.conflict = false → f.index / 128 % 64 = 0 → (∀ i, s.tst.points.getD i 0 = 0) →
          (s.role = 2 → q = s.coxSide → s.obl.posValid = true → f.index / 8192 = s.obl.pos → f.flags = 1 → s.takes = false →
            ∃ t, exec (.oblTunnelFrame q bs) s = .next t
              ∧ t.cmd.tunnelIn = s.cmd.tunnelIn ++ [(f.stroke, tunnelWords f)] ∧ t.regs = s.regs)
          ∧ (∀ g p, s.role = 1 → f.flags = 3 → s.cmd.flights = [g] → g.phase = .committed →
            g.fin = .tunnelled (f.index / 8192) → g.tag.toNat = f.stroke → g.src = .path p → s.cmd.restarting = false →
            ∃ t r, exec (.oblTunnelFrame q bs) s = .next t ∧ t.cmd.flights = [] ∧ t.cmd.held = s.cmd.held ++ [r]
              ∧ r.tag = g.tag ∧ r.status = .ok ∧ r.body = outerBody (tunnelWords f)))
      ∧ (∀ f p seat, s.cmd.flights = [f] → f.phase = .committed → f.fin = .tunnelled seat → f.src = .path p →
          s.cmd.restarting = false → ∃ t r, exec (.tunnelWaitExpired f.tag) s = .next t ∧ t.cmd.flights = []
            ∧ t.cmd.held = s.cmd.held ++ [r] ∧ r.tag = f.tag ∧ r.status = .refused ∧ r.body = [2]))

/-- An Obien frame (R605 to R608, R610, R663), as a row of its own kind brings it: with a near-end loopback the oldest frame that
was sent comes in its place, and nothing where none was. Without loopbacks, one with a bad CRC counts, and the sixteenth in
succession ends the link; one that fails the checks of its fields counts as bad; a LINK frame from the Cox, the fourth that
agrees, gives an unplaced Seat its position and the port TIME; a DELAY request in RUN is answered, and a response gives the
hop delay of the exchange that was asked. The frames of time and audio on Obien ports in RUN without loopbacks (R607, R611,
R612, R617, R619): a Seat takes the Cox's rate from SYNC, and where it follows Cox time the first SYNC with valid time is
noted with its EPOCH; a LANE frame of a lane's owner waits for the Catch; a RELAY_UP at a Cox with that one arm makes the
total of a cascade bus, and a RELAY_DN gives it to a Seat. The model's reading or choice stands in log entries 112, 113. -/
def Obligations.OblFramesComplete : Prop :=
  (∀ (dt q : Nat) (bs : List Byte) (s : State), q < 2 → s.role ≠ 0 → s.obl.ports.length = 2 → 2 ≤ (s.oblPort q).state →
      let u := (fresh s).advance dt
      (s.nearLoop (2 + q) = true →
        ((s.oblPort q).loop = [] → exec (.oblLinkFrame q bs) s = .next (settle (fresh s))
          ∧ exec (.oblDelayFrame dt q bs) s = .next (settle u))
        ∧ ∀ b rest, (s.oblPort q).loop = b :: rest → exec (.oblLinkFrame q bs) s
            = .next (settle (oblFrameIn q b ((fresh s).onObl q fun p => { p with loop := rest }))))
      ∧ ((∀ i, s.tst.points.getD i 0 = 0) →
      (readObl bs = none → 15 ≤ (s.oblPort q).crcRun → ∃ t, exec (.oblLinkFrame q bs) s = .next t ∧ (t.oblPort q).state = 1
        ∧ t.reg (Reg.OBL_DOWN_COUNT q) = w32 (satNat 0xFFFFFFFF ((s.reg (Reg.OBL_DOWN_COUNT q)).toNat + 1)))
      ∧ (readObl bs = none → (s.oblPort q).crcRun < 15 → ∃ t, exec (.oblLinkFrame q bs) s = .next t
        ∧ (t.oblPort q).crcRun = (s.oblPort q).crcRun + 1 ∧ (t.oblPort q).state = (s.oblPort q).state
        ∧ t.oblPort (1 - q) = s.oblPort (1 - q))
      ∧ (∀ f, readObl bs = some f →
        (oblFieldsOk f = false → ∃ t, exec (.oblLinkFrame q bs) s = .next t
          ∧ t.reg Reg.OBL_BAD = w32 (satNat 0xFFFFFFFF ((s.reg Reg.OBL_BAD).toNat + 1)) ∧ (t.oblPort q).crcRun = 0)
        ∧ (oblFieldsOk f = true → f.typ = 2 → f.flags % 2 = 0 → q = 0 → s.role = 2 → s.obl.coxDn = false →
            (s.oblPort 0).state = 2 → (s.oblPort 0).agree = 3 → (s.oblPort 1).state = 0 → s.obl.posValid = false →
            (linkInfo f).role = 1 → (linkInfo f).role = (s.oblPort 0).peer.role → (linkInfo f).pos = (s.oblPort 0).peer.pos →
            (linkInfo f).cox = (s.oblPort 0).peer.cox → ∃ t, exec (.oblLinkFrame q bs) s = .next t
              ∧ (t.oblPort 0).state = 3 ∧ t.obl.pos = 1 ∧ t.obl.posValid = true ∧ t.obl.coxId = (linkInfo f).cox
              ∧ t.oblPort 1 = s.oblPort 1)
        ∧ (oblFieldsOk f = true → f.typ = 3 → (s.oblPort q).state = 4 →
          (f.flags % 2 = 0 → ∃ t b, exec (.oblDelayFrame dt q bs) s = .next t ∧ t.obl.sent = [(q, b)]
            ∧ (t.oblPort q).delays = (s.oblPort q).delays)
          ∧ (∀ t1, f.flags % 2 = 1 → (s.oblPort q).asked = some (f.index, t1) → ∃ t d, exec (.oblDelayFrame dt q bs) s = .next t
            ∧ (t.oblPort q).asked = none ∧ (t.oblPort q).delays = (d :: (s.oblPort q).delays).take 16
            ∧ d = (((u.oblRx q : Int) - t1) - ((beAt f.payload 8 8 : Int) - beAt f.payload 0 8)) * 500)))))
  ∧ (∀ (dt q : Nat) (bs : List Byte) (f : OblFrame) (s : State), q < 2 → s.obl.ports.length = 2 → (s.oblPort q).state = 4 →
      readObl bs = some f → oblFieldsOk f = true → s.obl.conflict = false → (∀ i, s.tst.points.getD i 0 = 0) →
      (f.typ = 1 → s.role = 2 → q = s.coxSide → ∃ t, exec (.oblSyncReceived dt q bs) s = .next t
        ∧ t.obl.coxRate = beAt f.payload 20 1 % 8
        ∧ (s.bit Reg.OBL_CFG 2 = true → s.obl.syncSeen = false → (beAt f.payload 20 1).testBit 3 = true →
            t.obl.syncSeen = true ∧ t.obl.coxEpoch = beAt f.payload 20 1 / 16))
      ∧ (f.typ = 4 → s.role ≠ 0 → f.origin ≠ s.oblPos → f.flags % 4 = 1 → tget s.obl.owners f.index = some f.origin →
        ∃ t e, exec (.oblLaneFrame q bs) s = .next t ∧ tget t.obl.lanes (2 * f.index + f.stroke % 2) = some e
          ∧ e.stroke = f.stroke ∧ e.groups = groupsAt (slice f.payload 0 (21 * s.strokeGroups + 4)) 0 s.strokeGroups)
      ∧ (f.typ = 5 → s.role = 1 → f.stroke = s.relayStroke → s.isArm q = true → s.isArm (1 - q) = false →
        s.isCascade f.index = true → ∃ t x, exec (.oblRelayUp q bs) s = .next t ∧ tget t.obl.totals f.index = some x
          ∧ x.stroke = f.stroke ∧ x.n = (s.ownPartial f.index (f.flags % 2)).2.1 + beAt f.payload 48 3)
      ∧ (f.typ = 6 → s.role = 2 → q = s.coxSide → ∃ t x, exec (.oblRelayDn q bs) s = .next t
        ∧ tget t.obl.totals f.index = some x ∧ x.stroke = f.stroke ∧ x.n = beAt f.payload 48 3))

/-- `PATCH_LOAD` (R651, R655): a chunk at another offset than the length so far is REFUSED with its result; else it is appended,
after FIRST to nothing, and the LAST chunk has the image verified. `PATCH_SWAP` (R652, R656): with a staged image the banks
change and the Command Processor restarts with the command waiting; with none it is REFUSED. The ends of a verification, a
swap and a test (R265, R651, R653, R664): an image is staged just where it passes, and its command answered so; a bank that
does not become ready is rolled back and the Command Processor restarts; and the tests' end answers the command, with spares
that failed retired. The model's reading or choice stands in log entries 115, 116, 117, 118. -/
def Obligations.PatchCommandsComplete : Prop :=
  (∀ (k : Pkt) (s : State), s.patch.banks.length = 2 →
      let w := k.params.getD 0 0
      let data := k.params.drop (if k.x then 2 else 1)
      let had := if bitOf w 16 then [] else s.inactive.words
      (begins 0x70 k s = true → s.patch.active < 2 →
        (fieldOf w 15 0 ≠ had.length → ∃ t r, exec (.patchLoad k) s = .next t ∧ t.cmd.held = s.cmd.held ++ [r]
          ∧ r.status = .refused ∧ t.patch = { s.patch with lastResult := 7 } ∧ t.cmd.gen = s.cmd.gen)
        ∧ (fieldOf w 15 0 = had.length → had.length + data.length ≤ 49152 →
          ∃ t, exec (.patchLoad k) s = .next t ∧ t.inactive.words = had ++ data ∧ t.patch.active = s.patch.active
            ∧ t.patchBank s.patch.active = s.patchBank s.patch.active ∧ t.patch.level = s.patch.level
            ∧ (bitOf w 17 = false → ∃ r, t.cmd.held = s.cmd.held ++ [r] ∧ r.status = .ok)
            ∧ (bitOf w 17 = true → t.patch.verifying = true ∧ ∃ f, t.cmd.flights = [f] ∧ f.fin = .verify)))
      ∧ (begins 0x71 k s = true → (k.x && bitOf w 0) = false →
        (s.inactive.staged = false → exec (.patchSwap k) s = .next (replied 0x71 k .refused 0 [1] false s (fresh s)))
        ∧ (s.inactive.staged = true → ∃ t f, exec (.patchSwap k) s = .next t ∧ t.patch.active = s.idleBank
          ∧ t.patch.level = s.inactive.level ∧ t.patch.busy = true ∧ t.cmd.ready = false ∧ t.cmd.restarting = true
          ∧ t.cmd.flights = [f] ∧ f.fin = .patchSwap ∧ f.phase = .committed ∧ t.cmd.gen = s.cmd.gen + 1)))
  ∧ (∀ (s : State) (f : Flight) (p : Path), s.cmd.flights = [f] → f.src = .path p → f.phase = .committed →
      s.cmd.restarting = false →
      (s.patch.verifying = true → f.fin = .verify → s.patch.banks.length = 2 → s.patch.active < 2 →
        let r := if imageCrcBad f s.inactive.words then 6 else patchVerify s.keyHash s.inactive.words
        ∃ t q, exec .patchVerifyDone s = .next t ∧ t.inactive.staged = decide (r = 1) ∧ t.patch.verifying = false
          ∧ t.patch.lastResult = r ∧ t.cmd.held = s.cmd.held ++ [q] ∧ q.tag = f.tag
          ∧ q.status = (if r = 1 then .ok else .refused) ∧ t.cmd.flights = [])
      ∧ (∀ u : State, u.patch.busy = true → u.cmd.restarting = true → u.patch.rollback = false → ∃ t,
        exec .patchRollback u = .next t ∧ t.patch.level = u.patch.before ∧ t.patch.active = u.patch.prevActive
          ∧ t.patch.rollback = true ∧ t.cmd.restarting = true ∧ t.cmd.ready = false ∧ t.bit Reg.PMU_UMP_EVENT 7 = true)
      ∧ (∀ w bad errs, s.tst.bist = some w → f.fin = .bist → ∃ t q, exec (.bistComplete bad errs) s = .next t
        ∧ t.tst.bist = none ∧ t.cmd.held = s.cmd.held ++ [q] ∧ q.tag = f.tag ∧ q.status = .ok ∧ t.cmd.flights = []
        ∧ (bitOf w 0 = true → ∀ b, b ∈ s.spareBanks → b < 42 → bad.getLsbD b = true → t.buf.retired.getLsbD b = true)))

/-- The test commands, in TEST (R662 to R665): `LOOPBACK` sets a port's loop point and answers its status; `BIST` starts the
tests and waits for them; `FAULT_INJECT` raises the fault named, marked as injected, under the fault's own policy. The
Umpire's checks (R158 to R160, R640, R641, R643, R644, R647, R649): a visit to a register whose parity holds finds nothing,
and the last one ends the pass; an upset that turns a register's parity is found, and a visit to such a register shows it and
raises CFG_PARITY until it is rewritten; a bad entry of a unit memory is kept out and raises UNIT_MEM; the temperature shows,
and one at the trip threshold raises its fault; a watchdog under RESTART restarts the Command Processor and counts a strike;
and a window that closes logs what it has counted, or is gone. The model's reading or choice stands in log entries 64, 66. -/
def Obligations.TestAndUmpireComplete : Prop :=
  (∀ (k : Pkt) (s : State), s.mode = .test →
      let w := k.params.getD 0 0
      (begins 0xE0 k s = true → s.tst.points.length = 4 → ∃ t r, exec (.loopback k) s = .next t
        ∧ t.tst.points = s.tst.points.set (fieldOf w 2 0) (fieldOf w 4 3) ∧ t.cmd.held = s.cmd.held ++ [r]
        ∧ r.tag = k.tag ∧ r.status = .ok
        ∧ r.body = [if fieldOf w 2 0 < 2 then t.npStatus (fieldOf w 2 0) else t.oblPortStatus (fieldOf w 2 0 - 2)]
        ∧ (∀ j, j ≠ fieldOf w 2 0 → t.port j = s.port j) ∧ t.drv = s.drv ∧ t.regs = s.regs)
      ∧ (begins 0xE1 k s = true → exec (.bist k) s = .next (inFlight 0xE1 k .committed .bist [] (dueOf s .bist) false s
          { fresh s with tst := { s.tst with bist := some w } }))
      ∧ (begins 0xE2 k s = true → fieldOf w 7 0 ≠ 6 → exec (.faultInject k) s = .next (replied 0xE2 k .ok 0 [] false s
          ((begun 0xE2 k s).raise (fieldOf w 7 0) (fieldOf w 11 8) (if k.x then k.params.getD 1 0 else 0) true))))
  ∧ (∀ (s : State), clocked s.mode = true →
      (∀ a u, isConfigReg a = true → u &&& configMask a = 0 → (s.misparity.any fun k => decide (k % 2 ^ 20 = a)) = false →
        (a ≠ lastConfigReg → exec (.parityCheckVisit a u) s = .next (settle (fresh s)))
        ∧ (a = lastConfigReg → ∃ t, exec (.parityCheckVisit a u) s = .next t ∧ t.ump.passBad = false
          ∧ t.ump.cond.getLsbD 1 = (s.ump.passBad && s.ump.cond.getLsbD 1) ∧ t.regs = s.regs))
      ∧ (∀ a u, isConfigReg a = true → a ≠ lastConfigReg →
        ((upsetReg a u s).misparity.any fun k => decide (k % 2 ^ 20 = a)) = true → ∃ t, exec (.parityCheckVisit a u) s = .next t
        ∧ t.regField Reg.GLB_PARITY 19 0 = a ∧ t.bit Reg.PMU_UMP_EVENT 1 = true ∧ t.ump.cond.getLsbD 1 = true
        ∧ t.ump.passBad = true ∧ t.misparity = (upsetReg a u s).misparity)
      ∧ (∀ a u, a < 2 ^ 20 → isBanked a = false → oddOnes (u &&& configMask a) = true → s.misparity.contains a = false →
        (upsetReg a u s).misparity = s.misparity ++ [a] ∧ (upsetReg a u s).reg a = s.reg a ^^^ (u &&& configMask a)
        ∧ ∀ v, ((upsetReg a u s).setReg a v).misparity = s.misparity)
      ∧ (∀ e : Nat × Nat, has s.ump.badMem e = false → e.1 = 1 ∨ e.1 = 2 ∨ e.1 = 3 → ∃ t, exec (.unitMemParityPass [e]) s = .next t
        ∧ t.ump.badMem = s.ump.badMem ++ [e] ∧ t.bit Reg.PMU_UMP_EVENT 4 = true ∧ t.ump.cond.getLsbD 4 = true)
      ∧ exec (.unitMemParityPass []) s = .next (settle (fresh s))
      ∧ (∀ tj : Int, ∃ t, exec (.temperatureSample tj) s = .next t ∧ t.regField Reg.PMU_UMP_TEMP 15 0 = unsgn 16 tj
        ∧ (s.tempCfg.2.1 ≤ tj → s.ump.cond.getLsbD 9 = false → t.bit Reg.PMU_UMP_EVENT 9 = true
            ∧ t.ump.cond.getLsbD 9 = true)
        ∧ (tj < s.tempCfg.1 → tj < s.tempCfg.2.1 → s.ump.cond.getLsbD 8 = false → s.ump.cond.getLsbD 9 = false →
            t.ump = s.ump ∧ t.pmu = s.pmu))
      ∧ (s.cmd.ready = true → s.strikesNow.length < 2 → s.policy 6 = 2 → ∃ t, exec .cmdWatchdog s = .next t
        ∧ t.cmd.ready = false ∧ t.cmd.restarting = true ∧ t.cmd.cause = 6 ∧ t.bit Reg.PMU_UMP_EVENT 6 = true
        ∧ t.ump.strikes = s.strikesNow ++ [s.ntu.course] ∧ t.mode = s.mode)
      ∧ (∀ c w, tget s.ump.windows c = some w →
        (w.count = 0 → exec (.faultLogWindowClose c) s
          = .next (settle { fresh s with ump := { s.ump with windows := terase s.ump.windows c } }))
        ∧ (w.count ≠ 0 → ∃ t, exec (.faultLogWindowClose c) s = .next t ∧ tget t.ump.windows c = some {}
            ∧ t.ump.seq = (s.ump.seq + 1) % 2 ^ 16 ∧ t.reg Reg.PMU_UMP_LAST_DETAIL = w.detail ∧ t.ump.active = s.ump.active)))

/-- Narrow accesses (R154), on every path that reaches the register windows (a PCIe request through another window or of more
than 8 bytes reaches none): a narrow write to a KEY, RC or W1P register is ignored whole and sets GLB_ERR.PARTIAL; a write or
a read with no byte enable set has no effect and clears nothing, and is not an error. -/
def Obligations.NarrowAccesses : Prop :=
  (∀ (p : Path) (a view : Nat) (be : BitVec 4) (v : Word) (row : RegRow) (req : PcieReq) (s : State),
    s.beside p req = false → a < 0x40000 → busCanon a = a → view < 4 → regRow a = some row → s.coreAnswers = true → be ≠ 0 → be ≠ 0xF →
    (row.key = true ∨ row.rc ≠ 0 ∨ row.w1p ≠ 0) →
    ∃ t, exec (.registerWrite ⟨p, req⟩ (a + 0x1000 * view) be v) s = .next t ∧ t.bit Reg.GLB_ERR 1 = true
      ∧ (∀ b, b ≠ Reg.GLB_ERR → b ≠ Reg.GLB_ERR_ADDR → t.reg b = s.reg b)
      ∧ t.mck = s.mck ∧ t.pmu = s.pmu ∧ t.cmd = s.cmd ∧ t.buf = s.buf ∧ t.np = s.np ∧ t.srx = s.srx ∧ t.stx = s.stx)
  ∧ (∀ (p : Path) (addr : Nat) (v : Word) (req : PcieReq) (s : State), s.beside p req = false →
    exec (.registerWrite ⟨p, req⟩ addr 0 v) s = .next (settle (fresh s))
    ∧ exec (.rcRead ⟨p, req⟩ addr 0) s = .next (settle ((fresh s).driveOut [0])))

/-- The peek (R142), on every path that reaches the register windows: a read of a register through the set, clear or toggle view
answers the word that a normal-view read does, and changes nothing but the word driven. -/
def Obligations.PeekReads : Prop :=
  ∀ (p : Path) (a view : Nat) (be : BitVec 4) (req : PcieReq) (s : State), s.beside p req = false → a < 0x40000 → busCanon a = a → 0 < view → view < 4 → be ≠ 0 →
    s.answers p a = true →
    exec (.rcRead ⟨p, req⟩ (a + 0x1000 * view) be) s = .next (settle ((fresh s).driveOut [(fresh s).readReg p a]))
    ∧ ∃ t, exec (.rcRead ⟨p, req⟩ a be) s = .next t ∧ t.bus.rdata = [(fresh s).readReg p a]

/-- The keyed registers are the eight named (R150; NPx_SERDES_RESET is one for each port), and both words of each read as zero. -/
def Obligations.KeyedWords : Prop :=
  let keyed := [Reg.GLB_RESET, Reg.GLB_OTP_ACCESS, Reg.PMU_MODE_FORCE, Reg.PMU_RAIL, Reg.NP_SERDES_RESET 0,
    Reg.NP_SERDES_RESET 1, Reg.CMD_PATCH_SWAP, Reg.BUF_BANK_MAP]
  (∀ a, busCanon a = a → (isKeyValue a = true ↔ a ∈ keyed))
  ∧ (∀ (s : State) (p : Path), ∀ a ∈ keyed, s.readReg p a = 0 ∧ s.readReg p (a + 4) = 0)

/-- What an arriving item displaces (R268, R270): in overwrite mode an item that does not fit in the free space has whole items
discarded, oldest first and no more than needed, each that the consumer had not read in full counted as lost, with OVERWRITE;
one larger than the whole queue is itself discarded, counted as lost in overwrite mode, with TOO_BIG, and a reservation of it
in held mode is refused with TOO_BIG; nothing retained is discarded for it. -/
def Obligations.ItemsDisplaced : Prop :=
  ∀ (q : Queue) (it : Item), qTaken q ≤ qCap q → q.lost < 2 ^ 48 →
    let r := qAppend q it
    let held := fun (n : Nat) => ((q.items.drop n).map itemTaken).sum
    (q.hold = false → itemTaken it ≤ qCap q → qCap q < qTaken q + itemTaken it →
      ∃ n, 0 < n ∧ n ≤ q.items.length ∧ r.2 = true ∧ r.1.items = q.items.drop n ++ [it]
        ∧ held n + itemTaken it ≤ qCap q ∧ qCap q < held (n - 1) + itemTaken it
        ∧ r.1.lost = (q.lost + ((q.items.take n).filter fun x => !x.read).length) % 2 ^ 48 ∧ bitOf r.1.event 3 = true)
    ∧ (qCap q < itemTaken it → r.2 = false ∧ r.1.items = q.items ∧ bitOf r.1.event 5 = true
        ∧ r.1.lost = (if q.hold then q.lost else (q.lost + 1) % 2 ^ 48))
    ∧ (∀ (reserve : Nat) (pf : Byte), q.hold = true → qCap q < 4 + 4 * ((reserve + 3) / 4) →
        (qOpen q reserve pf).items = q.items ∧ qOpenItem (qOpen q reserve pf) = qOpenItem q
        ∧ bitOf (qOpen q reserve pf).event 5 = true)

/-- A load of the Rudder (R331) assembles the bytes of the frame from its offset on in network order, extended by zeros; a byte
whose offset is 256 or more, or not less than the frame's length less the four bytes of the FCS, reads as zero and sets OOB. -/
def Obligations.RudderLoads : Prop :=
  ∀ (d : Dispatched) (o n : Nat) (e : Engine), n ≤ 4 →
    let inside := fun (i : Nat) => i < 256 ∧ i < d.frame.bytes.length - 4
    let r := rudLoad d o n e
    r.1.toNat < 256 ^ n
    ∧ (∀ j, j < n → (inside (o + j) → r.1.toNat / 256 ^ (n - 1 - j) % 256 = (d.frame.bytes.getD (o + j) 0).toNat)
        ∧ (¬inside (o + j) → r.1.toNat / 256 ^ (n - 1 - j) % 256 = 0))
    ∧ (r.2.oob = true ↔ e.oob = true ∨ ∃ j, j < n ∧ ¬inside (o + j))
    ∧ r.2 = { e with oob := r.2.oob }
end

