-- ==== Sys2Proof/Laws/Tables.lean ====
section
/-! SUPPORT. Laws of sparse tables and lists: what a read gives after a write, and that every write keeps the canonical
form of a memory. -/
namespace Sys2Proof.Machine

/-! ## Reading after writing -/

@[simp] theorem tget_tset_self {α : Type} (t : Table α) (k : Nat) (v : α) : tget (tset t k v) k = some v := by
  induction t with
  | nil => simp [tset, tget]
  | cons e t ih =>
    obtain ⟨a, u⟩ := e
    unfold tset
    split
    · simp [tget]
    · split
      · simp [tget]
      · rename_i h
        have : ¬a = k := fun e => h (by simp [e])
        simp [tget, this, ih]

theorem tget_tset_ne {α : Type} (t : Table α) (v : α) {j k : Nat} (h : j ≠ k) : tget (tset t k v) j = tget t j := by
  induction t with
  | nil => simp [tset, tget, Ne.symm h]
  | cons e t ih =>
    obtain ⟨a, u⟩ := e
    unfold tset
    split
    · simp [tget, Ne.symm h]
    · split
      · rename_i ha
        have : k = a := by simpa using ha
        simp [tget, ← this, Ne.symm h]
      · simp [tget, ih]

@[simp] theorem tget_terase_self {α : Type} (t : Table α) (k : Nat) : tget (terase t k) k = none := by
  induction t with
  | nil => rfl
  | cons e t ih =>
    obtain ⟨a, u⟩ := e
    by_cases h : a = k
    · simp [terase, h, ih]
    · simp [terase, tget, h, ih]

theorem tget_terase_ne {α : Type} (t : Table α) {j k : Nat} (h : j ≠ k) : tget (terase t k) j = tget t j := by
  induction t with
  | nil => rfl
  | cons e t ih =>
    obtain ⟨a, u⟩ := e
    by_cases ha : a = k
    · simp [terase, tget, ha, Ne.symm h, ih]
    · simp [terase, tget, ha, ih]

@[simp] theorem tgetD_tput_self {α : Type} [DecidableEq α] (t : Table α) (k : Nat) (v d : α) :
    tgetD (tput t k v d) k d = v := by
  unfold tput tgetD
  split <;> simp_all

theorem tgetD_tput_ne {α : Type} [DecidableEq α] (t : Table α) (v d e : α) {j k : Nat} (h : j ≠ k) :
    tgetD (tput t k v d) j e = tgetD t j e := by
  unfold tput tgetD
  split <;> simp [tget_terase_ne, tget_tset_ne, h]

theorem tget_tmod {α : Type} (t : Table α) (j k : Nat) (f : α → α) :
    tget (tmod t k f) j = if j = k then (tget t j).map f else tget t j := by
  induction t with
  | nil => simp [tmod, tget]
  | cons e t ih =>
    obtain ⟨a, u⟩ := e
    simp only [tmod, List.map_cons] at ih ⊢
    by_cases ha : a = k <;> by_cases hj : a = j <;> simp_all [tget]

@[simp] theorem tget_tmod_self {α : Type} (t : Table α) (k : Nat) (f : α → α) :
    tget (tmod t k f) k = (tget t k).map f := by simp [tget_tmod]

/-- Element `i` after the change of element `j`. -/
theorem getElem?_listMod {α : Type} (l : List α) (i j : Nat) (f : α → α) :
    (listMod l j f)[i]? = if i = j then l[i]?.map f else l[i]? := by
  induction l generalizing i j with
  | nil => simp [listMod]
  | cons x xs ih =>
    cases j with
    | zero => cases i <;> simp [listMod]
    | succ j => cases i <;> simp [listMod, ih]

@[simp] theorem length_listMod {α : Type} (l : List α) (j : Nat) (f : α → α) : (listMod l j f).length = l.length := by
  induction l generalizing j with
  | nil => simp [listMod]
  | cons x xs ih => cases j <;> simp [listMod, ih]

theorem getD_listMod_self {α : Type} (l : List α) (i : Nat) (f : α → α) (d : α) (h : i < l.length) :
    (listMod l i f).getD i d = f (l.getD i d) := by
  rw [List.getD_eq_getElem?_getD, List.getD_eq_getElem?_getD, getElem?_listMod]
  simp [h]

theorem getD_listMod_ne {α : Type} (l : List α) (f : α → α) (d : α) {i j : Nat} (h : i ≠ j) :
    (listMod l j f).getD i d = l.getD i d := by
  simp [List.getD, getElem?_listMod, h]

/-! ## The canonical form -/

/-- Strictly rising keys rise from a lower start too. -/
theorem risingFrom_mono {α : Type} {a b : Nat} (t : List (Nat × α)) (h : a ≤ b) (ht : risingFrom (some b) t = true) :
    risingFrom (some a) t = true := by
  cases t with
  | nil => rfl
  | cons e t =>
    obtain ⟨k, v⟩ := e
    simp only [risingFrom, Bool.and_eq_true, decide_eq_true_eq] at ht ⊢
    exact ⟨by omega, ht.2⟩

theorem risingFrom_tset {α : Type} (t : Table α) (k : Nat) (v : α) (lo : Option Nat) (hlo : ∀ j, lo = some j → j < k)
    (h : risingFrom lo t = true) : risingFrom lo (tset t k v) = true := by
  induction t generalizing lo with
  | nil => cases lo <;> simp_all [tset, risingFrom]
  | cons e t ih =>
    obtain ⟨a, u⟩ := e
    have htail : risingFrom (some a) t = true := by cases lo <;> simp_all [risingFrom]
    unfold tset
    split
    · cases lo <;> simp_all [risingFrom]
    · split
      · rename_i _ hk
        have hk : k = a := by simpa using hk
        subst hk
        cases lo <;> simp_all [risingFrom]
      · rename_i h1 h2
        have hak : a < k := by
          have : ¬k = a := by simpa using h2
          omega
        have := ih (some a) (by intro j hj; cases hj; exact hak) htail
        cases lo <;> simp_all [risingFrom]

theorem risingFrom_terase {α : Type} (t : Table α) (k : Nat) (lo : Option Nat) (h : risingFrom lo t = true) :
    risingFrom lo (terase t k) = true := by
  induction t generalizing lo with
  | nil => cases lo <;> rfl
  | cons e t ih =>
    obtain ⟨a, u⟩ := e
    have htail : risingFrom (some a) t = true := by cases lo <;> simp_all [risingFrom]
    have ha := ih (some a) htail
    unfold terase
    split
    · cases lo with
      | none =>
        cases h2 : terase t k with
        | nil => rfl
        | cons e' t' =>
          obtain ⟨b, w⟩ := e'
          rw [h2] at ha
          simp_all [risingFrom]
      | some j =>
        have : j < a := by simp_all [risingFrom]
        exact risingFrom_mono _ (by omega) ha
    · cases lo <;> simp_all [risingFrom]

theorem all_tset {α : Type} (p : Nat × α → Bool) (t : Table α) (k : Nat) (v : α) (hv : p (k, v) = true)
    (h : t.all p = true) : (tset t k v).all p = true := by
  induction t with
  | nil => simp [tset, hv]
  | cons e t ih =>
    obtain ⟨a, u⟩ := e
    simp only [List.all_cons, Bool.and_eq_true] at h
    unfold tset
    split
    · simp only [List.all_cons, Bool.and_eq_true]; exact ⟨hv, h.1, h.2⟩
    · split
      · simp only [List.all_cons, Bool.and_eq_true]; exact ⟨hv, h.2⟩
      · simp only [List.all_cons, Bool.and_eq_true]; exact ⟨h.1, ih h.2⟩

theorem all_terase {α : Type} (p : Nat × α → Bool) (t : Table α) (k : Nat) (h : t.all p = true) :
    (terase t k).all p = true := by
  induction t with
  | nil => rfl
  | cons e t ih =>
    obtain ⟨a, u⟩ := e
    simp only [List.all_cons, Bool.and_eq_true] at h
    unfold terase
    split
    · exact ih h.2
    · simp only [List.all_cons, Bool.and_eq_true]; exact ⟨h.1, ih h.2⟩

/-- A write keeps the canonical form of a memory. -/
theorem Memory.wf_tput (m : List Host.Cell) (k : Nat) (v : Byte) (h : Memory.wf m = true) :
    Memory.wf (tput m k v 0) = true := by
  simp only [Memory.wf, Bool.and_eq_true] at h ⊢
  unfold tput
  split
  · exact ⟨risingFrom_terase _ _ _ h.1, all_terase _ _ _ h.2⟩
  · rename_i hv
    exact ⟨risingFrom_tset _ _ _ _ (by simp) h.1, all_tset _ _ _ _ (by simpa using hv) h.2⟩

/-- The memories of the state after reset are canonical. -/
theorem Memory.wf_reset : Memory.wf State.reset.buf.mem = true ∧ Memory.wf State.reset.hif.audio = true := by decide

/-- A register write keeps the canonical form of the register contents. -/
theorem regsWf_tput (t : Table Word) (a : Nat) (v : Word) (h : regsWf t = true) :
    regsWf (tput t a v (regReset a)) = true := by
  simp only [regsWf, Bool.and_eq_true] at h ⊢
  unfold tput
  split
  · exact ⟨risingFrom_terase _ _ _ h.1, all_terase _ _ _ h.2⟩
  · rename_i hv
    exact ⟨risingFrom_tset _ _ _ _ (by simp) h.1, all_tset _ _ _ _ (by simpa using hv) h.2⟩

end Sys2Proof.Machine
end

