-- ==== Sys2Proof/Laws/State.lean ====
section
/-! SUPPORT. One law per field of the state and update of it: an update leaves every field but its own as it was. No proof
needs to unfold a record update. -/
namespace Sys2Proof.Machine

variable (s : State)

/-! ## setReg -/

@[simp] theorem State.setReg_keys (a : Nat) (v : Word) : (s.setReg a v).keys = s.keys := rfl
@[simp] theorem State.setReg_misparity (a : Nat) (v : Word) : (s.setReg a v).misparity = (s.goodParity a).misparity := rfl
@[simp] theorem State.setReg_bus (a : Nat) (v : Word) : (s.setReg a v).bus = s.bus := rfl
@[simp] theorem State.setReg_pmu (a : Nat) (v : Word) : (s.setReg a v).pmu = s.pmu := rfl
@[simp] theorem State.setReg_hif (a : Nat) (v : Word) : (s.setReg a v).hif = s.hif := rfl
@[simp] theorem State.setReg_cmd (a : Nat) (v : Word) : (s.setReg a v).cmd = s.cmd := rfl
@[simp] theorem State.setReg_buf (a : Nat) (v : Word) : (s.setReg a v).buf = s.buf := rfl
@[simp] theorem State.setReg_np (a : Nat) (v : Word) : (s.setReg a v).np = s.np := rfl
@[simp] theorem State.setReg_rud (a : Nat) (v : Word) : (s.setReg a v).rud = s.rud := rfl
@[simp] theorem State.setReg_ntu (a : Nat) (v : Word) : (s.setReg a v).ntu = s.ntu := rfl
@[simp] theorem State.setReg_mck (a : Nat) (v : Word) : (s.setReg a v).mck = s.mck := rfl
@[simp] theorem State.setReg_srx (a : Nat) (v : Word) : (s.setReg a v).srx = s.srx := rfl
@[simp] theorem State.setReg_stx (a : Nat) (v : Word) : (s.setReg a v).stx = s.stx := rfl
@[simp] theorem State.setReg_ral (a : Nat) (v : Word) : (s.setReg a v).ral = s.ral := rfl
@[simp] theorem State.setReg_drv (a : Nat) (v : Word) : (s.setReg a v).drv = s.drv := rfl
@[simp] theorem State.setReg_tdm (a : Nat) (v : Word) : (s.setReg a v).tdm = s.tdm := rfl
@[simp] theorem State.setReg_obl (a : Nat) (v : Word) : (s.setReg a v).obl = s.obl := rfl
@[simp] theorem State.setReg_ump (a : Nat) (v : Word) : (s.setReg a v).ump = s.ump := rfl
@[simp] theorem State.setReg_patch (a : Nat) (v : Word) : (s.setReg a v).patch = s.patch := rfl
@[simp] theorem State.setReg_tst (a : Nat) (v : Word) : (s.setReg a v).tst = s.tst := rfl
@[simp] theorem State.setReg_otp (a : Nat) (v : Word) : (s.setReg a v).otp = s.otp := rfl
@[simp] theorem State.setReg_otpBad (a : Nat) (v : Word) : (s.setReg a v).otpBad = s.otpBad := rfl
@[simp] theorem State.setReg_free (a : Nat) (v : Word) : (s.setReg a v).free = s.free := rfl
@[simp] theorem State.setReg_pending (a : Nat) (v : Word) : (s.setReg a v).pending = s.pending := rfl

/-! ## setField -/

@[simp] theorem State.setField_keys (a hi lo v : Nat) : (s.setField a hi lo v).keys = s.keys := rfl
@[simp] theorem State.setField_misparity (a hi lo v : Nat) : (s.setField a hi lo v).misparity = (s.goodParity a).misparity := rfl
@[simp] theorem State.setField_bus (a hi lo v : Nat) : (s.setField a hi lo v).bus = s.bus := rfl
@[simp] theorem State.setField_pmu (a hi lo v : Nat) : (s.setField a hi lo v).pmu = s.pmu := rfl
@[simp] theorem State.setField_hif (a hi lo v : Nat) : (s.setField a hi lo v).hif = s.hif := rfl
@[simp] theorem State.setField_cmd (a hi lo v : Nat) : (s.setField a hi lo v).cmd = s.cmd := rfl
@[simp] theorem State.setField_buf (a hi lo v : Nat) : (s.setField a hi lo v).buf = s.buf := rfl
@[simp] theorem State.setField_np (a hi lo v : Nat) : (s.setField a hi lo v).np = s.np := rfl
@[simp] theorem State.setField_rud (a hi lo v : Nat) : (s.setField a hi lo v).rud = s.rud := rfl
@[simp] theorem State.setField_ntu (a hi lo v : Nat) : (s.setField a hi lo v).ntu = s.ntu := rfl
@[simp] theorem State.setField_mck (a hi lo v : Nat) : (s.setField a hi lo v).mck = s.mck := rfl
@[simp] theorem State.setField_srx (a hi lo v : Nat) : (s.setField a hi lo v).srx = s.srx := rfl
@[simp] theorem State.setField_stx (a hi lo v : Nat) : (s.setField a hi lo v).stx = s.stx := rfl
@[simp] theorem State.setField_ral (a hi lo v : Nat) : (s.setField a hi lo v).ral = s.ral := rfl
@[simp] theorem State.setField_drv (a hi lo v : Nat) : (s.setField a hi lo v).drv = s.drv := rfl
@[simp] theorem State.setField_tdm (a hi lo v : Nat) : (s.setField a hi lo v).tdm = s.tdm := rfl
@[simp] theorem State.setField_obl (a hi lo v : Nat) : (s.setField a hi lo v).obl = s.obl := rfl
@[simp] theorem State.setField_ump (a hi lo v : Nat) : (s.setField a hi lo v).ump = s.ump := rfl
@[simp] theorem State.setField_patch (a hi lo v : Nat) : (s.setField a hi lo v).patch = s.patch := rfl
@[simp] theorem State.setField_tst (a hi lo v : Nat) : (s.setField a hi lo v).tst = s.tst := rfl
@[simp] theorem State.setField_otp (a hi lo v : Nat) : (s.setField a hi lo v).otp = s.otp := rfl
@[simp] theorem State.setField_otpBad (a hi lo v : Nat) : (s.setField a hi lo v).otpBad = s.otpBad := rfl
@[simp] theorem State.setField_free (a hi lo v : Nat) : (s.setField a hi lo v).free = s.free := rfl
@[simp] theorem State.setField_pending (a hi lo v : Nat) : (s.setField a hi lo v).pending = s.pending := rfl

/-! ## orReg -/

@[simp] theorem State.orReg_keys (a : Nat) (v : Word) : (s.orReg a v).keys = s.keys := rfl
@[simp] theorem State.orReg_misparity (a : Nat) (v : Word) : (s.orReg a v).misparity = (s.goodParity a).misparity := rfl
@[simp] theorem State.orReg_bus (a : Nat) (v : Word) : (s.orReg a v).bus = s.bus := rfl
@[simp] theorem State.orReg_pmu (a : Nat) (v : Word) : (s.orReg a v).pmu = s.pmu := rfl
@[simp] theorem State.orReg_hif (a : Nat) (v : Word) : (s.orReg a v).hif = s.hif := rfl
@[simp] theorem State.orReg_cmd (a : Nat) (v : Word) : (s.orReg a v).cmd = s.cmd := rfl
@[simp] theorem State.orReg_buf (a : Nat) (v : Word) : (s.orReg a v).buf = s.buf := rfl
@[simp] theorem State.orReg_np (a : Nat) (v : Word) : (s.orReg a v).np = s.np := rfl
@[simp] theorem State.orReg_rud (a : Nat) (v : Word) : (s.orReg a v).rud = s.rud := rfl
@[simp] theorem State.orReg_ntu (a : Nat) (v : Word) : (s.orReg a v).ntu = s.ntu := rfl
@[simp] theorem State.orReg_mck (a : Nat) (v : Word) : (s.orReg a v).mck = s.mck := rfl
@[simp] theorem State.orReg_srx (a : Nat) (v : Word) : (s.orReg a v).srx = s.srx := rfl
@[simp] theorem State.orReg_stx (a : Nat) (v : Word) : (s.orReg a v).stx = s.stx := rfl
@[simp] theorem State.orReg_ral (a : Nat) (v : Word) : (s.orReg a v).ral = s.ral := rfl
@[simp] theorem State.orReg_drv (a : Nat) (v : Word) : (s.orReg a v).drv = s.drv := rfl
@[simp] theorem State.orReg_tdm (a : Nat) (v : Word) : (s.orReg a v).tdm = s.tdm := rfl
@[simp] theorem State.orReg_obl (a : Nat) (v : Word) : (s.orReg a v).obl = s.obl := rfl
@[simp] theorem State.orReg_ump (a : Nat) (v : Word) : (s.orReg a v).ump = s.ump := rfl
@[simp] theorem State.orReg_patch (a : Nat) (v : Word) : (s.orReg a v).patch = s.patch := rfl
@[simp] theorem State.orReg_tst (a : Nat) (v : Word) : (s.orReg a v).tst = s.tst := rfl
@[simp] theorem State.orReg_otp (a : Nat) (v : Word) : (s.orReg a v).otp = s.otp := rfl
@[simp] theorem State.orReg_otpBad (a : Nat) (v : Word) : (s.orReg a v).otpBad = s.otpBad := rfl
@[simp] theorem State.orReg_free (a : Nat) (v : Word) : (s.orReg a v).free = s.free := rfl
@[simp] theorem State.orReg_pending (a : Nat) (v : Word) : (s.orReg a v).pending = s.pending := rfl

/-! ## flag -/

@[simp] theorem State.flag_keys (a i : Nat) : (s.flag a i).keys = s.keys := rfl
@[simp] theorem State.flag_misparity (a i : Nat) : (s.flag a i).misparity = (s.goodParity a).misparity := rfl
@[simp] theorem State.flag_bus (a i : Nat) : (s.flag a i).bus = s.bus := rfl
@[simp] theorem State.flag_pmu (a i : Nat) : (s.flag a i).pmu = s.pmu := rfl
@[simp] theorem State.flag_hif (a i : Nat) : (s.flag a i).hif = s.hif := rfl
@[simp] theorem State.flag_cmd (a i : Nat) : (s.flag a i).cmd = s.cmd := rfl
@[simp] theorem State.flag_buf (a i : Nat) : (s.flag a i).buf = s.buf := rfl
@[simp] theorem State.flag_np (a i : Nat) : (s.flag a i).np = s.np := rfl
@[simp] theorem State.flag_rud (a i : Nat) : (s.flag a i).rud = s.rud := rfl
@[simp] theorem State.flag_ntu (a i : Nat) : (s.flag a i).ntu = s.ntu := rfl
@[simp] theorem State.flag_mck (a i : Nat) : (s.flag a i).mck = s.mck := rfl
@[simp] theorem State.flag_srx (a i : Nat) : (s.flag a i).srx = s.srx := rfl
@[simp] theorem State.flag_stx (a i : Nat) : (s.flag a i).stx = s.stx := rfl
@[simp] theorem State.flag_ral (a i : Nat) : (s.flag a i).ral = s.ral := rfl
@[simp] theorem State.flag_drv (a i : Nat) : (s.flag a i).drv = s.drv := rfl
@[simp] theorem State.flag_tdm (a i : Nat) : (s.flag a i).tdm = s.tdm := rfl
@[simp] theorem State.flag_obl (a i : Nat) : (s.flag a i).obl = s.obl := rfl
@[simp] theorem State.flag_ump (a i : Nat) : (s.flag a i).ump = s.ump := rfl
@[simp] theorem State.flag_patch (a i : Nat) : (s.flag a i).patch = s.patch := rfl
@[simp] theorem State.flag_tst (a i : Nat) : (s.flag a i).tst = s.tst := rfl
@[simp] theorem State.flag_otp (a i : Nat) : (s.flag a i).otp = s.otp := rfl
@[simp] theorem State.flag_otpBad (a i : Nat) : (s.flag a i).otpBad = s.otpBad := rfl
@[simp] theorem State.flag_free (a i : Nat) : (s.flag a i).free = s.free := rfl
@[simp] theorem State.flag_pending (a i : Nat) : (s.flag a i).pending = s.pending := rfl

/-! ## bump -/

@[simp] theorem State.bump_keys (a n : Nat) : (s.bump a n).keys = s.keys := rfl
@[simp] theorem State.bump_misparity (a n : Nat) : (s.bump a n).misparity = (s.goodParity a).misparity := rfl
@[simp] theorem State.bump_bus (a n : Nat) : (s.bump a n).bus = s.bus := rfl
@[simp] theorem State.bump_pmu (a n : Nat) : (s.bump a n).pmu = s.pmu := rfl
@[simp] theorem State.bump_hif (a n : Nat) : (s.bump a n).hif = s.hif := rfl
@[simp] theorem State.bump_cmd (a n : Nat) : (s.bump a n).cmd = s.cmd := rfl
@[simp] theorem State.bump_buf (a n : Nat) : (s.bump a n).buf = s.buf := rfl
@[simp] theorem State.bump_np (a n : Nat) : (s.bump a n).np = s.np := rfl
@[simp] theorem State.bump_rud (a n : Nat) : (s.bump a n).rud = s.rud := rfl
@[simp] theorem State.bump_ntu (a n : Nat) : (s.bump a n).ntu = s.ntu := rfl
@[simp] theorem State.bump_mck (a n : Nat) : (s.bump a n).mck = s.mck := rfl
@[simp] theorem State.bump_srx (a n : Nat) : (s.bump a n).srx = s.srx := rfl
@[simp] theorem State.bump_stx (a n : Nat) : (s.bump a n).stx = s.stx := rfl
@[simp] theorem State.bump_ral (a n : Nat) : (s.bump a n).ral = s.ral := rfl
@[simp] theorem State.bump_drv (a n : Nat) : (s.bump a n).drv = s.drv := rfl
@[simp] theorem State.bump_tdm (a n : Nat) : (s.bump a n).tdm = s.tdm := rfl
@[simp] theorem State.bump_obl (a n : Nat) : (s.bump a n).obl = s.obl := rfl
@[simp] theorem State.bump_ump (a n : Nat) : (s.bump a n).ump = s.ump := rfl
@[simp] theorem State.bump_patch (a n : Nat) : (s.bump a n).patch = s.patch := rfl
@[simp] theorem State.bump_tst (a n : Nat) : (s.bump a n).tst = s.tst := rfl
@[simp] theorem State.bump_otp (a n : Nat) : (s.bump a n).otp = s.otp := rfl
@[simp] theorem State.bump_otpBad (a n : Nat) : (s.bump a n).otpBad = s.otpBad := rfl
@[simp] theorem State.bump_free (a n : Nat) : (s.bump a n).free = s.free := rfl
@[simp] theorem State.bump_pending (a n : Nat) : (s.bump a n).pending = s.pending := rfl

/-! ## bumpField -/

@[simp] theorem State.bumpField_keys (a hi lo n : Nat) : (s.bumpField a hi lo n).keys = s.keys := rfl
@[simp] theorem State.bumpField_misparity (a hi lo n : Nat) : (s.bumpField a hi lo n).misparity = (s.goodParity a).misparity := rfl
@[simp] theorem State.bumpField_bus (a hi lo n : Nat) : (s.bumpField a hi lo n).bus = s.bus := rfl
@[simp] theorem State.bumpField_pmu (a hi lo n : Nat) : (s.bumpField a hi lo n).pmu = s.pmu := rfl
@[simp] theorem State.bumpField_hif (a hi lo n : Nat) : (s.bumpField a hi lo n).hif = s.hif := rfl
@[simp] theorem State.bumpField_cmd (a hi lo n : Nat) : (s.bumpField a hi lo n).cmd = s.cmd := rfl
@[simp] theorem State.bumpField_buf (a hi lo n : Nat) : (s.bumpField a hi lo n).buf = s.buf := rfl
@[simp] theorem State.bumpField_np (a hi lo n : Nat) : (s.bumpField a hi lo n).np = s.np := rfl
@[simp] theorem State.bumpField_rud (a hi lo n : Nat) : (s.bumpField a hi lo n).rud = s.rud := rfl
@[simp] theorem State.bumpField_ntu (a hi lo n : Nat) : (s.bumpField a hi lo n).ntu = s.ntu := rfl
@[simp] theorem State.bumpField_mck (a hi lo n : Nat) : (s.bumpField a hi lo n).mck = s.mck := rfl
@[simp] theorem State.bumpField_srx (a hi lo n : Nat) : (s.bumpField a hi lo n).srx = s.srx := rfl
@[simp] theorem State.bumpField_stx (a hi lo n : Nat) : (s.bumpField a hi lo n).stx = s.stx := rfl
@[simp] theorem State.bumpField_ral (a hi lo n : Nat) : (s.bumpField a hi lo n).ral = s.ral := rfl
@[simp] theorem State.bumpField_drv (a hi lo n : Nat) : (s.bumpField a hi lo n).drv = s.drv := rfl
@[simp] theorem State.bumpField_tdm (a hi lo n : Nat) : (s.bumpField a hi lo n).tdm = s.tdm := rfl
@[simp] theorem State.bumpField_obl (a hi lo n : Nat) : (s.bumpField a hi lo n).obl = s.obl := rfl
@[simp] theorem State.bumpField_ump (a hi lo n : Nat) : (s.bumpField a hi lo n).ump = s.ump := rfl
@[simp] theorem State.bumpField_patch (a hi lo n : Nat) : (s.bumpField a hi lo n).patch = s.patch := rfl
@[simp] theorem State.bumpField_tst (a hi lo n : Nat) : (s.bumpField a hi lo n).tst = s.tst := rfl
@[simp] theorem State.bumpField_otp (a hi lo n : Nat) : (s.bumpField a hi lo n).otp = s.otp := rfl
@[simp] theorem State.bumpField_otpBad (a hi lo n : Nat) : (s.bumpField a hi lo n).otpBad = s.otpBad := rfl
@[simp] theorem State.bumpField_free (a hi lo n : Nat) : (s.bumpField a hi lo n).free = s.free := rfl
@[simp] theorem State.bumpField_pending (a hi lo n : Nat) : (s.bumpField a hi lo n).pending = s.pending := rfl

/-! ## genUp -/

@[simp] theorem State.genUp_regs : (s.genUp).regs = s.regs := rfl
@[simp] theorem State.genUp_keys : (s.genUp).keys = s.keys := rfl
@[simp] theorem State.genUp_misparity : (s.genUp).misparity = s.misparity := rfl
@[simp] theorem State.genUp_bus : (s.genUp).bus = s.bus := rfl
@[simp] theorem State.genUp_pmu : (s.genUp).pmu = s.pmu := rfl
@[simp] theorem State.genUp_hif : (s.genUp).hif = s.hif := rfl
@[simp] theorem State.genUp_buf : (s.genUp).buf = s.buf := rfl
@[simp] theorem State.genUp_np : (s.genUp).np = s.np := rfl
@[simp] theorem State.genUp_rud : (s.genUp).rud = s.rud := rfl
@[simp] theorem State.genUp_ntu : (s.genUp).ntu = s.ntu := rfl
@[simp] theorem State.genUp_mck : (s.genUp).mck = s.mck := rfl
@[simp] theorem State.genUp_srx : (s.genUp).srx = s.srx := rfl
@[simp] theorem State.genUp_stx : (s.genUp).stx = s.stx := rfl
@[simp] theorem State.genUp_ral : (s.genUp).ral = s.ral := rfl
@[simp] theorem State.genUp_drv : (s.genUp).drv = s.drv := rfl
@[simp] theorem State.genUp_tdm : (s.genUp).tdm = s.tdm := rfl
@[simp] theorem State.genUp_obl : (s.genUp).obl = s.obl := rfl
@[simp] theorem State.genUp_ump : (s.genUp).ump = s.ump := rfl
@[simp] theorem State.genUp_patch : (s.genUp).patch = s.patch := rfl
@[simp] theorem State.genUp_tst : (s.genUp).tst = s.tst := rfl
@[simp] theorem State.genUp_otp : (s.genUp).otp = s.otp := rfl
@[simp] theorem State.genUp_otpBad : (s.genUp).otpBad = s.otpBad := rfl
@[simp] theorem State.genUp_free : (s.genUp).free = s.free := rfl
@[simp] theorem State.genUp_pending : (s.genUp).pending = s.pending := rfl

/-! ## putFlight -/

@[simp] theorem State.putFlight_regs (f : Flight) : (s.putFlight f).regs = s.regs := rfl
@[simp] theorem State.putFlight_keys (f : Flight) : (s.putFlight f).keys = s.keys := rfl
@[simp] theorem State.putFlight_misparity (f : Flight) : (s.putFlight f).misparity = s.misparity := rfl
@[simp] theorem State.putFlight_bus (f : Flight) : (s.putFlight f).bus = s.bus := rfl
@[simp] theorem State.putFlight_pmu (f : Flight) : (s.putFlight f).pmu = s.pmu := rfl
@[simp] theorem State.putFlight_hif (f : Flight) : (s.putFlight f).hif = s.hif := rfl
@[simp] theorem State.putFlight_buf (f : Flight) : (s.putFlight f).buf = s.buf := rfl
@[simp] theorem State.putFlight_np (f : Flight) : (s.putFlight f).np = s.np := rfl
@[simp] theorem State.putFlight_rud (f : Flight) : (s.putFlight f).rud = s.rud := rfl
@[simp] theorem State.putFlight_ntu (f : Flight) : (s.putFlight f).ntu = s.ntu := rfl
@[simp] theorem State.putFlight_mck (f : Flight) : (s.putFlight f).mck = s.mck := rfl
@[simp] theorem State.putFlight_srx (f : Flight) : (s.putFlight f).srx = s.srx := rfl
@[simp] theorem State.putFlight_stx (f : Flight) : (s.putFlight f).stx = s.stx := rfl
@[simp] theorem State.putFlight_ral (f : Flight) : (s.putFlight f).ral = s.ral := rfl
@[simp] theorem State.putFlight_drv (f : Flight) : (s.putFlight f).drv = s.drv := rfl
@[simp] theorem State.putFlight_tdm (f : Flight) : (s.putFlight f).tdm = s.tdm := rfl
@[simp] theorem State.putFlight_obl (f : Flight) : (s.putFlight f).obl = s.obl := rfl
@[simp] theorem State.putFlight_ump (f : Flight) : (s.putFlight f).ump = s.ump := rfl
@[simp] theorem State.putFlight_patch (f : Flight) : (s.putFlight f).patch = s.patch := rfl
@[simp] theorem State.putFlight_tst (f : Flight) : (s.putFlight f).tst = s.tst := rfl
@[simp] theorem State.putFlight_otp (f : Flight) : (s.putFlight f).otp = s.otp := rfl
@[simp] theorem State.putFlight_otpBad (f : Flight) : (s.putFlight f).otpBad = s.otpBad := rfl
@[simp] theorem State.putFlight_free (f : Flight) : (s.putFlight f).free = s.free := rfl
@[simp] theorem State.putFlight_pending (f : Flight) : (s.putFlight f).pending = s.pending := rfl

/-! ## driveOut -/

@[simp] theorem State.driveOut_regs (ws : List Word) : (s.driveOut ws).regs = s.regs := rfl
@[simp] theorem State.driveOut_keys (ws : List Word) : (s.driveOut ws).keys = s.keys := rfl
@[simp] theorem State.driveOut_misparity (ws : List Word) : (s.driveOut ws).misparity = s.misparity := rfl
@[simp] theorem State.driveOut_pmu (ws : List Word) : (s.driveOut ws).pmu = s.pmu := rfl
@[simp] theorem State.driveOut_hif (ws : List Word) : (s.driveOut ws).hif = s.hif := rfl
@[simp] theorem State.driveOut_cmd (ws : List Word) : (s.driveOut ws).cmd = s.cmd := rfl
@[simp] theorem State.driveOut_buf (ws : List Word) : (s.driveOut ws).buf = s.buf := rfl
@[simp] theorem State.driveOut_np (ws : List Word) : (s.driveOut ws).np = s.np := rfl
@[simp] theorem State.driveOut_rud (ws : List Word) : (s.driveOut ws).rud = s.rud := rfl
@[simp] theorem State.driveOut_ntu (ws : List Word) : (s.driveOut ws).ntu = s.ntu := rfl
@[simp] theorem State.driveOut_mck (ws : List Word) : (s.driveOut ws).mck = s.mck := rfl
@[simp] theorem State.driveOut_srx (ws : List Word) : (s.driveOut ws).srx = s.srx := rfl
@[simp] theorem State.driveOut_stx (ws : List Word) : (s.driveOut ws).stx = s.stx := rfl
@[simp] theorem State.driveOut_ral (ws : List Word) : (s.driveOut ws).ral = s.ral := rfl
@[simp] theorem State.driveOut_drv (ws : List Word) : (s.driveOut ws).drv = s.drv := rfl
@[simp] theorem State.driveOut_tdm (ws : List Word) : (s.driveOut ws).tdm = s.tdm := rfl
@[simp] theorem State.driveOut_obl (ws : List Word) : (s.driveOut ws).obl = s.obl := rfl
@[simp] theorem State.driveOut_ump (ws : List Word) : (s.driveOut ws).ump = s.ump := rfl
@[simp] theorem State.driveOut_patch (ws : List Word) : (s.driveOut ws).patch = s.patch := rfl
@[simp] theorem State.driveOut_tst (ws : List Word) : (s.driveOut ws).tst = s.tst := rfl
@[simp] theorem State.driveOut_otp (ws : List Word) : (s.driveOut ws).otp = s.otp := rfl
@[simp] theorem State.driveOut_otpBad (ws : List Word) : (s.driveOut ws).otpBad = s.otpBad := rfl
@[simp] theorem State.driveOut_free (ws : List Word) : (s.driveOut ws).free = s.free := rfl
@[simp] theorem State.driveOut_pending (ws : List Word) : (s.driveOut ws).pending = s.pending := rfl

/-! ## onTdm -/

@[simp] theorem State.onTdm_regs (n : Nat) (f : TdmPort → TdmPort) : (s.onTdm n f).regs = s.regs := rfl
@[simp] theorem State.onTdm_keys (n : Nat) (f : TdmPort → TdmPort) : (s.onTdm n f).keys = s.keys := rfl
@[simp] theorem State.onTdm_misparity (n : Nat) (f : TdmPort → TdmPort) : (s.onTdm n f).misparity = s.misparity := rfl
@[simp] theorem State.onTdm_bus (n : Nat) (f : TdmPort → TdmPort) : (s.onTdm n f).bus = s.bus := rfl
@[simp] theorem State.onTdm_pmu (n : Nat) (f : TdmPort → TdmPort) : (s.onTdm n f).pmu = s.pmu := rfl
@[simp] theorem State.onTdm_hif (n : Nat) (f : TdmPort → TdmPort) : (s.onTdm n f).hif = s.hif := rfl
@[simp] theorem State.onTdm_cmd (n : Nat) (f : TdmPort → TdmPort) : (s.onTdm n f).cmd = s.cmd := rfl
@[simp] theorem State.onTdm_buf (n : Nat) (f : TdmPort → TdmPort) : (s.onTdm n f).buf = s.buf := rfl
@[simp] theorem State.onTdm_np (n : Nat) (f : TdmPort → TdmPort) : (s.onTdm n f).np = s.np := rfl
@[simp] theorem State.onTdm_rud (n : Nat) (f : TdmPort → TdmPort) : (s.onTdm n f).rud = s.rud := rfl
@[simp] theorem State.onTdm_ntu (n : Nat) (f : TdmPort → TdmPort) : (s.onTdm n f).ntu = s.ntu := rfl
@[simp] theorem State.onTdm_mck (n : Nat) (f : TdmPort → TdmPort) : (s.onTdm n f).mck = s.mck := rfl
@[simp] theorem State.onTdm_srx (n : Nat) (f : TdmPort → TdmPort) : (s.onTdm n f).srx = s.srx := rfl
@[simp] theorem State.onTdm_stx (n : Nat) (f : TdmPort → TdmPort) : (s.onTdm n f).stx = s.stx := rfl
@[simp] theorem State.onTdm_ral (n : Nat) (f : TdmPort → TdmPort) : (s.onTdm n f).ral = s.ral := rfl
@[simp] theorem State.onTdm_drv (n : Nat) (f : TdmPort → TdmPort) : (s.onTdm n f).drv = s.drv := rfl
@[simp] theorem State.onTdm_obl (n : Nat) (f : TdmPort → TdmPort) : (s.onTdm n f).obl = s.obl := rfl
@[simp] theorem State.onTdm_ump (n : Nat) (f : TdmPort → TdmPort) : (s.onTdm n f).ump = s.ump := rfl
@[simp] theorem State.onTdm_patch (n : Nat) (f : TdmPort → TdmPort) : (s.onTdm n f).patch = s.patch := rfl
@[simp] theorem State.onTdm_tst (n : Nat) (f : TdmPort → TdmPort) : (s.onTdm n f).tst = s.tst := rfl
@[simp] theorem State.onTdm_otp (n : Nat) (f : TdmPort → TdmPort) : (s.onTdm n f).otp = s.otp := rfl
@[simp] theorem State.onTdm_otpBad (n : Nat) (f : TdmPort → TdmPort) : (s.onTdm n f).otpBad = s.otpBad := rfl
@[simp] theorem State.onTdm_free (n : Nat) (f : TdmPort → TdmPort) : (s.onTdm n f).free = s.free := rfl
@[simp] theorem State.onTdm_pending (n : Nat) (f : TdmPort → TdmPort) : (s.onTdm n f).pending = s.pending := rfl

/-! ## onRef -/

@[simp] theorem State.onRef_regs (i : Nat) (f : RefClock → RefClock) : (s.onRef i f).regs = s.regs := rfl
@[simp] theorem State.onRef_keys (i : Nat) (f : RefClock → RefClock) : (s.onRef i f).keys = s.keys := rfl
@[simp] theorem State.onRef_misparity (i : Nat) (f : RefClock → RefClock) : (s.onRef i f).misparity = s.misparity := rfl
@[simp] theorem State.onRef_bus (i : Nat) (f : RefClock → RefClock) : (s.onRef i f).bus = s.bus := rfl
@[simp] theorem State.onRef_pmu (i : Nat) (f : RefClock → RefClock) : (s.onRef i f).pmu = s.pmu := rfl
@[simp] theorem State.onRef_hif (i : Nat) (f : RefClock → RefClock) : (s.onRef i f).hif = s.hif := rfl
@[simp] theorem State.onRef_cmd (i : Nat) (f : RefClock → RefClock) : (s.onRef i f).cmd = s.cmd := rfl
@[simp] theorem State.onRef_buf (i : Nat) (f : RefClock → RefClock) : (s.onRef i f).buf = s.buf := rfl
@[simp] theorem State.onRef_np (i : Nat) (f : RefClock → RefClock) : (s.onRef i f).np = s.np := rfl
@[simp] theorem State.onRef_rud (i : Nat) (f : RefClock → RefClock) : (s.onRef i f).rud = s.rud := rfl
@[simp] theorem State.onRef_ntu (i : Nat) (f : RefClock → RefClock) : (s.onRef i f).ntu = s.ntu := rfl
@[simp] theorem State.onRef_srx (i : Nat) (f : RefClock → RefClock) : (s.onRef i f).srx = s.srx := rfl
@[simp] theorem State.onRef_stx (i : Nat) (f : RefClock → RefClock) : (s.onRef i f).stx = s.stx := rfl
@[simp] theorem State.onRef_ral (i : Nat) (f : RefClock → RefClock) : (s.onRef i f).ral = s.ral := rfl
@[simp] theorem State.onRef_drv (i : Nat) (f : RefClock → RefClock) : (s.onRef i f).drv = s.drv := rfl
@[simp] theorem State.onRef_tdm (i : Nat) (f : RefClock → RefClock) : (s.onRef i f).tdm = s.tdm := rfl
@[simp] theorem State.onRef_obl (i : Nat) (f : RefClock → RefClock) : (s.onRef i f).obl = s.obl := rfl
@[simp] theorem State.onRef_ump (i : Nat) (f : RefClock → RefClock) : (s.onRef i f).ump = s.ump := rfl
@[simp] theorem State.onRef_patch (i : Nat) (f : RefClock → RefClock) : (s.onRef i f).patch = s.patch := rfl
@[simp] theorem State.onRef_tst (i : Nat) (f : RefClock → RefClock) : (s.onRef i f).tst = s.tst := rfl
@[simp] theorem State.onRef_otp (i : Nat) (f : RefClock → RefClock) : (s.onRef i f).otp = s.otp := rfl
@[simp] theorem State.onRef_otpBad (i : Nat) (f : RefClock → RefClock) : (s.onRef i f).otpBad = s.otpBad := rfl
@[simp] theorem State.onRef_free (i : Nat) (f : RefClock → RefClock) : (s.onRef i f).free = s.free := rfl
@[simp] theorem State.onRef_pending (i : Nat) (f : RefClock → RefClock) : (s.onRef i f).pending = s.pending := rfl

/-! ## onRing -/

@[simp] theorem State.onRing_regs (i : Nat) (f : Ring → Ring) : (s.onRing i f).regs = s.regs := rfl
@[simp] theorem State.onRing_keys (i : Nat) (f : Ring → Ring) : (s.onRing i f).keys = s.keys := rfl
@[simp] theorem State.onRing_misparity (i : Nat) (f : Ring → Ring) : (s.onRing i f).misparity = s.misparity := rfl
@[simp] theorem State.onRing_bus (i : Nat) (f : Ring → Ring) : (s.onRing i f).bus = s.bus := rfl
@[simp] theorem State.onRing_pmu (i : Nat) (f : Ring → Ring) : (s.onRing i f).pmu = s.pmu := rfl
@[simp] theorem State.onRing_cmd (i : Nat) (f : Ring → Ring) : (s.onRing i f).cmd = s.cmd := rfl
@[simp] theorem State.onRing_buf (i : Nat) (f : Ring → Ring) : (s.onRing i f).buf = s.buf := rfl
@[simp] theorem State.onRing_np (i : Nat) (f : Ring → Ring) : (s.onRing i f).np = s.np := rfl
@[simp] theorem State.onRing_rud (i : Nat) (f : Ring → Ring) : (s.onRing i f).rud = s.rud := rfl
@[simp] theorem State.onRing_ntu (i : Nat) (f : Ring → Ring) : (s.onRing i f).ntu = s.ntu := rfl
@[simp] theorem State.onRing_mck (i : Nat) (f : Ring → Ring) : (s.onRing i f).mck = s.mck := rfl
@[simp] theorem State.onRing_srx (i : Nat) (f : Ring → Ring) : (s.onRing i f).srx = s.srx := rfl
@[simp] theorem State.onRing_stx (i : Nat) (f : Ring → Ring) : (s.onRing i f).stx = s.stx := rfl
@[simp] theorem State.onRing_ral (i : Nat) (f : Ring → Ring) : (s.onRing i f).ral = s.ral := rfl
@[simp] theorem State.onRing_drv (i : Nat) (f : Ring → Ring) : (s.onRing i f).drv = s.drv := rfl
@[simp] theorem State.onRing_tdm (i : Nat) (f : Ring → Ring) : (s.onRing i f).tdm = s.tdm := rfl
@[simp] theorem State.onRing_obl (i : Nat) (f : Ring → Ring) : (s.onRing i f).obl = s.obl := rfl
@[simp] theorem State.onRing_ump (i : Nat) (f : Ring → Ring) : (s.onRing i f).ump = s.ump := rfl
@[simp] theorem State.onRing_patch (i : Nat) (f : Ring → Ring) : (s.onRing i f).patch = s.patch := rfl
@[simp] theorem State.onRing_tst (i : Nat) (f : Ring → Ring) : (s.onRing i f).tst = s.tst := rfl
@[simp] theorem State.onRing_otp (i : Nat) (f : Ring → Ring) : (s.onRing i f).otp = s.otp := rfl
@[simp] theorem State.onRing_otpBad (i : Nat) (f : Ring → Ring) : (s.onRing i f).otpBad = s.otpBad := rfl
@[simp] theorem State.onRing_free (i : Nat) (f : Ring → Ring) : (s.onRing i f).free = s.free := rfl
@[simp] theorem State.onRing_pending (i : Nat) (f : Ring → Ring) : (s.onRing i f).pending = s.pending := rfl

/-! ## onTx -/

@[simp] theorem State.onTx_regs (n : Nat) (f : TxStream → TxStream) : (s.onTx n f).regs = s.regs := rfl
@[simp] theorem State.onTx_keys (n : Nat) (f : TxStream → TxStream) : (s.onTx n f).keys = s.keys := rfl
@[simp] theorem State.onTx_misparity (n : Nat) (f : TxStream → TxStream) : (s.onTx n f).misparity = s.misparity := rfl
@[simp] theorem State.onTx_bus (n : Nat) (f : TxStream → TxStream) : (s.onTx n f).bus = s.bus := rfl
@[simp] theorem State.onTx_pmu (n : Nat) (f : TxStream → TxStream) : (s.onTx n f).pmu = s.pmu := rfl
@[simp] theorem State.onTx_hif (n : Nat) (f : TxStream → TxStream) : (s.onTx n f).hif = s.hif := rfl
@[simp] theorem State.onTx_cmd (n : Nat) (f : TxStream → TxStream) : (s.onTx n f).cmd = s.cmd := rfl
@[simp] theorem State.onTx_buf (n : Nat) (f : TxStream → TxStream) : (s.onTx n f).buf = s.buf := rfl
@[simp] theorem State.onTx_np (n : Nat) (f : TxStream → TxStream) : (s.onTx n f).np = s.np := rfl
@[simp] theorem State.onTx_rud (n : Nat) (f : TxStream → TxStream) : (s.onTx n f).rud = s.rud := rfl
@[simp] theorem State.onTx_ntu (n : Nat) (f : TxStream → TxStream) : (s.onTx n f).ntu = s.ntu := rfl
@[simp] theorem State.onTx_mck (n : Nat) (f : TxStream → TxStream) : (s.onTx n f).mck = s.mck := rfl
@[simp] theorem State.onTx_srx (n : Nat) (f : TxStream → TxStream) : (s.onTx n f).srx = s.srx := rfl
@[simp] theorem State.onTx_ral (n : Nat) (f : TxStream → TxStream) : (s.onTx n f).ral = s.ral := rfl
@[simp] theorem State.onTx_drv (n : Nat) (f : TxStream → TxStream) : (s.onTx n f).drv = s.drv := rfl
@[simp] theorem State.onTx_tdm (n : Nat) (f : TxStream → TxStream) : (s.onTx n f).tdm = s.tdm := rfl
@[simp] theorem State.onTx_obl (n : Nat) (f : TxStream → TxStream) : (s.onTx n f).obl = s.obl := rfl
@[simp] theorem State.onTx_ump (n : Nat) (f : TxStream → TxStream) : (s.onTx n f).ump = s.ump := rfl
@[simp] theorem State.onTx_patch (n : Nat) (f : TxStream → TxStream) : (s.onTx n f).patch = s.patch := rfl
@[simp] theorem State.onTx_tst (n : Nat) (f : TxStream → TxStream) : (s.onTx n f).tst = s.tst := rfl
@[simp] theorem State.onTx_otp (n : Nat) (f : TxStream → TxStream) : (s.onTx n f).otp = s.otp := rfl
@[simp] theorem State.onTx_otpBad (n : Nat) (f : TxStream → TxStream) : (s.onTx n f).otpBad = s.otpBad := rfl
@[simp] theorem State.onTx_free (n : Nat) (f : TxStream → TxStream) : (s.onTx n f).free = s.free := rfl
@[simp] theorem State.onTx_pending (n : Nat) (f : TxStream → TxStream) : (s.onTx n f).pending = s.pending := rfl

/-! ## onRx -/

@[simp] theorem State.onRx_regs (n : Nat) (f : RxStream → RxStream) : (s.onRx n f).regs = s.regs := rfl
@[simp] theorem State.onRx_keys (n : Nat) (f : RxStream → RxStream) : (s.onRx n f).keys = s.keys := rfl
@[simp] theorem State.onRx_misparity (n : Nat) (f : RxStream → RxStream) : (s.onRx n f).misparity = s.misparity := rfl
@[simp] theorem State.onRx_bus (n : Nat) (f : RxStream → RxStream) : (s.onRx n f).bus = s.bus := rfl
@[simp] theorem State.onRx_pmu (n : Nat) (f : RxStream → RxStream) : (s.onRx n f).pmu = s.pmu := rfl
@[simp] theorem State.onRx_hif (n : Nat) (f : RxStream → RxStream) : (s.onRx n f).hif = s.hif := rfl
@[simp] theorem State.onRx_cmd (n : Nat) (f : RxStream → RxStream) : (s.onRx n f).cmd = s.cmd := rfl
@[simp] theorem State.onRx_buf (n : Nat) (f : RxStream → RxStream) : (s.onRx n f).buf = s.buf := rfl
@[simp] theorem State.onRx_np (n : Nat) (f : RxStream → RxStream) : (s.onRx n f).np = s.np := rfl
@[simp] theorem State.onRx_rud (n : Nat) (f : RxStream → RxStream) : (s.onRx n f).rud = s.rud := rfl
@[simp] theorem State.onRx_ntu (n : Nat) (f : RxStream → RxStream) : (s.onRx n f).ntu = s.ntu := rfl
@[simp] theorem State.onRx_mck (n : Nat) (f : RxStream → RxStream) : (s.onRx n f).mck = s.mck := rfl
@[simp] theorem State.onRx_stx (n : Nat) (f : RxStream → RxStream) : (s.onRx n f).stx = s.stx := rfl
@[simp] theorem State.onRx_ral (n : Nat) (f : RxStream → RxStream) : (s.onRx n f).ral = s.ral := rfl
@[simp] theorem State.onRx_drv (n : Nat) (f : RxStream → RxStream) : (s.onRx n f).drv = s.drv := rfl
@[simp] theorem State.onRx_tdm (n : Nat) (f : RxStream → RxStream) : (s.onRx n f).tdm = s.tdm := rfl
@[simp] theorem State.onRx_obl (n : Nat) (f : RxStream → RxStream) : (s.onRx n f).obl = s.obl := rfl
@[simp] theorem State.onRx_ump (n : Nat) (f : RxStream → RxStream) : (s.onRx n f).ump = s.ump := rfl
@[simp] theorem State.onRx_patch (n : Nat) (f : RxStream → RxStream) : (s.onRx n f).patch = s.patch := rfl
@[simp] theorem State.onRx_tst (n : Nat) (f : RxStream → RxStream) : (s.onRx n f).tst = s.tst := rfl
@[simp] theorem State.onRx_otp (n : Nat) (f : RxStream → RxStream) : (s.onRx n f).otp = s.otp := rfl
@[simp] theorem State.onRx_otpBad (n : Nat) (f : RxStream → RxStream) : (s.onRx n f).otpBad = s.otpBad := rfl
@[simp] theorem State.onRx_free (n : Nat) (f : RxStream → RxStream) : (s.onRx n f).free = s.free := rfl
@[simp] theorem State.onRx_pending (n : Nat) (f : RxStream → RxStream) : (s.onRx n f).pending = s.pending := rfl

/-! ## onRal -/

@[simp] theorem State.onRal_regs (n : Nat) (f : RalStream → RalStream) : (s.onRal n f).regs = s.regs := rfl
@[simp] theorem State.onRal_keys (n : Nat) (f : RalStream → RalStream) : (s.onRal n f).keys = s.keys := rfl
@[simp] theorem State.onRal_misparity (n : Nat) (f : RalStream → RalStream) : (s.onRal n f).misparity = s.misparity := rfl
@[simp] theorem State.onRal_bus (n : Nat) (f : RalStream → RalStream) : (s.onRal n f).bus = s.bus := rfl
@[simp] theorem State.onRal_pmu (n : Nat) (f : RalStream → RalStream) : (s.onRal n f).pmu = s.pmu := rfl
@[simp] theorem State.onRal_hif (n : Nat) (f : RalStream → RalStream) : (s.onRal n f).hif = s.hif := rfl
@[simp] theorem State.onRal_cmd (n : Nat) (f : RalStream → RalStream) : (s.onRal n f).cmd = s.cmd := rfl
@[simp] theorem State.onRal_buf (n : Nat) (f : RalStream → RalStream) : (s.onRal n f).buf = s.buf := rfl
@[simp] theorem State.onRal_np (n : Nat) (f : RalStream → RalStream) : (s.onRal n f).np = s.np := rfl
@[simp] theorem State.onRal_rud (n : Nat) (f : RalStream → RalStream) : (s.onRal n f).rud = s.rud := rfl
@[simp] theorem State.onRal_ntu (n : Nat) (f : RalStream → RalStream) : (s.onRal n f).ntu = s.ntu := rfl
@[simp] theorem State.onRal_mck (n : Nat) (f : RalStream → RalStream) : (s.onRal n f).mck = s.mck := rfl
@[simp] theorem State.onRal_srx (n : Nat) (f : RalStream → RalStream) : (s.onRal n f).srx = s.srx := rfl
@[simp] theorem State.onRal_stx (n : Nat) (f : RalStream → RalStream) : (s.onRal n f).stx = s.stx := rfl
@[simp] theorem State.onRal_drv (n : Nat) (f : RalStream → RalStream) : (s.onRal n f).drv = s.drv := rfl
@[simp] theorem State.onRal_tdm (n : Nat) (f : RalStream → RalStream) : (s.onRal n f).tdm = s.tdm := rfl
@[simp] theorem State.onRal_obl (n : Nat) (f : RalStream → RalStream) : (s.onRal n f).obl = s.obl := rfl
@[simp] theorem State.onRal_ump (n : Nat) (f : RalStream → RalStream) : (s.onRal n f).ump = s.ump := rfl
@[simp] theorem State.onRal_patch (n : Nat) (f : RalStream → RalStream) : (s.onRal n f).patch = s.patch := rfl
@[simp] theorem State.onRal_tst (n : Nat) (f : RalStream → RalStream) : (s.onRal n f).tst = s.tst := rfl
@[simp] theorem State.onRal_otp (n : Nat) (f : RalStream → RalStream) : (s.onRal n f).otp = s.otp := rfl
@[simp] theorem State.onRal_otpBad (n : Nat) (f : RalStream → RalStream) : (s.onRal n f).otpBad = s.otpBad := rfl
@[simp] theorem State.onRal_free (n : Nat) (f : RalStream → RalStream) : (s.onRal n f).free = s.free := rfl
@[simp] theorem State.onRal_pending (n : Nat) (f : RalStream → RalStream) : (s.onRal n f).pending = s.pending := rfl

/-! ## onInactive -/

@[simp] theorem State.onInactive_regs (f : PatchBank → PatchBank) : (s.onInactive f).regs = s.regs := rfl
@[simp] theorem State.onInactive_keys (f : PatchBank → PatchBank) : (s.onInactive f).keys = s.keys := rfl
@[simp] theorem State.onInactive_misparity (f : PatchBank → PatchBank) : (s.onInactive f).misparity = s.misparity := rfl
@[simp] theorem State.onInactive_bus (f : PatchBank → PatchBank) : (s.onInactive f).bus = s.bus := rfl
@[simp] theorem State.onInactive_pmu (f : PatchBank → PatchBank) : (s.onInactive f).pmu = s.pmu := rfl
@[simp] theorem State.onInactive_hif (f : PatchBank → PatchBank) : (s.onInactive f).hif = s.hif := rfl
@[simp] theorem State.onInactive_cmd (f : PatchBank → PatchBank) : (s.onInactive f).cmd = s.cmd := rfl
@[simp] theorem State.onInactive_buf (f : PatchBank → PatchBank) : (s.onInactive f).buf = s.buf := rfl
@[simp] theorem State.onInactive_np (f : PatchBank → PatchBank) : (s.onInactive f).np = s.np := rfl
@[simp] theorem State.onInactive_rud (f : PatchBank → PatchBank) : (s.onInactive f).rud = s.rud := rfl
@[simp] theorem State.onInactive_ntu (f : PatchBank → PatchBank) : (s.onInactive f).ntu = s.ntu := rfl
@[simp] theorem State.onInactive_mck (f : PatchBank → PatchBank) : (s.onInactive f).mck = s.mck := rfl
@[simp] theorem State.onInactive_srx (f : PatchBank → PatchBank) : (s.onInactive f).srx = s.srx := rfl
@[simp] theorem State.onInactive_stx (f : PatchBank → PatchBank) : (s.onInactive f).stx = s.stx := rfl
@[simp] theorem State.onInactive_ral (f : PatchBank → PatchBank) : (s.onInactive f).ral = s.ral := rfl
@[simp] theorem State.onInactive_drv (f : PatchBank → PatchBank) : (s.onInactive f).drv = s.drv := rfl
@[simp] theorem State.onInactive_tdm (f : PatchBank → PatchBank) : (s.onInactive f).tdm = s.tdm := rfl
@[simp] theorem State.onInactive_obl (f : PatchBank → PatchBank) : (s.onInactive f).obl = s.obl := rfl
@[simp] theorem State.onInactive_ump (f : PatchBank → PatchBank) : (s.onInactive f).ump = s.ump := rfl
@[simp] theorem State.onInactive_tst (f : PatchBank → PatchBank) : (s.onInactive f).tst = s.tst := rfl
@[simp] theorem State.onInactive_otp (f : PatchBank → PatchBank) : (s.onInactive f).otp = s.otp := rfl
@[simp] theorem State.onInactive_otpBad (f : PatchBank → PatchBank) : (s.onInactive f).otpBad = s.otpBad := rfl
@[simp] theorem State.onInactive_free (f : PatchBank → PatchBank) : (s.onInactive f).free = s.free := rfl
@[simp] theorem State.onInactive_pending (f : PatchBank → PatchBank) : (s.onInactive f).pending = s.pending := rfl

/-! ## onReq -/

@[simp] theorem State.onReq_regs (f : PowerReq → PowerReq) : (s.onReq f).regs = s.regs := rfl
@[simp] theorem State.onReq_keys (f : PowerReq → PowerReq) : (s.onReq f).keys = s.keys := rfl
@[simp] theorem State.onReq_misparity (f : PowerReq → PowerReq) : (s.onReq f).misparity = s.misparity := rfl
@[simp] theorem State.onReq_bus (f : PowerReq → PowerReq) : (s.onReq f).bus = s.bus := rfl
@[simp] theorem State.onReq_hif (f : PowerReq → PowerReq) : (s.onReq f).hif = s.hif := rfl
@[simp] theorem State.onReq_cmd (f : PowerReq → PowerReq) : (s.onReq f).cmd = s.cmd := rfl
@[simp] theorem State.onReq_buf (f : PowerReq → PowerReq) : (s.onReq f).buf = s.buf := rfl
@[simp] theorem State.onReq_np (f : PowerReq → PowerReq) : (s.onReq f).np = s.np := rfl
@[simp] theorem State.onReq_rud (f : PowerReq → PowerReq) : (s.onReq f).rud = s.rud := rfl
@[simp] theorem State.onReq_ntu (f : PowerReq → PowerReq) : (s.onReq f).ntu = s.ntu := rfl
@[simp] theorem State.onReq_mck (f : PowerReq → PowerReq) : (s.onReq f).mck = s.mck := rfl
@[simp] theorem State.onReq_srx (f : PowerReq → PowerReq) : (s.onReq f).srx = s.srx := rfl
@[simp] theorem State.onReq_stx (f : PowerReq → PowerReq) : (s.onReq f).stx = s.stx := rfl
@[simp] theorem State.onReq_ral (f : PowerReq → PowerReq) : (s.onReq f).ral = s.ral := rfl
@[simp] theorem State.onReq_drv (f : PowerReq → PowerReq) : (s.onReq f).drv = s.drv := rfl
@[simp] theorem State.onReq_tdm (f : PowerReq → PowerReq) : (s.onReq f).tdm = s.tdm := rfl
@[simp] theorem State.onReq_obl (f : PowerReq → PowerReq) : (s.onReq f).obl = s.obl := rfl
@[simp] theorem State.onReq_ump (f : PowerReq → PowerReq) : (s.onReq f).ump = s.ump := rfl
@[simp] theorem State.onReq_patch (f : PowerReq → PowerReq) : (s.onReq f).patch = s.patch := rfl
@[simp] theorem State.onReq_tst (f : PowerReq → PowerReq) : (s.onReq f).tst = s.tst := rfl
@[simp] theorem State.onReq_otp (f : PowerReq → PowerReq) : (s.onReq f).otp = s.otp := rfl
@[simp] theorem State.onReq_otpBad (f : PowerReq → PowerReq) : (s.onReq f).otpBad = s.otpBad := rfl
@[simp] theorem State.onReq_free (f : PowerReq → PowerReq) : (s.onReq f).free = s.free := rfl
@[simp] theorem State.onReq_pending (f : PowerReq → PowerReq) : (s.onReq f).pending = s.pending := rfl

/-! ## onPtp -/

@[simp] theorem State.onPtp_regs (p : Nat) (f : PtpPort → PtpPort) : (s.onPtp p f).regs = s.regs := rfl
@[simp] theorem State.onPtp_keys (p : Nat) (f : PtpPort → PtpPort) : (s.onPtp p f).keys = s.keys := rfl
@[simp] theorem State.onPtp_misparity (p : Nat) (f : PtpPort → PtpPort) : (s.onPtp p f).misparity = s.misparity := rfl
@[simp] theorem State.onPtp_bus (p : Nat) (f : PtpPort → PtpPort) : (s.onPtp p f).bus = s.bus := rfl
@[simp] theorem State.onPtp_pmu (p : Nat) (f : PtpPort → PtpPort) : (s.onPtp p f).pmu = s.pmu := rfl
@[simp] theorem State.onPtp_hif (p : Nat) (f : PtpPort → PtpPort) : (s.onPtp p f).hif = s.hif := rfl
@[simp] theorem State.onPtp_cmd (p : Nat) (f : PtpPort → PtpPort) : (s.onPtp p f).cmd = s.cmd := rfl
@[simp] theorem State.onPtp_buf (p : Nat) (f : PtpPort → PtpPort) : (s.onPtp p f).buf = s.buf := rfl
@[simp] theorem State.onPtp_np (p : Nat) (f : PtpPort → PtpPort) : (s.onPtp p f).np = s.np := rfl
@[simp] theorem State.onPtp_rud (p : Nat) (f : PtpPort → PtpPort) : (s.onPtp p f).rud = s.rud := rfl
@[simp] theorem State.onPtp_mck (p : Nat) (f : PtpPort → PtpPort) : (s.onPtp p f).mck = s.mck := rfl
@[simp] theorem State.onPtp_srx (p : Nat) (f : PtpPort → PtpPort) : (s.onPtp p f).srx = s.srx := rfl
@[simp] theorem State.onPtp_stx (p : Nat) (f : PtpPort → PtpPort) : (s.onPtp p f).stx = s.stx := rfl
@[simp] theorem State.onPtp_ral (p : Nat) (f : PtpPort → PtpPort) : (s.onPtp p f).ral = s.ral := rfl
@[simp] theorem State.onPtp_drv (p : Nat) (f : PtpPort → PtpPort) : (s.onPtp p f).drv = s.drv := rfl
@[simp] theorem State.onPtp_tdm (p : Nat) (f : PtpPort → PtpPort) : (s.onPtp p f).tdm = s.tdm := rfl
@[simp] theorem State.onPtp_obl (p : Nat) (f : PtpPort → PtpPort) : (s.onPtp p f).obl = s.obl := rfl
@[simp] theorem State.onPtp_ump (p : Nat) (f : PtpPort → PtpPort) : (s.onPtp p f).ump = s.ump := rfl
@[simp] theorem State.onPtp_patch (p : Nat) (f : PtpPort → PtpPort) : (s.onPtp p f).patch = s.patch := rfl
@[simp] theorem State.onPtp_tst (p : Nat) (f : PtpPort → PtpPort) : (s.onPtp p f).tst = s.tst := rfl
@[simp] theorem State.onPtp_otp (p : Nat) (f : PtpPort → PtpPort) : (s.onPtp p f).otp = s.otp := rfl
@[simp] theorem State.onPtp_otpBad (p : Nat) (f : PtpPort → PtpPort) : (s.onPtp p f).otpBad = s.otpBad := rfl
@[simp] theorem State.onPtp_free (p : Nat) (f : PtpPort → PtpPort) : (s.onPtp p f).free = s.free := rfl
@[simp] theorem State.onPtp_pending (p : Nat) (f : PtpPort → PtpPort) : (s.onPtp p f).pending = s.pending := rfl

/-! ## onPort -/

@[simp] theorem State.onPort_regs (p : Nat) (f : NetPort → NetPort) : (s.onPort p f).regs = s.regs := rfl
@[simp] theorem State.onPort_keys (p : Nat) (f : NetPort → NetPort) : (s.onPort p f).keys = s.keys := rfl
@[simp] theorem State.onPort_misparity (p : Nat) (f : NetPort → NetPort) : (s.onPort p f).misparity = s.misparity := rfl
@[simp] theorem State.onPort_bus (p : Nat) (f : NetPort → NetPort) : (s.onPort p f).bus = s.bus := rfl
@[simp] theorem State.onPort_pmu (p : Nat) (f : NetPort → NetPort) : (s.onPort p f).pmu = s.pmu := rfl
@[simp] theorem State.onPort_hif (p : Nat) (f : NetPort → NetPort) : (s.onPort p f).hif = s.hif := rfl
@[simp] theorem State.onPort_cmd (p : Nat) (f : NetPort → NetPort) : (s.onPort p f).cmd = s.cmd := rfl
@[simp] theorem State.onPort_buf (p : Nat) (f : NetPort → NetPort) : (s.onPort p f).buf = s.buf := rfl
@[simp] theorem State.onPort_rud (p : Nat) (f : NetPort → NetPort) : (s.onPort p f).rud = s.rud := rfl
@[simp] theorem State.onPort_ntu (p : Nat) (f : NetPort → NetPort) : (s.onPort p f).ntu = s.ntu := rfl
@[simp] theorem State.onPort_mck (p : Nat) (f : NetPort → NetPort) : (s.onPort p f).mck = s.mck := rfl
@[simp] theorem State.onPort_srx (p : Nat) (f : NetPort → NetPort) : (s.onPort p f).srx = s.srx := rfl
@[simp] theorem State.onPort_stx (p : Nat) (f : NetPort → NetPort) : (s.onPort p f).stx = s.stx := rfl
@[simp] theorem State.onPort_ral (p : Nat) (f : NetPort → NetPort) : (s.onPort p f).ral = s.ral := rfl
@[simp] theorem State.onPort_drv (p : Nat) (f : NetPort → NetPort) : (s.onPort p f).drv = s.drv := rfl
@[simp] theorem State.onPort_tdm (p : Nat) (f : NetPort → NetPort) : (s.onPort p f).tdm = s.tdm := rfl
@[simp] theorem State.onPort_obl (p : Nat) (f : NetPort → NetPort) : (s.onPort p f).obl = s.obl := rfl
@[simp] theorem State.onPort_ump (p : Nat) (f : NetPort → NetPort) : (s.onPort p f).ump = s.ump := rfl
@[simp] theorem State.onPort_patch (p : Nat) (f : NetPort → NetPort) : (s.onPort p f).patch = s.patch := rfl
@[simp] theorem State.onPort_tst (p : Nat) (f : NetPort → NetPort) : (s.onPort p f).tst = s.tst := rfl
@[simp] theorem State.onPort_otp (p : Nat) (f : NetPort → NetPort) : (s.onPort p f).otp = s.otp := rfl
@[simp] theorem State.onPort_otpBad (p : Nat) (f : NetPort → NetPort) : (s.onPort p f).otpBad = s.otpBad := rfl
@[simp] theorem State.onPort_free (p : Nat) (f : NetPort → NetPort) : (s.onPort p f).free = s.free := rfl
@[simp] theorem State.onPort_pending (p : Nat) (f : NetPort → NetPort) : (s.onPort p f).pending = s.pending := rfl

/-! ## onObl -/

@[simp] theorem State.onObl_regs (q : Nat) (f : OblPort → OblPort) : (s.onObl q f).regs = s.regs := rfl
@[simp] theorem State.onObl_keys (q : Nat) (f : OblPort → OblPort) : (s.onObl q f).keys = s.keys := rfl
@[simp] theorem State.onObl_misparity (q : Nat) (f : OblPort → OblPort) : (s.onObl q f).misparity = s.misparity := rfl
@[simp] theorem State.onObl_bus (q : Nat) (f : OblPort → OblPort) : (s.onObl q f).bus = s.bus := rfl
@[simp] theorem State.onObl_pmu (q : Nat) (f : OblPort → OblPort) : (s.onObl q f).pmu = s.pmu := rfl
@[simp] theorem State.onObl_hif (q : Nat) (f : OblPort → OblPort) : (s.onObl q f).hif = s.hif := rfl
@[simp] theorem State.onObl_cmd (q : Nat) (f : OblPort → OblPort) : (s.onObl q f).cmd = s.cmd := rfl
@[simp] theorem State.onObl_buf (q : Nat) (f : OblPort → OblPort) : (s.onObl q f).buf = s.buf := rfl
@[simp] theorem State.onObl_np (q : Nat) (f : OblPort → OblPort) : (s.onObl q f).np = s.np := rfl
@[simp] theorem State.onObl_rud (q : Nat) (f : OblPort → OblPort) : (s.onObl q f).rud = s.rud := rfl
@[simp] theorem State.onObl_ntu (q : Nat) (f : OblPort → OblPort) : (s.onObl q f).ntu = s.ntu := rfl
@[simp] theorem State.onObl_mck (q : Nat) (f : OblPort → OblPort) : (s.onObl q f).mck = s.mck := rfl
@[simp] theorem State.onObl_srx (q : Nat) (f : OblPort → OblPort) : (s.onObl q f).srx = s.srx := rfl
@[simp] theorem State.onObl_stx (q : Nat) (f : OblPort → OblPort) : (s.onObl q f).stx = s.stx := rfl
@[simp] theorem State.onObl_ral (q : Nat) (f : OblPort → OblPort) : (s.onObl q f).ral = s.ral := rfl
@[simp] theorem State.onObl_drv (q : Nat) (f : OblPort → OblPort) : (s.onObl q f).drv = s.drv := rfl
@[simp] theorem State.onObl_tdm (q : Nat) (f : OblPort → OblPort) : (s.onObl q f).tdm = s.tdm := rfl
@[simp] theorem State.onObl_ump (q : Nat) (f : OblPort → OblPort) : (s.onObl q f).ump = s.ump := rfl
@[simp] theorem State.onObl_patch (q : Nat) (f : OblPort → OblPort) : (s.onObl q f).patch = s.patch := rfl
@[simp] theorem State.onObl_tst (q : Nat) (f : OblPort → OblPort) : (s.onObl q f).tst = s.tst := rfl
@[simp] theorem State.onObl_otp (q : Nat) (f : OblPort → OblPort) : (s.onObl q f).otp = s.otp := rfl
@[simp] theorem State.onObl_otpBad (q : Nat) (f : OblPort → OblPort) : (s.onObl q f).otpBad = s.otpBad := rfl
@[simp] theorem State.onObl_free (q : Nat) (f : OblPort → OblPort) : (s.onObl q f).free = s.free := rfl
@[simp] theorem State.onObl_pending (q : Nat) (f : OblPort → OblPort) : (s.onObl q f).pending = s.pending := rfl

/-! ## onEntry -/

@[simp] theorem State.onEntry_regs (i : Nat) (f : SlEntry → SlEntry) : (s.onEntry i f).regs = s.regs := rfl
@[simp] theorem State.onEntry_keys (i : Nat) (f : SlEntry → SlEntry) : (s.onEntry i f).keys = s.keys := rfl
@[simp] theorem State.onEntry_misparity (i : Nat) (f : SlEntry → SlEntry) : (s.onEntry i f).misparity = s.misparity := rfl
@[simp] theorem State.onEntry_bus (i : Nat) (f : SlEntry → SlEntry) : (s.onEntry i f).bus = s.bus := rfl
@[simp] theorem State.onEntry_pmu (i : Nat) (f : SlEntry → SlEntry) : (s.onEntry i f).pmu = s.pmu := rfl
@[simp] theorem State.onEntry_hif (i : Nat) (f : SlEntry → SlEntry) : (s.onEntry i f).hif = s.hif := rfl
@[simp] theorem State.onEntry_cmd (i : Nat) (f : SlEntry → SlEntry) : (s.onEntry i f).cmd = s.cmd := rfl
@[simp] theorem State.onEntry_buf (i : Nat) (f : SlEntry → SlEntry) : (s.onEntry i f).buf = s.buf := rfl
@[simp] theorem State.onEntry_np (i : Nat) (f : SlEntry → SlEntry) : (s.onEntry i f).np = s.np := rfl
@[simp] theorem State.onEntry_rud (i : Nat) (f : SlEntry → SlEntry) : (s.onEntry i f).rud = s.rud := rfl
@[simp] theorem State.onEntry_mck (i : Nat) (f : SlEntry → SlEntry) : (s.onEntry i f).mck = s.mck := rfl
@[simp] theorem State.onEntry_srx (i : Nat) (f : SlEntry → SlEntry) : (s.onEntry i f).srx = s.srx := rfl
@[simp] theorem State.onEntry_stx (i : Nat) (f : SlEntry → SlEntry) : (s.onEntry i f).stx = s.stx := rfl
@[simp] theorem State.onEntry_ral (i : Nat) (f : SlEntry → SlEntry) : (s.onEntry i f).ral = s.ral := rfl
@[simp] theorem State.onEntry_drv (i : Nat) (f : SlEntry → SlEntry) : (s.onEntry i f).drv = s.drv := rfl
@[simp] theorem State.onEntry_tdm (i : Nat) (f : SlEntry → SlEntry) : (s.onEntry i f).tdm = s.tdm := rfl
@[simp] theorem State.onEntry_obl (i : Nat) (f : SlEntry → SlEntry) : (s.onEntry i f).obl = s.obl := rfl
@[simp] theorem State.onEntry_ump (i : Nat) (f : SlEntry → SlEntry) : (s.onEntry i f).ump = s.ump := rfl
@[simp] theorem State.onEntry_patch (i : Nat) (f : SlEntry → SlEntry) : (s.onEntry i f).patch = s.patch := rfl
@[simp] theorem State.onEntry_tst (i : Nat) (f : SlEntry → SlEntry) : (s.onEntry i f).tst = s.tst := rfl
@[simp] theorem State.onEntry_otp (i : Nat) (f : SlEntry → SlEntry) : (s.onEntry i f).otp = s.otp := rfl
@[simp] theorem State.onEntry_otpBad (i : Nat) (f : SlEntry → SlEntry) : (s.onEntry i f).otpBad = s.otpBad := rfl
@[simp] theorem State.onEntry_free (i : Nat) (f : SlEntry → SlEntry) : (s.onEntry i f).free = s.free := rfl
@[simp] theorem State.onEntry_pending (i : Nat) (f : SlEntry → SlEntry) : (s.onEntry i f).pending = s.pending := rfl

/-! ## moveNt -/

@[simp] theorem State.moveNt_regs (d : Int) : (s.moveNt d).regs = s.regs := rfl
@[simp] theorem State.moveNt_keys (d : Int) : (s.moveNt d).keys = s.keys := rfl
@[simp] theorem State.moveNt_misparity (d : Int) : (s.moveNt d).misparity = s.misparity := rfl
@[simp] theorem State.moveNt_bus (d : Int) : (s.moveNt d).bus = s.bus := rfl
@[simp] theorem State.moveNt_pmu (d : Int) : (s.moveNt d).pmu = s.pmu := rfl
@[simp] theorem State.moveNt_hif (d : Int) : (s.moveNt d).hif = s.hif := rfl
@[simp] theorem State.moveNt_cmd (d : Int) : (s.moveNt d).cmd = s.cmd := rfl
@[simp] theorem State.moveNt_buf (d : Int) : (s.moveNt d).buf = s.buf := rfl
@[simp] theorem State.moveNt_np (d : Int) : (s.moveNt d).np = s.np := rfl
@[simp] theorem State.moveNt_rud (d : Int) : (s.moveNt d).rud = s.rud := rfl
@[simp] theorem State.moveNt_mck (d : Int) : (s.moveNt d).mck = s.mck := rfl
@[simp] theorem State.moveNt_srx (d : Int) : (s.moveNt d).srx = s.srx := rfl
@[simp] theorem State.moveNt_stx (d : Int) : (s.moveNt d).stx = s.stx := rfl
@[simp] theorem State.moveNt_ral (d : Int) : (s.moveNt d).ral = s.ral := rfl
@[simp] theorem State.moveNt_drv (d : Int) : (s.moveNt d).drv = s.drv := rfl
@[simp] theorem State.moveNt_tdm (d : Int) : (s.moveNt d).tdm = s.tdm := rfl
@[simp] theorem State.moveNt_obl (d : Int) : (s.moveNt d).obl = s.obl := rfl
@[simp] theorem State.moveNt_ump (d : Int) : (s.moveNt d).ump = s.ump := rfl
@[simp] theorem State.moveNt_patch (d : Int) : (s.moveNt d).patch = s.patch := rfl
@[simp] theorem State.moveNt_tst (d : Int) : (s.moveNt d).tst = s.tst := rfl
@[simp] theorem State.moveNt_otp (d : Int) : (s.moveNt d).otp = s.otp := rfl
@[simp] theorem State.moveNt_otpBad (d : Int) : (s.moveNt d).otpBad = s.otpBad := rfl
@[simp] theorem State.moveNt_free (d : Int) : (s.moveNt d).free = s.free := rfl
@[simp] theorem State.moveNt_pending (d : Int) : (s.moveNt d).pending = s.pending := rfl

/-! ## fresh -/

@[simp] theorem fresh_regs : (fresh s).regs = s.regs := rfl
@[simp] theorem fresh_keys : (fresh s).keys = s.keys := rfl
@[simp] theorem fresh_misparity : (fresh s).misparity = s.misparity := rfl
@[simp] theorem fresh_rdata : (fresh s).bus.rdata = s.bus.rdata := rfl
@[simp] theorem fresh_ack : (fresh s).bus.ack = s.bus.ack := rfl
@[simp] theorem fresh_status : (fresh s).bus.status = s.bus.status := rfl
@[simp] theorem fresh_msWrite : (fresh s).bus.msWrite = s.bus.msWrite := rfl
@[simp] theorem fresh_pmu : (fresh s).pmu = s.pmu := rfl
@[simp] theorem fresh_cmd : (fresh s).cmd = s.cmd := rfl
@[simp] theorem fresh_buf : (fresh s).buf = s.buf := rfl
@[simp] theorem fresh_np : (fresh s).np = s.np := rfl
@[simp] theorem fresh_rud : (fresh s).rud = s.rud := rfl
@[simp] theorem fresh_ntu : (fresh s).ntu = s.ntu := rfl
@[simp] theorem fresh_mck : (fresh s).mck = s.mck := rfl
@[simp] theorem fresh_srx : (fresh s).srx = s.srx := rfl
@[simp] theorem fresh_stx : (fresh s).stx = s.stx := rfl
@[simp] theorem fresh_ral : (fresh s).ral = s.ral := rfl
@[simp] theorem fresh_drv : (fresh s).drv = s.drv := rfl
@[simp] theorem fresh_tdm : (fresh s).tdm = s.tdm := rfl
@[simp] theorem fresh_ump : (fresh s).ump = s.ump := rfl
@[simp] theorem fresh_patch : (fresh s).patch = s.patch := rfl
@[simp] theorem fresh_tst : (fresh s).tst = s.tst := rfl
@[simp] theorem fresh_otp : (fresh s).otp = s.otp := rfl
@[simp] theorem fresh_otpBad : (fresh s).otpBad = s.otpBad := rfl
@[simp] theorem fresh_free : (fresh s).free = s.free := rfl
@[simp] theorem fresh_pending : (fresh s).pending = s.pending := rfl
end Sys2Proof.Machine
end

