-- ==== Sys2Proof/Laws/Settle.lean ====
section
/-! SUPPORT. What a read of a register gives after a write, and what the end of every command (`settle`) and its beginning
(`fresh`) leave alone. -/
namespace Sys2Proof.Machine

variable (s : State)

/-! ## Registers -/

theorem State.reg_setReg (a b : Nat) (v : Word) : (s.setReg a v).reg b = if b = a then v else s.reg b := by
  unfold State.reg State.setReg
  split
  · subst_vars; simp
  · exact tgetD_tput_ne _ _ _ _ ‹_›

@[simp] theorem State.reg_setReg_self (a : Nat) (v : Word) : (s.setReg a v).reg a = v := by simp [State.reg_setReg]

theorem State.reg_setReg_ne {a b : Nat} (v : Word) (h : b ≠ a) : (s.setReg a v).reg b = s.reg b := by
  simp [State.reg_setReg, h]

theorem State.reg_flag (a b i : Nat) : (s.flag a i).reg b = if b = a then s.reg a ||| (1 <<< i) else s.reg b :=
  s.reg_setReg a b _

theorem State.reg_setField (a b hi lo v : Nat) :
    (s.setField a hi lo v).reg b = if b = a then withField (s.reg a) hi lo v else s.reg b := s.reg_setReg a b _

/-- A flag that is set reads as set. -/
theorem State.bit_flag_self (a i : Nat) (h : i < 32) : (s.flag a i).bit a i = true := by
  unfold State.bit bitOf
  rw [State.reg_flag]
  simp only [if_true, BitVec.getLsbD_or, Bool.or_eq_true]
  right
  simp [h, BitVec.getLsbD_ofNat]

/-! ## settle -/

@[simp] theorem settle_regs : (settle s).regs = s.regs := by unfold settle State.message; dsimp only; split_ifs <;> rfl
@[simp] theorem settle_misparity : (settle s).misparity = s.misparity := by unfold settle State.message; dsimp only; split_ifs <;> rfl
@[simp] theorem settle_keys : (settle s).keys = s.keys := by unfold settle State.message; dsimp only; split_ifs <;> rfl
@[simp] theorem settle_bus : (settle s).bus = s.bus := by unfold settle State.message; dsimp only; split_ifs <;> rfl
@[simp] theorem settle_pmu : (settle s).pmu = s.pmu := by unfold settle State.message; dsimp only; split_ifs <;> rfl
@[simp] theorem settle_cmd : (settle s).cmd = s.cmd := by unfold settle State.message; dsimp only; split_ifs <;> rfl
@[simp] theorem settle_buf : (settle s).buf = s.buf := by unfold settle State.message; dsimp only; split_ifs <;> rfl
@[simp] theorem settle_np : (settle s).np = s.np := by unfold settle State.message; dsimp only; split_ifs <;> rfl
@[simp] theorem settle_rud : (settle s).rud = s.rud := by unfold settle State.message; dsimp only; split_ifs <;> rfl
@[simp] theorem settle_ntu : (settle s).ntu = s.ntu := by unfold settle State.message; dsimp only; split_ifs <;> rfl
@[simp] theorem settle_mck : (settle s).mck = s.mck := by unfold settle State.message; dsimp only; split_ifs <;> rfl
@[simp] theorem settle_srx : (settle s).srx = s.srx := by unfold settle State.message; dsimp only; split_ifs <;> rfl
@[simp] theorem settle_stx : (settle s).stx = s.stx := by unfold settle State.message; dsimp only; split_ifs <;> rfl
@[simp] theorem settle_ral : (settle s).ral = s.ral := by unfold settle State.message; dsimp only; split_ifs <;> rfl
@[simp] theorem settle_drv : (settle s).drv = s.drv := by unfold settle State.message; dsimp only; split_ifs <;> rfl
@[simp] theorem settle_tdm : (settle s).tdm = s.tdm := by unfold settle State.message; dsimp only; split_ifs <;> rfl
@[simp] theorem settle_obl : (settle s).obl = s.obl := by unfold settle State.message; dsimp only; split_ifs <;> rfl
@[simp] theorem settle_ump : (settle s).ump = s.ump := by unfold settle State.message; dsimp only; split_ifs <;> rfl
@[simp] theorem settle_patch : (settle s).patch = s.patch := by unfold settle State.message; dsimp only; split_ifs <;> rfl
@[simp] theorem settle_tst : (settle s).tst = s.tst := by unfold settle State.message; dsimp only; split_ifs <;> rfl
@[simp] theorem settle_otp : (settle s).otp = s.otp := by unfold settle State.message; dsimp only; split_ifs <;> rfl
@[simp] theorem settle_otpBad : (settle s).otpBad = s.otpBad := by unfold settle State.message; dsimp only; split_ifs <;> rfl
@[simp] theorem settle_free : (settle s).free = s.free := by unfold settle State.message; dsimp only; split_ifs <;> rfl
@[simp] theorem settle_pending : (settle s).pending = s.pending := by unfold settle State.message; dsimp only; split_ifs <;> rfl
@[simp] theorem settle_hif_up : (settle s).hif.up = s.hif.up := by
  unfold settle State.message; dsimp only; split_ifs <;> rfl
@[simp] theorem settle_hif_perstN : (settle s).hif.perstN = s.hif.perstN := by
  unfold settle State.message; dsimp only; split_ifs <;> rfl
@[simp] theorem settle_hif_linkUp : (settle s).hif.linkUp = s.hif.linkUp := by
  unfold settle State.message; dsimp only; split_ifs <;> rfl
@[simp] theorem settle_hif_training : (settle s).hif.training = s.hif.training := by
  unfold settle State.message; dsimp only; split_ifs <;> rfl
@[simp] theorem settle_hif_width : (settle s).hif.width = s.hif.width := by
  unfold settle State.message; dsimp only; split_ifs <;> rfl
@[simp] theorem settle_hif_speed : (settle s).hif.speed = s.hif.speed := by
  unfold settle State.message; dsimp only; split_ifs <;> rfl
@[simp] theorem settle_hif_msixEn : (settle s).hif.msixEn = s.hif.msixEn := by
  unfold settle State.message; dsimp only; split_ifs <;> rfl
@[simp] theorem settle_hif_bme : (settle s).hif.bme = s.hif.bme := by
  unfold settle State.message; dsimp only; split_ifs <;> rfl
@[simp] theorem settle_hif_d3hot : (settle s).hif.d3hot = s.hif.d3hot := by
  unfold settle State.message; dsimp only; split_ifs <;> rfl
@[simp] theorem settle_hif_vecMask : (settle s).hif.vecMask = s.hif.vecMask := by
  unfold settle State.message; dsimp only; split_ifs <;> rfl
@[simp] theorem settle_hif_vec1 : (settle s).hif.vec1 = s.hif.vec1 := by
  unfold settle State.message; dsimp only; split_ifs <;> rfl
@[simp] theorem settle_hif_cqHead : (settle s).hif.cqHead = s.hif.cqHead := by
  unfold settle State.message; dsimp only; split_ifs <;> rfl
@[simp] theorem settle_hif_rqTail : (settle s).hif.rqTail = s.hif.rqTail := by
  unfold settle State.message; dsimp only; split_ifs <;> rfl
@[simp] theorem settle_hif_asmHost : (settle s).hif.asmHost = s.hif.asmHost := by
  unfold settle State.message; dsimp only; split_ifs <;> rfl
@[simp] theorem settle_hif_asmMgmt : (settle s).hif.asmMgmt = s.hif.asmMgmt := by
  unfold settle State.message; dsimp only; split_ifs <;> rfl
@[simp] theorem settle_hif_cmdQueue : (settle s).hif.cmdQueue = s.hif.cmdQueue := by
  unfold settle State.message; dsimp only; split_ifs <;> rfl
@[simp] theorem settle_hif_rpHost : (settle s).hif.rpHost = s.hif.rpHost := by
  unfold settle State.message; dsimp only; split_ifs <;> rfl
@[simp] theorem settle_hif_rpMgmt : (settle s).hif.rpMgmt = s.hif.rpMgmt := by
  unfold settle State.message; dsimp only; split_ifs <;> rfl
@[simp] theorem settle_hif_rqWrite : (settle s).hif.rqWrite = s.hif.rqWrite := by
  unfold settle State.message; dsimp only; split_ifs <;> rfl
@[simp] theorem settle_hif_rqSlot : (settle s).hif.rqSlot = s.hif.rqSlot := by
  unfold settle State.message; dsimp only; split_ifs <;> rfl
@[simp] theorem settle_hif_rings : (settle s).hif.rings = s.hif.rings := by
  unfold settle State.message; dsimp only; split_ifs <;> rfl
@[simp] theorem settle_hif_audio : (settle s).hif.audio = s.hif.audio := by
  unfold settle State.message; dsimp only; split_ifs <;> rfl
@[simp] theorem settle_hif_capture : (settle s).hif.capture = s.hif.capture := by
  unfold settle State.message; dsimp only; split_ifs <;> rfl
@[simp] theorem settle_hif_funcMask : (settle s).hif.funcMask = s.hif.funcMask := by
  unfold settle State.message; dsimp only; split_ifs <;> rfl
@[simp] theorem settle_hif_msixTable : (settle s).hif.msixTable = s.hif.msixTable := by
  unfold settle State.message; dsimp only; split_ifs <;> rfl
@[simp] theorem settle_hif_cfg : (settle s).hif.cfg = s.hif.cfg := by
  unfold settle State.message; dsimp only; split_ifs <;> rfl
@[simp] theorem settle_hif_rpHostRead : (settle s).hif.rpHostRead = s.hif.rpHostRead := by
  unfold settle State.message; dsimp only; split_ifs <;> rfl
@[simp] theorem settle_hif_rpMgmtRead : (settle s).hif.rpMgmtRead = s.hif.rpMgmtRead := by
  unfold settle State.message; dsimp only; split_ifs <;> rfl

@[simp] theorem settle_reg (a : Nat) : (settle s).reg a = s.reg a := by simp [State.reg]
@[simp] theorem settle_mode : (settle s).mode = s.mode := by simp [State.mode]

theorem settle_irq : (settle s).hif.irq = s.irqLevel := rfl
theorem settle_irqN : (settle s).hif.irqN = (s.irqLevel && s.bit Reg.HIF_IRQ_CFG 0) := rfl

theorem irqLevel_of_regs {s t : State} (h : t.regs = s.regs) : t.irqLevel = s.irqLevel := by
  have hr : ∀ a, t.reg a = s.reg a := fun a => by simp [State.reg, h]
  have hs : t.sumBit = s.sumBit := by funext w; simp [State.sumBit, hr]
  simp only [State.irqLevel, State.irqStatus, hs, hr]
  rfl

/-- IRQ_N is at the level of its causes at the end of every command. -/
theorem irqOk_settle : irqOk (settle s) := by
  have h := irqLevel_of_regs (settle_regs s)
  simp [irqOk, settle_irqN, h, State.bit]

/-! ## fresh -/

@[simp] theorem fresh_reg (a : Nat) : (fresh s).reg a = s.reg a := rfl
@[simp] theorem fresh_mode : (fresh s).mode = s.mode := rfl

@[simp] theorem fresh_hif_up : (fresh s).hif.up = s.hif.up := rfl
@[simp] theorem fresh_hif_perstN : (fresh s).hif.perstN = s.hif.perstN := rfl
@[simp] theorem fresh_hif_linkUp : (fresh s).hif.linkUp = s.hif.linkUp := rfl
@[simp] theorem fresh_hif_training : (fresh s).hif.training = s.hif.training := rfl
@[simp] theorem fresh_hif_width : (fresh s).hif.width = s.hif.width := rfl
@[simp] theorem fresh_hif_speed : (fresh s).hif.speed = s.hif.speed := rfl
@[simp] theorem fresh_hif_msixEn : (fresh s).hif.msixEn = s.hif.msixEn := rfl
@[simp] theorem fresh_hif_bme : (fresh s).hif.bme = s.hif.bme := rfl
@[simp] theorem fresh_hif_d3hot : (fresh s).hif.d3hot = s.hif.d3hot := rfl
@[simp] theorem fresh_hif_vecMask : (fresh s).hif.vecMask = s.hif.vecMask := rfl
@[simp] theorem fresh_hif_pba : (fresh s).hif.pba = s.hif.pba := rfl
@[simp] theorem fresh_hif_vec1 : (fresh s).hif.vec1 = s.hif.vec1 := rfl
@[simp] theorem fresh_hif_irq : (fresh s).hif.irq = s.hif.irq := rfl
@[simp] theorem fresh_hif_irqN : (fresh s).hif.irqN = s.hif.irqN := rfl
@[simp] theorem fresh_hif_cqHead : (fresh s).hif.cqHead = s.hif.cqHead := rfl
@[simp] theorem fresh_hif_rqTail : (fresh s).hif.rqTail = s.hif.rqTail := rfl
@[simp] theorem fresh_hif_asmHost : (fresh s).hif.asmHost = s.hif.asmHost := rfl
@[simp] theorem fresh_hif_asmMgmt : (fresh s).hif.asmMgmt = s.hif.asmMgmt := rfl
@[simp] theorem fresh_hif_cmdQueue : (fresh s).hif.cmdQueue = s.hif.cmdQueue := rfl
@[simp] theorem fresh_hif_rpHost : (fresh s).hif.rpHost = s.hif.rpHost := rfl
@[simp] theorem fresh_hif_rpMgmt : (fresh s).hif.rpMgmt = s.hif.rpMgmt := rfl
@[simp] theorem fresh_hif_rqSlot : (fresh s).hif.rqSlot = s.hif.rqSlot := rfl
@[simp] theorem fresh_hif_rings : (fresh s).hif.rings = s.hif.rings := rfl
@[simp] theorem fresh_hif_audio : (fresh s).hif.audio = s.hif.audio := rfl
@[simp] theorem fresh_hif_funcMask : (fresh s).hif.funcMask = s.hif.funcMask := rfl
@[simp] theorem fresh_hif_msixTable : (fresh s).hif.msixTable = s.hif.msixTable := rfl
@[simp] theorem fresh_hif_cfg : (fresh s).hif.cfg = s.hif.cfg := rfl
@[simp] theorem fresh_hif_rpHostRead : (fresh s).hif.rpHostRead = s.hif.rpHostRead := rfl
@[simp] theorem fresh_hif_rpMgmtRead : (fresh s).hif.rpMgmtRead = s.hif.rpMgmtRead := rfl
@[simp] theorem fresh_obl_ports : (fresh s).obl.ports = s.obl.ports := rfl
@[simp] theorem fresh_obl_pos : (fresh s).obl.pos = s.obl.pos := rfl
@[simp] theorem fresh_obl_posValid : (fresh s).obl.posValid = s.obl.posValid := rfl
@[simp] theorem fresh_obl_ring : (fresh s).obl.ring = s.obl.ring := rfl
@[simp] theorem fresh_obl_conflict : (fresh s).obl.conflict = s.obl.conflict := rfl
@[simp] theorem fresh_obl_coxDn : (fresh s).obl.coxDn = s.obl.coxDn := rfl
@[simp] theorem fresh_obl_frozen : (fresh s).obl.frozen = s.obl.frozen := rfl
@[simp] theorem fresh_obl_syncSeen : (fresh s).obl.syncSeen = s.obl.syncSeen := rfl
@[simp] theorem fresh_obl_coxEpoch : (fresh s).obl.coxEpoch = s.obl.coxEpoch := rfl
@[simp] theorem fresh_obl_hopErr : (fresh s).obl.hopErr = s.obl.hopErr := rfl
@[simp] theorem fresh_obl_coxPhase : (fresh s).obl.coxPhase = s.obl.coxPhase := rfl
@[simp] theorem fresh_obl_coxRate : (fresh s).obl.coxRate = s.obl.coxRate := rfl
@[simp] theorem fresh_obl_coxS16 : (fresh s).obl.coxS16 = s.obl.coxS16 := rfl
@[simp] theorem fresh_obl_coxId : (fresh s).obl.coxId = s.obl.coxId := rfl
@[simp] theorem fresh_obl_mismatch : (fresh s).obl.mismatch = s.obl.mismatch := rfl
@[simp] theorem fresh_obl_move : (fresh s).obl.move = s.obl.move := rfl
@[simp] theorem fresh_obl_seatInfo : (fresh s).obl.seatInfo = s.obl.seatInfo := rfl
@[simp] theorem fresh_obl_seatRestarts : (fresh s).obl.seatRestarts = s.obl.seatRestarts := rfl
@[simp] theorem fresh_obl_owners : (fresh s).obl.owners = s.obl.owners := rfl
@[simp] theorem fresh_obl_ownersNext : (fresh s).obl.ownersNext = s.obl.ownersNext := rfl
@[simp] theorem fresh_obl_lanes : (fresh s).obl.lanes = s.obl.lanes := rfl
@[simp] theorem fresh_obl_laneStroke : (fresh s).obl.laneStroke = s.obl.laneStroke := rfl
@[simp] theorem fresh_obl_partials : (fresh s).obl.partials = s.obl.partials := rfl
@[simp] theorem fresh_obl_relayNext : (fresh s).obl.relayNext = s.obl.relayNext := rfl
@[simp] theorem fresh_obl_gather : (fresh s).obl.gather = s.obl.gather := rfl
@[simp] theorem fresh_obl_totals : (fresh s).obl.totals = s.obl.totals := rfl
@[simp] theorem fresh_obl_tunnels : (fresh s).obl.tunnels = s.obl.tunnels := rfl
@[simp] theorem fresh_obl_heldReplies : (fresh s).obl.heldReplies = s.obl.heldReplies := rfl
@[simp] theorem fresh_obl_taken : (fresh s).obl.taken = s.obl.taken := rfl
@[simp] theorem fresh_obl_linkAt : (fresh s).obl.linkAt = s.obl.linkAt := rfl
@[simp] theorem fresh_obl_linkChunk : (fresh s).obl.linkChunk = s.obl.linkChunk := rfl
@[simp] theorem fresh_obl_cut : (fresh s).obl.cut = s.obl.cut := rfl

end Sys2Proof.Machine
end

