-- ==== Sys2Proof/Laws/Dadin.lean ====
section
/-! SUPPORT. What a Dadin command that arrives at an idle Command Processor comes to, by the outcome of its commit. -/
namespace Sys2Proof.Machine

variable {s : State} {op : Nat} {k : Pkt}

/-- The command of a packet once it has started. -/
def started (op : Nat) (k : Pkt) (s : State) : Flight := flightIn op k .started .none [] 0 s

theorem begins_idle (h : begins op k s = true) : cmdIdle s = true := by
  simp only [begins, Bool.and_eq_true] at h; exact h.1.1

theorem begins_mode (h : begins op k s = true) : modeRefuses op s.mode = false := by
  simp only [begins, Bool.and_eq_true] at h; simpa using h.2

theorem mayStart_idle (h : cmdIdle s = true) (f : Flight) (hf : f.phase = .waiting) :
    mayStart { fresh s with cmd := { s.cmd with flights := [f], nextOrd := s.cmd.nextOrd + 1 } } f = true := by
  simp only [cmdIdle, Bool.and_eq_true, Option.isNone_iff_eq_none, List.isEmpty_iff] at h
  simp [mayStart, hf, withPmu, sHeld, behindSleep, objHeld, h.1.1.2, h.1.2, h.2]

theorem intake_starts (h : cmdIdle s = true) (hfl : s.cmd.flights = []) {f : Flight} (hf : f.phase = .waiting)
    (ho : f.ord = s.cmd.nextOrd) :
    intake f (fresh s)
      = startFlight f { fresh s with cmd := { s.cmd with flights := [f], nextOrd := s.cmd.nextOrd + 1 } } := by
  have hm := mayStart_idle h f hf
  have e : { fresh s with cmd := { (fresh s).cmd with flights := (fresh s).cmd.flights ++ [f], nextOrd := f.ord + 1 } }
      = { fresh s with cmd := { s.cmd with flights := [f], nextOrd := s.cmd.nextOrd + 1 } } := by
    simp only [fresh_cmd, hfl, ho, List.nil_append]
  unfold intake
  dsimp only
  rw [e, hm]
  rfl

/-- A packet that passes checks 1 to 5 at an idle Command Processor starts at once. -/
theorem arrive_starts (h : cmdIdle s = true) (hp : proper op k s = true) (h0 : op ≠ 0) :
    arrive op k (fresh s) = startFlight (flightOf (.path k.path) op k s)
      { fresh s with cmd := { s.cmd with flights := [flightOf (.path k.path) op k s], nextOrd := s.cmd.nextOrd + 1 } } := by
  have hi := h
  simp only [cmdIdle, Bool.and_eq_true, Option.isNone_iff_eq_none, List.isEmpty_iff] at h
  simp only [proper, Bool.and_eq_true, decide_eq_true_eq, Option.isNone_iff_eq_none, Bool.not_eq_true'] at hp
  obtain ⟨⟨⟨⟨hl, hu⟩, hc⟩, ht⟩, hb⟩ := hp
  have htk : (fresh s).takes = true := h.1.1.1.1.1
  have hfl : s.cmd.flights = [] := h.1.1.1.2
  have hf : flightOf (.path k.path) op k (fresh s) = flightOf (.path k.path) op k s := rfl
  have hcc : (k.c && !k.checkOk) = false := by
    cases hk : k.c <;> cases hk' : k.checkOk <;> simp_all
  have htb : (fresh s).tagBusy k.tag.toNat = false := ht
  unfold arrive
  rw [htk, if_pos rfl]
  unfold takeIn
  simp only [hf, h0, if_false, takesTag, htb, hcc, hb, Bool.and_false]
  rw [if_neg (by simp; omega)]
  simp only [Bool.false_eq_true, if_false]
  exact intake_starts hi hfl rfl rfl

theorem startFlight_unit (f : Flight) (t : State) (h : 5 < f.op) :
    startFlight f t = commitUnit { f with phase := .started, startAt := t.ntu.course }
      (t.putFlight { f with phase := .started, startAt := t.ntu.course }) := by
  unfold startFlight
  dsimp only
  split
  · omega
  · omega
  · omega
  · omega
  · omega
  · with_reducible rfl

/-- A command of a unit reaches its commit point as it arrives. -/
theorem arrive_begun (h : begins op k s = true) (h5 : 5 < op) :
    arrive op k (fresh s) = commitUnit (started op k s) (begun op k s) := by
  have h' := h
  simp only [begins, Bool.and_eq_true] at h'
  rw [arrive_starts h'.1.1 h'.1.2 (by omega)]
  rw [startFlight_unit _ _ h5]
  congr 1
  simp [State.putFlight, begun, flightIn, flightOf]

theorem dueOf_begun (fin : Fin) : dueOf (begun op k s) fin = dueOf s fin := by cases fin <;> rfl

/-- The commit of a command that the mode in force does not refuse, for the opcodes below 0x30. -/
theorem commitOp_low {p : List Word} {x : Bool} {ord : Nat} {tag : BitVec 7} (h : modeRefuses op s.mode = false) (h1 : op < 0x30) :
    commitOp ord op tag x p s = commitLow op x p s := by
  unfold commitOp
  rw [h, if_neg (by simp), if_neg (by simp; omega), if_neg (by simp; omega), if_pos h1]

/-- The same for the opcodes from 0x30 to 0x4F. -/
theorem commitOp_mid {p : List Word} {x : Bool} {ord : Nat} {tag : BitVec 7} (h : modeRefuses op s.mode = false) (h1 : 0x30 ≤ op)
    (h2 : op < 0x50) : commitOp ord op tag x p s = commitMid ord op x p s := by
  unfold commitOp
  rw [h, if_neg (by simp), if_neg (by simp; omega), if_neg (by simp; omega), if_neg (by omega), if_pos h2]

/-- The same for the opcodes from 0x50 on. -/
theorem commitOp_high {p : List Word} {x : Bool} {ord : Nat} {tag : BitVec 7} (h : modeRefuses op s.mode = false) (h1 : 0x50 ≤ op)
    (h2 : op = 0x68 → cascadeNotCox p s = false) (h3 : op = 0x69 → x = true → s.role = 1) :
    commitOp ord op tag x p s = commitHigh op tag x p s := by
  unfold commitOp
  rw [h, if_neg (by simp), if_neg (by simp; exact h2), if_neg (by simp; exact h3), if_neg (by omega), if_neg (by omega)]

/-- A command that commits and completes at once. -/
theorem commit_ok {s1 : State} {body : List Word} {g : Bool} (h : begins op k s = true) (h5 : 5 < op)
    (hc : commitOp s.cmd.nextOrd op k.tag k.x k.params (begun op k s) = (s1, .ok body g)) (hs : s1.cmd = (begun op k s).cmd) :
    settle (arrive op k (fresh s)) = replied op k .ok 0 body g s s1 := by
  have hi := begins_idle h
  simp only [cmdIdle, Bool.and_eq_true, Option.isNone_iff_eq_none, List.isEmpty_iff, Bool.not_eq_true'] at hi
  have hr := hi.1.1.1.1.2
  have hfl := hi.1.1.1.2
  rw [arrive_begun h h5]
  have hc' : commitOp (started op k s).ord (started op k s).op (started op k s).tag (started op k s).x (started op k s).params (begun op k s)
      = (s1, .ok body g) := hc
  unfold commitUnit
  rw [hc']
  cases g <;>
    simp [applyRes, genIf, State.genUp, State.answer, State.hold, hs, begun, started, flightIn, flightOf, replied, replyOf,
      genAfter, hr, hfl]

/-- A command that fails a check at its commit point. -/
theorem commit_fail {s1 : State} {st : Status} {word : Nat} {body : List Word} (h : begins op k s = true) (h5 : 5 < op)
    (hc : commitOp s.cmd.nextOrd op k.tag k.x k.params (begun op k s) = (s1, .fail st word body)) (hs : s1.cmd = (begun op k s).cmd)
    (h1 : st ≠ .lost) (h2 : st ≠ .aborted) :
    settle (arrive op k (fresh s)) = replied op k st word body false s s1 := by
  have hi := begins_idle h
  simp only [cmdIdle, Bool.and_eq_true, Option.isNone_iff_eq_none, List.isEmpty_iff, Bool.not_eq_true'] at hi
  have hr := hi.1.1.1.1.2
  have hfl := hi.1.1.1.2
  rw [arrive_begun h h5]
  have hc' : commitOp (started op k s).ord (started op k s).op (started op k s).tag (started op k s).x (started op k s).params (begun op k s)
      = (s1, .fail st word body) := hc
  unfold commitUnit
  rw [hc']
  simp [applyRes, State.answer, State.hold, hs, begun, started, flightIn, flightOf, replied, replyOf, genAfter, hr, hfl, h1, h2]

/-- A command that commits and completes later. -/
theorem commit_later {s1 : State} {body : List Word} {g : Bool} {fin : Fin} (h : begins op k s = true) (h5 : 5 < op)
    (hc : commitOp s.cmd.nextOrd op k.tag k.x k.params (begun op k s) = (s1, .later fin body g)) (hs : s1.cmd = (begun op k s).cmd)
    (hf : fin ≠ .patchSwap) :
    settle (arrive op k (fresh s)) = inFlight op k .committed fin body (dueOf s fin) g s s1 := by
  have hi := begins_idle h
  simp only [cmdIdle, Bool.and_eq_true, Option.isNone_iff_eq_none, List.isEmpty_iff, Bool.not_eq_true'] at hi
  rw [arrive_begun h h5]
  have hc' : commitOp (started op k s).ord (started op k s).op (started op k s).tag (started op k s).x (started op k s).params (begun op k s)
      = (s1, .later fin body g) := hc
  unfold commitUnit
  rw [hc']
  dsimp only
  rw [dueOf_begun]
  cases g <;>
    simp [applyRes, genIf, State.genUp, State.putFlight, hs, begun, started, flightIn, flightOf, inFlight, genAfter, hf]

end Sys2Proof.Machine
end

