-- ==== Sys2Proof/Laws/Time.lean ====
section
/-! SUPPORT. What the passing of time changes: Course Time, Network Time and the slew, the presence of references, and the
keyed sequences with the error flags of those that expire; and nothing else. -/
namespace Sys2Proof.Machine

/-- A fold keeps what each of its steps keeps. -/
theorem foldl_keeps {α β γ : Type} (p : β → γ) (f : β → α → β) (h : ∀ b a, p (f b a) = p b) (l : List α) (b : β) :
    p (l.foldl f b) = p b := by
  induction l generalizing b with
  | nil => rfl
  | cons a l ih => simp [List.foldl_cons, ih, h]

variable (s : State)


@[simp] theorem State.keyError_bus (i : Nat) (p : Path) (b : Nat) : (s.keyError i p b).bus = s.bus := by
  unfold State.keyError
  rw [State.flag_bus]
  split
  · rw [State.setReg_bus]
  · rfl
@[simp] theorem State.ageKeys_bus (n : Nat) : (s.ageKeys n).bus = s.bus := by
  unfold State.ageKeys
  dsimp only
  rw [foldl_keeps State.bus]
  exact fun b a => State.keyError_bus b a.2.issued a.2.path 0
@[simp] theorem State.trackRefs_bus : s.trackRefs.bus = s.bus := by
  unfold State.trackRefs
  dsimp only
  split
  · rw [State.flag_bus]
  · rfl
@[simp] theorem State.keyError_pmu (i : Nat) (p : Path) (b : Nat) : (s.keyError i p b).pmu = s.pmu := by
  unfold State.keyError
  rw [State.flag_pmu]
  split
  · rw [State.setReg_pmu]
  · rfl
@[simp] theorem State.ageKeys_pmu (n : Nat) : (s.ageKeys n).pmu = s.pmu := by
  unfold State.ageKeys
  dsimp only
  rw [foldl_keeps State.pmu]
  exact fun b a => State.keyError_pmu b a.2.issued a.2.path 0
@[simp] theorem State.trackRefs_pmu : s.trackRefs.pmu = s.pmu := by
  unfold State.trackRefs
  dsimp only
  split
  · rw [State.flag_pmu]
  · rfl
@[simp] theorem State.keyError_hif (i : Nat) (p : Path) (b : Nat) : (s.keyError i p b).hif = s.hif := by
  unfold State.keyError
  rw [State.flag_hif]
  split
  · rw [State.setReg_hif]
  · rfl
@[simp] theorem State.ageKeys_hif (n : Nat) : (s.ageKeys n).hif = s.hif := by
  unfold State.ageKeys
  dsimp only
  rw [foldl_keeps State.hif]
  exact fun b a => State.keyError_hif b a.2.issued a.2.path 0
@[simp] theorem State.trackRefs_hif : s.trackRefs.hif = s.hif := by
  unfold State.trackRefs
  dsimp only
  split
  · rw [State.flag_hif]
  · rfl
@[simp] theorem State.keyError_cmd (i : Nat) (p : Path) (b : Nat) : (s.keyError i p b).cmd = s.cmd := by
  unfold State.keyError
  rw [State.flag_cmd]
  split
  · rw [State.setReg_cmd]
  · rfl
@[simp] theorem State.ageKeys_cmd (n : Nat) : (s.ageKeys n).cmd = s.cmd := by
  unfold State.ageKeys
  dsimp only
  rw [foldl_keeps State.cmd]
  exact fun b a => State.keyError_cmd b a.2.issued a.2.path 0
@[simp] theorem State.trackRefs_cmd : s.trackRefs.cmd = s.cmd := by
  unfold State.trackRefs
  dsimp only
  split
  · rw [State.flag_cmd]
  · rfl
@[simp] theorem State.keyError_buf (i : Nat) (p : Path) (b : Nat) : (s.keyError i p b).buf = s.buf := by
  unfold State.keyError
  rw [State.flag_buf]
  split
  · rw [State.setReg_buf]
  · rfl
@[simp] theorem State.ageKeys_buf (n : Nat) : (s.ageKeys n).buf = s.buf := by
  unfold State.ageKeys
  dsimp only
  rw [foldl_keeps State.buf]
  exact fun b a => State.keyError_buf b a.2.issued a.2.path 0
@[simp] theorem State.trackRefs_buf : s.trackRefs.buf = s.buf := by
  unfold State.trackRefs
  dsimp only
  split
  · rw [State.flag_buf]
  · rfl
@[simp] theorem State.keyError_np (i : Nat) (p : Path) (b : Nat) : (s.keyError i p b).np = s.np := by
  unfold State.keyError
  rw [State.flag_np]
  split
  · rw [State.setReg_np]
  · rfl
@[simp] theorem State.ageKeys_np (n : Nat) : (s.ageKeys n).np = s.np := by
  unfold State.ageKeys
  dsimp only
  rw [foldl_keeps State.np]
  exact fun b a => State.keyError_np b a.2.issued a.2.path 0
@[simp] theorem State.trackRefs_np : s.trackRefs.np = s.np := by
  unfold State.trackRefs
  dsimp only
  split
  · rw [State.flag_np]
  · rfl
@[simp] theorem State.keyError_rud (i : Nat) (p : Path) (b : Nat) : (s.keyError i p b).rud = s.rud := by
  unfold State.keyError
  rw [State.flag_rud]
  split
  · rw [State.setReg_rud]
  · rfl
@[simp] theorem State.ageKeys_rud (n : Nat) : (s.ageKeys n).rud = s.rud := by
  unfold State.ageKeys
  dsimp only
  rw [foldl_keeps State.rud]
  exact fun b a => State.keyError_rud b a.2.issued a.2.path 0
@[simp] theorem State.trackRefs_rud : s.trackRefs.rud = s.rud := by
  unfold State.trackRefs
  dsimp only
  split
  · rw [State.flag_rud]
  · rfl
@[simp] theorem State.keyError_ntu (i : Nat) (p : Path) (b : Nat) : (s.keyError i p b).ntu = s.ntu := by
  unfold State.keyError
  rw [State.flag_ntu]
  split
  · rw [State.setReg_ntu]
  · rfl
@[simp] theorem State.ageKeys_ntu (n : Nat) : (s.ageKeys n).ntu = s.ntu := by
  unfold State.ageKeys
  dsimp only
  rw [foldl_keeps State.ntu]
  exact fun b a => State.keyError_ntu b a.2.issued a.2.path 0
@[simp] theorem State.trackRefs_ntu : s.trackRefs.ntu = s.ntu := by
  unfold State.trackRefs
  dsimp only
  split
  · rw [State.flag_ntu]
  · rfl
@[simp] theorem State.keyError_srx (i : Nat) (p : Path) (b : Nat) : (s.keyError i p b).srx = s.srx := by
  unfold State.keyError
  rw [State.flag_srx]
  split
  · rw [State.setReg_srx]
  · rfl
@[simp] theorem State.ageKeys_srx (n : Nat) : (s.ageKeys n).srx = s.srx := by
  unfold State.ageKeys
  dsimp only
  rw [foldl_keeps State.srx]
  exact fun b a => State.keyError_srx b a.2.issued a.2.path 0
@[simp] theorem State.trackRefs_srx : s.trackRefs.srx = s.srx := by
  unfold State.trackRefs
  dsimp only
  split
  · rw [State.flag_srx]
  · rfl
@[simp] theorem State.keyError_stx (i : Nat) (p : Path) (b : Nat) : (s.keyError i p b).stx = s.stx := by
  unfold State.keyError
  rw [State.flag_stx]
  split
  · rw [State.setReg_stx]
  · rfl
@[simp] theorem State.ageKeys_stx (n : Nat) : (s.ageKeys n).stx = s.stx := by
  unfold State.ageKeys
  dsimp only
  rw [foldl_keeps State.stx]
  exact fun b a => State.keyError_stx b a.2.issued a.2.path 0
@[simp] theorem State.trackRefs_stx : s.trackRefs.stx = s.stx := by
  unfold State.trackRefs
  dsimp only
  split
  · rw [State.flag_stx]
  · rfl
@[simp] theorem State.keyError_ral (i : Nat) (p : Path) (b : Nat) : (s.keyError i p b).ral = s.ral := by
  unfold State.keyError
  rw [State.flag_ral]
  split
  · rw [State.setReg_ral]
  · rfl
@[simp] theorem State.ageKeys_ral (n : Nat) : (s.ageKeys n).ral = s.ral := by
  unfold State.ageKeys
  dsimp only
  rw [foldl_keeps State.ral]
  exact fun b a => State.keyError_ral b a.2.issued a.2.path 0
@[simp] theorem State.trackRefs_ral : s.trackRefs.ral = s.ral := by
  unfold State.trackRefs
  dsimp only
  split
  · rw [State.flag_ral]
  · rfl
@[simp] theorem State.keyError_drv (i : Nat) (p : Path) (b : Nat) : (s.keyError i p b).drv = s.drv := by
  unfold State.keyError
  rw [State.flag_drv]
  split
  · rw [State.setReg_drv]
  · rfl
@[simp] theorem State.ageKeys_drv (n : Nat) : (s.ageKeys n).drv = s.drv := by
  unfold State.ageKeys
  dsimp only
  rw [foldl_keeps State.drv]
  exact fun b a => State.keyError_drv b a.2.issued a.2.path 0
@[simp] theorem State.trackRefs_drv : s.trackRefs.drv = s.drv := by
  unfold State.trackRefs
  dsimp only
  split
  · rw [State.flag_drv]
  · rfl
@[simp] theorem State.keyError_tdm (i : Nat) (p : Path) (b : Nat) : (s.keyError i p b).tdm = s.tdm := by
  unfold State.keyError
  rw [State.flag_tdm]
  split
  · rw [State.setReg_tdm]
  · rfl
@[simp] theorem State.ageKeys_tdm (n : Nat) : (s.ageKeys n).tdm = s.tdm := by
  unfold State.ageKeys
  dsimp only
  rw [foldl_keeps State.tdm]
  exact fun b a => State.keyError_tdm b a.2.issued a.2.path 0
@[simp] theorem State.trackRefs_tdm : s.trackRefs.tdm = s.tdm := by
  unfold State.trackRefs
  dsimp only
  split
  · rw [State.flag_tdm]
  · rfl
@[simp] theorem State.keyError_obl (i : Nat) (p : Path) (b : Nat) : (s.keyError i p b).obl = s.obl := by
  unfold State.keyError
  rw [State.flag_obl]
  split
  · rw [State.setReg_obl]
  · rfl
@[simp] theorem State.ageKeys_obl (n : Nat) : (s.ageKeys n).obl = s.obl := by
  unfold State.ageKeys
  dsimp only
  rw [foldl_keeps State.obl]
  exact fun b a => State.keyError_obl b a.2.issued a.2.path 0
@[simp] theorem State.trackRefs_obl : s.trackRefs.obl = s.obl := by
  unfold State.trackRefs
  dsimp only
  split
  · rw [State.flag_obl]
  · rfl
@[simp] theorem State.keyError_ump (i : Nat) (p : Path) (b : Nat) : (s.keyError i p b).ump = s.ump := by
  unfold State.keyError
  rw [State.flag_ump]
  split
  · rw [State.setReg_ump]
  · rfl
@[simp] theorem State.ageKeys_ump (n : Nat) : (s.ageKeys n).ump = s.ump := by
  unfold State.ageKeys
  dsimp only
  rw [foldl_keeps State.ump]
  exact fun b a => State.keyError_ump b a.2.issued a.2.path 0
@[simp] theorem State.trackRefs_ump : s.trackRefs.ump = s.ump := by
  unfold State.trackRefs
  dsimp only
  split
  · rw [State.flag_ump]
  · rfl
@[simp] theorem State.keyError_patch (i : Nat) (p : Path) (b : Nat) : (s.keyError i p b).patch = s.patch := by
  unfold State.keyError
  rw [State.flag_patch]
  split
  · rw [State.setReg_patch]
  · rfl
@[simp] theorem State.ageKeys_patch (n : Nat) : (s.ageKeys n).patch = s.patch := by
  unfold State.ageKeys
  dsimp only
  rw [foldl_keeps State.patch]
  exact fun b a => State.keyError_patch b a.2.issued a.2.path 0
@[simp] theorem State.trackRefs_patch : s.trackRefs.patch = s.patch := by
  unfold State.trackRefs
  dsimp only
  split
  · rw [State.flag_patch]
  · rfl
@[simp] theorem State.keyError_tst (i : Nat) (p : Path) (b : Nat) : (s.keyError i p b).tst = s.tst := by
  unfold State.keyError
  rw [State.flag_tst]
  split
  · rw [State.setReg_tst]
  · rfl
@[simp] theorem State.ageKeys_tst (n : Nat) : (s.ageKeys n).tst = s.tst := by
  unfold State.ageKeys
  dsimp only
  rw [foldl_keeps State.tst]
  exact fun b a => State.keyError_tst b a.2.issued a.2.path 0
@[simp] theorem State.trackRefs_tst : s.trackRefs.tst = s.tst := by
  unfold State.trackRefs
  dsimp only
  split
  · rw [State.flag_tst]
  · rfl
@[simp] theorem State.keyError_otp (i : Nat) (p : Path) (b : Nat) : (s.keyError i p b).otp = s.otp := by
  unfold State.keyError
  rw [State.flag_otp]
  split
  · rw [State.setReg_otp]
  · rfl
@[simp] theorem State.ageKeys_otp (n : Nat) : (s.ageKeys n).otp = s.otp := by
  unfold State.ageKeys
  dsimp only
  rw [foldl_keeps State.otp]
  exact fun b a => State.keyError_otp b a.2.issued a.2.path 0
@[simp] theorem State.trackRefs_otp : s.trackRefs.otp = s.otp := by
  unfold State.trackRefs
  dsimp only
  split
  · rw [State.flag_otp]
  · rfl
@[simp] theorem State.keyError_otpBad (i : Nat) (p : Path) (b : Nat) : (s.keyError i p b).otpBad = s.otpBad := by
  unfold State.keyError
  rw [State.flag_otpBad]
  split
  · rw [State.setReg_otpBad]
  · rfl
@[simp] theorem State.ageKeys_otpBad (n : Nat) : (s.ageKeys n).otpBad = s.otpBad := by
  unfold State.ageKeys
  dsimp only
  rw [foldl_keeps State.otpBad]
  exact fun b a => State.keyError_otpBad b a.2.issued a.2.path 0
@[simp] theorem State.trackRefs_otpBad : s.trackRefs.otpBad = s.otpBad := by
  unfold State.trackRefs
  dsimp only
  split
  · rw [State.flag_otpBad]
  · rfl
@[simp] theorem State.keyError_free (i : Nat) (p : Path) (b : Nat) : (s.keyError i p b).free = s.free := by
  unfold State.keyError
  rw [State.flag_free]
  split
  · rw [State.setReg_free]
  · rfl
@[simp] theorem State.ageKeys_free (n : Nat) : (s.ageKeys n).free = s.free := by
  unfold State.ageKeys
  dsimp only
  rw [foldl_keeps State.free]
  exact fun b a => State.keyError_free b a.2.issued a.2.path 0
@[simp] theorem State.trackRefs_free : s.trackRefs.free = s.free := by
  unfold State.trackRefs
  dsimp only
  split
  · rw [State.flag_free]
  · rfl
@[simp] theorem State.keyError_pending (i : Nat) (p : Path) (b : Nat) : (s.keyError i p b).pending = s.pending := by
  unfold State.keyError
  rw [State.flag_pending]
  split
  · rw [State.setReg_pending]
  · rfl
@[simp] theorem State.ageKeys_pending (n : Nat) : (s.ageKeys n).pending = s.pending := by
  unfold State.ageKeys
  dsimp only
  rw [foldl_keeps State.pending]
  exact fun b a => State.keyError_pending b a.2.issued a.2.path 0
@[simp] theorem State.trackRefs_pending : s.trackRefs.pending = s.pending := by
  unfold State.trackRefs
  dsimp only
  split
  · rw [State.flag_pending]
  · rfl
@[simp] theorem State.keyError_mck (i : Nat) (p : Path) (b : Nat) : (s.keyError i p b).mck = s.mck := by
  unfold State.keyError
  rw [State.flag_mck]
  split
  · rw [State.setReg_mck]
  · rfl
@[simp] theorem State.ageKeys_mck (n : Nat) : (s.ageKeys n).mck = s.mck := by
  unfold State.ageKeys
  dsimp only
  rw [foldl_keeps State.mck]
  exact fun b a => State.keyError_mck b a.2.issued a.2.path 0

@[simp] theorem State.advance_bus (dt : Nat) : (s.advance dt).bus = s.bus := by
  unfold State.advance; split
  · rfl
  · simp
@[simp] theorem State.advance_pmu (dt : Nat) : (s.advance dt).pmu = s.pmu := by
  unfold State.advance; split
  · rfl
  · simp
@[simp] theorem State.advance_hif (dt : Nat) : (s.advance dt).hif = s.hif := by
  unfold State.advance; split
  · rfl
  · simp
@[simp] theorem State.advance_cmd (dt : Nat) : (s.advance dt).cmd = s.cmd := by
  unfold State.advance; split
  · rfl
  · simp
@[simp] theorem State.advance_buf (dt : Nat) : (s.advance dt).buf = s.buf := by
  unfold State.advance; split
  · rfl
  · simp
@[simp] theorem State.advance_np (dt : Nat) : (s.advance dt).np = s.np := by
  unfold State.advance; split
  · rfl
  · simp
@[simp] theorem State.advance_rud (dt : Nat) : (s.advance dt).rud = s.rud := by
  unfold State.advance; split
  · rfl
  · simp
@[simp] theorem State.advance_srx (dt : Nat) : (s.advance dt).srx = s.srx := by
  unfold State.advance; split
  · rfl
  · simp
@[simp] theorem State.advance_stx (dt : Nat) : (s.advance dt).stx = s.stx := by
  unfold State.advance; split
  · rfl
  · simp
@[simp] theorem State.advance_ral (dt : Nat) : (s.advance dt).ral = s.ral := by
  unfold State.advance; split
  · rfl
  · simp
@[simp] theorem State.advance_drv (dt : Nat) : (s.advance dt).drv = s.drv := by
  unfold State.advance; split
  · rfl
  · simp
@[simp] theorem State.advance_tdm (dt : Nat) : (s.advance dt).tdm = s.tdm := by
  unfold State.advance; split
  · rfl
  · simp
@[simp] theorem State.advance_obl (dt : Nat) : (s.advance dt).obl = s.obl := by
  unfold State.advance; split
  · rfl
  · simp
@[simp] theorem State.advance_ump (dt : Nat) : (s.advance dt).ump = s.ump := by
  unfold State.advance; split
  · rfl
  · simp
@[simp] theorem State.advance_patch (dt : Nat) : (s.advance dt).patch = s.patch := by
  unfold State.advance; split
  · rfl
  · simp
@[simp] theorem State.advance_tst (dt : Nat) : (s.advance dt).tst = s.tst := by
  unfold State.advance; split
  · rfl
  · simp
@[simp] theorem State.advance_otp (dt : Nat) : (s.advance dt).otp = s.otp := by
  unfold State.advance; split
  · rfl
  · simp
@[simp] theorem State.advance_otpBad (dt : Nat) : (s.advance dt).otpBad = s.otpBad := by
  unfold State.advance; split
  · rfl
  · simp
@[simp] theorem State.advance_free (dt : Nat) : (s.advance dt).free = s.free := by
  unfold State.advance; split
  · rfl
  · simp
@[simp] theorem State.advance_pending (dt : Nat) : (s.advance dt).pending = s.pending := by
  unfold State.advance; split
  · rfl
  · simp

theorem State.advance_course (dt : Nat) (h : s.mode ≠ .moored) :
    (s.advance dt).ntu.course = (s.ntu.course + dt) % 2 ^ 64 := by
  unfold State.advance; simp [h, State.moveNt]

@[simp] theorem State.advance_mode (dt : Nat) : (s.advance dt).mode = s.mode := by simp [State.mode]

theorem State.advance_moored (dt : Nat) (h : s.mode = .moored) : s.advance dt = s := by
  unfold State.advance; simp [h]

@[simp] theorem State.advance_ntu_rate (dt : Nat) : (s.advance dt).ntu.rate = s.ntu.rate := by
  unfold State.advance; split
  · rfl
  · simp [State.moveNt]
@[simp] theorem State.advance_ntu_valid (dt : Nat) : (s.advance dt).ntu.valid = s.ntu.valid := by
  unfold State.advance; split
  · rfl
  · simp [State.moveNt]
@[simp] theorem State.advance_ntu_steps (dt : Nat) : (s.advance dt).ntu.steps = s.ntu.steps := by
  unfold State.advance; split
  · rfl
  · simp [State.moveNt]
@[simp] theorem State.advance_ntu_epoch (dt : Nat) : (s.advance dt).ntu.epoch = s.ntu.epoch := by
  unfold State.advance; split
  · rfl
  · simp [State.moveNt]
@[simp] theorem State.advance_ntu_ptp (dt : Nat) : (s.advance dt).ntu.ptp = s.ntu.ptp := by
  unfold State.advance; split
  · rfl
  · simp [State.moveNt]
@[simp] theorem State.advance_ntu_ports (dt : Nat) : (s.advance dt).ntu.ports = s.ntu.ports := by
  unfold State.advance; split
  · rfl
  · simp [State.moveNt]
@[simp] theorem State.advance_ntu_list (dt : Nat) : (s.advance dt).ntu.list = s.ntu.list := by
  unfold State.advance; split
  · rfl
  · simp [State.moveNt]
@[simp] theorem State.advance_ntu_evtOut (dt : Nat) : (s.advance dt).ntu.evtOut = s.ntu.evtOut := by
  unfold State.advance; split
  · rfl
  · simp [State.moveNt]
@[simp] theorem State.advance_ntu_evtIn (dt : Nat) : (s.advance dt).ntu.evtIn = s.ntu.evtIn := by
  unfold State.advance; split
  · rfl
  · simp [State.moveNt]
@[simp] theorem State.advance_ntu_servoOn (dt : Nat) : (s.advance dt).ntu.servoOn = s.ntu.servoOn := by
  unfold State.advance; split
  · rfl
  · simp [State.moveNt]
@[simp] theorem State.advance_ntu_reroute (dt : Nat) : (s.advance dt).ntu.reroute = s.ntu.reroute := by
  unfold State.advance; split
  · rfl
  · simp [State.moveNt]
@[simp] theorem State.advance_mck_sel (dt : Nat) : (s.advance dt).mck.sel = s.mck.sel := by
  unfold State.advance; split
  · rfl
  · simp [State.trackRefs, State.moveNt]; split <;> rfl
@[simp] theorem State.advance_mck_state (dt : Nat) : (s.advance dt).mck.state = s.mck.state := by
  unfold State.advance; split
  · rfl
  · simp [State.trackRefs, State.moveNt]; split <;> rfl
@[simp] theorem State.advance_mck_revert (dt : Nat) : (s.advance dt).mck.revert = s.mck.revert := by
  unfold State.advance; split
  · rfl
  · simp [State.trackRefs, State.moveNt]; split <;> rfl
@[simp] theorem State.advance_mck_hitless (dt : Nat) : (s.advance dt).mck.hitless = s.mck.hitless := by
  unfold State.advance; split
  · rfl
  · simp [State.trackRefs, State.moveNt]; split <;> rfl
@[simp] theorem State.advance_mck_disagreeLim (dt : Nat) : (s.advance dt).mck.disagreeLim = s.mck.disagreeLim := by
  unfold State.advance; split
  · rfl
  · simp [State.trackRefs, State.moveNt]; split <;> rfl
@[simp] theorem State.advance_mck_phaseErr (dt : Nat) : (s.advance dt).mck.phaseErr = s.mck.phaseErr := by
  unfold State.advance; split
  · rfl
  · simp [State.trackRefs, State.moveNt]; split <;> rfl
@[simp] theorem State.advance_mck_held (dt : Nat) : (s.advance dt).mck.held = s.mck.held := by
  unfold State.advance; split
  · rfl
  · simp [State.trackRefs, State.moveNt]; split <;> rfl
@[simp] theorem State.advance_mck_absorb (dt : Nat) : (s.advance dt).mck.absorb = s.mck.absorb := by
  unfold State.advance; split
  · rfl
  · simp [State.trackRefs, State.moveNt]; split <;> rfl
@[simp] theorem State.advance_mck_freq (dt : Nat) : (s.advance dt).mck.freq = s.mck.freq := by
  unfold State.advance; split
  · rfl
  · simp [State.trackRefs, State.moveNt]; split <;> rfl
@[simp] theorem State.advance_mck_hoLimit (dt : Nat) : (s.advance dt).mck.hoLimit = s.mck.hoLimit := by
  unfold State.advance; split
  · rfl
  · simp [State.trackRefs, State.moveNt]; split <;> rfl
@[simp] theorem State.advance_mck_fe0 (dt : Nat) : (s.advance dt).mck.fe0 = s.mck.fe0 := by
  unfold State.advance; split
  · rfl
  · simp [State.trackRefs, State.moveNt]; split <;> rfl
@[simp] theorem State.advance_mck_drift (dt : Nat) : (s.advance dt).mck.drift = s.mck.drift := by
  unfold State.advance; split
  · rfl
  · simp [State.trackRefs, State.moveNt]; split <;> rfl
@[simp] theorem State.advance_mck_hoAt (dt : Nat) : (s.advance dt).mck.hoAt = s.mck.hoAt := by
  unfold State.advance; split
  · rfl
  · simp [State.trackRefs, State.moveNt]; split <;> rfl
@[simp] theorem State.advance_mck_lockedAt (dt : Nat) : (s.advance dt).mck.lockedAt = s.mck.lockedAt := by
  unfold State.advance; split
  · rfl
  · simp [State.trackRefs, State.moveNt]; split <;> rfl
@[simp] theorem State.advance_mck_grid (dt : Nat) : (s.advance dt).mck.grid = s.mck.grid := by
  unfold State.advance; split
  · rfl
  · simp [State.trackRefs, State.moveNt]; split <;> rfl
@[simp] theorem State.advance_mck_gridStart (dt : Nat) : (s.advance dt).mck.gridStart = s.mck.gridStart := by
  unfold State.advance; split
  · rfl
  · simp [State.trackRefs, State.moveNt]; split <;> rfl
@[simp] theorem State.advance_mck_stroke (dt : Nat) : (s.advance dt).mck.stroke = s.mck.stroke := by
  unfold State.advance; split
  · rfl
  · simp [State.trackRefs, State.moveNt]; split <;> rfl
@[simp] theorem State.advance_mck_part (dt : Nat) : (s.advance dt).mck.part = s.mck.part := by
  unfold State.advance; split
  · rfl
  · simp [State.trackRefs, State.moveNt]; split <;> rfl
@[simp] theorem State.advance_mck_strokeTick (dt : Nat) : (s.advance dt).mck.strokeTick = s.mck.strokeTick := by
  unfold State.advance; split
  · rfl
  · simp [State.trackRefs, State.moveNt]; split <;> rfl
@[simp] theorem State.advance_mck_strokeAt (dt : Nat) : (s.advance dt).mck.strokeAt = s.mck.strokeAt := by
  unfold State.advance; split
  · rfl
  · simp [State.trackRefs, State.moveNt]; split <;> rfl
@[simp] theorem State.advance_mck_prevAt (dt : Nat) : (s.advance dt).mck.prevAt = s.mck.prevAt := by
  unfold State.advance; split
  · rfl
  · simp [State.trackRefs, State.moveNt]; split <;> rfl
@[simp] theorem State.advance_mck_omitted (dt : Nat) : (s.advance dt).mck.omitted = s.mck.omitted := by
  unfold State.advance; split
  · rfl
  · simp [State.trackRefs, State.moveNt]; split <;> rfl
@[simp] theorem State.advance_mck_aligns (dt : Nat) : (s.advance dt).mck.aligns = s.mck.aligns := by
  unfold State.advance; split
  · rfl
  · simp [State.trackRefs, State.moveNt]; split <;> rfl
@[simp] theorem State.advance_mck_lastQ (dt : Nat) : (s.advance dt).mck.lastQ = s.mck.lastQ := by
  unfold State.advance; split
  · rfl
  · simp [State.trackRefs, State.moveNt]; split <;> rfl
@[simp] theorem State.advance_mck_lastR (dt : Nat) : (s.advance dt).mck.lastR = s.mck.lastR := by
  unfold State.advance; split
  · rfl
  · simp [State.trackRefs, State.moveNt]; split <;> rfl
@[simp] theorem State.advance_mck_coreNext (dt : Nat) : (s.advance dt).mck.coreNext = s.mck.coreNext := by
  unfold State.advance; split
  · rfl
  · simp [State.trackRefs, State.moveNt]; split <;> rfl

end Sys2Proof.Machine
end

