-- ==== Sys2Proof/Laws/Bus.lean ====
section
/-! SUPPORT. What an access to the register space comes to: a full-width write or read of a register, and a keyed write. -/
namespace Sys2Proof.Machine

variable {s : State} {p : Path} {a : Nat} {v : Word}

/-- The keyed registers (R147). -/
def keyedRegs : List Nat :=
  [Reg.GLB_RESET, Reg.GLB_OTP_ACCESS, Reg.PMU_MODE_FORCE, Reg.PMU_RAIL, Reg.NP_SERDES_RESET 0, Reg.NP_SERDES_RESET 1,
   Reg.CMD_PATCH_SWAP, Reg.BUF_BANK_MAP]

theorem terase_tset_of_none {α : Type} (t : Table α) (k : Nat) (v : α) (h : tget t k = none) :
    terase (tset t k v) k = t := by
  induction t with
  | nil => simp [tset, terase]
  | cons e t ih =>
    obtain ⟨b, u⟩ := e
    have hb : ¬b = k := by rintro rfl; simp [tget] at h
    have ht : tget t k = none := by simpa [tget, hb] using h
    have hself : terase t k = t := by
      clear ih h
      induction t with
      | nil => rfl
      | cons e t ih =>
        obtain ⟨c, w⟩ := e
        have hc : ¬c = k := by rintro rfl; simp [tget] at ht
        have ht' : tget t k = none := by simpa [tget, hc] using ht
        simp [terase, hc, ih ht']
    unfold tset
    split
    · simp [terase, hb, hself]
    · split
      · rename_i h2; simp at h2; exact absurd h2.symm hb
      · simp [terase, hb, ih ht]

theorem beMask_all : beMask 0xF = 0xFFFFFFFF := by decide

/-- A full-width write of a register that is not keyed, with no keyed sequence open in its window. -/
theorem wordWrite_plain {row : RegRow} (h : s.answers p a = true) (hk : tget s.keys (busWindow a) = none)
    (hr : regRow a = some row) (hkey : row.key = false) (hc : busCanon a = a) (hlt : a < 0x80000) :
    wordWrite p a v s = writeFields p row a 0xFFFFFFFF v (fresh s) := by
  have hre : reachable p a = true := by simp [reachable]; left; omega
  have h' : (fresh s).answers p a = true := h
  have hk' : tget (fresh s).keys (busWindow a) = none := hk
  unfold wordWrite busWrite
  rw [if_neg (by simp [hre]), if_pos hlt, if_pos h']
  unfold regWrite
  rw [hc, hr]
  simp only [hk', hkey]
  unfold plainWrite
  rw [beMask_all]
  simp

/-- A keyed write with no sequence open in its window takes effect. -/
theorem keyedWrite_effect (h : s.answers p a = true) (hk : tget s.keys (busWindow a) = none) (ha : a ∈ keyedRegs) :
    keyedWrite p a v s = keyedEffect a v (fresh s) := by
  have facts : ∀ b ∈ keyedRegs, b < 0x80000 ∧ b + 4 < 0x80000 ∧ busCanon b = b ∧ busView b = 0 ∧ busView (b + 4) = 0
      ∧ busCanon (b + 4) = b + 4 ∧ busWindow (b + 4) = busWindow b ∧ isKeyValue b = true
      ∧ (regRow b).map RegRow.key = some true ∧ (regRow (b + 4)).map RegRow.key = some true
      ∧ decide (b + 4 < 0x4100) = decide (b < 0x4100) := by decide
  obtain ⟨h1, h2, h3, h4, h5, h6, h7, h8, h9, h10, h11⟩ := facts a ha
  have hre : reachable p a = true := by simp [reachable]; left; clear facts h11; simp [keyedRegs] at ha; omega
  have hre4 : reachable p (a + 4) = true := by simp [reachable]; left; clear facts h11; simp [keyedRegs] at ha; omega
  have ha4 : ∀ t : State, t.answers p (a + 4) = t.answers p a := by
    intro t; unfold State.answers; rw [h7, h6, h3, h11]
  have hw : wordWrite p a v s = { fresh s with keys := tset s.keys (busWindow a) { addr := a, issued := a, path := p, value := v } } := by
    have h' : (fresh s).answers p a = true := h
    have hk' : tget (fresh s).keys (busWindow a) = none := hk
    unfold wordWrite busWrite
    rw [if_neg (by simp [hre]), if_pos h1, if_pos h']
    unfold regWrite
    rw [h3]
    cases hr : regRow a with
    | none => simp [hr] at h9
    | some r =>
      rw [hr] at h9
      have hkey : r.key = true := by simpa using h9
      simp only [hk', hkey, if_true]
      unfold keyWrite
      simp [h3, h4, h8]
  unfold keyedWrite
  rw [hw]
  have h' : State.answers { fresh s with keys := tset s.keys (busWindow a) { addr := a, issued := a, path := p, value := v } } p (a + 4) = true := by
    rw [ha4]; exact h
  unfold busWrite
  rw [if_neg (by simp [hre4]), if_pos h2, if_pos h']
  unfold regWrite
  rw [h7, h6]
  simp only [tget_tset_self]
  rw [if_pos (by simp [completes, h5, h6])]
  simp only [terase_tset_of_none _ _ _ hk]
  rfl

end Sys2Proof.Machine
end

