-- ==== Sys2Proof/Laws/Memory.lean ====
section
/-! SUPPORT. Every operation on buffer memory and on the ring memory of the parallel host bus keeps the canonical form of
its cells, and reads back what was written. -/
namespace Sys2Proof.Machine

/-- The memories of a state are in canonical form. -/
def memoryWf (s : State) : Prop := Memory.wf s.buf.mem = true ∧ Memory.wf s.hif.audio = true

theorem memoryWf_reset : memoryWf State.reset := Memory.wf_reset

theorem memoryWf_setMemByte (s : State) (o : Nat) (b : Byte) (h : memoryWf s) : memoryWf (s.setMemByte o b) :=
  ⟨Memory.wf_tput _ _ _ h.1, h.2⟩

theorem memoryWf_setAudio (s : State) (a : Nat) (b : Byte) (h : memoryWf s) : memoryWf (s.setAudio a b) :=
  ⟨h.1, Memory.wf_tput _ _ _ h.2⟩

/-- A fold that keeps the memories at each step keeps them. -/
theorem memoryWf_foldl {α : Type} (l : List α) (f : State → α → State) (hf : ∀ s x, memoryWf s → memoryWf (f s x)) :
    ∀ s : State, memoryWf s → memoryWf (l.foldl f s) := by
  induction l with
  | nil => exact fun _ h => h
  | cons x l ih => exact fun s h => ih _ (hf s x h)

theorem memoryWf_setViewByte (s : State) (o : Nat) (b : Byte) (h : memoryWf s) : memoryWf (s.setViewByte o b) := by
  unfold State.setViewByte
  dsimp only
  split
  · exact memoryWf_setMemByte s o b h
  · exact memoryWf_setMemByte s o b h

theorem memoryWf_viewWrite (a : Nat) (be : BitVec 4) (v : Word) (s : State) (h : memoryWf s) :
    memoryWf (viewWrite a be v s) := by
  unfold viewWrite
  dsimp only
  split
  · exact h
  · refine memoryWf_foldl (List.range 4) _ (fun t i ht => ?_) s h
    split
    · exact memoryWf_setViewByte _ _ _ ht
    · exact ht

theorem memoryWf_audioWrite (a : Nat) (be : BitVec 4) (v : Word) (s : State) (h : memoryWf s) :
    memoryWf (audioWrite a be v s) := by
  refine memoryWf_foldl (List.range 4) _ (fun t i ht => ?_) s h
  split
  · exact memoryWf_setAudio _ _ _ ht
  · exact ht

theorem memoryWf_putAudio (bs : List Byte) : ∀ (a : Nat) (s : State), memoryWf s → memoryWf (putAudio a bs s) := by
  induction bs with
  | nil => exact fun _ _ h => h
  | cons b bs ih => exact fun a s h => ih (a + 1) _ (memoryWf_setAudio s a b h)

/-- A byte written to buffer memory reads back, and every other byte is as before. -/
theorem memByte_setMemByte (s : State) (o a : Nat) (b : Byte) :
    (s.setMemByte o b).memByte a = if a = o then b else s.memByte a := by
  unfold State.memByte State.setMemByte
  split
  · next h => subst h; exact tgetD_tput_self _ _ _ _
  · next h => exact tgetD_tput_ne _ _ _ _ h

/-- A byte written through the memory view reads back from buffer memory, and every other byte is as before. -/
theorem memByte_setViewByte (s : State) (o a : Nat) (b : Byte) :
    (s.setViewByte o b).memByte a = if a = o then b else s.memByte a := by
  refine Eq.trans ?_ (memByte_setMemByte s o a b)
  unfold State.setViewByte State.memByte
  dsimp only
  split <;> rfl

/-- A byte written to ring memory reads back, and every other byte is as before. -/
theorem audioByte_setAudio (s : State) (o a : Nat) (b : Byte) :
    (s.setAudio o b).audioByte a = if a = o then b else s.audioByte a := by
  unfold State.audioByte State.setAudio
  split
  · next h => subst h; exact tgetD_tput_self _ _ _ _
  · next h => exact tgetD_tput_ne _ _ _ _ h

end Sys2Proof.Machine
end

