-- ==== Sys2Proof/WellFormed.lean ====
section
/-! DEFINITION. The commands that stand for something: numbers within the ranges the manual gives them. `exec` is total
over every command; a statement that needs a range takes it from here. -/
namespace Sys2Proof

/-- A packet has at most 63 parameter words (R210). -/
def Pkt.wf (p : Pkt) : Bool := decide (p.params.length ≤ 63)

/-- A byte address within the 1 MiB register space (R134). -/
def addrOk (a : Nat) : Bool := decide (a < 2 ^ 20)

/-- A request on PCIe: one that is not an access of BAR0 comes on the host path, within what it reaches (R155, R178). -/
def reqOk (p : Path) (a : Nat) : PcieReq → Bool
  | .bar0 => addrOk a
  | .wide => decide (p = .host) && decide (a < 0x80000)
  | .bar2 => decide (p = .host) && decide (a < 0x4000)
  | .config => decide (p = .host) && decide (a < 0x1000)

/-- A command byte that opens a management read, or one that opens no access at all (R184, R185). -/
def msReadCmd (c : Byte) : Bool := decide (c ≠ 0x01) && decide (c ≠ 0x02) && decide (c ≠ 0x20)

/-- A command byte that opens a write of one word, or one that opens no access at all (R184, R185). -/
def msWriteCmd (c : Byte) : Bool := decide (c ≠ 0x02) && decide (c ≠ 0x20) && (decide (c < 0x10) || decide (0x13 < c))

/-- A unit of the power handshake (R11). -/
def unitOk (u : Nat) : Bool := decide (1 ≤ u) && decide (u ≤ 14)

/-- An Obien frame is 64 bytes (R606). -/
def oblBytes (bs : List Byte) : Bool := decide (bs.length = 64)

/-- A frame that arrives has some byte (R297). -/
def frameBytes (bs : List Byte) : Bool := decide (0 < bs.length)

/-- A command slot holds 64 words (R189). -/
def slotOk (ws : List Word) : Bool := decide (ws.length = 64)

/-- Word numbers of a bank of 512 KiB (R252). -/
def bankWords (ws : List Nat) : Bool := ws.all fun w => decide (w < 65536)

/-- Playback entries come from rings 0 to 15 (R193). -/
def playbackOk (l : List (Nat × List Word)) : Bool := l.all fun e => decide (e.1 < 16)

/-- Frames come from TDM ports 0 to 15, with at most 32 slots (R579). -/
def pinsOk (l : List (Nat × List (List Word))) : Bool :=
  l.all fun e => decide (e.1 < 16) && e.2.all fun f => decide (f.length ≤ 32)

/-- Source and sink IDs have 12 bits (R17, R20). -/
def upsetsOk (l : List Upset) : Bool := l.all fun u => decide (u.id < 4096)

/-- The factory record has 1024 words; those past the end of the list are zero (R635). -/
def recordOk (ws : List Word) : Bool := decide (ws.length ≤ 1024)

/-- Physical bank and word of an error that a read met (R253). -/
def eccOk (e : Option Ecc) : Bool :=
  match e with
  | some x => decide (x.bank < 42) && decide (x.word < 65536)
  | none => true

/-- The error that a read of the memory view meets (R253, R284). -/
def viewOk : ViewAct → Bool
  | .write _ => true
  | .read ecc => eccOk ecc

/-- Physical banks and words of corrected errors (R253). -/
def cesOk (l : List (Nat × Nat)) : Bool := l.all fun e => decide (e.1 < 42) && decide (e.2 < 65536)

/-- Entries of unit memories (R647). -/
def unitEntries (l : List (Nat × Nat)) : Bool := l.all fun e => decide (e.2 < 65536)

/-- The operands of a command are in range. -/
def Instr.wf : Instr → Bool
  | .nop p => p.wf
  | .nopDelayEnd => true
  | .weighIn p => p.wf
  | .abort p => p.wf
  | .modeSet p => p.wf
  | .powerRequest p => p.wf
  | .srxDefine p => p.wf
  | .srxEnable p => p.wf
  | .srxDisable p => p.wf
  | .srxQuery p => p.wf
  | .srxRetarget p => p.wf
  | .stxDefine p => p.wf
  | .stxEnable p => p.wf
  | .stxDisable p => p.wf
  | .stxQuery p => p.wf
  | .stxTemplate p => p.wf
  | .busDefine p => p.wf
  | .memberSet p => p.wf
  | .listenSet p => p.wf
  | .xpointSet p => p.wf
  | .gainSet p => p.wf
  | .gateConfig p => p.wf
  | .duckSet p => p.wf
  | .drvBankSwap p => p.wf
  | .drvQuery p => p.wf
  | .refConfig p => p.wf
  | .refRank p => p.wf
  | .holdoverConfig p => p.wf
  | .alignOutputs p => p.wf
  | .mckQuery p => p.wf
  | .ptpConfig p => p.wf
  | .ptpPort p => p.wf
  | .timeSet p => p.wf
  | .startlistLoad p => p.wf
  | .startlistArm p => p.wf
  | .startlistCancel p => p.wf
  | .rudLoad p => p.wf
  | .rudSwap p => p.wf
  | .flowSet p => p.wf
  | .queueConfig p => p.wf
  | .queueQuery p => p.wf
  | .portConfig p => p.wf
  | .portRestart p => p.wf
  | .portStats p => p.wf
  | .tdmConfig p => p.wf
  | .tdmRestart p => p.wf
  | .ralConfig p => p.wf
  | .ralQuery p => p.wf
  | .cascadeConfig p => p.wf
  | .cascadeStatus p => p.wf
  | .patchLoad p => p.wf
  | .patchSwap p => p.wf
  | .bankRepair p => p.wf
  | .bankStatus p => p.wf
  | .loopback p => p.wf
  | .bist p => p.wf
  | .faultInject p => p.wf
  | .commandStartAfterWait => true
  | .commandFetch slot => slotOk slot
  | .commandPortWrite _ _ => true
  | .replyPortRead _ => true
  | .replyPost => true
  | .vector1Message => true
  | .hifWeighGo _ => true
  | .hifCqTailWrite _ _ => true
  | .hifRqHeadWrite _ _ => true
  | .hifQCfgEnWrite _ _ => true
  | .hifRingEnWrite _ ring _ => decide (ring < 32)
  | .pePerstNLow => true
  | .pcieLinkDown => true
  | .pcieLinkUp _ _ => true
  | .bmeCleared => true
  | .d3hotEntered => true
  | .msWriteOne head _ _ => msWriteCmd head.cmd
  | .msWriteTwo _ _ _ _ => true
  | .msRead cmd _ _ => msReadCmd cmd
  | .msReadStatus => true
  | .msAddressMatch _ => true
  | .registerWrite req addr _ _ => reqOk req.path addr req.pcie
  | .rcRead req addr _ => reqOk req.path addr req.pcie
  | .pmuWakeReasonRead _ => true
  | .tdmTsRead _ port => decide (port < 16)
  | .keyValueWrite _ addr _ => addrOk addr
  | .keySequenceTimeout window => decide (window < 16)
  | .modeForceQuiet _ => true
  | .modeForceSafe _ => true
  | .modeForceMoored _ => true
  | .railCycle _ => true
  | .cmdReset _ => true
  | .otpOpen _ => true
  | .otpClose _ => true
  | .serdesReset _ port => decide (port < 2)
  | .patchSwapKeyed _ => true
  | .patchRevertKeyed _ => true
  | .bankMapMigrate _ bank => decide (bank < 40)
  | .bankMapUnretire _ => true
  | .mckCoreCfgWrite _ _ => true
  | .npxCfgEnWrite _ port _ => decide (port < 2)
  | .pauseTxGo _ port _ => decide (port < 2)
  | .rudCtrlEnWrite _ _ => true
  | .oblRelearn _ => true
  | .umpireAck _ => true
  | .qOpen _ q _ => decide (q < 256)
  | .qWdata _ q _ => decide (q < 256)
  | .qCommit _ q _ => decide (q < 256)
  | .qRdata _ q ecc => decide (q < 256) && eccOk ecc
  | .qOpNext _ q => decide (q < 256)
  | .qOpRelease _ q => decide (q < 256)
  | .qOpMark _ q => decide (q < 256)
  | .qOpRewind _ q => decide (q < 256)
  | .qOpAbandon _ q => decide (q < 256)
  | .apertureMemoryAccess _ addr _ act => addrOk addr && viewOk act
  | .porNRise _ => true
  | .porNFall => true
  | .railEnableStep => true
  | .railDisableStep => true
  | .railOffElapsed => true
  | .pwrGoodTimeout => true
  | .pwrGoodFail => true
  | .coreResetRelease record => recordOk record
  | .bufferClearDone => true
  | .bootImageLoad _ => true
  | .peWakeNAsserted => true
  | .handshakeUnitAnswer unit => unitOk unit
  | .handshakeDelayExpired unit => unitOk unit
  | .handshakeDelayCap => true
  | .handshakeUnitComplete unit => unitOk unit
  | .powerReplyWaitExpired => true
  | .islandAutoEnter => true
  | .islandAutoReturn => true
  | .strokeBoundary _ => true
  | .catchPhase pins errs => pinsOk pins && upsetsOk errs.upset && cesOk errs.ce
  | .drivePhase playback => playbackOk playback
  | .finishPhase upset => upsetsOk upset
  | .recoveryPhase => true
  | .frameReceived _ port _ _ => decide (port < 2)
  | .pauseTimerExpired port timer => decide (port < 2) && decide (timer < 9)
  | .portLinkUp port => decide (port < 2)
  | .portLinkDown port => decide (port < 2)
  | .transmitFrameStart _ port => decide (port < 2)
  | .launchLateDiscard port queue => decide (port < 2) && decide (queue < 8)
  | .portDisableDone port => decide (port < 2)
  | .hostTxItemCopy read => decide (read.q < 256) && eccOk read.ecc
  | .wakeFrame port bytes => decide (port < 2) && frameBytes bytes
  | .frameClassify => true
  | .rudSwapComplete => true
  | .mediaFrameAccept => true
  | .ssrcRelearn stream => decide (stream < 512)
  | .srxPortLost stream port => decide (stream < 512) && decide (port < 2)
  | .rrWaitExpired stream seq => decide (stream < 512) && decide (seq < 65536)
  | .rerowRequestSend stream => decide (stream < 512)
  | .rrRetryExpired stream seq => decide (stream < 512) && decide (seq < 65536)
  | .goneReceived => true
  | .rerowRequestReceived => true
  | .rerowAnswer port => decide (port < 2)
  | .scrubPassComplete bank corrected uncorrectable => decide (bank < 42) && bankWords corrected && bankWords uncorrectable
  | .evtInEdge _ pin _ => decide (pin < 8)
  | .evtOutEdge _ pin => decide (pin < 4)
  | .startListFire _ => true
  | .ptpMessageReceived read => eccOk read.ecc
  | .ptpMessageTimer port _ => decide (port < 2)
  | .rerouteHoldEnd => true
  | .slewEnd => true
  | .refQualified ref _ _ => decide (ref < 6)
  | .refDisqualified ref _ _ => decide (ref < 6)
  | .selectionEvaluate => true
  | .lockTestPass => true
  | .holdoverExpired => true
  | .ralLock stream => decide (stream < 512)
  | .ralHold stream => decide (stream < 512)
  | .tdmSlaveFrame _ port _ slots => decide (port < 16) && decide (slots.length ≤ 32)
  | .tdmFrameTimeout port => decide (port < 16)
  | .oblTrainComplete port => decide (port < 2)
  | .oblLinkFrame port bytes => decide (port < 2) && oblBytes bytes
  | .oblBlockedClear port => decide (port < 2)
  | .oblDelayTimer port => decide (port < 2)
  | .oblDelayFrame _ port bytes => decide (port < 2) && oblBytes bytes
  | .oblLinkLoss port _ => decide (port < 2)
  | .oblSyncReceived _ port bytes => decide (port < 2) && oblBytes bytes
  | .oblLaneFrame port bytes => decide (port < 2) && oblBytes bytes
  | .oblRelayUp port bytes => decide (port < 2) && oblBytes bytes
  | .oblRelayDn port bytes => decide (port < 2) && oblBytes bytes
  | .oblTunnelFrame port bytes => decide (port < 2) && oblBytes bytes
  | .tunnelWaitExpired _ => true
  | .oblConflictClear => true
  | .oblCoxSideSwitch => true
  | .obienWakePattern port => decide (port < 2)
  | .parityCheckVisit addr _ => addrOk addr
  | .unitMemParityPass bad => unitEntries bad
  | .temperatureSample _ => true
  | .cmdWatchdog => true
  | .faultLogWindowClose code => decide (code < 12)
  | .patchVerifyDone => true
  | .cmdRestartComplete => true
  | .patchRollback => true
  | .vddAonPowerUp => true
  | .vddAonPowerLoss => true
  | .pwrGoodRise => true
  | .pePerstNRelease => true
  | .busMasterEnableSet => true
  | .msixVectorUnmask _ => true
  | .autoNegotiationDone port _ _ => decide (port < 2)
  | .portResetRelease port => decide (port < 2)
  | .migrationStepGridStopped => true
  | .flowScanComplete => true
  | .bistComplete _ _ => true
  | .cmdBootReady => true

end Sys2Proof
end

