-- ==== Sys2Proof/Tests/Slice0.lean ====
section
/-! SUPPORT. Small tests of the model: a command out of range for each check of `WellFormed.lean`, and, for each statement of
`Obligations.lean`, states and operands that meet the hypotheses of each of its clauses. -/
namespace Sys2Proof.Tests
open Sys2Proof Sys2Proof.Machine
-- One theorem at a time: checked all at once, the theorems ask for more threads than the memory limit gives stacks.
set_option Elab.async false

/-! ## States -/

/-- SERVICE, with the Command Processor ready and the host interface up. -/
def up : State :=
  { State.reset with
    pmu := { State.reset.pmu with mode := .service, firstService := true }
    hif := { State.reset.hif with up := true }
    cmd := { State.reset.cmd with ready := true }
    buf := { State.reset.buf with ready := true } }

/-- The state in another mode. -/
def inMode (m : Mode) (s : State) : State := { s with pmu := { s.pmu with mode := m } }

/-- The state with another cascade role: 1 Cox, 2 Seat. -/
def roleIs (r : BitVec 2) (s : State) : State :=
  { s with pmu := { s.pmu with straps := { s.pmu.straps with cascRole := r } } }

/-- The grid runs, in the part of the stroke given. -/
def gridIn (p : StrokePart) (s : State) : State := { s with mck := { s.mck with grid := true, part := p } }

/-- A packet of the basic form, and one of the expert form. -/
def pk (ws : List Word) : Pkt := { tag := 5, params := ws }
def px (ws : List Word) : Pkt := { tag := 5, x := true, params := ws }

/-- A command of a path in flight. -/
def flight (op : Nat) (tag : BitVec 7) (ph : CmdPhase) (fin : Machine.Fin) (params : List Word) : Flight :=
  { ord := 0, src := .path .host, op := op, tag := tag, x := false, s := false, c := false, seq := 0, params := params,
    phase := ph, fin := fin }

/-- The state with that one command in flight. -/
def flying (f : Flight) (s : State) : State := { s with cmd := { s.cmd with flights := [f], nextOrd := 1 } }

/-- A step that answers a next state. -/
def goesOn (o : Host.Outcome State Fault Refusal) : Bool :=
  match o with
  | .next _ => true
  | _ => false

/-! ## A command out of range for each check -/

theorem test_wf_packet : (Instr.nop (pk (List.replicate 64 0))).wf = false ∧ (Instr.nop (pk (List.replicate 63 0))).wf = true := by
  decide

theorem test_wf_address : (Instr.rcRead ⟨.host, .bar0⟩ 0x100000 0xF).wf = false
    ∧ (Instr.rcRead ⟨.host, .bar0⟩ 0xFFFFF 0xF).wf = true := by decide

theorem test_wf_request : (Instr.rcRead ⟨.mgmt, .bar2⟩ 0 0xF).wf = false ∧ (Instr.rcRead ⟨.host, .bar2⟩ 0x4000 0xF).wf = false
    ∧ (Instr.registerWrite ⟨.host, .config⟩ 0x1000 0xF 0).wf = false ∧ (Instr.registerWrite ⟨.host, .wide⟩ 0x80000 0xF 0).wf = false
    ∧ (Instr.registerWrite ⟨.host, .config⟩ 0xFFF 0xF 0).wf = true := by decide

theorem test_wf_unit : (Instr.handshakeUnitAnswer 0).wf = false ∧ (Instr.handshakeUnitAnswer 15).wf = false
    ∧ (Instr.handshakeUnitAnswer 14).wf = true := by decide

theorem test_wf_obien_frame : (Instr.oblLaneFrame 0 (List.replicate 63 0)).wf = false
    ∧ (Instr.oblLaneFrame 1 (List.replicate 64 0)).wf = true := by decide

theorem test_wf_frame : (Instr.wakeFrame 0 []).wf = false ∧ (Instr.frameReceived 0 2 [0] {}).wf = false
    ∧ (Instr.wakeFrame 1 [0]).wf = true := by decide

theorem test_wf_slot : (Instr.commandFetch []).wf = false ∧ (Instr.commandFetch (List.replicate 64 0)).wf = true := by decide

theorem test_wf_scrub : (Instr.scrubPassComplete 0 [65536] []).wf = false ∧ (Instr.scrubPassComplete 42 [] []).wf = false
    ∧ (Instr.scrubPassComplete 41 [65535] [0]).wf = true := by decide

theorem test_wf_playback : (Instr.drivePhase [(16, [])]).wf = false ∧ (Instr.drivePhase [(15, [])]).wf = true := by decide

theorem test_wf_pins : (Instr.catchPhase [(16, [])] ⟨[], []⟩).wf = false
    ∧ (Instr.catchPhase [(0, [List.replicate 33 0])] ⟨[], []⟩).wf = false ∧ (Instr.catchPhase [] ⟨[], [(42, 0)]⟩).wf = false
    ∧ (Instr.catchPhase [(15, [[0]])] ⟨[], [(41, 65535)]⟩).wf = true := by decide

theorem test_wf_upsets : (Instr.finishPhase [{ id := 4096 }]).wf = false ∧ (Instr.finishPhase [{ id := 4095 }]).wf = true := by
  decide

theorem test_wf_record : recordOk (List.replicate 1025 0) = false ∧ (Instr.coreResetRelease []).wf = true := by decide +kernel

theorem test_wf_ecc : (Instr.qRdata .host 0 (some { bank := 42, word := 0 })).wf = false ∧ (Instr.qRdata .host 256 none).wf = false
    ∧ (Instr.qRdata .host 255 (some { bank := 41, word := 65535, ded := true })).wf = true := by decide

theorem test_wf_unit_entries : (Instr.unitMemParityPass [(1, 65536)]).wf = false ∧ (Instr.unitMemParityPass [(1, 65535)]).wf = true := by
  decide

theorem test_wf_rings : (Instr.hifRingEnWrite .host 32 0).wf = false ∧ (Instr.hifRingEnWrite .host 31 0).wf = true := by decide

theorem test_wf_command_byte : (Instr.msRead 0x20 0 true).wf = false ∧ (Instr.msRead 0x13 0 true).wf = true
    ∧ (Instr.msWriteOne ⟨0x13, 0⟩ 0 true).wf = false ∧ (Instr.msWriteOne ⟨0x14, 0⟩ 0 true).wf = true := by decide

theorem test_wf_ports : (Instr.tdmTsRead .host 16).wf = false ∧ (Instr.serdesReset .host 2).wf = false
    ∧ (Instr.oblRelayUp 2 (List.replicate 64 0)).wf = false ∧ (Instr.ptpMessageTimer 2 .sync).wf = false
    ∧ (Instr.portLinkUp 1).wf = true := by decide

theorem test_wf_numbers : (Instr.keySequenceTimeout 16).wf = false ∧ (Instr.bankMapMigrate .host 40).wf = false
    ∧ (Instr.pauseTimerExpired 0 9).wf = false ∧ (Instr.launchLateDiscard 0 8).wf = false
    ∧ (Instr.faultLogWindowClose 12).wf = false ∧ (Instr.refQualified 6 ⟨0, 0⟩ 0).wf = false := by decide

theorem test_wf_streams : (Instr.ralLock 512).wf = false ∧ (Instr.rrWaitExpired 0 65536).wf = false
    ∧ (Instr.srxPortLost 511 2).wf = false ∧ (Instr.rrRetryExpired 511 65535).wf = true := by decide

theorem test_wf_pins_and_slots : (Instr.evtInEdge 0 8 true).wf = false ∧ (Instr.evtOutEdge 0 4).wf = false
    ∧ (Instr.tdmSlaveFrame 0 0 0 (List.replicate 33 0)).wf = false ∧ (Instr.hostTxItemCopy ⟨256, none⟩).wf = false
    ∧ (Instr.evtInEdge 0 7 true).wf = true := by decide

/-! ## Witnesses: the queue, reset, the packet -/

theorem test_step_runs_front : ({ up with pending := [.vector1Message] } : State).pending = .vector1Message :: [] := by decide

theorem test_idle_modes : State.reset.pending = [] ∧ clocked up.mode = true ∧ (inMode .watch up).mode = .watch
    ∧ (inMode .moored up).mode = .moored := by decide

theorem test_irq_pin_follows : up.hif.irqN = (up.irqLevel && up.bit Reg.HIF_IRQ_CFG 0)
    ∧ goesOn (step { up with pending := [.vector1Message] }) = true := by decide +kernel

theorem test_dadin_checks :
    dadinRow 1 (pk [7]) = some (.nop (pk [7])) ∧ up.takes = true ∧ up.cmd.restarting = false
    ∧ pktLen (pk []) < 2 ∧ 64 < pktLen { pk (List.replicate 63 0) with c := true }
    ∧ (2 ≤ pktLen (pk [7]) ∧ pktLen (pk (List.replicate 63 0)) ≤ 64)
    ∧ (flying (flight 1 5 .started .nopDelay []) up).tagBusy 5 = true ∧ up.tagBusy 5 = false
    ∧ badPacket 1 5 false [7, 7] = some 0 ∧ badPacket 4 5 false [2] = some 1
    ∧ State.reset.takes = false := by decide +kernel

theorem test_nop_and_weigh_in :
    begins 1 (pk [7]) up = true ∧ begins 1 (px [0]) up = true ∧ begins 2 (pk [0]) up = true
    ∧ (let s := flying (flight 1 9 .started .nopDelay []) up
       (s.cmd.flights.filter fun g => decide (g.fin = .nopDelay) && decide (g.phase = .started))
         = [flight 1 9 .started .nopDelay []] ∧ s.cmd.restarting = false) := by decide +kernel

theorem test_abort :
    let f := flight 1 9 .started .nopDelay []
    let g := flight 5 9 .started .power [0]
    (let s := flying f up
     s.takes = true ∧ s.cmd.restarting = false ∧ proper 3 (pk [9]) s = true ∧ s.pmu.req = none ∧ s.pmu.slot = none
     ∧ (pk [9]).s = false ∧ f.phase ≠ .committed ∧ f.op ≠ 3 ∧ f.ord < s.cmd.nextOrd ∧ f.tag.toNat = fieldOf ((pk [9]).params.getD 0 0) 6 0
     ∧ proper 3 (px [0x189]) s = true ∧ ((px [0x189]).x && bitOf 0x189 7 && decide (f.seq.toNat ≠ fieldOf 0x189 15 8)) = true
     ∧ proper 3 (px [0x89]) s = true ∧ ((px [0x89]).x && bitOf 0x89 7 && decide (f.seq.toNat ≠ fieldOf 0x89 15 8)) = false)
    ∧ (let s := flying g { up with pmu := { up.pmu with req := some { target := .moored, tag := 9, before := .service, stage := .asking } } }
       s.takes = true ∧ proper 3 (pk [9]) s = true ∧ s.pmu.req.any (fun a => decide (a.ord = g.ord)) = true ∧ g.op = 5
       ∧ s.pmu.forced = none ∧ s.pmu.autoWait = none)
    ∧ (flight 1 9 .committed .nopDelay []).phase = .committed ∧ (flight 3 9 .waiting .none []).op = 3
    ∧ begins 3 (pk [9]) up = true ∧ up.tagFlight 9 = none := by decide +kernel

theorem test_power_commands :
    begins 4 (pk [3]) up = true ∧ begins 5 (pk [0]) up = true ∧ up.pmu.forced = none ∧ up.pmu.autoWait = none
    ∧ modeOf (fieldOf 4 2 0) = up.mode
    ∧ begins 4 (pk [4]) up = true
    ∧ (modeOf 7 ≠ (inMode .safe up).mode ∧ permitted .safe (modeOf 7) = false ∧ begins 4 (pk [7]) (inMode .safe up) = true)
    ∧ (modeOf 3 ≠ up.mode ∧ permitted up.mode (modeOf 3) = true)
    ∧ (modeOf 6 = .safe ∧ permitted up.mode .safe = true ∧ begins 4 (pk [6]) up = true) := by decide +kernel

/-! ## Witnesses: streams -/

/-- A receive stream of one channel in the HLF format on port A, in a state. -/
def rxS (st : SrxState) : RxStream :=
  { state := st, words := [0x01010003, 0x00280000, 0, 0, 0, 0, 0x01900003, 0, 0x3208], map := [some 0], alloc := 4096, ctrl := 0x106 }

/-- The state with that receive stream 3. -/
def withRx (r : RxStream) (s : State) : State := { s with srx := { s.srx with streams := [(3, r)] } }

/-- Definition words of an AAF transmit stream of one channel on port A. -/
def txWords : List Word := [0x00081603, 0x00006000, 0, 0x01000000, 0]

/-- A transmit stream in a state, and its template. -/
def txS (st : StxState) : TxStream := { newTxStream up false txWords 3 with state := st }
def withTx (t : TxStream) (s : State) : State :=
  { s with stx := { s.stx with streams := [(3, t)], templates := txTemplates s 3 t } }

/-- The same, with template slot 6 of its own for both ports. -/
def txNamed (st : StxState) : TxStream := { txS st with words := [0x00081603, 0x00006000, 0, 0, 0, 0x00040000 + 6 + 2 ^ 9 * 6, 0, 0] }

theorem test_stream_definitions_rx :
    (begins 0x10 (pk [3, 0, 0, 0, 0, 0]) up = true ∧ ((begun 0x10 (pk [3, 0, 0, 0, 0, 0]) up).rxStream 3).enabled = false)
    ∧ (let k := pk [0x01010003, 0x00280000, 0, 0, 0, 0]
       let b := begun 0x10 k up
       let new := newRxStream b k.x k.params
       begins 0x10 k up = true ∧ (b.rxStream 3).enabled = false ∧ fieldOf (k.params.getD 0 0) 22 16 ≠ 0
       ∧ up.latencyOk (fieldOf (k.params.getD 1 0) 25 16) = true ∧ b.rxBindWord 3 new = none ∧ b.rxFits 3 new = true)
    ∧ (let s := withRx (rxS .running) up
       let k := pk [0x01010003, 0x00280000, 0, 0, 0, 0]
       begins 0x10 (pk [3, 0, 0, 0, 0, 0]) s = true ∧ (s.rxStream 3).enabled = true
       ∧ begins 0x10 k s = true ∧ s.latencyOk (fieldOf (k.params.getD 1 0) 25 16) = true
       ∧ (begun 0x10 k s).rxBindWord 3 (newRxStream (begun 0x10 k s) k.x k.params) = none) := by decide +kernel

theorem test_stream_definitions_tx :
    (begins 0x18 (pk [3, 0, 0, 0, 0]) up = true ∧ ((begun 0x18 (pk [3, 0, 0, 0, 0]) up).txStream 3).enabled = false)
    ∧ (let k := pk txWords
       let b := begun 0x18 k up
       let new := newTxStream b k.x k.params 3
       let tb := txTemplates b 3 new
       begins 0x18 k up = true ∧ (b.txStream 3).enabled = false ∧ fieldOf (k.params.getD 0 0) 18 12 ≠ 0
       ∧ stxDefineBad b 3 new tb = none ∧ b.txFits 3 new tb = true)
    ∧ (let s := withTx (txS .enabled) up
       let b := begun 0x18 (pk txWords) s
       let new := newTxStream b false txWords 3
       begins 0x18 (pk [3, 0, 0, 0, 0]) s = true ∧ (s.txStream 3).enabled = true
       ∧ begins 0x18 (pk txWords) s = true ∧ stxDefineBad b 3 new (txTemplates b 3 new) = none)
    ∧ (let s := withTx (txNamed .serving) up
       begins 0x1C (px [6, 1]) s = true ∧ ∃ e ∈ s.stx.streams, e.2.names 6 = true ∧ (e.2.enabled = true ∨ e.2.state = .serving)) := by decide +kernel

theorem test_stream_enables :
    (let s := withRx (rxS .disabled) up
     begins 0x11 (pk [3]) s = true ∧ (∀ n ∈ namedStreams false [3], thas s.srx.streams n = true ∧ (s.rxStream n).state ≠ .draining)
     ∧ (namedStreams false [3]).filter (fun n => decide ((s.rxStream n).state = .disabled)) ≠ [])
    ∧ (let s := withRx (rxS .running) up
       begins 0x11 (pk [3]) s = true
       ∧ (namedStreams false [3]).filter (fun n => decide ((s.rxStream n).state = .disabled)) = [])
    ∧ (let s := withTx (txS .disabled) up
       begins 0x19 (pk [3]) s = true ∧ (∀ n ∈ namedStreams false [3], s.txUnfit n = false ∧ (s.txStream n).state ≠ .stopping)
       ∧ (namedStreams false [3]).filter s.txIdle ≠ [])
    ∧ (let s := withTx (txS .enabled) up
       begins 0x19 (pk [3]) s = true ∧ s.txUnfit 3 = false ∧ (namedStreams false [3]).filter s.txIdle = [])
    ∧ (let s := withRx (rxS .draining) up
       begins 0x11 (pk [3]) s = true ∧ thas s.srx.streams 3 = true ∧ (s.rxStream 3).state = .draining)
    ∧ (let s := withTx (txS .stopping) up
       begins 0x19 (pk [3]) s = true ∧ s.txUnfit 3 = false ∧ (s.txStream 3).state = .stopping) := by decide +kernel

theorem test_stream_disables :
    (let s := withRx (rxS .running) up
     begins 0x12 (pk [3]) s = true ∧ thas s.srx.streams 3 = true ∧ (s.rxStream 3).accepting = true)
    ∧ (let s := withRx (rxS .disabled) up
       begins 0x12 (pk [3]) s = true ∧ (s.rxStream 3).accepting = false ∧ (s.rxStream 3).state ≠ .draining)
    ∧ (let s := withRx (rxS .draining) up
       begins 0x12 (px [3, 0x801]) s = true ∧ thas s.srx.streams 3 = true ∧ namedStreams true [3, 0x801] = [3]
       ∧ (s.rxStream 3).accepting = false ∧ (s.rxStream 3).state = .draining ∧ fieldOf 0x801 11 10 = 2)
    ∧ (let s := withTx (txS .enabled) up
       begins 0x1A (px [3, 0x401]) s = true ∧ thas s.stx.streams 3 = true ∧ (s.txStream 3).state = .enabled)
    ∧ (let s := withTx (txS .disabled) up
       begins 0x1A (pk [3]) s = true ∧ thas s.stx.streams 3 = true ∧ (s.txStream 3).state ≠ .enabled) := by decide +kernel

theorem test_stream_queries_retarget_template :
    begins 0x13 (px [0x203]) (withRx (rxS .running) up) = true ∧ begins 0x1B (px [0x203]) (withTx (txS .enabled) up) = true
    ∧ (let s := withRx (rxS .running) up
       let m := bindings false 8 1 []
       begins 0x14 (pk [3, 8]) s = true ∧ (s.rxStream 3).accepting = true
       ∧ firstPos (s.rxStream 3).chans (fun c => bindBad 0x800 (s.rxStream 3).pair m c || s.bindTaken 3 m c
          || (false && entryBad [] (s.rxStream 3).chans c)) (bindWord false 4 2) = none)
    ∧ begins 0x14 (pk [3, 8]) (withRx (rxS .disabled) up) = true ∧ (rxS .disabled).accepting = false
    ∧ (let s : State := { up with srx := { up.srx with streams := [(3, rxS .running), (4, { rxS .running with map := [some 8] })] } }
       begins 0x14 (pk [3, 8]) s = true ∧ thas s.srx.streams 3 = true
       ∧ firstPos (s.rxStream 3).chans (fun c => bindBad 0x800 (s.rxStream 3).pair (bindings false 8 1 []) c
          || s.bindTaken 3 (bindings false 8 1 []) c || (false && entryBad [] (s.rxStream 3).chans c)) (bindWord false 4 2) = some 2)
    ∧ begins 0x14 (pk [5, 8]) up = true ∧ thas up.srx.streams 5 = false
    ∧ (let p : SrxPending := { wait := 1, map := [some 8], first := 8, mapped := true }
       let r : RxStream := { rxS .running with retarget := [p] }
       r.enableWait = none ∧ r.retarget = [p] ∧ p.wait ≤ 1 ∧ 7 ≤ r.words.length)
    ∧ (let s := withTx (txNamed .disabled) up
       begins 0x1C (px [6, 1]) s = true ∧ s.stx.streams.filter (fun e => e.2.names 6) ≠ []
       ∧ ∀ e ∈ s.stx.streams.filter (fun e => e.2.names 6), e.2.enabled = false ∧ e.2.state ≠ .serving) := by decide +kernel

/-! ## Witnesses: the Drive engine -/

/-- A term at rest at a gain. -/
def term (g : Int) : Term := { gain := rampAt g }

/-- A bank with bus 1, its member 7, listener 0 with a subscription, a crosspoint, and ducker 1 of bus 2. -/
def bankB : Bank :=
  { buses := [(1, {}), (2, {})], members := [(memKey 1 7, term 100)]
    listeners := [(0, { subs := [(1, term 100)], xpts := [(7, term 100)] })]
    ducks := [(1, { targets := [2], attack := 1, release := 1, depth := 10 })] }

/-- The state with that bank active, and an empty one inactive. -/
def withBank (s : State) : State := { s with drv := { s.drv with banks := [bankB, {}] } }

theorem test_bus_define :
    let s := withBank up
    begins 0x20 (pk [1]) s = true ∧ bitOf 1 9 = false
    ∧ begins 0x20 (pk [0x601]) s = true ∧ (bitOf 0x601 9 && bitOf 0x601 10 && decide (s.role = 0)) = true
    ∧ begins 0x20 (pk [0x203]) s = true ∧ thas (s.bank 0).buses 3 = false
    ∧ (let c := roleIs 1 s
       begins 0x20 (pk [0x601]) c = true ∧ thas (c.bank (c.bankIx false)).buses 1 = true ∧ c.role ≠ 0)
    ∧ (let c := roleIs 1 s
       begins 0x20 (pk [0x601]) c = true ∧ bitOf 0x601 9 = true ∧ (bitOf 0x601 10 && decide (c.role = 0)) = false
       ∧ thas (c.bank (c.bankIx false)).buses 1 = true ∧ (({} : Bus).cascade ≠ bitOf 0x601 10))
    ∧ begins 0x20 (px [0xE01]) (roleIs 1 s) = true := by decide +kernel

theorem test_member_set :
    let s := withBank up
    begins 0x21 (pk [0x00080001, 0x00064008]) s = true ∧ thas (s.bank (s.bankIx false)).buses 1 = true ∧ s.drv.active < 2
    ∧ s.drv.banks.length = 2 ∧ s.ump.badMem = []
    ∧ (let ms := setTerm true s.strokeSize 0 bankB.members (memKey 1 8) 100
       ms.length ≤ s.memberLimit ∧ selfFits { bankB with members := ms } = true)
    ∧ begins 0x21 (pk [0x00080A01, 7]) s = true ∧ bitOf 0x00080A01 9 = true ∧ hasTerm bankB.members (memKey 1 7) = true := by
  decide +kernel

theorem test_terms_ramp_and_banks_swap : (withBank up).drv.banks.length = 2 ∧ (withBank up).drv.active < 2 ∧ (0 : Nat) < 1 := by
  decide

theorem test_listen_set :
    let s := withBank up
    begins 0x22 (pk [0, 0]) s = true ∧ fieldOf 0 10 0 < s.listenerLimit ∧ bitOf 0 11 = false
    ∧ begins 0x22 (pk [0x00010801, 0, 0x0000C801]) s = true ∧ bitOf 0x00010801 11 = true
    ∧ thas (s.bank 0).buses (fieldOf 0x0000C801 8 0) = true ∧ thas (s.bank 0).listeners 1 = false
    ∧ selfTerms bankB { subs := setTerm true s.strokeSize 0 [] 1 100 } ≤ 16
    ∧ (let f := s.setReg Reg.MCK_CORE_CFG 6
       begins 0x22 (pk [0x7FF, 0]) f = true ∧ f.listenerLimit ≤ fieldOf 0x7FF 10 0) := by decide +kernel

theorem test_xpoint_and_gain :
    let s := withBank up
    begins 0x23 (px [0x105, 0]) s = true ∧ begins 0x23 (pk [0x101, 0]) s = true ∧ ¬(fieldOf 0 27 26 = 1 ∧ s.listenerLimit ≤ fieldOf 0 23 12)
    ∧ (let f := s.setReg Reg.MCK_CORE_CFG 6
       begins 0x23 (pk [0x201, 0, 0x047FF001]) f = true ∧ fieldOf 0x047FF001 27 26 = 1 ∧ f.listenerLimit ≤ fieldOf 0x047FF001 23 12)
    ∧ begins 0x23 (pk [0x00400000, 0x00064009]) s = true ∧ (tget (s.bank 0).listeners 0).isSome = true
    ∧ (setTerm true s.strokeSize 0 [(7, term 100)] 9 100).length ≤ 16
    ∧ begins 0x23 (pk [0x00400002, 7]) s = true ∧ hasTerm [(7, term 100)] 7 = true
    ∧ begins 0x24 (pk [0x100, 0x00070010, 200]) s = true ∧ gainTermExists (s.bank 0) (gainItem 0x00070010) = true := by
  decide +kernel

theorem test_gate_duck_swap_query :
    let s := withBank up
    begins 0x25 (pk [1, 0x0F30FEC0]) s = true ∧ (tget (s.bank 0).buses 1).isSome = true
    ∧ begins 0x26 (pk [0x401, 10, 2]) s = true ∧ duckTargets [0x401, 10, 2] 1 = [2] ∧ thas (s.bank 0).buses 2 = true
    ∧ begins 0x26 (pk [1, 10]) s = true
    ∧ begins 0x27 (pk [0]) s = true ∧ begins 0x27 (px [2, 5]) s = true ∧ s.mck.grid = false
    ∧ (let g := gridIn .recovered s
       begins 0x27 (px [2, 2]) g = true ∧ g.mck.grid = true ∧ 1 < strokeDist 2 g.mck.stroke
       ∧ strokeDist 1 g.mck.stroke = 1 ∧ g.boundaryWait = 2)
    ∧ (let g := gridIn .boundary s
       begins 0x27 (px [2, 0]) g = true ∧ strokeDist 0 g.mck.stroke ≤ 0 ∧ strokeDist 1 g.mck.stroke = 1 ∧ g.boundaryWait = 1)
    ∧ begins 0x28 (pk [0]) s = true ∧ begins 0x28 (px [0x12]) s = true ∧ fieldOf 0x12 27 16 < s.listenerLimit
    ∧ (let f := s.setReg Reg.MCK_CORE_CFG 6
       begins 0x28 (px [0x07FF0002]) f = true ∧ fieldOf 0x07FF0002 2 0 = 2 ∧ f.listenerLimit ≤ fieldOf 0x07FF0002 27 16) := by decide +kernel

/-! ## Witnesses: references and media clocks -/

/-- Reference `i` of the state. -/
def withRef (i : Nat) (r : RefClock) (s : State) : State :=
  { s with mck := { s.mck with refs := listMod s.mck.refs i fun _ => r } }

theorem test_ref_config :
    begins 0x30 (pk [0x08]) up = true ∧ up.mck.refs.length = 6 ∧ begins 0x30 (px [0x3B, 0x006401F4, 0x000A0064]) up = true
    ∧ (let s := withRef 3 { en := true } up
       begins 0x30 (pk [0x10B]) s = true ∧ (s.refClock 3).en = true ∧ fieldOf 0x10B 9 8 ≠ (s.refClock 3).form)
    ∧ begins 0x30 (pk [0x0D]) up = true ∧ fieldOf 0x0D 2 0 = 5 := by decide +kernel

theorem test_ref_config_core :
    (let same : Word := w32 (6 + 2 ^ 10 * up.rateCode + 2 ^ 13 * b2n up.s16)
     begins 0x30 (pk [same]) up = true ∧ fieldOf same 2 0 = 6 ∧ up.mck.coreNext = [] ∧ up.coreSame (fieldOf same 12 10) (bitOf same 13) = true)
    ∧ (let w : Word := w32 (6 + 2 ^ 10 * ((up.rateCode + 1) % 7))
       begins 0x30 (pk [w]) up = true ∧ up.coreSame (fieldOf w 12 10) (bitOf w 13) = false ∧ up.mode ≠ .boot ∧ up.mode ≠ .quiet
       ∧ (let q := inMode .quiet up
          begins 0x30 (pk [w]) q = true ∧ q.coreFits (fieldOf w 12 10) = true ∧ q.mck.grid = false)
       ∧ (let q := gridIn .caught (inMode .quiet up)
          begins 0x30 (pk [w]) q = true ∧ q.mck.grid = true)
       ∧ (let q := inMode .quiet (withRx { rxS .disabled with map := [some 0x400] } up)
          begins 0x30 (pk [0x1406]) q = true ∧ q.coreSame (fieldOf 0x1406 12 10) (bitOf 0x1406 13) = false
          ∧ q.coreFits (fieldOf 0x1406 12 10) = false)) := by decide +kernel

theorem test_core_at_boundary :
    let f := flight 0x30 5 .started .core []
    let s := fun (m : Mode) (rate : Nat) =>
      let q := flying f (inMode m (withRx { rxS .disabled with map := [some 0x400] } up))
      ({ q with mck := { q.mck with coreNext := [{ rate := rate, s16 := false, ord := some f.ord }] } } : State)
    (s .quiet 2).cmd.flights = [f] ∧ (s .quiet 2).cmd.restarting = false ∧ f.fin = .core
    ∧ (s .quiet 2).coreSame 2 false = false ∧ (s .quiet 5).coreSame 5 false = false
    ∧ (s .quiet 2).coreFits 2 = true ∧ (s .quiet 5).coreFits 5 = false ∧ (s .service 2).mode ≠ .boot ∧ (s .service 2).mode ≠ .quiet := by
  decide +kernel

theorem test_rank_holdover_align_query :
    begins 0x31 (px [0x1F, 0x00000A03]) up = true ∧ begins 0x32 (pk [100]) up = true ∧ begins 0x32 (px [1000000, 1, 0xFFFF]) up = true
    ∧ begins 0x33 (pk [0]) (inMode .boot up) = true
    ∧ (let s := roleIs 2 up
       let f : State := { s with mck := { s.mck with sel := some 4 } }
       begins 0x33 (pk [0]) f = true ∧ f.role = 2 ∧ f.mck.sel = some 4 ∧ f.mode ≠ .boot)
    ∧ begins 0x33 (pk [0]) up = true ∧ up.hasTarget = false
    ∧ (let t : State := { gridIn .caught up with ntu := { up.ntu with valid := true } }
       begins 0x33 (px [1]) t = true ∧ t.hasTarget = true)
    ∧ begins 0x34 (pk [0]) up = true ∧ begins 0x34 (px [5]) up = true := by decide +kernel

theorem test_selection_ranks (i : Nat) : (up.refClock i).rank < 8 := by
  have h : ∀ r ∈ up.mck.refs, r.rank < 8 := by decide +kernel
  unfold State.refClock
  by_cases hi : i < up.mck.refs.length
  · rw [List.getD_eq_getElem _ _ hi]
    exact h _ (List.getElem_mem hi)
  · rw [List.getD_eq_default _ _ (by omega)]
    decide

theorem test_selection_and_events :
    (let s := withRef 2 { en := true, qualified := true, seen := true } up
     s.selection = some 2 ∧ s.disagreeing = [] ∧ s.mck.revert = true ∧ s.mck.sel ≠ some 2)
    ∧ up.selection = none ∧ clocked up.mode = true
    ∧ (let s := withRef 2 { en := true } up
       s.mck.refs.length = 6 ∧ (s.refClock 2).en = true ∧ (s.refClock 2).qualified = false
       ∧ ((s.corrected 0).natAbs : Int) ≤ ((s.refClock 2).freqWin : Int) * 100000 - ((s.refClock 2).hyst : Int) * 10000
       ∧ 1000 ≤ (s.refClock 2).phaseWin * 10)
    ∧ (let s := withRef 2 { en := true, qualified := true } up
       (s.refClock 2).qualified = true ∧ (s.refClock 2).phaseWin * 10 < 1001
       ∧ ¬(((s.refClock 2).freqWin : Int) * 100000 < ((s.corrected 0).natAbs : Int) ∨ (s.refClock 2).phaseWin * 10 < 1000)
       ∧ (let a : State := { s with mck := { s.mck with sel := some 2, state := .acquire } }
          a.mck.sel = some 2 ∧ a.mck.state = .acquire ∧ a.phaseReached 2 = true))
    ∧ (let h : State := { up with mck := { up.mck with state := .holdover, hoLimit := 100, fe0 := 65535, drift := 65535, hoAt := some 0 },
                                  ntu := { up.ntu with course := 2 ^ 60 } }
       h.mck.state = .holdover
       ∧ 2000000000000000000000 * h.mck.hoLimit < timeError h.mck.fe0 h.mck.drift h.holdoverNs) := by decide +kernel
/-! ## Witnesses: time -/

/-- The state with PTP settings, and with port 0 as given. -/
def withPtp (c : PtpConfig) (q : PtpPort) (s : State) : State := { s with ntu := { s.ntu with ptp := c, ports := [q, {}] } }

theorem test_ptp_and_time :
    begins 0x38 (pk [1, 0]) up = true ∧ up.ptpOn = false
    ∧ (let s := withPtp { ctrl := 1 } { en := true } up
       begins 0x38 (pk [2, 0]) s = true ∧ s.ptpOn = true ∧ (ptpConfigOf false [2, 0]).ctrl ≠ s.ntu.ptp.ctrl
       ∧ begins 0x38 (pk [1, 0]) s = true ∧ begins 0x3A (pk [0, 1, 0]) s = true)
    ∧ (let s := withPtp { ctrl := 1 } {} up
       let k := pk [0x6, 0x0A000001]
       begins 0x39 k s = true ∧ s.ntu.ports.length = 2
       ∧ profileTransport 0 (s.ptpPortOf k.x k.params {}).transport = true
       ∧ (s.ptpPortOf k.x k.params {}).p2p = profileP2p 0
       ∧ (s.ptpPortOf k.x k.params {}).en = true ∧ (s.ptpPortOf k.x (pk [4, 0]).params {}).en = false
       ∧ begins 0x39 (pk [4, 0]) s = true ∧ begins 0x39 k up = true ∧ up.ntu.ptp.ctrl ≠ 1
       ∧ (let a := withPtp { ctrl := 1, profile := 4 } {} up
          begins 0x39 k a = true ∧ profileTransport 4 (a.ptpPortOf k.x k.params {}).transport = false)
       ∧ (let old := s.ptpPortOf k.x k.params {}
          let e := withPtp { ctrl := 1 } old up
          let tagged := pk [0x546, 0x0A000001]
          let moved := pk [0x6, 0x0A000002]
          old.en = true ∧ begins 0x39 tagged e = true ∧ (e.ptpPortOf false tagged.params old).tagged ≠ old.tagged
          ∧ begins 0x39 moved e = true ∧ (e.ptpPortOf false moved.params old).tagged = old.tagged
          ∧ (e.ptpPortOf false moved.params old).vid = old.vid ∧ (e.ptpPortOf false moved.params old).p2p = old.p2p
          ∧ (e.ptpPortOf false moved.params old).transport = old.transport ∧ (e.ptpPortOf false moved.params old).ipv4 ≠ old.ipv4))
    ∧ (up.timeFollow = false ∧ begins 0x3A (pk [0, 0xFFFFFFFF, 0xFFFFFFFF]) up = true ∧ begins 0x3A (pk [1, 0, 0]) up = true
       ∧ begins 0x3A (pk [1, 0xFFFFFFFF, 0xFFFFFFFF]) up = true ∧ begins 0x3A (px [2, 5, 0, 1000]) up = true
       ∧ begins 0x3A (pk [2, 0, 0]) up = true ∧ begins 0x3A (pk [3, 0, 0]) up = true) := by decide +kernel

/-- A Start List entry that sets pin 0 at a time. -/
def entry (t : Nat) (st : SlState) : SlEntry := { time := t, action := 2, lateDrop := false, pin := 0, level := 1, stream := 0, state := st }

/-- The state with valid time and those entries. -/
def withList (l : Table SlEntry) (s : State) : State := { s with ntu := { s.ntu with valid := true, list := l } }

theorem test_startlist_load :
    (let s := withList [(0, entry 5 .armed)] up
     begins 0x3B (pk [0, 0, 0, 2]) s = true ∧ (tget s.ntu.list 0).map SlEntry.state = some .armed)
    ∧ (let s := withList [(1, { entry 5 .loaded with packet := List.replicate 16384 0 })] up
       let k := pk [0, 0, 0, 1, 0x27000100, 0]
       begins 0x3B k s = true ∧ (tget s.ntu.list 0).isNone = true ∧ 16384 < s.slPool - 0 + (slEntryOf false k.params).packet.length)
    ∧ begins 0x3B (pk [1023, 0, 0, 2]) up = true ∧ tget up.ntu.list 1023 = none
    ∧ up.slPool - 0 + (slEntryOf false [1023, 0, 0, 2]).packet.length ≤ 16384
    ∧ begins 0x3B (px [0, 0, 0, 2, 1]) up = true ∧ up.ntu.valid = false
    ∧ (let s : State := { withList [] up with ntu := { (withList [] up).ntu with nt40 := 2 ^ 40 * 2 ^ 40 } }
       begins 0x3B (px [0, 0, 0, 2, 1]) s = true ∧ s.ntu.valid = true
       ∧ s.beyondWin (s.lateness (slEntryOf true [0, 0, 0, 2, 1])) = true
       ∧ begins 0x3B (px [0, 0, 0, 0x12, 3]) s = true ∧ (slEntryOf true [0, 0, 0, 0x12, 3]).lateDrop = true) := by decide +kernel

theorem test_startlist_arm_and_cancel :
    begins 0x3C (pk [0x400]) up = true ∧ up.ntu.valid = false
    ∧ (let s := withList [(0, entry 5 .loaded), (3, entry 5 .handed)] up
       begins 0x3C (pk [0x1000]) s = true ∧ trising s.ntu.list = true ∧ s.beyondWin (s.lateness (entry 5 .loaded)) = false
       ∧ (∃ e ∈ (withList [(0, entry 5 .loaded)] { up with ntu := { up.ntu with nt40 := 2 ^ 40 * 2 ^ 40 } }).ntu.list.filter
            (fun e => slInRange 0x400 e.1 && decide (e.2.state = .loaded)),
          (withList [(0, entry 5 .loaded)] { up with ntu := { up.ntu with nt40 := 2 ^ 40 * 2 ^ 40 } }).beyondWin
            ((withList [(0, entry 5 .loaded)] { up with ntu := { up.ntu with nt40 := 2 ^ 40 * 2 ^ 40 } }).lateness e.2) = true)
       ∧ slInRange 0x1000 0 = true ∧ begins 0x3D (pk [0x201000]) s = true ∧ slInRange 0x201000 3 = true
       ∧ begins 0x3D (px [0x600000]) s = true) := by decide +kernel

/-- The state with a setting of every event input, and of event output 0. -/
def withPins (i : Word) (o : Word) (s : State) : State := (s.setReg Reg.NTU_EVT_IN_CFG i).setReg (Reg.NTU_EVT_OUT_CFG 0) o

theorem test_event_pins :
    (let u := (fresh up).advance 0
     u.edgeChosen 0 true = false ∧ up.ntu.evtIn.length = 8)
    ∧ (let s := withPins 0xFFFF 0 up
       ((fresh s).advance 0).edgeChosen 7 true = true ∧ (((fresh s).advance 0).ntu.evtIn.getD 7 {}).lastStamp = none
       ∧ (let t : State := { s with ntu := { s.ntu with course := 99, evtIn := List.replicate 8 { lastStamp := some 0 } } }
          ((fresh t).advance 0).edgeChosen 0 true = true ∧ ((fresh t).advance 0).ntu.course < 0 + 100))
    ∧ (let h : HandedEdge := { entry := 3, time := 5, level := 1, since := 0 }
       let s : State := withList [(3, entry 5 .handed)] (withPins 0 1 up)
       let t : State := { s with ntu := { s.ntu with nt40 := 5 * 2 ^ 40, evtOut := listMod s.ntu.evtOut 0 fun o => { o with handed := [h] } } }
       let u := (fresh t).advance 0
       t.ntu.evtOut.length = 4 ∧ (u.ntu.evtOut.getD 0 {}).handed = [h] ∧ tget u.ntu.list 3 = some (entry 5 .handed)
       ∧ h.time ≤ u.tick64 ∧ u.evtMode 0 = 1 ∧ evtWaits 0 h u = false
       ∧ ((withPins 0 0 u).evtMode 0 ≠ 1)) := by decide +kernel

theorem test_start_list_fires :
    slNext ((fresh (withList [] up)).advance 0) = none ∧ (withList [] up).ntu.valid = true
    ∧ (let h : HandedEdge := { entry := 1, time := 4, level := 1, since := 0 }
       ([h] : List HandedEdge).Pairwise (fun a b => a.time ≤ b.time))
    ∧ (let s := withList [(0, entry 5 .armed), (3, entry 4 .armed)] up
       let u := (fresh s).advance 0
       slNext u = some (3, entry 4 .armed) ∧ (entry 4 .armed).due = false ∧ u.lateness (entry 4 .armed) < 0
       ∧ (entry 4 .armed).action = 2 ∧ u.ntu.evtOut.length = 4)
    ∧ (∀ a ∈ [1, 3, 7], let e : SlEntry := { entry 0 .armed with action := a, stream := 3 }
       slNext ((fresh (withList [(0, e)] up)).advance 0) = some (0, e) ∧ 0 ≤ ((fresh (withList [(0, e)] up)).advance 0).lateness e
       ∧ ((fresh (withList [(0, e)] up)).advance 0).beyondWin (((fresh (withList [(0, e)] up)).advance 0).lateness e) = false)
    ∧ (let e : SlEntry := { entry 0 .armed with due := true, isLate := true, lateDrop := true }
       slNext ((fresh (withList [(0, e)] up)).advance 0) = some (0, e)) := by decide +kernel
/-! ## Witnesses: PTP firmware, the Rudder and the queues -/

/-- A frame of EtherType 0x88F7 that holds a Sync of domain 0, behind the descriptor. -/
def syncItem : Item :=
  { len := some 78
    data := List.replicate 16 0 ++ (List.replicate 12 0 ++ [0x88, 0xF7]) ++ ([0, 2, 0, 44] ++ List.replicate 40 1) ++ [0, 0, 0, 0] }

/-- The same with another version of PTP. -/
def badItem : Item := { syncItem with data := syncItem.data.set 31 1 }

/-- The state with that item in queue 31. -/
def ptpQueue (it : Item) (s : State) : State :=
  s.setQueue 31 { sizeKib := 64, fixed := true, items := [it] }

/-- That queue after the read of its item, and the state then. -/
def ptpRead (ecc : Option Ecc) (u : State) : State := queueEcc 31 ecc (u.onQueue 31 (qUpset ecc))

theorem test_ptp_messages :
    (let u := (fresh (ptpQueue syncItem (withPtp { ctrl := 1, domain := 1 } { en := true } up))).advance 0
     let q := ((tget (ptpRead none u).buf.queues 31).getD { sizeKib := 0 })
     let v := (ptpRead none u).setQueue 31 (qReadAll { q with rpOff := 0 })
     u.ptpRuns = true ∧ (tget u.buf.queues 31).isSome = true ∧ q.rpItem < q.items.length ∧ q.items[q.rpItem]? = some syncItem
     ∧ ptpPayload (syncItem.data.drop 16) = some ([0, 2, 0, 44] ++ List.replicate 40 1)
     ∧ ptpGood v (leNat (slice syncItem.data 0 2) / 2 ^ 14 % 2) (readPtp ([0, 2, 0, 44] ++ List.replicate 40 1)) = true)
    ∧ (let u := (fresh (ptpQueue badItem (withPtp { ctrl := 1 } { en := true } up))).advance 0
       let q := ((tget (ptpRead none u).buf.queues 31).getD { sizeKib := 0 })
       let v := (ptpRead none u).setQueue 31 (qReadAll { q with rpOff := 0 })
       q.items[q.rpItem]? = some badItem ∧ ptpPayload (badItem.data.drop 16) = some ([0, 1, 0, 44] ++ List.replicate 40 1)
       ∧ ptpGood v (leNat (slice badItem.data 0 2) / 2 ^ 14 % 2) (readPtp ([0, 1, 0, 44] ++ List.replicate 40 1)) = false) := by
  decide +kernel

theorem test_ptp_timers :
    let s := fun (st : Nat) => withPtp { ctrl := 1 } { en := true, state := st, p2p := true } up
    (s 4).ntu.ports.length = 2 ∧ (s 4).ptpRuns = true ∧ ((s 4).ptpPort 0).en = true ∧ ((s 4).ptpPort 0).state ≠ 6
    ∧ ((s 6).ptpPort 0).state = 6 ∧ (s 6).ptpAble 0 = true ∧ ((s 9).ptpPort 0).p2p = true
    ∧ ((s 6).ptpPort 0).annLog ≠ logStop ∧ ((s 6).ptpPort 0).syncLog ≠ logStop ∧ ((s 9).ptpPort 0).delayLog ≠ logStop
    ∧ ((withPtp { ctrl := 1 } { en := true, state := 8 } up).ptpPort 0).p2p = false := by decide +kernel

theorem test_ptp_ends :
    (let s : State := { up with ntu := { up.ntu with reroute := some { offsetBefore := 0, rate := 0 } } }
     s.ntu.reroute.isSome = true ∧ s.timeFollow = false)
    ∧ (({ up with ntu := { up.ntu with slew := some { left := 0, rate := 1 } } } : State).ntu.slew).map Slew.left = some 0 := by
  decide +kernel

/-- An instruction that delivers to stream 3, to queue 0 or to re-row, or drops under counter 3. -/
def toStream : BitVec 64 := 0xC000800100000003
def toQueue : BitVec 64 := 0xC400800000000000
def toRerow : BitVec 64 := 0xC800000000000000
def toDrop : BitVec 64 := 0xCC00000300000000

/-- The state with instruction `w` alone in engine 0 of bank 0, which is sealed and enabled. -/
def withProg (w : BitVec 64) (s : State) : State :=
  { s with rud := { s.rud with bootProg := false, sealed0 := true, prog := [(0, w)] } }.setReg Reg.RUD_CTRL 1

theorem test_rud_load :
    (let s := withProg toDrop up
     begins 0x40 (pk [0x000807FC, 0x00000000, 0xCC000003]) s = true
     ∧ rudWrites false [0x000807FC, 0x00000000, 0xCC000003] = true ∧ s.rudBankOn 0 = true)
    ∧ (begins 0x40 (pk [0x000803FC, 0x00000000, 0xCC000003]) up = true ∧ up.rudBankOn 0 = false
       ∧ begins 0x40 (pk [0x000803FF, 0x00000000, 0xCC000003]) up = true
       ∧ (sealBank (rudLoaded false [0x000803FF, 0x00000000, 0xCC000003] up) 1 8 0 0).2.2.1 = 0
       ∧ begins 0x40 (pk [0x000803FF, 0, 0]) up = true
       ∧ (sealBank (rudLoaded false [0x000803FF, 0, 0] up) 1 8 0 0).2.2.1 ≠ 0)
    ∧ (511 + [toDrop].length ≤ 512 ∧ ([toDrop] : List (BitVec 64))[0]? = some toDrop) := by decide +kernel

theorem test_rud_swap_and_scan :
    (let s := withProg toDrop up
     let w : State := { s with rud := { s.rud with swapTo := some 1, sealed1 := true } }
     begins 0x41 (pk [1]) w = true ∧ w.rud.swapTo.isSome = true ∧ w.rudSealed 1 = true ∧ w.rudBank ≠ 1 ∧ w.rudEn = true
     ∧ begins 0x41 (pk [1]) up = true ∧ up.rud.bootProg = true ∧ up.rud.swapTo = none
     ∧ begins 0x41 (pk [1]) s = true ∧ s.rudSealed 1 = false ∧ begins 0x41 (pk [0]) s = true ∧ s.rudSealed 0 = true ∧ s.rudBank = 0
     ∧ (let b : State := { s with rud := { s.rud with sealed1 := true } }
        begins 0x41 (px [3]) b = true ∧ b.rudSealed 1 = true ∧ b.rudBank ≠ 1 ∧ b.rudEn = true ∧ (b.setReg Reg.RUD_CTRL 0).rudEn = false)
     ∧ w.rudDrained 1 = true
     ∧ (flying (flight 0x41 5 .committed .rudSwap []) w).cmd.flights = [flight 0x41 5 .committed .rudSwap []])
    ∧ (let s := flying (flight 0x42 5 .committed .flowScan []) { up with rud := { up.rud with scan := [(0xFF, 0)] } }
       s.rud.scan = (0xFF, 0) :: [] ∧ s.cmd.flights = [flight 0x42 5 .committed .flowScan []] ∧ s.cmd.restarting = false) := by decide +kernel

/-- A flow entry of type 0 and key 0 that delivers to stream 3. -/
def flow0 : FlowEntry := { key := 0, typ := 0, action := 1, cls := 0, target := 3, user := 0, dropCtr := 0 }

theorem test_flow_set :
    (let i := (flowSlots 0 0).headD 0
     let s : State := { up with rud := { up.rud with flows := [(i, flow0)] } }
     s.flowFind 0 0 = some (i, flow0) ∧ begins 0x42 (px [0x00030400, 0, 0, 0, 0, 0, 1]) s = true
     ∧ begins 0x42 (pk [0x00030400, 0, 0, 0, 0, 0]) s = true ∧ begins 0x42 (pk [0x100, 0, 0, 0, 0, 0]) s = true
     ∧ begins 0x42 (pk [0x200, 0, 0, 0, 0, 0]) s = true)
    ∧ up.flowFind 0 0 = none ∧ begins 0x42 (pk [0x00030400, 0, 0, 0, 0, 0]) up = true ∧ begins 0x42 (pk [0x100, 0, 0, 0, 0, 0]) up = true
    ∧ ((flowSlots 0 0).find? fun i => !(thas up.rud.flows i)).isSome = true
    ∧ (let s : State := { up with rud := { up.rud with flows := (List.range 8192).foldr (fun i t =>
          if has (flowSlots 0 0) i then (i, { flow0 with typ := 1 }) :: t else t) [] } }
       s.flowFind 0 0 = none ∧ ∀ i ∈ flowSlots 0 0, thas s.rud.flows i = true) := by decide +kernel

/-- A frame of 64 zero bytes from port 0, dispatched to engine 0. -/
def frame0 : RxFrame := { port := 0, bytes := List.replicate 64 0 }
def disp0 : Dispatched := { frame := frame0, engine := 0, bank := 0, boot := false, users := [0, 0, 0, 0], mode := .service }
def withIn (s : State) : State := { s with rud := { s.rud with inq := [disp0] } }

theorem test_frames_classified :
    ((withIn up).setReg Reg.RUD_CTRL 0).rudEn = false ∧ clocked (withIn up).mode = true
    ∧ (let s := (withIn up).setReg Reg.RUD_CTRL 1
       s.rudEn = true ∧ s.rudSealed 0 = false)
    ∧ (rudClassify (fresh (withIn (withProg toStream up))) disp0).1.dest = .stream 3
    ∧ (rudClassify (fresh (withIn (withProg toRerow up))) disp0).1.dest = .rerow
    ∧ (rudClassify (fresh (withIn (withProg toQueue up))) disp0).1.dest = .queue 0
    ∧ disp0.frame.bad = false ∧ up.buf.ready = true ∧ (tget up.buf.queues 0).isSome = true
    ∧ (let d : Dispatched := { disp0 with frame := { frame0 with fcsErr := true } }
       (!d.frame.bad || (withProg toStream up).bit (Reg.NP_RX_CTRL 0) (rudClassify (fresh (withProg toStream up)) d).1.cls) = false
       ∧ (rudClassify (fresh (withProg toStream up)) d).1.dest = .stream 3)
    ∧ insOp 0x2000000000000000 = 0x08 ∧ insOp 0x3800000000000000 = 0x0E ∧ insOp 0x6000000000000000 = 0x18 ∧ 0x30 ≤ insOp toStream := by
  decide +kernel

/-! ## Witnesses: queues, buffer memory -/

/-- The state with queue `n`. -/
def withQueue (n : Nat) (q : Queue) (s : State) : State := s.setQueue n q

/-- A committed item of four bytes. -/
def item4 : Item := { len := some 4, data := [1, 2, 3, 4] }

theorem test_queue_commands :
    begins 0x48 (pk [0x00010000]) up = true ∧ up.memUsed - 65536 + 1024 ≤ up.memCap
    ∧ (let s := withQueue 1 { sizeKib := 8192 } (withQueue 2 { sizeKib := 8192 } up)
       begins 0x48 (px [0x20000003, 0]) s = true ∧ s.memCap < s.memUsed - 0 + 1024 * 8192) ∧ begins 0x48 (pk [0]) up = true
    ∧ begins 0x49 (px [0xFF]) up = true := by decide +kernel

theorem test_queue_rows :
    up.coreAnswers = true ∧ hostProduces 16 = true ∧ hostConsumes 0 = true ∧ hostProduces 0 = false ∧ hostConsumes 16 = false
    ∧ (let q : Queue := { sizeKib := 1, mrr := true }
       let s := withQueue 16 q (withQueue 0 { q with items := [item4] } up)
       tget s.buf.queues 16 = some q ∧ qOpenItem q = none ∧ (tget s.buf.queues 0).isSome = true
       ∧ (qOpenItem (qOpen q 8 0)).isSome = true)
    ∧ tget up.buf.queues 16 = none ∧ (∀ q, tget up.buf.queues 0 = some q → q.mrr = false) := by
  refine ⟨by decide +kernel, by decide +kernel, by decide +kernel, by decide +kernel, by decide +kernel, by decide +kernel,
    by decide +kernel, ?_⟩
  intro q h
  have e : tget up.buf.queues 0 = some { sizeKib := 64, wm := 192 } := by decide +kernel
  rw [e] at h
  cases h
  rfl

theorem test_queue_items :
    let q : Queue := { sizeKib := 1, items := [item4] }
    let h : Queue := { q with hold := true }
    let full : Item := { len := some 1020, data := List.replicate 1020 0 }
    qTaken q ≤ qCap q ∧ qTaken q + itemTaken item4 ≤ qCap q ∧ itemTaken full ≤ qCap q ∧ qCap q < qTaken q + itemTaken full
    ∧ (qAppend h item4).2 = true ∧ (qAppend h full).2 = false
    ∧ (qOpenItem q = none ∧ 0 < qCap q ∧ qTaken q + 4 + 4 * ((8 + 3) / 4) ≤ qCap q ∧ ([5, 6] : List Word).length ≤ (8 + 3) / 4 ∧ 7 ≤ 8
       ∧ q.rpOff = 0 ∧ q.nextHeld = false)
    ∧ (q.items[q.rpItem]? = some item4 ∧ item4.data.length = 4 ∧ q.resync = false ∧ q.rpOff + 4 < itemTaken item4
       ∧ itemTaken item4 ≤ ({ q with rpOff := 4 } : Queue).rpOff + 4) := by decide +kernel

theorem test_items_displaced :
    let q : Queue := { sizeKib := 1, items := [item4] }
    let big : Item := { len := some 1021, data := List.replicate 1021 0 }
    qTaken q ≤ qCap q ∧ q.lost < 2 ^ 48 ∧ q.hold = false ∧ qCap q < itemTaken big
    ∧ itemTaken { len := some 1020, data := List.replicate 1020 0 } ≤ qCap q
    ∧ qCap q < 4 + 4 * ((1021 + 3) / 4) := by decide +kernel

theorem test_aperture :
    up.coreAnswers = true ∧ up.memPresent (up.viewAddr (0xC4000 / 4 * 4)) = true ∧ up.memPresent (up.viewAddr (0xFFFFF / 4 * 4)) = true
    ∧ up.buf.poison = [] ∧ (inMode .test up).memPresent ((inMode .test up).viewAddr 0xC4000) = true ∧ Memory.wf up.buf.mem = true
    ∧ up.mode ≠ .test
    ∧ (let s : State := { up with buf := { up.buf with map := List.replicate 40 none } }
       s.memPresent (s.viewAddr 0xC4000) = false) := by decide +kernel

/-- A migration of logical bank 0 to the first spare bank, and the state with a migration. -/
def mig0 : Migration := { logical := 0, source := 0, target := 40 }
def withMig (m : Migration) (s : State) : State := { s with buf := { s.buf with mig := some m } }

theorem test_bank_commands :
    begins 0x78 (px [0x40]) up = true
    ∧ (let s : State := { up with buf := { up.buf with map := List.replicate 40 none } }
       begins 0x78 (pk [39]) s = true ∧ (s.buf.map[39]?).join = none)
    ∧ begins 0x78 (pk [0]) (withMig mig0 up) = true ∧ ((withMig mig0 up).buf.map[0]?).join = some 0
    ∧ (let s : State := { up with buf := { up.buf with retired := (3 : BitVec 42) <<< 40, out := (3 : BitVec 42) <<< 40 } }
       begins 0x78 (pk [0]) s = true ∧ s.buf.mig = none ∧ s.spareBanks = [])
    ∧ up.spareBanks = [40, 41] ∧ begins 0x78 (pk [39]) up = true ∧ begins 0x79 (px [1]) up = true := by decide +kernel

theorem test_migration_and_scrub :
    (withMig mig0 up).mck.grid = false ∧ clocked (withMig mig0 up).mode = true ∧ mig0.phase = .accepted
    ∧ ({ mig0 with phase := .copying, copied := 65280 } : Migration).copied + 256 = 65536
    ∧ (({ mig0 with phase := .remap } : Migration).logical < up.buf.map.length ∧ up.buf.pendTrig = [])
    ∧ (∀ e ∈ up.buf.poison, e.1 ≠ 41) ∧ (up.carried 0).isSome = true
    ∧ (up.setReg Reg.BUF_REPAIR_CFG 0).bit Reg.BUF_REPAIR_CFG 0 = false := by decide +kernel

/-! ## Witnesses: registers and the host interface -/

/-- The host link is up with DMA, and both rings of the transport are enabled with 16 slots. -/
def linked : State :=
  { up with hif := { up.hif with perstN := true, linkUp := true, bme := true, msixEn := true } }.setReg Reg.HIF_Q_CFG 0x441

theorem test_register_access :
    (∀ a ∈ [Reg.BUF_REPAIR_CFG, Reg.PMU_WAKE_CFG, Reg.NTU_EVENT, Reg.NP_CFG 0, Reg.GLB_ERR], a < 0x40000 ∧ busCanon a = a
      ∧ isBanked a = false ∧ a ≠ Reg.MCK_CORE_CFG ∧ tget up.keys (busWindow a) = none ∧ up.answers .host a = true)
    ∧ ((regRow Reg.NTU_EVENT).any fun r => !r.key && decide (r.rc ≠ 0)) = true
    ∧ ((regRow Reg.PMU_WAKE_CFG).any fun r => !r.key && decide (r.rw ≠ 0) && decide (r.rc = 0) && decide (r.w1p = 0) && decide (r.rwd = 0)
        && has [0, 1, 3, 9, 10, 11, 12, 13] (Reg.PMU_WAKE_CFG / 0x4000)) = true
    ∧ ((regRow (Reg.NP_CFG 0)).any fun r => !r.key && decide (r.rwd ≠ 0) && decide (r.w1p = 0)) = true
    ∧ (let s : State := { up with np := listMod up.np 0 fun p => { p with live := true } }
       (fresh s).rwdHeld (Reg.NP_CFG 0) = true)
    ∧ ((regRow Reg.GLB_ERR).any fun r => decide (r.rc ≠ 0)) = true
    ∧ (linked.beside .host .wide = true ∧ linked.hif.up = true ∧ clocked linked.mode = true ∧ linked.answers .host Reg.PMU_WAKE_CFG = true)
    ∧ linked.beside .host .bar2 = true ∧ linked.beside .host .config = true ∧ linked.beside .host .bar0 = false
    ∧ ((0x34040 ≤ Reg.DRV_LISTEN_MUTE 0 ∧ Reg.DRV_LISTEN_MUTE 0 < 0x34080)
      ∨ (0x34100 ≤ Reg.DRV_LISTEN_MUTE 0 ∧ Reg.DRV_LISTEN_MUTE 0 < 0x34180)) := by decide +kernel

theorem test_acting_reads :
    up.answers .mgmt Reg.PMU_WAKE_REASON = true ∧ (regRow Reg.PMU_WAKE_REASON).isSome = true ∧ up.tdm.length = 16
    ∧ up.answers .host (Reg.TDM_TS 15) = true := by decide +kernel

theorem test_keyed_writes :
    Reg.GLB_RESET < 0x40000 ∧ busCanon Reg.GLB_RESET = Reg.GLB_RESET ∧ isKeyValue Reg.GLB_RESET = true
    ∧ up.answers .host Reg.GLB_RESET = true ∧ tget up.keys (busWindow Reg.GLB_RESET) = none
    ∧ (let k : KeySeq := { addr := Reg.GLB_RESET, issued := Reg.GLB_RESET, path := .host, value := 0x52535401, age := 128 }
       let s : State := { up with keys := tset up.keys 0 k }
       tget s.keys (busWindow Reg.GLB_RESET) = some k ∧ k.addr = Reg.GLB_RESET ∧ clocked s.mode = true
       ∧ s.answers .host (Reg.GLB_RESET + 4) = true ∧ k.age ≤ 128 ∧ (0 : Word) ≠ ~~~k.value) := by decide +kernel

theorem test_keyed_effects :
    up.keys = [] ∧ up.coreAnswers = true ∧ up.mode ≠ .quiet ∧ up.mode ≠ .safe ∧ up.np.length = 2
    ∧ (({ up with np := listMod up.np 1 fun p => { p with live := true } } : State).port 1).live = true
    ∧ (let s : State := { up with patch := { up.patch with banks := [{}, { staged := true }], level := 1 } }
       s.inactive.staged = true ∧ s.patch.level ≠ 0)
    ∧ (up.buf.map[39]?).join = some 39 ∧ up.buf.mig = none ∧ up.spareBanks = [40, 41] := by decide +kernel

theorem test_acting_registers :
    up.coreLocked = true
    ∧ (let q := inMode .quiet up
       q.coreLocked = false ∧ q.coreAnswers = true ∧ fieldOf 0x8 2 0 < 7 ∧ q.mck.grid = false ∧ (fresh q).coreFits (fieldOf 0x8 2 0) = true
       ∧ (fieldOf 0x8 2 0 ≠ q.rateCode ∨ bitOf 0x8 3 ≠ q.s16) ∧ q.mck.coreNext = []
       ∧ (gridIn .caught q).mck.grid = true ∧ (gridIn .caught q).coreLocked = false ∧ fieldOf 7 2 0 = 7 ∧ bitOf 7 3 = q.s16
       ∧ (let w := withRx { rxS .disabled with map := [some 0x400] } q
          w.coreLocked = false ∧ (fresh w).coreFits 6 = false ∧ fieldOf 6 2 0 < 7))
    ∧ ((up.port 1).disabling = false ∧ (up.port 1).live = false ∧ up.bit (Reg.NP_CFG 1) 0 = false)
    ∧ (let s : State := { up with np := listMod up.np 0 fun p => { p with live := true } }.setReg (Reg.NP_CFG 0) 1
       (s.port 0).live = true ∧ s.bit (Reg.NP_CFG 0) 0 = true ∧ (s.port 0).disabling = false ∧ s.pmu.firstService = true
       ∧ (s.port 0).pauseGo.length + b2n (s.port 0).sendsPause < 2
       ∧ 2 ≤ ((({ s with np := listMod s.np 0 fun p => { p with pauseGo := [[1], [2]] } } : State).port 0).pauseGo).length)
    ∧ State.reset.pmu.firstService = false
    ∧ (up.setReg Reg.RUD_CTRL 0).rudEn = false
    ∧ ((roleIs 2 up).role = 2 ∧ (roleIs 2 up).keys = [] ∧ (roleIs 2 up).coreAnswers = true)
    ∧ (up.ump.active &&& up.ump.cond = 0)
    ∧ (let s : State := { up with ump := { up.ump with active := 1, cond := 1 } }
       s.ump.active &&& s.ump.cond ≠ 0) := by decide +kernel

theorem test_hif_registers :
    (up.cmd.weigh = none ∧ up.cmd.ready = true ∧ up.unposted.any Reply.w = false ∧ up.cmd.restarting = false)
    ∧ (let s : State := { up with cmd := { up.cmd with weigh := some .host } }
       s.cmd.weigh.isSome = true ∧ s.cmd.weighNext = none)
    ∧ (up.reg Reg.HIF_CQ_TAIL).toNat < 2 ^ 16 ∧ (up.reg Reg.HIF_RQ_HEAD).toNat < 2 ^ 16
    ∧ (15 : Word).toNat < 2 ^ linked.regField Reg.HIF_Q_CFG 7 4 ∧ 2 ^ linked.regField Reg.HIF_Q_CFG 7 4 ≤ (16 : Word).toNat
    ∧ (15 : Word).toNat < 2 ^ linked.regField Reg.HIF_Q_CFG 11 8
    ∧ (up.bit Reg.HIF_Q_CFG 0 = false ∧ up.regField Reg.HIF_CQ_BASE_LO 7 0 = 0 ∧ up.regField Reg.HIF_RQ_BASE_LO 7 0 = 0
       ∧ 4 ≤ fieldOf 0x4A1 7 4 ∧ fieldOf 0x4A1 7 4 ≤ 10 ∧ 4 ≤ fieldOf 0x4A1 11 8 ∧ fieldOf 0x431 7 4 < 4 ∧ 10 < fieldOf 0x4B1 7 4)
    ∧ up.hif.rings.length = 32 ∧ (fresh up).ringOn 31 = false ∧ (fresh up).ringRefused 31 0x1 = true := by decide +kernel

/-- HIF_RING_CFG with EN, four entries and one channel. -/
def ringWord : Word := 0x00040021

theorem test_ring_enable :
    ((fresh up).ringOn 31 = false ∧ bitOf ringWord 0 = true ∧ (fresh up).ringRefused 31 ringWord = false)
    ∧ (let s : State := { up.setReg (Reg.HIF_RING_CFG 31) ringWord with hif := { up.hif with rings := up.hif.rings.set 31 { live := true } } }
       s.ringEn 31 = true ∧ (s.ring 31).live = true) := by decide +kernel

theorem test_transport :
    let par : State := { up with pmu := { up.pmu with straps := { up.pmu.straps with hostSel := true } } }
    let full : State := { up with hif := { up.hif with cmdQueue := List.replicate 16 (.mgmt, List.replicate 64 0) } }
    let r : Reply := { src := .path .mgmt, op := 1, tag := 5 }
    up.coreAnswers = true ∧ par.pcie = false ∧ up.asm .mgmt = [] ∧ fieldOf 0 31 24 = 0
    ∧ (fieldOf 0x01000105 31 24 ≠ 0 ∧ full.cqFree < portLen 0x01000105)
    ∧ (portLen 0x01000105 ≤ up.cqFree ∧ [(0x01000105 : Word)].length < portLen 0x01000105)
    ∧ (let s : State := { up with hif := { up.hif with asmMgmt := [0x01000105] }, cmd := { up.cmd with ready := false } }
       s.asm .mgmt ≠ [] ∧ portLen 0x01000105 ≤ s.cqFree ∧ portLen 0x01000105 ≤ (s.asm .mgmt ++ [7]).length ∧ s.takes = false
       ∧ s.hif.cmdQueue = [])
    ∧ (({ up with hif := { up.hif with rpMgmt := [9] } } : State).replyPort .mgmt = [9] ∧ up.replyPort .mgmt = [])
    ∧ (({ up with cmd := { up.cmd with held := [r] } } : State).cmd.held = [r] ∧ r.behind = none ∧ r.w = false ∧ r.op ≠ 5
       ∧ r.status = .ok) := by
  decide +kernel

theorem test_transport_pcie :
    let r : Reply := { src := .path .host, op := 1, tag := 5 }
    let wait : Flight := flight 1 5 .waiting .none [7]
    (let s : State := { linked with cmd := { linked.cmd with held := [r] } }
     s.pcie = true ∧ s.canPost .host = true ∧ s.cmd.held = [r])
    ∧ (linked.setReg Reg.HIF_CQ_TAIL 1).canFetch = true
    ∧ (let s : State := { linked with hif := { linked.hif with vec1 := true, vecMask := 0 } }
       s.hif.vec1 = true ∧ s.hif.msixEn = true ∧ s.pcie = true ∧ s.vecMasked 1 = false ∧ s.dmaOn = true
       ∧ linked.vecMasked 1 = true ∧ ({ s with hif := { s.hif with bme := false } } : State).dmaOn = false
       ∧ ({ s with hif := { s.hif with bme := false } } : State).vecMasked 1 = false)
    ∧ (let s := flying wait up
       ((fresh s).cmd.flights.find? fun f => mayStart (fresh s) f || nowReady (fresh s) f) = some wait ∧ s.cmd.weigh = none
       ∧ s.cmd.imageAt = none ∧ s.hif.cmdQueue = [] ∧ s.cmd.tunnelIn = []) := by decide +kernel

theorem test_pcie_events :
    linked.pcie = true ∧ linked.hif.perstN = true ∧ up.hif.linkUp = false ∧ linked.hif.linkUp = true
    ∧ (({ up with hif := { up.hif with training := true } } : State).hif.training = true)
    ∧ linked.hif.bme = true ∧ linked.hif.d3hot = false
    ∧ (let s : State := { linked with hif := { linked.hif with pba := 0x80000000 } }
       (0x80000000 : BitVec 32).getLsbD 31 = true ∧ s.hif.pba.getLsbD 31 = true ∧ s.dmaOn = true)
    ∧ linked.hif.rings.length = 32 ∧ linked.bit Reg.HIF_Q_CFG 0 = true
    ∧ ((gridIn .caught { linked with hif := { linked.hif with rings := linked.hif.rings.set 31 { live := true } } }).ring 31).live = true
    ∧ ({ up with pmu := { up.pmu with straps := { up.pmu.straps with hostSel := true } } } : State).pcie = false := by decide +kernel

theorem test_management_port :
    up.pmu.vddAon = true ∧ msStatus true 0xFFFFFF true up = 2 ∧ msStatus false 0 true up = 2 ∧ msStatus true 0x090000 true up = 3
    ∧ msStatus true 0 true (inMode .watch up) = 1 ∧ msStatus true 0x08FFFC true up = 0 ∧ msStatus true 0x08FFFC false up = 4
    ∧ (inMode .watch up).coreAnswers = false ∧ busWindow 0x4000 = 1 ∧ msWords 0x13 = 4 ∧ msWords 0x14 = 0
    ∧ ({ up with pmu := { up.pmu with vddAon := false } } : State).pmu.vddAon = false
    ∧ (0x58 : BitVec 7).toNat = 0b1011000 + up.pmu.straps.msAddr.toNat ∧ (0x59 : BitVec 7).toNat ≠ 0b1011000 + up.pmu.straps.msAddr.toNat
    ∧ clocked up.mode = true
    ∧ (let s := (inMode .watch up).setReg Reg.PMU_WAKE_CFG 1
       clocked s.mode = false ∧ s.pmu.porN = true ∧ s.bit Reg.PMU_WAKE_CFG 0 = true ∧ s.pmu.seq = .idle) := by decide +kernel

theorem test_narrow_and_peek :
    ((regRow Reg.NTU_EVENT).any fun r => decide (r.rc ≠ 0)) = true ∧ ((regRow Reg.GLB_RESET).any RegRow.key) = true
    ∧ busCanon Reg.GLB_RESET = Reg.GLB_RESET ∧ (1 : BitVec 4) ≠ 0 ∧ (7 : BitVec 4) ≠ 0xF ∧ up.coreAnswers = true
    ∧ up.answers .host Reg.NTU_EVENT = true ∧ busCanon Reg.NTU_EVENT = Reg.NTU_EVENT := by decide +kernel

/-! ## Witnesses: power, boot and the stroke -/

/-- The rail sequencer stands so, with those enables. -/
def rails (q : RailSeq) (e : BitVec 4) (s : State) : State := { s with pmu := { s.pmu with seq := q, railEn := e } }

/-- A request of WATCH by the command in flight. -/
def asks (m : Mode) (st : HsStage) (a : List UnitAns) (cap : Nat) : PowerReq :=
  { target := m, tag := 5, before := .service, stage := st, ans := a, cap := cap }
def asking (r : PowerReq) (s : State) : State :=
  let f := flying (flight 5 5 .started .power []) s
  { f with pmu := { f.pmu with req := some r } }

theorem test_rails :
    lowestLow 0 = some 0 ∧ lowestLow 7 = some 3 ∧ lowestLow 0xF = none ∧ highestHigh 0xF = some 3 ∧ highestHigh 1 = some 0
    ∧ (rails (.rising .watch) 7 up).pmu.seq = .rising .watch
    ∧ (let s := rails (.falling .moored none) 1 (inMode .moored up)
       s.pmu.seq = .falling .moored none ∧ s.pmu.req = none)
    ∧ (let s := rails (.falling .watch none) 0xF (inMode .watch up)
       s.pmu.seq = .falling .watch none ∧ s.pmu.railEn = 0xF ∧ s.pmu.req = none)
    ∧ (rails (.off none) 0 up).pmu.seq = .off none ∧ (rails (.off (some (.boot 3))) 0 up).pmu.seq = .off (some (.boot 3))
    ∧ (rails (.waitGood (.boot 1)) 0xF up).pmu.seq = .waitGood (.boot 1)
    ∧ (let s := rails (.waitGood (.back .quiet)) 0xF (inMode .watch up)
       s.pmu.seq = .waitGood (.back .quiet) ∧ s.mode = .watch ∧ s.pmu.slot = none ∧ s.pmu.autoWait = none)
    ∧ (let s := asking { target := .watch, tag := 5, before := .service, stage := .rails } (rails (.falling .watch none) 0xF (inMode .watch up))
       s.pmu.seq = .falling .watch none ∧ s.pmu.railEn = 0xF ∧ s.pmu.req.map PowerReq.stage = some .rails ∧ s.pmu.slot = none
       ∧ s.pmu.autoWait = none)
    ∧ (up.pmu.seq = .idle ∧ up.pmu.railEn = 0xF ∧ up.pmu.pwrGood = true ∧ fallsMoored up = false)
    ∧ (let s := rails (.falling .moored none) 0xF (inMode .moored up)
       fallsMoored s = true ∧ s.mode = .moored ∧ s.cmd.flights = [] ∧ s.pmu.pwrGood = true) := by decide +kernel

theorem test_handshake :
    let r := asks .watch .asking (List.replicate 14 .none) 0
    let s := asking r up
    s.pmu.req = some r ∧ s.pmu.slot = none ∧ s.pmu.autoWait = none ∧ s.pmu.forced = none
    ∧ s.cmd.flights = [flight 5 5 .started .power []] ∧ (flight 5 5 .started .power []).ord = r.ord ∧ s.cmd.restarting = false
    ∧ (flight 5 5 .started .power []).op = 5 ∧ (flight 5 5 .started .power []).tag = r.tag
    ∧ clocked s.mode = true ∧ r.ans.length = 14 ∧ r.ans.getD 13 .grant = .none
    ∧ (let d : State := { s with drv := { s.drv with swaps := [{ id := 0, copy := false }] } }
       unitAnswer (fresh d) r 9 = (.delay, 0))
    ∧ (let p : State := { s with patch := { s.patch with busy := true } }
       unitAnswer (fresh p) r 12 = (.refuse, 3) ∧ 3 < 64)
    ∧ (let l := asks .watch .asking (List.replicate 13 .grant ++ [.none]) 0
       unitAnswer (fresh (asking l up)) l 14 = (.grant, 0) ∧ l.force = false ∧ l.wake = none ∧ l.target = .watch
       ∧ ∀ i, i < 14 → i ≠ 14 - 1 → l.ans.getD i .none = .grant)
    ∧ (let l := asks .watch .asking (.delay :: List.replicate 13 .none) 1
       l.ans.getD (1 - 1) .none = .delay ∧ l.cap ≠ 0 ∧ firstDelay l.ans = some 0)
    ∧ (let c : State := { asking (asks .watch .carrying [] 0) up with
           pmu := { (asking (asks .watch .carrying [] 0) up).pmu with modeNext := some .watch, parts := 0x1FFF } }
       c.pmu.modeNext = some .watch ∧ c.pmu.parts ||| 1 <<< 13 = 0x3FFF ∧ allDone .watch true (fresh c) = true)
    ∧ (let q := asks .quiet .carrying [] 0
       let b := asking q (inMode .boot up)
       let c : State := { b with pmu := { b.pmu with modeNext := some .quiet, parts := 0x1FFF } }
       q.target = .quiet ∧ c.mode = .boot ∧ allDone .quiet true (fresh c) = true)
    ∧ (asks .moored .replying [] 0).stage = .replying ∧ (asks .moored .replying [] 0).target = .moored
    ∧ (asks .watch .replying [] 0).target = .watch := by decide +kernel

theorem test_island :
    (let s := up.setReg Reg.PMU_ISLAND_CFG 3
     autoHolds .island (fresh s) = true ∧ s.pmu.forced = none ∧ s.pmu.modeNext = none ∧ s.pmu.req = none
     ∧ (asking (asks .watch .asking [] 0) s).pmu.req.isSome = true
     ∧ autoHolds .island (fresh (asking (asks .watch .asking [] 0) s)) = true)
    ∧ (let t := (inMode .island up).setReg Reg.PMU_ISLAND_CFG 3
       let s : State := { t with pmu := { t.pmu with islandAuto := true }, np := listMod t.np 0 fun p => { p with live := true, link := true } }
       autoHolds .service (fresh s) = true ∧ autoHolds .service (fresh (asking (asks .watch .asking [] 0) s)) = true) := by decide +kernel

/-- A boot image that passes its checks and holds no packet. -/
def imageOk (ws : List Word) : Bool :=
  match imageCheck ws with
  | .ok l => l.isEmpty
  | .error _ => false

theorem test_boot :
    (({ up with pmu := { up.pmu with vddAon := false } } : State).pmu.vddAon = false) ∧ up.pmu.porN = true
    ∧ (let s : State := { up with pmu := { up.pmu with porN := false } }
       s.pmu.porN = false ∧ s.pmu.vddAon = true ∧ s.pmu.seq = .idle ∧ (rails (.off none) 0 s).pmu.seq = .off none)
    ∧ (rails (.release 1) 0xF up).pmu.seq = .release 1
    ∧ (clocked State.reset.mode = true ∧ State.reset.buf.ready = false)
    ∧ (let s : State := { inMode .boot up with cmd := State.reset.cmd }
       s.mode = .boot ∧ s.hif.up = true ∧ s.cmd.ready = false ∧ s.cmd.restarting = false ∧ s.patch.busy = false
       ∧ s.bootsFromFlash = false ∧ s.cmd.weigh = none ∧ s.hif.cmdQueue = [] ∧ s.cmd.tunnelIn = [] ∧ s.cmd.after = []
       ∧ (let f : State := { s with pmu := { s.pmu with straps := { s.pmu.straps with bootSrc := 1 } } }
          f.bootsFromFlash = true ∧ f.cmd.imageFail = false ∧ f.cmd.imageAt = none ∧ f.cmd.flights = []))
    ∧ (({ up with cmd := { up.cmd with ready := false, restarting := true } } : State).cmd.restarting = true)
    ∧ (let b : List Word := [0x484C4E49, 1, 8, 5, 0, 0, 0]
       imageOk (b ++ [checkWord b]) = true ∧ (b ++ [checkWord b]).getD 4 0 = 0 ∧ imageOk [0] = false) := by decide +kernel

theorem test_wake :
    (up.setReg Reg.PMU_WAKE_CFG 0).bit Reg.PMU_WAKE_CFG 1 = false
    ∧ (let s := (inMode .watch up).setReg Reg.PMU_WAKE_CFG 0x1D6
       clocked s.mode = false ∧ s.pmu.porN = true ∧ s.mode = .watch ∧ s.bit Reg.PMU_WAKE_CFG 1 = true ∧ s.pmu.seq = .idle
       ∧ s.bit Reg.PMU_WAKE_CFG (6 + 1) = true ∧ (up.setReg Reg.PMU_WAKE_CFG 0).bit Reg.PMU_WAKE_CFG (6 + 1) = false
       ∧ (rails (.off none) 0 s).pmu.seq = .off none ∧ (rails (.falling .watch none) 0xF s).pmu.seq = .falling .watch none
       ∧ (let t : State := { s with np := listMod s.np 1 fun p => { p with live := true } }
          let magic := beBytes 6 (t.portMac 1) ++ List.replicate 8 0 ++ List.replicate 6 0xFF
            ++ (List.replicate 16 (beBytes 6 (t.portMac 1))).flatten ++ [0, 0, 0, 0]
          (t.port 1).live = true ∧ (magicMatch (fresh t) 1 magic && t.bit Reg.PMU_WAKE_CFG (2 + 2 * 1)) = true
          ∧ magicMatch (fresh t) 1 [0] = false ∧ (patternMatch (fresh t) 1 [0] && t.bit Reg.PMU_WAKE_CFG (3 + 2 * 1)) = false)) := by
  decide +kernel

theorem test_stroke :
    (∀ p ∈ [StrokePart.boundary, .caught, .driven, .finished, .recovered], (gridIn p up).mck.grid = true ∧ (gridIn p up).mck.part = p
      ∧ (gridIn p up).mck.coreNext = [] ∧ (gridIn p up).pmu.modeNext = none ∧ (gridIn p up).drv.running = false)
    ∧ up.mck.grid = false ∧ (({ up with mck := { up.mck with gridStart := true } } : State).mck.gridStart = true) := by decide +kernel

/-! ## Witnesses: ports -/

/-- The state with port 0 so. -/
def withPort (p : NetPort) (s : State) : State := { s with np := listMod s.np 0 fun _ => p }

theorem test_port_commands :
    up.np.length = 2 ∧ begins 0x50 (pk [0, 0, 0]) up = true ∧ begins 0x50 (pk [2, 0, 0]) up = true ∧ (up.port 0).live = false
    ∧ (let s := withPort { live := true } up
       begins 0x50 (pk [0x1E, 0, 0]) s = true ∧ (s.port 0).live = true ∧ (portStale false [0x1E, 0, 0] 0 s).isSome = true
       ∧ begins 0x51 (pk [0]) s = true ∧ begins 0x50 (pk [0x12, 0, 0]) s = true ∧ portStale false [0x12, 0, 0] 0 s = none
       ∧ bitOf 0x12 1 = (s.port 0).live
       ∧ begins 0x50 (pk [0x10, 0, 0]) s = true ∧ portStale false [0x10, 0, 0] 0 s = none ∧ bitOf 0x10 1 = false)
    ∧ (withPort { live := true, disabling := true } up).np.length = 2
    ∧ begins 0x51 (pk [1]) up = true ∧ begins 0x52 (pk [1]) up = true ∧ begins 0x52 (px [6]) up = true
    ∧ begins 0x52 (px [2]) up = true := by decide +kernel

theorem test_port_links :
    (let s := (withPort { live := true } up).setReg (Reg.NP_CFG 0) 0xD
     (s.port 0).live = true ∧ (s.port 0).inReset = false ∧ s.portAn 0 = true ∧ s.mode ≠ .moored)
    ∧ (let s := withPort { live := true, anDone := true } up
       s.linkMay 0 = true ∧ (s.port 0).link = false)
    ∧ ((withPort { link := true } up).port 0).link = true ∧ ((withPort { disabling := true } up).port 0).disabling = true
    ∧ (let s := flying (flight 0x50 5 .committed (.portUp 0) []) (withPort { inReset := true } up)
       (s.port 0).inReset = true ∧ s.cmd.flights = [flight 0x50 5 .committed (.portUp 0) []] ∧ s.cmd.restarting = false)
    ∧ (up.port 0).pauseUntil ≤ 10 * up.ntu.course ∧ (up.port 0).pfcUntil.getD 7 0 ≤ 10 * up.ntu.course ∧ up.nearLoop 0 = false
    ∧ (let s := withPort { pauseUntil := 1, pfcUntil := List.replicate 8 1 } up
       10 * s.ntu.course < (s.port 0).pauseUntil ∧ 10 * s.ntu.course < (s.port 0).pfcUntil.getD 7 0) := by decide +kernel

/-- A frame for a transmit queue. -/
def txf : TxFrame := { bytes := List.replicate 60 0, kind := .hostItem 16 0 }

theorem test_port_frames :
    let s := withPort { live := true } up
    let u := (fresh s).advance 0
    clocked s.mode = true ∧ (s.port 0).live = true ∧ (s.port 0).inReset = false ∧ s.nearLoop 0 = false
    ∧ (let n : State := { s with tst := { s.tst with points := [1, 0, 0, 0] } }
       n.nearLoop 0 = true)
    ∧ (List.replicate 63 (0 : Byte)).length < 64 ∧ u.maxFrame 0 < 1523 ∧ 64 ≤ u.maxFrame 0
    ∧ (((fresh { s with rud := { s.rud with inq := [disp0, disp0, disp0] } }).advance 0).rxNoRoom 0 64 = true)
    ∧ (u.rxNoRoom 0 64 = false ∧ (parseFrame (List.replicate 64 0)).etype ≠ 0x8808)
    ∧ (let bs : List Byte := [1, 0x80, 0xC2, 0, 0, 1] ++ List.replicate 6 0 ++ [0x88, 0x08, 0, 1, 0, 5] ++ List.replicate 46 0
       let f := parseFrame bs
       bs.length = 64 ∧ f.etype = 0x8808 ∧ f.tagged = false ∧ f.dst = 0x0180C2000001 ∧ beAt bs 14 2 = 1
       ∧ ((fresh (s.setReg (Reg.NP_PAUSE_CTRL 0) 1)).advance 0).bit (Reg.NP_PAUSE_CTRL 0) 0 = true) := by decide +kernel

theorem test_port_transmit :
    (let v := txEnd 0 ((fresh (withPort { live := true, pauseGo := [[1]] } up)).advance 0)
     (v.port 0).pauseGo = [[1]])
    ∧ (let s := withPort { live := true, egress := List.replicate 7 [] ++ [[txf]], link := true } up
       let v := txEnd 0 ((fresh s).advance 0)
       (v.port 0).pauseGo = [] ∧ ([7, 6, 5, 4, 3, 2, 1, 0].find? fun q => v.eligible 0 q) = some 7
       ∧ (v.port 0).egress.getD 7 [] = [txf] ∧ txf.oneStep = false ∧ (s.port 0).disabling = false)
    ∧ (let v := txEnd 0 ((fresh (withPort { live := true } up)).advance 0)
       ∀ q, q < 8 → v.eligible 0 q = false)
    ∧ (let s : State := { withPort { live := true, egress := [[], [], [], [], [], [txf], [], []] } up with ntu := { up.ntu with nt40 := 2 ^ 80 } }
       (s.port 0).egress.getD 5 [] = [txf] ∧ txf.launch + s.lateMax 0 ≤ s.tick64)
    ∧ ((withPort { live := true, holdHost := true } up).port 0).holdHost = true := by decide +kernel

/-- The state with that item in the first host transmit queue, port 0 live, and the state after the copy's read of it. -/
def hostItem (it : Item) : State := withQueue 16 { sizeKib := 1, items := [it] } (withPort { live := true } up)
def hostRead (it : Item) : State := queueEcc 16 none ((fresh (hostItem it)).onQueue 16 (qUpset none))

theorem test_host_item :
    let it : Item := { len := some 60, data := List.replicate 60 0 }
    let s := hostItem it
    (((tget (hostRead it).buf.queues 16).getD { sizeKib := 0 }).items[((tget (hostRead it).buf.queues 16).getD { sizeKib := 0 }).rpItem]? = some it)
    ∧ it.len.isSome = true ∧ (s.port 0).holdHost = false ∧ (s.port 0).egress.length = 8 ∧ itemErrors (hostRead it) 0 it = []
    ∧ s.takesFrame (.hostItem 16 ((tget (hostRead it).buf.queues 16).getD { sizeKib := 0 }).copies) = true
    ∧ ((s.port 0).egress.getD 0 []).length < egressDepth 0
    ∧ egressDepth 0 ≤ (((withPort { live := true, egress := List.replicate 300 txf :: List.replicate 7 [] } up).port 0).egress.getD 0 []).length
    ∧ 4 ∈ itemErrors (hostRead { it with abandoned := true }) 0 { it with abandoned := true } := by decide +kernel
/-! ## Witnesses: media frames and re-row -/

/-- An RTP packet of one L16 sample, and a frame from port 0 that carries bytes over UDP. -/
def rtp (ssrc : Nat) : List Byte := [0x80, 0, 0, 1] ++ beBytes 4 0 ++ beBytes 4 ssrc ++ [0x12, 0x34]
def udpIn (body : List Byte) : RxFrame :=
  { port := 0, bytes := udpFrame 1 2 none false 0 64 0x0A000001 0x0A000002 5004 5004 body ++ [0, 0, 0, 0] }

/-- An L16 stream at the core rate that learns its SSRC and anchors at the arrival. -/
def rxL (st : SrxState) : RxStream :=
  { state := st, words := [0x01012203, 0x00280000, 0, 0x80, 0, 0, 0x01900010, 0, 0x3208], map := [some 0], ctrl := 0x102 }

/-- A frame that waits at SRX for stream 3. -/
def mediaIn (f : RxFrame) : Delivered := { frame := f, stream := 3, cls := 0, rudder := 0 }
def withMedia (f : RxFrame) (s : State) : State := { s with srx := { s.srx with inq := [mediaIn f] } }

theorem test_media_frames :
    let f := udpIn (rtp 7)
    let s := withMedia f (withRx (rxL .waiting) up)
    let u : State := { fresh s with srx := { s.srx with inq := [] } }
    tget s.srx.streams 3 = some (rxL .waiting) ∧ s.srx.inq = [mediaIn f] ∧ (rxL .disabled).accepting = false
    ∧ (inMode .island s).mode = .island ∧ ({ rxL .waiting with shut := true } : RxStream).shut = true
    ∧ (rxL .waiting).accepting = true ∧ s.mode ≠ .island ∧ (rxL .waiting).shut = false ∧ f.fcsErr = false ∧ f.alignErr = false
    ∧ f.symErr = false ∧ (rxL .waiting).onPort 1 = false ∧ readMedia u (rxL .waiting) frame0 = none
    ∧ (rxL .waiting).onPort 0 = true
    ∧ (∃ m ∈ (readMedia u (rxL .waiting) f).toList, ssrcOk (rxL .waiting) m = true ∧ ssrcOk { rxL .waiting with ssrc := some 8 } m = false
           ∧ tooEarly u (anchorAt u (rxL .waiting) m) m = false ∧ (placeMedia u (anchorAt u (rxL .waiting) m) m).first.isSome = true)
    ∧ (let r : RxStream := { rxL .running with ssrc := some 7, other := some 8 }
       r.accepting = true ∧ r.learn = true ∧ r.ssrc.isSome = true ∧ r.other.isSome = true ∧ r.otherMany = false
       ∧ (let m : RxStream := { r with otherMany := true, otherAt := 5 }
          m.otherMany = true ∧ s.ntu.course < m.otherAt + m.relearnNs))
    ∧ (let r : RxStream := { rxL .running with ctrl := 0x302, accA := some 0, accB := some 0 }
       r.ports = 3 ∧ (if (0 : Nat) = 0 then r.accB else r.accA).isSome = true ∧ (if (1 : Nat) = 0 then r.accB else r.accA).isSome = true) := by
  decide +kernel

/-- A re-row request or GONE frame for one block. -/
def rerowIn (typ : Nat) : RxFrame := udpIn (rerowPayload typ 3 3 1 (0xFFFF * 2 ^ 32 + 0x0A000001) 5005 [(9, 1)])

/-- A missing block, and a stream of which it is missing. -/
def miss (asks : Nat) (ask : Bool) : Missing := { seq := 9, pos := 1000000, asks := asks, toAsk := ask }
def rxM (m : Missing) : RxStream := { rxS .running with missing := [m], hdrA := some { rr := true, ip := 0x0A000001 } }

theorem test_rerow_asked :
    let s := withRx (rxM (miss 0 false)) up
    tget s.srx.streams 3 = some (rxM (miss 0 false)) ∧ (miss 0 false).detected = false
    ∧ (rxM (miss 0 false)).missing.find? (fun x => decide (x.seq = 9)) = some (miss 0 false)
    ∧ (fresh s).rrMayAsk (rxM (miss 0 false)) (miss 0 false).pos = true ∧ s.rrOutstanding < 1024
    ∧ (fresh s).rrMayAsk { rxM (miss 0 false) with hdrA := none } (miss 0 false).pos = false
    ∧ (miss 1 false).asks = 1 ∧ (miss 1 false).gone = false ∧ (miss 1 false).toAsk = false ∧ s.rrMayAsk (rxM (miss 1 false)) (miss 1 false).pos = true
    ∧ (let r := rxM (miss 0 true)
       let t := (withPort { live := true } (withRx r up)).setReg (Reg.SRX_RR_IP4 0) 0x0A000002
       t.np.length = 2 ∧ (askBlocks r).2 ≠ [] ∧ (fresh t).askPort r (askBlocks r).1 = 0 ∧ r.hdrA.isSome = true
       ∧ (fresh t).rrSource 0 false ≠ 0 ∧ t.srx.sentA < 32 ∧ (t.port 0).live = true ∧ (t.port 0).egress.length = 8
       ∧ ((t.port 0).egress.getD 6 []).length < 32 ∧ t.takesFrame .rerowAsk = true)
    ∧ (readRerow (rerowIn 2)).any (fun e => decide (e.1 = 2) && decide (e.2.rx = 3)) = true ∧ (rxM (miss 0 true)).enabled = true := by
  decide +kernel

theorem test_rerow_answered :
    readRerow frame0 = none ∧ (readRerow (rerowIn 2)).map Prod.fst = some 2 ∧ (readRerow (rerowIn 1)).map Prod.fst = some 1
    ∧ (∃ e ∈ (readRerow (rerowIn 1)).toList, let q := e.2
           up.rrPortOk q = true ∧ (up.rrList 0).length < 256
           ∧ 256 ≤ (({ up with stx := { up.stx with reqA := List.replicate 256 q } } : State).rrList 0).length
           ∧ (let w : TxStream := { txS .enabled with words := [0x00081003, 0x00006000, 0, 0, 0, 0x00040000 + 6, 0x00040000] }
              let s := withTx w up
              s.rrPortOk q = false)
           ∧ (let s := withPort { live := true } up
              s.np.length = 2 ∧ ({ s with stx := { s.stx with reqA := [q] } } : State).rrList 0 = [q] ∧ q.decided = false
              ∧ s.rrServes q = none ∧ (s.port 0).egress.length = 8 ∧ ((s.port 0).egress.getD 6 []).length < 32
              ∧ s.takesFrame (.rerowAnswer q.tx) = true ∧ firstOnly (rangeSeqs q.ranges) ≠ [] ∧ (s.port 0).live = true
              ∧ s.rrFits 0 (wireSize (goneFrameOf s 0 q (firstOnly (rangeSeqs q.ranges)))) = true)) := by decide +kernel

/-! ## Witnesses: TDM and the Rate Aligner -/

/-- TDM port 0 so, with TDM_CFG: a slave, enabled, of one slot of 16 bits. -/
def withTdm (p : TdmPort) (s : State) : State := { s with tdm := s.tdm.set 0 p }.setReg (Reg.TDM_CFG 0) 1

theorem test_tdm_commands :
    up.tdm.length = 16 ∧ begins 0x58 (pk [0x7F10, 0]) up = true
    ∧ (let g := tdmWords false [0x7F10, 0]
       begins 0x58 (pk [0x7F10, 0]) (up.setReg Reg.MCK_CORE_CFG 6) = true
       ∧ tdmRateBad (up.setReg Reg.MCK_CORE_CFG 6).rateCode (tdmCfgOf g.1 g.2.1 g.2.2.1 g.2.2.2) = true)
    ∧ (let g := tdmWords false [0x10, 0]
       begins 0x58 (pk [0x10, 0]) up = true ∧ tdmRateBad up.rateCode (tdmCfgOf g.1 g.2.1 g.2.2.1 g.2.2.2) = false
       ∧ up.tdmEnabled 0 = false ∧ bitOf g.1 0 ≠ up.tdmWanted 0
       ∧ bitOf (tdmWords false [0, 0]).1 0 = up.tdmWanted 0 ∧ begins 0x58 (pk [0, 0]) up = true)
    ∧ (let s := withTdm { live := true } up
       s.tdmEnabled 0 = true ∧ begins 0x58 (pk [0x130, 0]) s = true ∧ (tdmDiffers false s 0 (tdmWords false [0x130, 0])).isSome = true
       ∧ begins 0x59 (px [0x10]) s = true ∧ (s.tdmPort 0).ending = false ∧ (∀ e ∈ (s.tdmPort 0).wants, e.2 = true)
       ∧ (s.tdmPort 0).stopAt = none)
    ∧ (let s := withTdm { live := true, wants := [(1, false)] } up
       s.tdmEnabled 0 = true ∧ ∃ e ∈ (s.tdmPort 0).wants, e.2 = false)
    ∧ begins 0x59 (pk [15]) up = true ∧ up.tdmEnabled 15 = false := by decide +kernel

theorem test_tdm_frames :
    (up.tdmPort 15).live = false ∧ (up.tdmPort 15).ending = false
    ∧ (let s := withTdm { live := true, ending := true } up
       (s.tdmPort 0).ending = true ∧ (s.tdmCfg 0).master = false)
    ∧ (let s := gridIn .caught (withTdm { live := true, stopAt := some 7 } up)
       (s.tdmPort 0).live = true ∧ (s.tdmPort 0).ending = false ∧ s.mck.grid = true ∧ (s.tdmPort 0).stopAt = some 7)
    ∧ (let s := gridIn .caught (withTdm { live := true, state := 1, good := 3, lastEdge := some 0 } up)
       let c := s.tdmCfg 0
       let p := s.tdmPort 0
       p.live = true ∧ c.master = false ∧ s.mck.grid = true ∧ p.stopAt = none ∧ p.state = 1 ∧ 16 = c.slots * c.len
       ∧ 15 ≠ c.slots * c.len ∧ p.good = 3
       ∧ (let n := 1000000000 / s.coreRate
          ((((((fresh s).advance n).ntu.course : Int) - 0) * s.coreRate - 1000000000).natAbs) ≤ 10000000))
    ∧ (let s := gridIn .caught (withTdm { live := true, state := 2, bad := 3 } up)
       let p := s.tdmPort 0
       let dev := ((fresh s).advance 0).relEdge - p.nextIx * 1000000000 - p.offset * ((fresh s).advance 0).coreRate
       p.live = true ∧ p.state = 2 ∧ (s.tdmCfg 0).master = false ∧ 3 + 1 = 4 ∧ p.reassign = false
       ∧ -1000000000 ≤ 2 * dev ∧ 2 * dev ≤ 1000000000) := by decide +kernel

theorem test_ral :
    begins 0x60 (pk [3]) up = true ∧ tget up.srx.streams 3 = none
    ∧ (let s := withRx (rxS .running) up
       begins 0x60 (pk [0x203]) s = true ∧ (rxS .running).enabled = true
       ∧ fieldOf (s.ralOf 3).ctrl 1 0 ≠ fieldOf (w32 (3 + 2 ^ 9 * ((fieldOf (s.ralOf 3).ctrl 1 0 + 1) % 4))) 10 9
       ∧ begins 0x60 (px [3, 0x6401]) (withRx (rxS .disabled) up) = true ∧ (rxS .disabled).enabled = false)
    ∧ begins 0x61 (pk [0]) up = true ∧ begins 0x61 (px [511]) up = true
    ∧ ((({ up with ral := [(511, { state := .acquire })] } : State).ralOf 511).state = .acquire)
    ∧ ((({ up with ral := [(511, { state := .locked })] } : State).ralOf 511).state = .locked) := by decide +kernel

/-! ## Witnesses: the Obien link -/

/-- The Obien ports so. -/
def withObl (a b : OblPort) (s : State) : State := { s with obl := { s.obl with ports := [a, b] } }

theorem test_cascade_config :
    let cox := roleIs 1 up
    begins 0x68 (pk [0]) up = true ∧ cascadeForm [0] = 0 ∧ up.role = 0
    ∧ (begins 0x68 (px [0x10, 0x00000102]) (roleIs 2 up) = true ∧ (roleIs 2 up).role = 2
       ∧ bitOf ((roleIs 2 up).reg Reg.OBL_CFG) 2 = bitOf (setupWord true [0x10, 0x00000102]) 2 ∧ bitOf 0x00000102 1 = true)
    ∧ (let s := (roleIs 2 up).setReg Reg.OBL_CFG 1
       let d := (roleIs 2 up).setReg Reg.OBL_CFG 4
       begins 0x68 (pk [0x10]) s = true ∧ bitOf (s.reg Reg.OBL_CFG) 2 ≠ bitOf (setupWord false [0x10]) 2
       ∧ s.regField Reg.OBL_CFG 1 0 ≠ 0 ∧ begins 0x68 (pk [0]) d = true ∧ d.regField Reg.OBL_CFG 1 0 = 0)
    ∧ (begins 0x68 (pk [5, 0x01000105, 7]) up = true ∧ cascadeForm [5, 0x01000105, 7] = 1 ∧ up.role ≠ 1)
    ∧ (begins 0x68 (pk [2, 0x00000200]) up = true ∧ cascadeForm [2, 0x00000200] = 2)
    ∧ (begins 0x68 (pk [5, 0x01000105, 7]) cox = true ∧ cox.role = 1 ∧ cox.portTo (fieldOf 5 4 2) = none)
    ∧ (let s := withObl { state := 4, reach := 2 } {} cox
       begins 0x68 (pk [5, 0x01000105, 7]) s = true ∧ s.portTo (fieldOf 5 4 2) = some 0 ∧ s.obl.conflict = false
       ∧ ({ s with obl := { s.obl with conflict := true } } : State).obl.conflict = true)
    ∧ (begins 0x68 (pk [2, 0x003803FF]) cox = true ∧ cox.mck.grid = false ∧ fieldOf 0x003803FF 8 0 = 511 ∧ fieldOf 0x003803FF 18 9 = 1
       ∧ fieldOf 0x003803FF 22 19 = 7 ∧ begins 0x68 (pk [2, 0x003803FF]) (gridIn .driven cox) = true
       ∧ (gridIn .driven cox).mck.grid = true)
    ∧ (begins 0x68 (pk [0xF]) cox = true ∧ begins 0x68 (pk [0xF]) up = true ∧ cascadeForm [0xF] = 3 ∧ cox.role ≠ 0)
    ∧ begins 0x69 (pk [0]) up = true ∧ begins 0x69 (px [7]) up = true ∧ begins 0x69 (px [7]) cox = true := by decide +kernel

/-- A frame whose TUNNEL packet has one word, for seat 1. -/
def tunnel1 : OblFrame := { typ := 7, upw := false, origin := 0, flags := 1, index := 8192 + 8, stroke := 127, payload := List.replicate 52 0 }

/-- A TUNNEL frame that is the whole reply of seat 1 to the command with TAG 5. -/
def tunnelReply : OblFrame :=
  { typ := 7, upw := true, origin := 1, flags := 3, index := 8192 + 16, stroke := 5, payload := List.replicate 52 0 }

theorem test_obien_events :
    (∀ q ∈ [1, 2, 3, 4, 5], ((withObl { state := q } { state := q } up).oblPort 1).state = q)
    ∧ (let s := withObl { state := 5, cause := 1 } {} (roleIs 1 up)
       (s.oblPort 0).cause ≠ 3 ∧ s.linkConflict 0 (s.oblPort 0).peer = false ∧ s.posCause 0 (s.oblPort 0).peer ≠ 2)
    ∧ up.obl.heldReplies = [] ∧ (up.oblPort 0).state = 0 ∧ (withObl { state := 4 } {} up).oblRun up.coxSide = true
    ∧ (let t := withObl {} { state := 4 } (roleIs 2 up)
       let s : State := { t with obl := { t.obl with ring := true } }
       s.role = 2 ∧ s.obl.coxDn = false ∧ s.obl.ring = true ∧ (s.oblPort 0).state ≠ 4 ∧ (s.oblPort 1).state = 4)
    ∧ (let t := withObl { state := 4, peer := { cox := 9 } } { state := 4 } (roleIs 2 up)
       let s : State := { t with obl := { t.obl with coxDn := true } }
       s.obl.coxDn = true ∧ (s.oblPort 0).state = 4 ∧ (s.oblPort 0).peerUp = false ∧ (s.oblPort 0).peer.cox ≠ 0
       ∧ ({ s with obl := { s.obl with cut := true } } : State).obl.cut = true)
    ∧ (let t := withObl { state := 4 } {} (roleIs 2 up)
       let s : State := { t with obl := { t.obl with posValid := true, pos := 1 }, cmd := State.reset.cmd }
       readObl (Machine.oblBytes tunnel1) = some tunnel1 ∧ oblFieldsOk tunnel1 = true ∧ 0 = s.coxSide ∧ (s.oblPort 0).state = 4
       ∧ s.obl.conflict = false ∧ s.obl.posValid = true ∧ tunnel1.index / 8192 = s.obl.pos ∧ tunnel1.index / 128 % 64 = 0
       ∧ s.takes = false ∧ tunnel1.flags = 1 ∧ ∀ i, i < 4 → s.tst.points.getD i 0 = 0)
    ∧ (let g := flight 0x68 5 .committed (.tunnelled 1) []
       let s := flying g (withObl { state := 4 } {} (roleIs 1 up))
       readObl (Machine.oblBytes tunnelReply) = some tunnelReply ∧ oblFieldsOk tunnelReply = true ∧ tunnelReply.typ = 7 ∧ s.role = 1
       ∧ (s.oblPort 0).state = 4 ∧ s.obl.conflict = false ∧ tunnelReply.index / 128 % 64 = 0 ∧ tunnelReply.flags = 3
       ∧ s.cmd.flights = [g] ∧ g.phase = .committed ∧ g.fin = .tunnelled (tunnelReply.index / 8192) ∧ g.tag.toNat = tunnelReply.stroke
       ∧ g.src = .path .host ∧ s.cmd.restarting = false)
    ∧ (flying (flight 0x68 5 .committed (.tunnelled 1) []) up).cmd.flights = [flight 0x68 5 .committed (.tunnelled 1) []] := by
  decide +kernel

/-- An Obien frame of a type, with its flags, index and payload. -/
def obl (typ flags index : Nat) (payload : List Byte) : OblFrame :=
  { typ := typ, upw := false, origin := 0, flags := flags, index := index, stroke := 0, payload := payload ++ List.replicate (52 - payload.length) 0 }

theorem test_obien_link_frames :
    let link := obl 2 0 0 [0x40]
    let s := withObl { state := 2, agree := 3, peer := { role := 1 } } {} (roleIs 2 up)
    s.role ≠ 0 ∧ s.obl.ports.length = 2 ∧ 2 ≤ (s.oblPort 0).state ∧ readObl (List.replicate 64 1) = none ∧ (s.oblPort 0).crcRun < 15
    ∧ (∀ i, i < 4 → s.tst.points.getD i 0 = 0) ∧ 15 ≤ ((withObl { state := 2, crcRun := 15 } {} s).oblPort 0).crcRun
    ∧ (let n : State := { s with tst := { s.tst with points := [0, 0, 1, 0] } }
       n.nearLoop (2 + 0) = true ∧ (n.oblPort 0).loop = []
       ∧ ((withObl { state := 2, loop := [Machine.oblBytes link] } {} n).oblPort 0).loop = [Machine.oblBytes link])
    ∧ (readObl (Machine.oblBytes (obl 0 1 0 [])) = some (obl 0 1 0 []) ∧ oblFieldsOk (obl 0 1 0 []) = false)
    ∧ (readObl (Machine.oblBytes link) = some link ∧ oblFieldsOk link = true ∧ link.flags % 2 = 0 ∧ s.obl.coxDn = false ∧ (s.oblPort 0).state = 2
       ∧ (s.oblPort 0).agree = 3 ∧ (s.oblPort 1).state = 0 ∧ s.obl.posValid = false ∧ (linkInfo link).role = 1
       ∧ (linkInfo link).role = (s.oblPort 0).peer.role ∧ (linkInfo link).pos = (s.oblPort 0).peer.pos
       ∧ (linkInfo link).cox = (s.oblPort 0).peer.cox)
    ∧ (let r := withObl { state := 4, asked := some (9, 0) } {} (roleIs 1 up)
       (r.oblPort 0).state = 4 ∧ readObl (Machine.oblBytes (obl 3 0 9 [])) = some (obl 3 0 9 []) ∧ oblFieldsOk (obl 3 0 9 []) = true
       ∧ readObl (Machine.oblBytes (obl 3 1 9 [])) = some (obl 3 1 9 []) ∧ oblFieldsOk (obl 3 1 9 []) = true
       ∧ (r.oblPort 0).asked = some ((obl 3 1 9 []).index, 0)) := by decide +kernel

theorem test_obien_audio_frames :
    let sync := obl 1 0 0 (List.replicate 20 0 ++ [0x18])
    let lane := obl 4 1 511 []
    let up5 := obl 5 0 1 []
    let dn6 := obl 6 0 511 []
    (let s := withObl { state := 4 } {} ((roleIs 2 up).setReg Reg.OBL_CFG 4)
     s.obl.ports.length = 2 ∧ readObl (Machine.oblBytes sync) = some sync ∧ oblFieldsOk sync = true ∧ s.obl.conflict = false ∧ s.role = 2
     ∧ 0 = s.coxSide ∧ s.bit Reg.OBL_CFG 2 = true ∧ s.obl.syncSeen = false ∧ (beAt sync.payload 20 1).testBit 3 = true
     ∧ readObl (Machine.oblBytes dn6) = some dn6 ∧ oblFieldsOk dn6 = true)
    ∧ (let t := withObl { state := 4 } {} (roleIs 2 up)
       let s : State := { t with obl := { t.obl with pos := 1, posValid := true, owners := [(511, 0)] } }
       readObl (Machine.oblBytes lane) = some lane ∧ oblFieldsOk lane = true ∧ lane.origin ≠ s.oblPos ∧ lane.flags % 4 = 1
       ∧ tget s.obl.owners lane.index = some lane.origin)
    ∧ (let t := withObl { state := 4, reach := 2 } {} (roleIs 1 up)
       let s : State := { t with drv := { t.drv with banks := [{ buses := [(1, { cascade := true })] }, {}] } }
       readObl (Machine.oblBytes up5) = some up5 ∧ oblFieldsOk up5 = true ∧ s.role = 1 ∧ up5.stroke = s.relayStroke ∧ s.isArm 0 = true
       ∧ s.isArm 1 = false ∧ s.isCascade up5.index = true) := by decide +kernel

/-! ## Witnesses: patches, tests, the Umpire and the Rudder's loads -/

/-- The state with the words of the inactive patch bank. -/
def withPatch (b : PatchBank) (s : State) : State := { s with patch := { s.patch with banks := [{}, b] } }

theorem test_patch_commands :
    up.patch.banks.length = 2 ∧ up.patch.active < 2
    ∧ begins 0x70 (pk [1, 7]) up = true ∧ fieldOf 1 15 0 ≠ up.inactive.words.length
    ∧ begins 0x70 (pk [0x00010000, 7]) up = true ∧ begins 0x70 (pk [0x00020000, 7]) up = true ∧ fieldOf 0x00020000 15 0 = up.inactive.words.length
    ∧ begins 0x71 (pk [0]) up = true ∧ up.inactive.staged = false
    ∧ (let s := withPatch { staged := true } up
       begins 0x71 (pk [0]) s = true ∧ s.inactive.staged = true)
    ∧ begins 0x71 (px [0]) up = true ∧ bitOf 0 0 = false ∧ ([] : List Word).length + [7].length ≤ 49152 := by decide +kernel

theorem test_patch_ends :
    (let t := flying (flight 0x70 5 .committed .verify []) up
     let s : State := { t with patch := { t.patch with verifying := true } }
     s.patch.verifying = true ∧ s.cmd.flights = [flight 0x70 5 .committed .verify []] ∧ s.cmd.restarting = false
     ∧ s.patch.banks.length = 2 ∧ s.patch.active < 2)
    ∧ (let u : State := { up with patch := { up.patch with busy := true }, cmd := { up.cmd with restarting := true } }
       u.patch.busy = true ∧ u.cmd.restarting = true ∧ u.patch.rollback = false)
    ∧ (let s := flying (flight 0xE1 5 .committed .bist []) { up with tst := { up.tst with bist := some 1 } }
       s.tst.bist = some 1 ∧ bitOf 1 0 = true ∧ 41 ∈ s.spareBanks ∧ (0x20000000000 : BitVec 42).getLsbD 41 = true) := by decide +kernel

theorem test_test_commands :
    let s := inMode .test up
    s.mode = .test ∧ begins 0xE0 (pk [0x1B]) s = true ∧ s.tst.points.length = 4 ∧ begins 0xE1 (pk [3]) s = true
    ∧ begins 0xE2 (px [0x101, 9]) s = true ∧ fieldOf 0x101 7 0 ≠ 6 := by decide +kernel

theorem test_umpire :
    clocked up.mode = true ∧ isConfigReg Reg.PMU_WAKE_CFG = true ∧ Reg.PMU_WAKE_CFG ≠ lastConfigReg ∧ Reg.PMU_WAKE_CFG < 2 ^ 20
    ∧ (up.misparity.any fun k => decide (k % 2 ^ 20 = Reg.PMU_WAKE_CFG)) = false ∧ (0 : Word) &&& configMask Reg.PMU_WAKE_CFG = 0
    ∧ isConfigReg lastConfigReg = true ∧ (up.misparity.any fun k => decide (k % 2 ^ 20 = lastConfigReg)) = false
    ∧ ((upsetReg Reg.PMU_WAKE_CFG 1 up).misparity.any fun k => decide (k % 2 ^ 20 = Reg.PMU_WAKE_CFG)) = true
    ∧ isBanked Reg.PMU_WAKE_CFG = false ∧ oddOnes (1 &&& configMask Reg.PMU_WAKE_CFG) = true
    ∧ up.misparity.contains Reg.PMU_WAKE_CFG = false
    ∧ has up.ump.badMem (3, 5) = false
    ∧ up.tempCfg.2.1 ≤ 0x7FFF ∧ up.ump.cond.getLsbD 9 = false ∧ up.ump.cond.getLsbD 8 = false ∧ (0 : Int) < up.tempCfg.1 ∧ (0 : Int) < up.tempCfg.2.1
    ∧ up.cmd.ready = true ∧ up.strikesNow.length < 2 ∧ up.policy 6 = 2
    ∧ (let s : State := { up with ump := { up.ump with windows := [(0, {}), (11, { count := 1 })] } }
       tget s.ump.windows 0 = some {} ∧ (tget s.ump.windows 11).map LogWindow.count = some 1) := by decide +kernel

theorem test_rudder_loads :
    let d : Dispatched := { disp0 with frame := { frame0 with bytes := List.replicate 300 1 } }
    (255 < 256 ∧ 255 < d.frame.bytes.length - 4) ∧ ¬(256 < 256) ∧ 59 < disp0.frame.bytes.length - 4 ∧ ¬(60 < disp0.frame.bytes.length - 4)
    ∧ (rudLoad d 255 2 {}).2.oob = true ∧ (rudLoad d 254 2 {}).2.oob = false ∧ (rudLoad d 255 2 {}).1 = 0x0100 := by decide +kernel

end Sys2Proof.Tests
end

section
/-! SUPPORT. A LINK frame, as every frame that the Obien unit sends, changes that unit alone. -/
namespace Sys2Proof.Machine

/-! ## LINK frames change the Obien unit alone -/

/-- Everything but the Obien unit is as it was. -/
def sameButObl (s t : State) : Prop := ∃ o : Obl, t = { s with obl := o }

theorem sameButObl.refl (s : State) : sameButObl s s := ⟨s.obl, rfl⟩

theorem sameButObl.trans {s t u : State} (h : sameButObl s t) (h' : sameButObl t u) : sameButObl s u := by
  obtain ⟨o, rfl⟩ := h
  obtain ⟨o', rfl⟩ := h'
  exact ⟨o', rfl⟩

theorem sameButObl_foldl {α : Type} {f : State → α → State} (hf : ∀ t a, sameButObl t (f t a)) (l : List α) (s : State) :
    sameButObl s (l.foldl f s) := by
  induction l generalizing s with
  | nil => exact .refl s
  | cons a l ih => exact (hf s a).trans (ih (f s a))

theorem sameButObl_oblPut (s : State) (q : Nat) (bs : List Byte) : sameButObl s (s.oblPut q bs) := by
  unfold State.oblPut
  dsimp only
  split
  · exact ⟨_, rfl⟩
  · exact ⟨_, rfl⟩

theorem sameButObl_oblSend (s : State) (q typ flags index stroke : Nat) (payload : List Byte) :
    sameButObl s (s.oblSend q typ flags index stroke payload) := sameButObl_oblPut s q _

theorem sameButObl_sendLink (s : State) (q c : Nat) (leaving : Bool) : sameButObl s (s.sendLink q c leaving) :=
  sameButObl_oblSend s q _ _ _ _ _

theorem sameButObl_oblLinksDue (s : State) : sameButObl s (oblLinksDue s) := by
  unfold oblLinksDue
  split
  · exact .refl s
  · refine .trans (sameButObl_foldl (fun t q => ?_) [0, 1] s) ⟨_, rfl⟩
    split
    · exact sameButObl_sendLink t q _ _
    · exact .refl t

/-- An idle tick lets its time pass; beside that it changes the Obien unit, and what `settle` brings up to date. -/
theorem idleTick_eq (s : State) : ∃ o : Obl, idleTick s = settle { passTick s with obl := o } := by
  obtain ⟨o, ho⟩ := sameButObl_oblLinksDue (passTick s)
  exact ⟨o, congrArg settle ho⟩

end Sys2Proof.Machine
end

section
/-! The statement of an idle tick. -/
open Sys2Proof Sys2Proof.Machine

/-- Settles O2: an idle tick is the passing of its time and the LINK frames that fall due, which change the Obien unit
alone. -/
theorem emptyQueueTicks : Obligations.EmptyQueueTicks := by
  intro s hp
  obtain ⟨o, ho⟩ := idleTick_eq s
  have hstep : step s = .next (idleTick s) := by unfold step; rw [hp]
  refine ⟨hstep, fun hm => ?_, fun hm => ?_, fun hm => ?_, ?_⟩
  · have hne : (fresh s).mode ≠ .moored := by rintro h; simp [fresh_mode] at h; simp [h, clocked] at hm
    simp [ho, passTick, hm, State.advance_course _ _ hne]
  · have hne : (fresh s).mode ≠ .moored := by simp [hm]
    simp [ho, passTick, hm, clocked, State.advance_course _ _ hne]
  · have hm' : (fresh s).mode = .moored := hm
    simp [ho, passTick, State.advance_moored _ _ hm']
  · simp [ho, passTick, hp]
end

section
/-! SUPPORT. What the units do to their streams, ports, memory and commands leaves the mode in force, MCK outside its
registers and the Drive engine alone. -/
namespace Sys2Proof.Machine

/-! ## What the units leave alone: the mode, MCK and the Drive engine -/

/-- The mode in force, MCK outside its registers, and the Drive engine. -/
def State.core (s : State) : Mode × Mck × Drv := (s.mode, s.mck, s.drv)

theorem State.mode_of_core {s t : State} (h : t.core = s.core) : t.mode = s.mode := congrArg Prod.fst h
theorem State.mck_of_core {s t : State} (h : t.core = s.core) : t.mck = s.mck := congrArg (·.2.1) h
theorem State.drv_of_core {s t : State} (h : t.core = s.core) : t.drv = s.drv := congrArg (·.2.2) h

variable (s : State)

theorem State.withPend_core (pend : State → Bool) (ev i : Nat) (f : State → State) :
    (s.withPend pend ev i f).core = (f s).core := by
  unfold State.withPend
  dsimp only
  split
  · rfl
  · rfl

/-! ### Replies -/

theorem State.hold_core (r : Reply) : (s.hold r).core = s.core := by
  unfold State.hold
  dsimp only
  split_ifs <;> rfl

theorem State.slDone_core (e : Nat) (st : SlState) (status : Nat) : (s.slDone e st status).core = s.core := by
  unfold State.slDone
  dsimp only
  split_ifs <;> rfl

theorem State.slOutcome_core (e : Nat) (st : Status) : (s.slOutcome e st).core = s.core := by
  unfold State.slOutcome
  split
  · rfl
  · split
    · rfl
    · split
      · exact State.slDone_core ..
      · exact State.slDone_core ..

theorem State.answer_core (f : Flight) (st : Status) (word : Nat) (body : List Word) :
    (s.answer f st word body).core = s.core := by
  unfold State.answer
  dsimp only
  split
  · exact State.slOutcome_core ..
  · split <;> rfl
  · exact State.hold_core ..

theorem State.finish_core (p : Fin → Bool) (body : Flight → List Word) : (s.finish p body).core = s.core :=
  foldl_keeps State.core _ (fun t _ => t.answer_core ..) _ s

theorem State.finishDue_core (p : Flight → Bool) (body : Flight → List Word) : (s.finishDue p body).core = s.core :=
  foldl_keeps State.core _ (fun t _ => t.answer_core ..) _ s

theorem State.endFlights_core (st : Status) (p : Flight → Bool) : (s.endFlights st p).core = s.core :=
  foldl_keeps State.core _ (fun t _ => t.answer_core ..) _ s

/-! ### Faults -/

theorem State.endRequest_core (r : PowerReq) (st : Status) (m : Mode) (refuser reason : Nat) :
    (s.endRequest r st m refuser reason).core = s.core := by
  unfold State.endRequest
  dsimp only
  split
  · rw [State.answer_core]
    split <;> rfl
  · split <;> rfl

theorem State.askSafe_core : s.askSafe.core = s.core := by
  unfold State.askSafe
  split
  · rfl
  · show (s.endInProgress 0x20).core = s.core
    unfold State.endInProgress
    split
    · exact State.endRequest_core ..
    · rfl

theorem State.cmdRestart_core (cause : Nat) : (s.cmdRestart cause).core = s.core := by
  unfold State.cmdRestart
  extract_lets n _ c s1 lost s2 s3
  have h2 : s2.core = s.core := foldl_keeps State.core _ (fun t _ => t.answer_core ..) lost s1
  show s3.core = s.core
  unfold s3
  split
  · split
    · exact h2
    · exact h2
  · exact h2

theorem State.setQueue_core (n : Nat) (q : Queue) : (s.setQueue n q).core = s.core := by
  unfold State.setQueue
  dsimp only
  split <;> rfl

theorem State.logEntry_core (code unit action : Nat) (injected : Bool) (suppressed : Nat) (detail : Word) :
    (s.logEntry code unit action injected suppressed detail).core = s.core := by
  unfold State.logEntry
  dsimp only
  split
  · unfold State.appendLog
    split
    · rfl
    · exact State.setQueue_core ..
  · rfl

theorem State.raise_core (code unit : Nat) (detail : Word) (injected : Bool) :
    (s.raise code unit detail injected).core = s.core := by
  unfold State.raise State.raiseAs
  extract_lets _ _ _ s1 s2
  have h2 : s2.core = s.core := by
    show s1.core = s.core
    unfold s1
    split
    · exact State.logEntry_core ..
    · rfl
  split
  · exact (State.askSafe_core _).trans h2
  · split
    · exact (State.cmdRestart_core ..).trans h2
    · exact h2

/-! ### Buffer memory -/

theorem State.startMigration_core (l : Nat) : (s.startMigration l).core = s.core := by
  unfold State.startMigration
  split <;> rfl

theorem State.noSpare_core (l : Nat) : (s.noSpare l).core = s.core := State.raise_core ..

theorem State.trigger_core (l : Nat) (t : Trigger) : (s.trigger l t).core = s.core := by
  unfold State.trigger
  split
  · rfl
  · split
    · split <;> rfl
    · split
      · exact s.startMigration_core l
      · exact s.noSpare_core l

theorem State.dedFound_core (p w : Nat) : (s.dedFound p w).core = s.core := by
  unfold State.dedFound
  extract_lets s1 known deds _ s2 s3
  have h3 : s3.core = s.core := s2.raise_core ..
  split
  · exact (s3.trigger_core ..).trans h3
  · exact h3

theorem State.takePending_core (l : List (Nat × Trigger)) (s : State) : (s.takePending l).core = s.core := by
  induction l generalizing s with
  | nil => rfl
  | cons e l ih =>
    unfold State.takePending
    split
    · exact ih s
    · split
      · exact s.startMigration_core _
      · exact (ih _).trans (s.noSpare_core _)

theorem State.remap_core (m : Migration) : (s.remap m).core = s.core := by
  unfold State.remap
  extract_lets _ s1 s2 s3 todo
  exact (State.takePending_core todo _).trans (s2.finish_core ..)

theorem migBoundary_core : (migBoundary s).core = s.core := by
  unfold migBoundary
  split
  · rfl
  · split
    · split <;> rfl
    · rfl
    · exact s.remap_core _

theorem migCopy_core : (migCopy s).core = s.core := by
  unfold migCopy
  split
  · rfl
  · split <;> rfl

/-! ### Local TDM ports -/

theorem State.onTdm_core (n : Nat) (f : TdmPort → TdmPort) : (s.onTdm n f).core = s.core := rfl

theorem State.tdmFlag_core (n i : Nat) : (s.tdmFlag n i).core = s.core := State.withPend_core ..

theorem tdmEndRestarts_core (n : Nat) : (tdmEndRestarts n s).core = s.core :=
  foldl_keeps State.core _ (fun t _ => t.answer_core ..) _ s.takeInt.2

theorem tdmEndFlights_core (n : Nat) : (tdmEndFlights n s).core = s.core :=
  (tdmEndRestarts_core _ n).trans (foldl_keeps State.core _ (fun t _ => t.answer_core ..) _ s)

theorem State.tdmDrop_core (n : Nat) : (s.tdmDrop n).core = s.core := tdmEndFlights_core _ n

theorem tdmFrameEnd_core (n : Nat) : (tdmFrameEnd n s).core = s.core := by
  unfold tdmFrameEnd
  split
  · exact s.tdmDrop_core n
  · rfl

theorem tdmApply_core (n : Nat) : (tdmApply n s).core = s.core := by
  refine foldl_keeps State.core _ (fun t w => ?_) _ _
  split
  · rfl
  · exact tdmEndRestarts_core _ n

theorem tdmResume_core (n k : Nat) : (tdmResume n k s).core = s.core := by
  unfold tdmResume
  extract_lets p
  split
  · rfl
  · split
    · rfl
    · exact (State.finish_core ..).trans (State.tdmFlag_core _ n 5)

theorem tdmBoundaryPort_core (k frames : Nat) (moved : Bool) (n : Nat) :
    (tdmBoundaryPort k frames moved s n).core = s.core := by
  unfold tdmBoundaryPort
  extract_lets s1 s2 s3 master bad s4
  have h1 : s1.core = s.core :=
    ((tdmApply_core _ n).trans (State.onTdm_core ..)).trans (tdmFrameEnd_core s n)
  have h3 : s3.core = s.core := ((State.onTdm_core ..).trans (tdmResume_core s2 n k)).trans ((s1.finishDue_core ..).trans h1)
  have h4 : s4.core = s3.core :=
    foldl_keeps State.core _ (fun t _ => (State.raise_core ..).trans (t.tdmFlag_core n 4)) bad s3
  exact (s4.onTdm_core n _).trans (h4.trans h3)

theorem tdmBoundary_core (k frames : Nat) (moved : Bool) : (tdmBoundary k frames moved s).core = s.core :=
  foldl_keeps State.core _ (fun t n => tdmBoundaryPort_core t k frames moved n) _ s

/-! ### Receive streams and the Rate Aligner -/

theorem State.rxFlag_core (n i : Nat) : (s.rxFlag n i).core = s.core := State.withPend_core ..

theorem State.ralFlag_core (n i : Nat) : (s.ralFlag n i).core = s.core := State.withPend_core ..

theorem State.ralRelease_core (n : Nat) : (s.ralRelease n).core = s.core := by
  unfold State.ralRelease
  split
  · exact State.ralFlag_core ..
  · rfl
  · rfl
  · rfl

theorem State.rxCount_core (n i k : Nat) : (s.rxCount n i k).core = s.core := by
  unfold State.rxCount
  split <;> rfl

theorem srxDisableDone_core (e : Nat × RxStream) : (srxDisableDone s e).core = s.core := by
  unfold srxDisableDone
  split
  · rfl
  · exact (State.rxFlag_core ..).trans (State.ralRelease_core ..)

theorem srxBoundaryOff_core (k : Nat) : (srxBoundaryOff k s).core = s.core :=
  (State.finish_core ..).trans (foldl_keeps State.core _ srxDisableDone_core _ s)

theorem srxBoundaryOn_core : (srxBoundaryOn s).core = s.core := rfl

theorem catchRx_core (bad : List Nat) (acc : Table Stroke × State) (e : Nat × RxStream) :
    (catchRx bad acc e).2.core = acc.2.core := by
  obtain ⟨n, r⟩ := e
  unfold catchRx
  dsimp -zeta only
  extract_lets s k conv ks run r1 fade last r2 s1 s2 ins s3 s4
  have h2 : s2.core = s.core := by
    unfold s2
    split
    · exact (State.rxFlag_core ..).trans (s1.rxCount_core n 3 1)
    · rfl
  split
  · rfl
  · split
    · show s4.core = s.core
      unfold s4
      split
      · exact (State.ralFlag_core ..).trans h2
      · exact h2
    · exact h2

theorem srxCatch_core (bad : List Nat) : (srxCatch bad s).2.core = s.core :=
  foldl_keeps (fun a : Table Stroke × State => a.2.core) _ (catchRx_core bad) _ ([], s)

theorem State.stat_core (p i n : Nat) : (s.stat p i n).core = s.core := by
  unfold State.stat
  dsimp only
  split_ifs <;> rfl

theorem State.rrSkipped_core (k : Nat) : (s.rrSkipped k).core = s.core := by
  unfold State.rrSkipped
  split <;> rfl

theorem srxCommitRerow_core (n : Nat) : (srxCommitRerow s n).core = s.core := by
  refine foldl_keeps State.core _ (fun t b => ?_) _ _
  dsimp only
  split
  · exact t.rxCount_core n 4 1
  · exact State.stat_core ..

theorem srxRecovery_core : (srxRecovery s).core = s.core :=
  foldl_keeps State.core _ (fun t n => (srxCommitRerow_core (srxDropLate t n) n).trans (State.rrSkipped_core ..)) _ s

/-! ### Transmit streams -/

theorem State.txFlag_core (n i : Nat) : (s.txFlag n i).core = s.core := State.withPend_core ..

theorem State.txCount_core (n i k : Nat) : (s.txCount n i k).core = s.core := by
  unfold State.txCount
  split <;> rfl

theorem State.rrDropBlocks_core (n : Nat) (gone : Nat → Bool) (count : Bool) :
    (s.rrDropBlocks n gone count).core = s.core := by
  unfold State.rrDropBlocks
  extract_lets lost f open_ _ s1
  split
  · exact (State.txFlag_core ..).trans (s1.txCount_core ..)
  · rfl

theorem State.txDropStore_core (n : Nat) : (s.txDropStore n).core = s.core := State.rrDropBlocks_core ..

theorem stxDisableDone_core (k n : Nat) : (stxDisableDone k s n).core = s.core := by
  unfold stxDisableDone
  extract_lets step s0 t s1
  have h1 : s1.core = s.core := by
    unfold s1
    split
    · exact s0.txDropStore_core n
    · rfl
  split
  · rfl
  · exact (State.txFlag_core ..).trans h1

theorem stxBoundaryOff_core (k : Nat) : (stxBoundaryOff k s).core = s.core :=
  (State.finish_core ..).trans (foldl_keeps State.core _ (fun t n => stxDisableDone_core t k n) _ s)

theorem stxBoundaryOn_core (moved : Bool) : (stxBoundaryOn moved s).core = s.core := rfl

theorem State.egress_core (p q : Nat) (f : TxFrame) : (s.egress p q f).1.core = s.core := by
  unfold State.egress
  dsimp only
  split <;> rfl

theorem txHand_core (k : TxPacket) (p : Nat) : (txHand k s p).core = s.core := by
  unfold txHand
  extract_lets t sent
  split
  · rfl
  · have hs : sent.1.core = s.core := by
      unfold sent
      split
      · rfl
      · exact State.egress_core ..
    split
    · exact (State.txCount_core ..).trans hs
    · exact (State.txFlag_core ..).trans (s.txCount_core ..)

theorem State.txCrcFails_core (n : Nat) (ids : List Nat) : (s.txCrcFails n ids).core = s.core :=
  foldl_keeps State.core _
    (fun t _ => ((State.raise_core ..).trans (State.txFlag_core ..)).trans (t.txCount_core n 2 1)) _ s

theorem txCatchHlf_core (n : Nat) (first : Int) : (txCatchHlf s n first).1.core = s.core := by
  unfold txCatchHlf
  extract_lets t verify failed bytes
  split
  rename_i x s1 h
  extract_lets crc
  split
  extract_lets t2 s2
  have h1 : s1.core = s.core := by
    rw [show s1 = (x, s1).2 from rfl, ← h]
    split <;> rfl
  have h2 : s2.core = s.core := h1
  dsimp only
  split
  · exact (State.txCrcFails_core ..).trans h2
  · exact h2

theorem txCatchStd_core (n : Nat) (first : Int) : (txCatchStd s n first).1.core = s.core := State.txCrcFails_core ..

theorem stxCatch_core : (stxCatch s).core = s.core := by
  unfold stxCatch
  split
  · rfl
  · extract_lets first
    split
    rename_i s1 ps h
    have h1 : s1.core = s.core := by
      rw [show s1 = (List.foldl _ (s, []) s.stx.streams).1 from (congrArg Prod.fst h).symm]
      refine foldl_keeps (fun a : State × List TxPacket => a.1.core) _ (fun a e => ?_) _ (s, [])
      split
      · rfl
      · show (if e.2.format = 0 then txCatchHlf a.1 e.1 first else txCatchStd a.1 e.1 first).1.core = a.1.core
        split
        · exact txCatchHlf_core ..
        · exact txCatchStd_core ..
    refine (foldl_keeps State.core _ (fun t k => foldl_keeps State.core _ (fun t p => txHand_core t k p) _ t) _ _).trans h1

theorem stxWindow_core (n : Nat) : (stxWindow s n).core = s.core := by
  unfold stxWindow
  extract_lets t k out s1 s2
  have h2 : s2.core = s.core := by
    unfold s2
    split
    · rfl
    · exact s1.rrDropBlocks_core ..
  split
  · exact (State.txFlag_core ..).trans h2
  · exact h2

theorem stxRecovery_core : (stxRecovery s).core = s.core := foldl_keeps State.core _ stxWindow_core _ s

end Sys2Proof.Machine
end

section
/-! SUPPORT. What a stroke boundary and the phases of a stroke do to the place of the stroke grid: its mode, its number,
the part it has reached and its grid tick. -/
namespace Sys2Proof.Machine

theorem sameButObl.core {s t : State} (h : sameButObl s t) : t.core = s.core := by
  obtain ⟨o, rfl⟩ := h
  rfl

variable (s : State)

/-! ### The Obien unit -/

theorem sendOwnRange_core (a b : Nat) : (sendOwnRange a b s).core = s.core :=
  foldl_keeps State.core _ (fun t _ => (sameButObl_oblSend t _ _ _ _ _ _).core) _ s

theorem oblOwnersDue_core : (oblOwnersDue s).core = s.core := rfl

theorem oblForget_core : (oblForget s).core = s.core := by
  unfold oblForget
  extract_lets keep _ s1
  split <;> rfl

theorem oblSendLanes_core : (oblSendLanes s).core = s.core := by
  unfold oblSendLanes
  split
  · rfl
  · extract_lets out ids s1 k lanes _ s2
    have h2 : s2.core = s.core := foldl_keeps State.core _ (fun t _ => State.raise_core ..) ids s
    refine (foldl_keeps State.core _ (fun t q => ?_) _ s2).trans h2
    split
    · rfl
    · refine foldl_keeps State.core _ (fun t ls => ?_) _ t
      split
      · rfl
      · exact (sameButObl_oblSend ..).core

theorem oblCatch_core : (oblCatch s).2.core = s.core := by
  unfold oblCatch
  extract_lets _ t
  split
  · rfl
  · refine foldl_keeps (fun a : Table Stroke × State => a.2.core) _ (fun a e => ?_) _ ([], t)
    split
    · rfl
    · split
      · rfl
      · dsimp only
        split
        · exact State.raise_core ..
        · rfl

/-! ## Where the stroke grid stands -/

/-- The mode in force, and the stroke in progress: whether the grid runs, its number, the part it has reached, and its
grid tick. -/
def State.place (s : State) : Mode × Bool × Nat × StrokePart × Nat :=
  (s.mode, s.mck.grid, s.mck.stroke, s.mck.part, s.mck.strokeTick)

theorem State.place_of_core {s t : State} (h : t.core = s.core) : t.place = s.place := by
  unfold State.place
  rw [State.mode_of_core h, State.mck_of_core h]

theorem coxTotal_place (b h : Nat) : (coxTotal b h s).place = s.place := by
  unfold coxTotal
  extract_lets arms key own tot s1
  split
  · rfl
  · exact (State.place_of_core (foldl_keeps State.core _ (fun t q => (sameButObl_oblSend ..).core) arms s) :
      s1.place = s.place)

theorem oblRelayBoundary_place : (oblRelayBoundary s).place = s.place := by
  unfold oblRelayBoundary
  split
  · rfl
  · split
    · split
      · rfl
      · exact State.place_of_core (sendOwnRange_core ..)
    · split
      · rfl
      · refine foldl_keeps State.place _ (fun t e => ?_) _ s
        exact foldl_keeps State.place (fun u h => coxTotal e.1 h u) (fun u h => coxTotal_place u e.1 h) _ t

theorem oblBoundary_place (old : Nat) (move : Option (Int × Int)) : (oblBoundary old move s).place = s.place := by
  unfold oblBoundary
  split
  · rfl
  · extract_lets s1 _ s2 s3 s4
    have h1 : s1.core = s.core := (oblForget_core _).trans (oblOwnersDue_core s)
    have h2 : s2.core = s1.core := rfl
    have h3 : s3.core = s.core := by
      refine Eq.trans ?_ (h2.trans h1)
      unfold s3
      split
      · refine foldl_keeps State.core _ (fun t q => ?_) _ s2
        split
        · exact (sameButObl_oblSend ..).core
        · rfl
      · rfl
    have h4 : s4.place = s.place :=
      (State.place_of_core (oblSendLanes_core _)).trans ((oblRelayBoundary_place s3).trans (State.place_of_core h3))
    refine Eq.trans (State.place_of_core (foldl_keeps State.core _ (fun t q => ?_) _ s4)) h4
    split
    · exact foldl_keeps State.core _ (fun u c => (sameButObl_sendLink ..).core) _ t
    · rfl

/-! ### The media clock and the alignments -/

theorem evtAnchor_core : (evtAnchor s).core = s.core := by
  unfold evtAnchor
  extract_lets keep
  refine foldl_keeps State.core _ (fun t i => ?_) _ s.anchorOutputs
  unfold keep
  split
  · split <;> rfl
  · rfl

theorem evtAnchor_place : (evtAnchor s).place = s.place := State.place_of_core (evtAnchor_core s)

theorem gridAnchor_place : (gridAnchor s).place = s.place := by
  unfold gridAnchor
  split
  · rfl
  · exact evtAnchor_place s

theorem State.setFreq_place (f : Int) : (s.setFreq f).place = s.place := by
  unfold State.setFreq
  split <;> rfl

theorem mckServo_place : (mckServo s).place = s.place := by
  unfold mckServo
  dsimp only
  split
  · rfl
  · split
    · exact State.setFreq_place ..
    · exact State.setFreq_place ..
    · rfl

theorem alignShift_place (q r : Int) : (alignShift q r s).place = s.place := by
  unfold alignShift
  dsimp only
  split <;> rfl

theorem alignSettle_place : (alignSettle s).place = s.place :=
  (State.place_of_core (State.finishDue_core ..)).trans (evtAnchor_place s)

theorem moveBoundary_place (move : Option (Int × Int)) : (moveBoundary move s).place = s.place := by
  unfold moveBoundary
  split
  · split
    · exact alignSettle_place s
    · rfl
  · exact (alignSettle_place _).trans (alignShift_place ..)

theorem State.measurePhase_place (i : Nat) : (s.measurePhase i).place = s.place := by
  unfold State.measurePhase
  split
  · rfl
  · split <;> rfl

theorem measurePhases_place : (measurePhases s).place = s.place :=
  ((s.measurePhase 2).measurePhase_place 3).trans (s.measurePhase_place 2)

theorem alignMeasure_place : (alignMeasure s).place = s.place := by
  unfold alignMeasure
  extract_lets t m
  exact Eq.trans rfl (measurePhases_place s)

/-! ### The Drive engine -/

theorem genIf_place (g : Bool) : (genIf g s).place = s.place := by
  unfold genIf
  split <;> rfl

theorem State.setSwaps_place (f : List SwapReq → List SwapReq) : (s.setSwaps f).place = s.place := rfl

theorem drvSwap_place (copy : Bool) : (drvSwap copy s).place = s.place := rfl

theorem swapDone_place (k : Nat) (q : SwapReq) : (swapDone k q s).place = s.place := by
  unfold swapDone
  extract_lets s1 s2
  have h1 : s1.place = s.place :=
    (genIf_place ..).trans ((drvSwap_place ..).trans (s.setSwaps_place _))
  have h2 : s2.place = s1.place := rfl
  exact (State.place_of_core (s2.finish_core ..)).trans (h2.trans h1)

theorem swapStep_place (first : Bool) (k : Nat) (q : SwapReq) : (swapStep first k s q).place = s.place := by
  unfold swapStep
  split
  · split
    · exact swapDone_place s k q
    · rfl
  · dsimp only
    split
    · exact genIf_place ..
    · split
      · exact (State.place_of_core (State.endFlights_core ..)).trans (State.setSwaps_place ..)
      · exact swapDone_place s k q

theorem swapBoundary_place (first : Bool) (k : Nat) : (swapBoundary first k s).place = s.place :=
  foldl_keeps State.place _ (fun t q => swapStep_place t first k q) _ s

theorem feedBoundary_place : (feedBoundary s).place = s.place := rfl

theorem busRecovery_place (k : Int) (rate sz : Nat) (ms : Table Nat) (e : Nat × Bus) :
    (busRecovery k rate sz ms s e).place = s.place := by
  obtain ⟨bus, b⟩ := e
  rfl

theorem duckRecovery_place (sz : Nat) (s : State) (bus : Nat) : (duckRecovery sz s bus).place = s.place := rfl

theorem drvRecovery_place : (drvRecovery s).place = s.place := by
  unfold drvRecovery
  split
  · rfl
  · extract_lets sz ms s1 buses
    have h1 : s1.place = s.place := foldl_keeps State.place _ (fun t e => busRecovery_place t _ _ _ _ e) _ s
    exact (foldl_keeps State.place _ (duckRecovery_place sz) buses s1).trans h1

/-! ### A boundary as a whole -/

theorem ringBoundary_core (k : Nat) : (ringBoundary k s).core = s.core := rfl

theorem alignTick_place : (alignTick s).place = s.place := rfl

theorem orderedChanges_place (first : Bool) (k : Nat) (move : Option (Int × Int)) :
    (orderedChanges first k move s).place = s.place := by
  unfold orderedChanges
  extract_lets moved s1 s2
  have h1 : s1.core = s.core :=
    (ringBoundary_core _ k).trans ((stxBoundaryOff_core _ k).trans (srxBoundaryOff_core s k))
  have h2 : s2.place = s.place := 
    (feedBoundary_place _).trans ((swapBoundary_place ..).trans (State.place_of_core h1))
  have h3 : (stxBoundaryOn moved (srxBoundaryOn s2)).core = s2.core :=
    (stxBoundaryOn_core ..).trans (srxBoundaryOn_core s2)
  exact (moveBoundary_place ..).trans ((State.place_of_core h3).trans h2)

theorem flightBoundary_core (k : Nat) : (flightBoundary k s).core = s.core :=
  (State.finishDue_core ..).trans (s.finishDue_core ..)

theorem strokeBegins_place (k omitted : Nat) :
    (strokeBegins k omitted s).place = (s.mode, true, k, .boundary, s.tick64) := rfl

/-- The stroke that begins has its number and the grid tick of the instant, and every change and unit leaves them so. -/
theorem nextBegins_place (first : Bool) (k : Nat) (move : Option (Int × Int)) :
    (nextBegins first k move s).place = (s.mode, true, k, .boundary, s.tick64) := by
  unfold nextBegins
  extract_lets old omitted frames moved s0 s1 s2 announce
  have h0 : s0.place = (s.mode, true, k, .boundary, s.tick64) := (mckServo_place _).trans (strokeBegins_place s k omitted)
  have h1 : s1.place = s0.place := by
    refine (orderedChanges_place ..).trans ?_
    split
    · exact gridAnchor_place s0
    · rfl
  have h2 : s2.place = s1.place := (State.place_of_core (migBoundary_core _)).trans (alignTick_place s1)
  calc (flightBoundary k (oblBoundary old announce (tdmBoundary k frames moved s2))).place
    _ = (oblBoundary old announce (tdmBoundary k frames moved s2)).place := State.place_of_core (flightBoundary_core ..)
    _ = (tdmBoundary k frames moved s2).place := oblBoundary_place ..
    _ = s2.place := State.place_of_core (tdmBoundary_core ..)
    _ = _ := h2.trans (h1.trans h0)

end Sys2Proof.Machine
end

section
/-! SUPPORT. The phases of a stroke one by one, and the boundary with no change waiting. -/
namespace Sys2Proof.Machine

variable (s : State)

/-! ## A phase of the stroke -/

/-- The stroke in progress has reached part `p`. -/
def State.atPart (p : StrokePart) (s : State) : State := { s with mck := { s.mck with part := p } }

@[simp] theorem State.atPart_part (p : StrokePart) : (s.atPart p).mck.part = p := rfl
@[simp] theorem State.atPart_stroke (p : StrokePart) : (s.atPart p).mck.stroke = s.mck.stroke := rfl
@[simp] theorem State.atPart_drv (p : StrokePart) : (s.atPart p).drv = s.drv := rfl

/-- A phase that comes next is carried out, and is then the part that the stroke has reached. -/
theorem inPhase_next {after : StrokePart} (p : StrokePart) (f : State → State) (hg : s.mck.grid = true)
    (hp : s.mck.part = after) :
    inPhase after p f s = (f s).atPart p := by
  unfold inPhase
  rw [if_pos (by simp [hg, hp])]
  rfl

/-- A phase that does not come next changes nothing. -/
theorem inPhase_other {after : StrokePart} (p : StrokePart) (f : State → State)
    (h : s.mck.grid = false ∨ s.mck.part ≠ after) : inPhase after p f s = s := by
  unfold inPhase
  rw [if_neg (by rcases h with h | h <;> simp [h])]

/-! ### The Catch and the Finish beside the engine -/

theorem tdmPins_core (n : Nat) (frames : List (List Word)) : (tdmPins s n frames).core = s.core := by
  unfold tdmPins
  dsimp only
  split <;> rfl

/-- With the engine stopped and no upset, the Catch hands no source a stroke, and the stroke in progress stays. -/
theorem catchAll_stopped (pins : List (Nat × List (List Word))) (h : s.drv.running = false) :
    (catchAll pins [] s).drv.src = [] ∧ (catchAll pins [] s).mck = s.mck := by
  unfold catchAll
  extract_lets s1
  split
  rename_i rx s2 h2
  split
  rename_i lanes s3 h3
  extract_lets use all src rings _ _ s4
  have h1 : s1.core = s.core := by
    refine foldl_keeps State.core _ (fun t e => ?_) pins s
    exact tdmPins_core t e.1 e.2
  have hrx : s2.core = s1.core := by
    have := srxCatch_core s1 (([] : List Upset).map Upset.id)
    rwa [h2] at this
  have hlanes : s3.core = s2.core := by
    have := oblCatch_core s2
    rwa [h3] at this
  have h3 : s3.core = s.core := hlanes.trans (hrx.trans h1)
  have hsrc : src = [] := by simp [src, State.drv_of_core h3, h]
  have h4 : s4.mck = s3.mck := rfl
  have h5 : (stxCatch s4).core = s4.core := stxCatch_core s4
  exact ⟨(congrArg Drv.src (State.drv_of_core h5)).trans hsrc, (State.mck_of_core h5).trans (h4.trans (State.mck_of_core h3))⟩

theorem oblFinish_core : (oblFinish s).core = s.core := by
  unfold oblFinish
  split
  · rfl
  · extract_lets total flush s1 totals parts
    show s1.core = s.core
    unfold s1
    split
    · exact sendOwnRange_core s _ _
    · rfl

/-- The Finish writes the sink strokes and names those that have changed since; of the engine nothing else changes. -/
theorem finishAll_drv (ups : List Upset) :
    (finishAll ups s).drv = { s.drv with sinks := s.sinkStrokes, badSinks := (ups.map Upset.id).dedup } := by
  unfold finishAll
  extract_lets sinks _ s1 s2
  have h2 : s2.core = s1.core := by
    refine foldl_keeps State.core _ (fun t u => ?_) ups s1
    split
    · exact t.dedFound_core _ _
    · rfl
  exact State.drv_of_core ((oblFinish_core s2).trans h2)

/-- With the engine stopped every sink stroke is silence. -/
theorem sinkStrokes_stopped (h : s.drv.running = false) : ∀ e ∈ s.sinkStrokes, e.2 = silentStroke s.strokeGroups := by
  intro e he
  simp only [State.sinkStrokes, h, List.mem_map] at he
  obtain ⟨a, -, rfl⟩ := he
  rfl

theorem sinkStrokes_ids : s.sinkStrokes.map Prod.fst = s.activeBank.feeds.map Prod.fst := by
  simp [State.sinkStrokes]

theorem State.message_core (v : Nat) : (s.message v).core = s.core := by
  unfold State.message
  split
  · split
    · rfl
    · split <;> rfl
  · rfl

theorem ringSignals_core (k : Nat) : (ringSignals k s).core = s.core := by
  unfold ringSignals
  extract_lets every on
  split
  · rfl
  · refine foldl_keeps State.core _ (fun t i => ?_) on _
    split
    · exact t.message_core _
    · rfl

theorem recoverAll_place : (recoverAll s).place = s.place := by
  unfold recoverAll
  extract_lets s1 s2
  have h1 : s1.place = s.place := (drvRecovery_place _).trans (alignMeasure_place s)
  have h2 : s2.core = s1.core := (stxRecovery_core _).trans (srxRecovery_core s1)
  exact (State.place_of_core ((ringSignals_core ..).trans (migCopy_core s2))).trans ((State.place_of_core h2).trans h1)

/-! ### The boundary -/

/-- With no change of mode waiting, a boundary changes none. -/
theorem modeBoundary_none (h : s.pmu.modeNext = none) : modeBoundary s = s := by
  unfold modeBoundary
  rw [h]

/-- With no change of core rate or stroke size waiting, a boundary makes none. -/
theorem coreBoundary_none (h : s.mck.coreNext = []) : coreBoundary s = s := by
  unfold coreBoundary
  rw [h]
  show ({ s with mck := { s.mck with coreNext := [] } } : State) = s
  rw [← h]

/-- A boundary of a running grid with no change of mode or core form waiting begins the next stroke. -/
theorem boundary_runs (hg : s.mck.grid = true) (hc : s.mck.coreNext = []) (hm : s.pmu.modeNext = none) :
    boundary s = nextBegins false s.nextStroke s.gridMove s := by
  unfold boundary
  simp only [hg, modeBoundary_none s hm, coreBoundary_none s hc, State.coreSame]
  simp

/-- The boundary at which the grid starts, with no change of mode or core form waiting, begins the stroke whose place is
nearest. -/
theorem boundary_starts (hg : s.mck.grid = false) (hs : s.mck.gridStart = true) (hc : s.mck.coreNext = [])
    (hm : s.pmu.modeNext = none) : boundary s = nextBegins true s.gridNumber none s := by
  unfold boundary
  simp [hg, hs, modeBoundary_none s hm, coreBoundary_none s hc]

theorem execStrokeBoundary_none {dt : Nat} (h : (s.mck.grid = true ∧ s.mck.part ≠ .recovered)
    ∨ (s.mck.grid = false ∧ s.mck.gridStart = false)) :
    execStrokeBoundary dt s = .next (settle ((fresh s).advance dt)) := by
  unfold execStrokeBoundary
  rcases h with ⟨hg, h⟩ | ⟨hg, h⟩ <;> simp [hg, h]

theorem execStrokeBoundary_comes {dt : Nat} (h : (s.mck.grid = true ∧ s.mck.part = .recovered)
    ∨ (s.mck.grid = false ∧ s.mck.gridStart = true)) :
    execStrokeBoundary dt s = .next (settle (boundary ((fresh s).advance dt))) := by
  unfold execStrokeBoundary
  rcases h with ⟨hg, h⟩ | ⟨hg, h⟩ <;> simp [hg, h]

/-- The row of a phase that comes next. -/
theorem settle_inPhase_next {after : StrokePart} (p : StrokePart) (f : State → State) (hg : s.mck.grid = true)
    (hp : s.mck.part = after) :
    Host.Outcome.next (φ := Fault) (ρ := Refusal) (settle (inPhase after p f (fresh s)))
      = .next (settle ((f (fresh s)).atPart p)) := by
  rw [inPhase_next (fresh s) p f hg hp]

/-- The row of a phase that does not come next. -/
theorem settle_inPhase_other {after : StrokePart} (p : StrokePart) (f : State → State)
    (h : s.mck.grid = false ∨ s.mck.part ≠ after) :
    Host.Outcome.next (φ := Fault) (ρ := Refusal) (settle (inPhase after p f (fresh s))) = .next (settle (fresh s)) := by
  rw [inPhase_other (fresh s) p f h]

theorem settle_place : (settle s).place = s.place := by
  simp [State.place]

/-- Where the grid stands at the end of a boundary that begins stroke `k`. -/
theorem settle_boundary_place {first : Bool} {k : Nat} {move : Option (Int × Int)}
    (h : boundary s = nextBegins first k move s) :
    (settle (boundary s)).place = (s.mode, true, k, .boundary, s.tick64) := by
  rw [settle_place, h, nextBegins_place]

end Sys2Proof.Machine
end

section
/-! The statement of the stroke. -/
open Sys2Proof Sys2Proof.Machine

/-- Settles O46: every operation of a boundary and of a phase keeps the place of the stroke grid, which the start of the
stroke alone sets; a phase row is `inPhase` of its meaning. -/
theorem strokeCompletes : Obligations.StrokeCompletes := by
  intro dt pins plays ups ce s at_ u
  have hug : u.mck.grid = s.mck.grid := State.advance_mck_grid ..
  have huc : u.mck.coreNext = s.mck.coreNext := State.advance_mck_coreNext ..
  have hum : u.pmu.modeNext = s.pmu.modeNext := congrArg Pmu.modeNext (State.advance_pmu ..)
  have humode : u.mode = s.mode := State.advance_mode ..
  refine ⟨fun hg hp => execStrokeBoundary_none s (.inl ⟨hg, hp⟩), fun hg hs => execStrokeBoundary_none s (.inr ⟨hg, hs⟩),
    fun hg hp hc hm => ?_, fun hg hs hc hm => ?_, fun hg hp => ⟨?_, fun hr hu hce => ?_⟩, fun hg hp => ?_, fun hg hp => ?_,
    fun hg hp => ?_, fun h => ?_, fun h => ?_, fun h => ?_, fun h => ?_⟩
  · have hb := boundary_runs u (hug.trans hg) (huc.trans hc) (hum.trans hm)
    have hpl := settle_boundary_place u hb
    simp only [State.place, Prod.mk.injEq] at hpl
    obtain ⟨hmode, hgrid, hstroke, hpart, htick⟩ := hpl
    exact ⟨_, execStrokeBoundary_comes s (.inl ⟨hg, hp⟩), hstroke, hpart, hgrid, htick, hmode.trans humode⟩
  · have hus : u.mck.gridStart = true := (State.advance_mck_gridStart ..).trans hs
    have hb := boundary_starts u (hug.trans hg) hus (huc.trans hc) (hum.trans hm)
    have hpl := settle_boundary_place u hb
    simp only [State.place, Prod.mk.injEq] at hpl
    obtain ⟨hmode, hgrid, hstroke, hpart, -⟩ := hpl
    exact ⟨_, execStrokeBoundary_comes s (.inr ⟨hg, hs⟩), hstroke, hpart, hgrid, hmode.trans humode⟩
  · exact settle_inPhase_next s .caught _ hg hp
  · subst hu hce
    obtain ⟨hsrc, hmck⟩ := catchAll_stopped (fresh s) pins hr
    refine ⟨_, settle_inPhase_next s .caught _ hg hp, ?_, ?_, ?_⟩
    · rw [settle_drv, State.atPart_drv]
      exact hsrc
    · rw [settle_mck, State.atPart_part]
    · rw [settle_mck, State.atPart_stroke]
      exact congrArg Mck.stroke hmck
  · exact settle_inPhase_next s .driven (driveAll plays) hg hp
  · have hd : (settle ((finishAll ups (fresh s)).atPart .finished)).drv
        = { s.drv with sinks := (fresh s).sinkStrokes, badSinks := (ups.map Upset.id).dedup } := by
      rw [settle_drv, State.atPart_drv, finishAll_drv, fresh_drv]
    refine ⟨_, settle_inPhase_next s .finished (finishAll ups) hg hp, by rw [hd], by rw [hd], ?_, ?_, ?_, by rw [hd]⟩
    · rw [settle_mck, State.atPart_part]
    · rw [hd]
      exact sinkStrokes_ids (fresh s)
    · rw [hd]
      exact sinkStrokes_stopped (fresh s)
  · have hpl := recoverAll_place (fresh s)
    simp only [State.place, Prod.mk.injEq] at hpl
    obtain ⟨-, -, hstroke, -, -⟩ := hpl
    refine ⟨_, settle_inPhase_next s .recovered recoverAll hg hp, ?_, ?_⟩
    · rw [settle_mck, State.atPart_part]
    · rw [settle_mck, State.atPart_stroke]
      exact hstroke
  · exact settle_inPhase_other s .caught _ h
  · exact settle_inPhase_other s .driven (driveAll plays) h
  · exact settle_inPhase_other s .finished (finishAll ups) h
  · exact settle_inPhase_other s .recovered recoverAll h
end

section
/-! SUPPORT. What `REF_CONFIG` of a reference stores, and what the presence of the references makes of it. -/
namespace Sys2Proof.Machine

variable {s : State}

/-! ## References after a change of one -/

@[simp] theorem refClock_flag (s : State) (a i j : Nat) : (s.flag a i).refClock j = s.refClock j := rfl

theorem refClock_onRef_self {i : Nat} (f : RefClock → RefClock) (h : i < s.mck.refs.length) :
    (s.onRef i f).refClock i = f (s.refClock i) := getD_listMod_self _ _ _ _ h

theorem refClock_onRef_ne {i j : Nat} (f : RefClock → RefClock) (h : j ≠ i) :
    (s.onRef i f).refClock j = s.refClock j := getD_listMod_ne _ _ _ h

theorem trackRef_settings (course : Nat) (present : Bool) (r : RefClock) :
    (trackRef course present r).settings = r.settings := by
  unfold trackRef
  split <;> rfl

theorem trackRef_disabled (course : Nat) (present : Bool) {r : RefClock} (h : r.en = false) :
    (trackRef course present r).qualified = false := by
  unfold trackRef
  simp [h]

theorem trackRefs_refs (s : State) :
    s.trackRefs.mck = { s.mck with refs := s.mck.refs.zipIdx.map fun e => trackRef s.ntu.course (s.refPresent e.2) e.1 } := by
  unfold State.trackRefs
  dsimp only
  split <;> rfl

/-- A reference as its enable and presence leave it. -/
theorem refClock_trackRefs {i : Nat} (h : i < s.mck.refs.length) :
    s.trackRefs.refClock i = trackRef s.ntu.course (s.refPresent i) (s.refClock i) := by
  simp [State.refClock, trackRefs_refs, List.getD, h]

theorem settings_trackRefs (s : State) (i : Nat) : (s.trackRefs.refClock i).settings = (s.refClock i).settings := by
  by_cases h : i < s.mck.refs.length
  · rw [refClock_trackRefs h, trackRef_settings]
  · simp [State.refClock, trackRefs_refs, List.getD, h]

/-! ## `REF_CONFIG` of a reference -/

/-- The state in which `REF_CONFIG` of reference `i` with enable `en` has stored the reference, before the presence of the
references is looked at again. -/
def refStored (x : Bool) (p : List Word) (i : Nat) (en : Bool) (s : State) : State :=
  let s1 := s.onRef i (refSet x p)
  let s2 := if i = 5 && en && !(s.refClock i).en then s1.flag Reg.MCK_REF_EVENT 3
    else if (s.refClock i).en && !en && (s.refClock i).qualified then s1.flag Reg.MCK_REF_EVENT 2 else s1
  if en then s2 else s2.onRef i fun r => { r with qualified := false }

theorem commitRefConfig_stale {x : Bool} {p : List Word} {ord : Nat} (hi : fieldOf (p.getD 0 0) 2 0 = 3)
    (hen : (s.refClock 3).en = true) (hf : fieldOf (p.getD 0 0) 9 8 ≠ (s.refClock 3).form) :
    commitRefConfig ord x p s = (s, .fail .staleWrite 1) := by
  unfold commitRefConfig
  simp only [hi, hen]
  rw [if_neg (by decide), if_pos (by simp only [decide_eq_true hf]; decide)]

theorem commitRefConfig_stores {x : Bool} {p : List Word} {ord i : Nat} (hw : fieldOf (p.getD 0 0) 2 0 = i) (hi : i < 6)
    (h : i ≠ 3 ∨ (s.refClock i).en = false ∨ fieldOf (p.getD 0 0) 9 8 = (s.refClock i).form) :
    ∃ body g, commitRefConfig ord x p s = ((refStored x p i (bitOf (p.getD 0 0) 3) s).trackRefs, .ok body g) := by
  have hstale : ¬(decide (i = 3) && (s.refClock i).en && decide (fieldOf (p.getD 0 0) 9 8 ≠ (s.refClock i).form)) = true := by
    rcases h with h | h | h <;> simp only [h] <;> simp
  unfold commitRefConfig
  simp only [hw]
  rw [if_neg (by omega), if_neg hstale]
  exact ⟨_, _, rfl⟩

variable {x en : Bool} {p : List Word} {i : Nat}

theorem refStored_frame : (refStored x p i en s).cmd = s.cmd ∧ (refStored x p i en s).srx = s.srx
    ∧ (refStored x p i en s).drv = s.drv ∧ (refStored x p i en s).mck.sel = s.mck.sel
    ∧ (refStored x p i en s).mck.state = s.mck.state ∧ (refStored x p i en s).mck.stroke = s.mck.stroke
    ∧ (refStored x p i en s).mck.refs.length = s.mck.refs.length := by
  unfold refStored
  dsimp only
  split_ifs <;> simp [State.onRef]

theorem refStored_self (hi : i < s.mck.refs.length) :
    (refStored x p i en s).refClock i = if en then refSet x p (s.refClock i)
      else { refSet x p (s.refClock i) with qualified := false } := by
  have hl : ∀ f, i < (s.onRef i f).mck.refs.length := fun f => by simpa [State.onRef] using hi
  cases en
  · unfold refStored
    simp only [Bool.false_eq_true, if_false]
    rw [refClock_onRef_self]
    · split_ifs <;> simp [refClock_onRef_self _ hi]
    · split_ifs <;> exact hl _
  · unfold refStored
    simp only [if_true]
    split_ifs <;> simp [refClock_onRef_self _ hi]

theorem refStored_ne {j : Nat} (h : j ≠ i) : (refStored x p i en s).refClock j = s.refClock j := by
  unfold refStored
  dsimp only
  split_ifs <;> simp [refClock_onRef_ne _ h]

/-- The reference has the settings of the command. -/
theorem refStored_settings (hi : i < s.mck.refs.length) :
    ((refStored x p i en s).refClock i).settings = (refSet x p (s.refClock i)).settings := by
  rw [refStored_self hi]
  cases en <;> rfl

end Sys2Proof.Machine
end

section
/-! SUPPORT. The core form of `REF_CONFIG`: what a change of core rate and stroke size leaves alone, its outcomes at its commit
point, and at the end of the stroke for which it waited. -/
namespace Sys2Proof.Machine

variable {s : State}

/-! ## A change of core rate and stroke size with no command that awaits a TDM port -/

/-- No command in flight awaits a TDM port. -/
def noTdmFlight (s : State) : Prop := ∀ f ∈ s.cmd.flights, ∀ n, f.phase = .committed → f.fin ≠ .tdm n

/-- `t` has the commands and the core configuration of `s`. -/
def sameCfg (s t : State) : Prop := t.cmd = s.cmd ∧ t.reg Reg.MCK_CORE_CFG = s.reg Reg.MCK_CORE_CFG

theorem sameCfg.refl (s : State) : sameCfg s s := ⟨rfl, rfl⟩

theorem sameCfg.trans {s t u : State} (h : sameCfg s t) (h' : sameCfg t u) : sameCfg s u :=
  ⟨h'.1.trans h.1, h'.2.trans h.2⟩

theorem sameCfg_flag (s : State) {a : Nat} (i : Nat) (h : Reg.MCK_CORE_CFG ≠ a) : sameCfg s (s.flag a i) :=
  ⟨rfl, s.reg_setReg_ne _ h⟩

theorem noTdmFlight.of_sameCfg {t : State} (h : noTdmFlight s) (ht : sameCfg s t) : noTdmFlight t := by
  unfold noTdmFlight
  rw [ht.1]
  exact h

theorem tdmEndFlights_idle (h : noTdmFlight s) (n : Nat) : tdmEndFlights n s = { s with free := s.free + 1 } := by
  have hnone : ∀ op, (s.cmd.flights.filter fun f =>
      decide (f.phase = .committed) && decide (f.fin = .tdm n) && decide (f.op = op)) = [] := by
    intro op
    rw [List.filter_eq_nil_iff]
    intro f hf
    have := h f hf n
    simp only [Bool.and_eq_true, decide_eq_true_eq]
    tauto
  unfold tdmEndFlights tdmEndRestarts
  dsimp only
  rw [hnone]
  simp only [List.foldl_nil, State.takeInt]
  rw [hnone]
  rfl

theorem sameCfg_tdmDrop (h : noTdmFlight s) {n : Nat} (hn : n < 16) : sameCfg s (s.tdmDrop n) := by
  have hend : ∀ f, sameCfg s (tdmEndFlights n ((s.setField (Reg.TDM_CFG n) 0 0 0).onTdm n f)) := by
    intro f
    have h' : noTdmFlight ((s.setField (Reg.TDM_CFG n) 0 0 0).onTdm n f) := h
    rw [tdmEndFlights_idle h']
    exact ⟨rfl, s.reg_setReg_ne _ (by simp only [Reg.MCK_CORE_CFG, Reg.TDM_CFG]; omega)⟩
  exact hend _

theorem sameCfg_tdmFlag (s : State) {n : Nat} (i : Nat) (hn : n < 16) : sameCfg s (s.tdmFlag n i) := by
  have hp : sameCfg s (s.flag (Reg.TDM_PORT_EVENT n) i) :=
    sameCfg_flag s i (by simp only [Reg.MCK_CORE_CFG, Reg.TDM_PORT_EVENT]; omega)
  unfold State.tdmFlag State.withPend
  dsimp only
  split
  · exact hp.trans (sameCfg_flag _ _ (by decide))
  · exact hp

theorem sameCfg_tdmCorePort (h : noTdmFlight s) {n : Nat} (hn : n < 16) : sameCfg s (tdmCorePort s n) := by
  unfold tdmCorePort
  split_ifs
  · exact .refl s
  · exact sameCfg_tdmDrop h hn
  · exact (sameCfg_tdmDrop h hn).trans (sameCfg_tdmFlag _ _ hn)
  · exact ⟨rfl, rfl⟩
  · exact .refl s

theorem sameCfg_tdmCoreChange (h : noTdmFlight s) : sameCfg s (tdmCoreChange s) :=
  List.foldlRecOn (motive := sameCfg s) (List.range 16) tdmCorePort (.refl s) fun _ ht _ hn =>
    ht.trans (sameCfg_tdmCorePort (h.of_sameCfg ht) (List.mem_range.mp hn))

theorem sameCfg_ralFlag (s : State) (n i : Nat) : sameCfg s (s.ralFlag n i) := by
  unfold State.ralFlag State.withPend
  dsimp only
  split
  · exact sameCfg_flag (s.onRal n _) _ (by decide)
  · exact ⟨rfl, rfl⟩

theorem sameCfg_ralAdmit (ok : List Nat) (s : State) (e : Nat × RxStream) : sameCfg s (ralAdmit ok s e) := by
  unfold ralAdmit
  dsimp only
  split
  · exact ⟨rfl, rfl⟩
  · split
    · split
      · exact ⟨rfl, rfl⟩
      · exact ⟨rfl, rfl⟩
      · exact .refl s
    · split
      · exact .refl s
      · exact (sameCfg_ralFlag (s.onRal e.1 _) e.1 4).trans (sameCfg_flag _ _ (by decide))

theorem sameCfg_ralEvaluate (s : State) : sameCfg s (ralEvaluate s) :=
  List.foldlRecOn (motive := sameCfg s) s.srx.streams _ (.refl s) fun t ht e _ => ht.trans (sameCfg_ralAdmit _ t e)

theorem ralAdmit_core (ok : List Nat) (s : State) (e : Nat × RxStream) : (ralAdmit ok s e).core = s.core := by
  unfold ralAdmit
  dsimp only
  split
  · rfl
  · split
    · split <;> rfl
    · split
      · rfl
      · exact State.ralFlag_core (s.onRal e.1 _) e.1 4

theorem ralEvaluate_core (s : State) : (ralEvaluate s).core = s.core :=
  foldl_keeps State.core _ (ralAdmit_core _) _ s

theorem tdmCorePort_core (s : State) (n : Nat) : (tdmCorePort s n).core = s.core := by
  unfold tdmCorePort
  split_ifs
  · rfl
  · exact s.tdmDrop_core n
  · exact (State.tdmFlag_core ..).trans (s.tdmDrop_core n)
  · rfl
  · rfl

theorem tdmCoreChange_core (s : State) : (tdmCoreChange s).core = s.core := foldl_keeps State.core _ tdmCorePort_core _ s

variable {rate : Nat} {b : Bool}

/-- A core rate and stroke size that take effect stand in MCK_CORE_CFG. -/
theorem coreApply_changes (h : noTdmFlight s) (hn : s.coreSame rate b = false) :
    (coreApply rate b s).cmd = s.cmd ∧ (coreApply rate b s).reg Reg.MCK_CORE_CFG = w32 (rate + 8 * b2n b) := by
  unfold coreApply
  rw [if_neg (by simp [hn])]
  have hset : noTdmFlight (s.setReg Reg.MCK_CORE_CFG (w32 (rate + 8 * b2n b))) := h
  obtain ⟨hcmd, hreg⟩ := (sameCfg_tdmCoreChange hset).trans (sameCfg_ralEvaluate _)
  exact ⟨hcmd, hreg.trans (s.reg_setReg_self _ _)⟩

theorem coreApply_core : (coreApply rate b s).core = s.core := by
  unfold coreApply
  split
  · rfl
  · exact (ralEvaluate_core _).trans (tdmCoreChange_core _)

/-! ## The core form in the cycle in which its change would apply -/

theorem coreForm_same (h : s.coreSame rate b = true) : coreForm rate b s = (s, .ok [s.reg Reg.MCK_CORE_CFG]) := by
  unfold coreForm
  rw [if_pos h]

theorem coreForm_locked (h : s.coreSame rate b = false) (hl : s.coreLocked = true) :
    coreForm rate b s = (s, .fail .staleWrite 1) := by
  unfold coreForm
  rw [if_neg (by simp [h]), if_pos hl]

theorem coreForm_misfit (h : s.coreSame rate b = false) (hl : s.coreLocked = false) (hf : s.coreFits rate = false) :
    coreForm rate b s = (s, .fail .noResource 1) := by
  unfold coreForm
  rw [if_neg (by simp [h]), if_neg (by simp [hl]), if_pos (by simp [hf])]

theorem coreForm_fits (h : s.coreSame rate b = false) (hl : s.coreLocked = false) (hf : s.coreFits rate = true) :
    coreForm rate b s = (coreApply rate b s, .ok [(coreApply rate b s).reg Reg.MCK_CORE_CFG] true) := by
  unfold coreForm
  rw [if_neg (by simp [h]), if_neg (by simp [hl]), if_neg (by simp [hf])]

theorem coreLocked_false_iff : s.coreLocked = false ↔ s.mode = .boot ∨ s.mode = .quiet := by
  simp [State.coreLocked, or_iff_not_imp_left]

theorem coreLocked_true_iff : s.coreLocked = true ↔ s.mode ≠ .boot ∧ s.mode ≠ .quiet := by
  simp [State.coreLocked]

/-! ## `REF_CONFIG` as it commits -/

variable {x : Bool} {p : List Word} {ord : Nat}

theorem commitRefConfig_core (h6 : fieldOf (p.getD 0 0) 2 0 = 6) :
    commitRefConfig ord x p s = commitCoreForm ord (p.getD 0 0) s := by
  unfold commitRefConfig
  exact if_pos h6

/-- With no change waiting, the core form applies at once in every case but a change that the mode permits while the grid
runs. -/
theorem commitCoreForm_now {w : Word} (hc : s.mck.coreNext = [])
    (h : s.mck.grid = false ∨ s.coreLocked = true ∨ s.coreSame (fieldOf w 12 10) (bitOf w 13) = true) :
    commitCoreForm ord w s = coreForm (fieldOf w 12 10) (bitOf w 13) s := by
  unfold commitCoreForm
  exact if_neg (by rcases h with h | h | h <;> simp [h, hc])

theorem commitCoreForm_waits {w : Word} (hg : s.mck.grid = true) (hl : s.coreLocked = false)
    (h : s.coreSame (fieldOf w 12 10) (bitOf w 13) = false) :
    commitCoreForm ord w s
      = (coreWaits { rate := fieldOf w 12 10, s16 := bitOf w 13, ord := some ord } s, .start .core) := by
  unfold commitCoreForm
  exact if_pos (by simp [hg, hl, h])

/-- A command that starts and awaits its commit point. -/
theorem commit_start {op : Nat} {k : Pkt} {s1 : State} {fin : Fin} (h : begins op k s = true) (h5 : 5 < op)
    (hc : commitOp s.cmd.nextOrd op k.tag k.x k.params (begun op k s) = (s1, .start fin)) (hs : s1.cmd = (begun op k s).cmd) :
    settle (arrive op k (fresh s)) = inFlight op k .started fin [] 0 false s s1 := by
  rw [arrive_begun h h5]
  have hc' : commitOp (started op k s).ord (started op k s).op (started op k s).tag (started op k s).x (started op k s).params
      (begun op k s) = (s1, .start fin) := hc
  unfold commitUnit
  rw [hc']
  simp [applyRes, State.putFlight, hs, begun, started, flightIn, flightOf, inFlight, genAfter]

theorem commitOp_refConfig {k : Pkt} (h : begins 0x30 k s = true) :
    commitOp s.cmd.nextOrd 0x30 k.tag k.x k.params (begun 0x30 k s)
      = commitRefConfig s.cmd.nextOrd k.x k.params (begun 0x30 k s) :=
  commitOp_mid (s := begun 0x30 k s) (show modeRefuses 0x30 s.mode = false from begins_mode h) (by decide) (by decide)

theorem exec_refConfig_fails {k : Pkt} {st : Status} {word : Nat} (h : begins 0x30 k s = true)
    (hc : commitRefConfig s.cmd.nextOrd k.x k.params (begun 0x30 k s) = (begun 0x30 k s, .fail st word))
    (h1 : st ≠ .lost) (h2 : st ≠ .aborted) :
    exec (.refConfig k) s = .next (replied 0x30 k st word [] false s (fresh s)) :=
  congrArg Host.Outcome.next (commit_fail (s1 := begun 0x30 k s) h (by decide) ((commitOp_refConfig h).trans hc) rfl h1 h2)

theorem exec_refConfig_completes {k : Pkt} {s1 : State} {body : List Word} {g : Bool} (h : begins 0x30 k s = true)
    (hc : commitRefConfig s.cmd.nextOrd k.x k.params (begun 0x30 k s) = (s1, .ok body g))
    (hs : s1.cmd = (begun 0x30 k s).cmd) : exec (.refConfig k) s = .next (replied 0x30 k .ok 0 body g s s1) :=
  congrArg Host.Outcome.next (commit_ok h (by decide) ((commitOp_refConfig h).trans hc) hs)

theorem exec_refConfig_waits {k : Pkt} {s1 : State} {fin : Fin} (h : begins 0x30 k s = true)
    (hc : commitRefConfig s.cmd.nextOrd k.x k.params (begun 0x30 k s) = (s1, .start fin))
    (hs : s1.cmd = (begun 0x30 k s).cmd) : exec (.refConfig k) s = .next (inFlight 0x30 k .started fin [] 0 false s s1) :=
  congrArg Host.Outcome.next (commit_start h (by decide) ((commitOp_refConfig h).trans hc) hs)

/-- A command that has begun is the only one in flight, and has not committed. -/
theorem noTdmFlight_begun (op : Nat) (k : Pkt) (s : State) : noTdmFlight (begun op k s) := by
  intro f hf n hph
  simp only [begun, List.mem_singleton] at hf
  subst hf
  exact absurd hph (by simp [flightIn])

theorem replied_cmd (op : Nat) (k : Pkt) (st : Status) (word : Nat) (body : List Word) (g : Bool) (s s1 : State) :
    (replied op k st word body g s s1).cmd = { s.cmd with
      nextOrd := s.cmd.nextOrd + 1, gen := genAfter g s,
      held := s.cmd.held ++ [replyOf op s.cmd.nextOrd k st word body (genAfter g s)] } := settle_cmd _

@[simp] theorem replied_mck (op : Nat) (k : Pkt) (st : Status) (word : Nat) (body : List Word) (g : Bool) (s s1 : State) :
    (replied op k st word body g s s1).mck = s1.mck := settle_mck _

@[simp] theorem replied_srx (op : Nat) (k : Pkt) (st : Status) (word : Nat) (body : List Word) (g : Bool) (s s1 : State) :
    (replied op k st word body g s s1).srx = s1.srx := settle_srx _

@[simp] theorem replied_drv (op : Nat) (k : Pkt) (st : Status) (word : Nat) (body : List Word) (g : Bool) (s s1 : State) :
    (replied op k st word body g s s1).drv = s1.drv := settle_drv _

@[simp] theorem replied_reg (op : Nat) (k : Pkt) (st : Status) (word : Nat) (body : List Word) (g : Bool) (s s1 : State)
    (a : Nat) : (replied op k st word body g s s1).reg a = s1.reg a := settle_reg _ a

theorem replied_refClock (op : Nat) (k : Pkt) (st : Status) (word : Nat) (body : List Word) (g : Bool) (s s1 : State)
    (i : Nat) : (replied op k st word body g s s1).refClock i = s1.refClock i := by
  simp [State.refClock]

/-! ### The reference that `REF_CONFIG` leaves -/

/-- The reference has the settings of the command, and the others keep theirs. -/
theorem refConfig_settings {i j : Nat} {en : Bool} (hi : i < s.mck.refs.length) :
    ((refStored x p i en s).trackRefs.refClock j).settings
      = if j = i then (refSet x p (s.refClock i)).settings else (s.refClock j).settings := by
  rw [settings_trackRefs]
  split
  · next h => rw [h, refStored_settings hi]
  · next h => rw [refStored_ne h]

/-- A reference without its enable is not qualified. -/
theorem refConfig_disabled {i : Nat} (hi : i < s.mck.refs.length) (hen : bitOf (p.getD 0 0) 3 = false) :
    ((refStored x p i false s).trackRefs.refClock i).qualified = false := by
  obtain ⟨-, -, -, -, -, -, hlen⟩ := refStored_frame (x := x) (en := false) (p := p) (i := i) (s := s)
  rw [refClock_trackRefs (hlen ▸ hi), refStored_self hi]
  exact trackRef_disabled _ _ hen

/-! ## The core form at the end of the stroke for which it waited -/

/-- The reply that answers the command in flight `f` (R213, R223). -/
def answerOf (gen : Word) (f : Flight) (st : Status) (word : Nat) (body : List Word) : Reply :=
  { src := f.src, op := f.op, tag := f.tag, status := st, seq := f.seq, c := f.c, word := word,
    gen8 := gen.toNat % 256, body := body, ord := some f.ord }

/-- The answer of a command that came in on a path. -/
theorem answer_path {f : Flight} {pa : Path} {st : Status} {word : Nat} {body : List Word} (hsrc : f.src = .path pa)
    (hr : s.cmd.restarting = false) (h1 : st ≠ .lost) (h2 : st ≠ .aborted) :
    s.answer f st word body = { s with cmd := { s.cmd with
      flights := s.cmd.flights.filter fun g => decide (g.ord ≠ f.ord),
      held := s.cmd.held ++ [answerOf s.cmd.gen f st word body] } } := by
  unfold State.answer State.hold
  simp [hsrc, hr, h1, h2, answerOf]

/-- The state in which the changes that waited for the end of the stroke are taken up. -/
def coreTaken (s : State) : State := { s with mck := { s.mck with coreNext := [] } }

theorem coreBoundary_one {q : CoreReq} (h : s.mck.coreNext = [q]) : coreBoundary s = coreDue (coreTaken s) q := by
  unfold coreBoundary
  rw [h]
  rfl

theorem coreDue_fails {f : Flight} {st : Status} {word : Nat} {body : List Word} (hfl : s.cmd.flights = [f])
    (hfin : f.fin = .core) (hf : coreForm rate b s = (s, .fail st word body)) :
    coreDue s { rate := rate, s16 := b, ord := some f.ord } = s.answer f st word body := by
  unfold coreDue
  simp [hfl, hfin, hf]

theorem coreDue_completes {f : Flight} {s1 : State} {body : List Word} (hfl : s.cmd.flights = [f])
    (hfin : f.fin = .core) (hf : coreForm rate b s = (s1, .ok body true)) :
    coreDue s { rate := rate, s16 := b, ord := some f.ord } = s1.genUp.answer f .ok 0 body := by
  unfold coreDue
  simp [hfl, hfin, hf]

/-- The answer takes the only command in flight out, and its reply, with tag and status, is held. -/
theorem answer_only {f : Flight} {pa : Path} {st : Status} {word : Nat} {body : List Word} (hfl : s.cmd.flights = [f])
    (hsrc : f.src = .path pa) (hr : s.cmd.restarting = false) (h1 : st ≠ .lost) (h2 : st ≠ .aborted) :
    (s.answer f st word body).cmd.flights = []
    ∧ ∃ q ∈ (s.answer f st word body).cmd.held, q.tag = f.tag ∧ q.status = st := by
  rw [answer_path hsrc hr h1 h2]
  refine ⟨by simp [hfl], _, List.mem_append_right _ (List.mem_singleton.mpr rfl), rfl, rfl⟩

section
variable {f : Flight} {pa : Path} (hc : s.mck.coreNext = [{ rate := rate, s16 := b, ord := some f.ord }])
  (hfl : s.cmd.flights = [f]) (hfin : f.fin = .core) (hsrc : f.src = .path pa) (hr : s.cmd.restarting = false)
include hc hfl hfin hsrc hr

/-- A core form that is refused at the end of the stroke is answered so, and changes no register. -/
theorem coreBoundary_refuses {st : Status} {word : Nat} {body : List Word} (h1 : st ≠ .lost) (h2 : st ≠ .aborted)
    (hform : coreForm rate b (coreTaken s) = (coreTaken s, .fail st word body)) :
    (coreBoundary s).mck.coreNext = [] ∧ (coreBoundary s).cmd.flights = [] ∧ (coreBoundary s).regs = s.regs
    ∧ ∃ q ∈ (coreBoundary s).cmd.held, q.tag = f.tag ∧ q.status = st := by
  have hb : coreBoundary s = (coreTaken s).answer f st word body :=
    (coreBoundary_one hc).trans (coreDue_fails hfl hfin hform)
  obtain ⟨hnone, q, hq, htag, hst⟩ :=
    answer_only (s := coreTaken s) (word := word) (body := body) hfl hsrc hr h1 h2
  rw [← hb] at hnone hq
  rw [answer_path (s := coreTaken s) hsrc hr h1 h2] at hb
  refine ⟨?_, hnone, ?_, q, hq, htag, hst⟩
  · rw [hb]
    rfl
  · rw [hb]
    rfl

/-- A core form that fits at the end of the stroke takes effect there, and its command completes. -/
theorem coreBoundary_applies (hn : s.coreSame rate b = false) (hl : s.coreLocked = false) (hf : s.coreFits rate = true) :
    (coreBoundary s).mck.coreNext = [] ∧ (coreBoundary s).cmd.flights = []
    ∧ (coreBoundary s).reg Reg.MCK_CORE_CFG = w32 (rate + 8 * b2n b) ∧ (coreBoundary s).cmd.gen = s.cmd.gen + 1
    ∧ ∃ q ∈ (coreBoundary s).cmd.held, q.tag = f.tag ∧ q.status = .ok := by
  have hnt : noTdmFlight (coreTaken s) := by
    intro g hg n _
    rw [show g = f by simpa [coreTaken, hfl] using hg, hfin]
    exact nofun
  obtain ⟨hcmd, hreg⟩ := coreApply_changes (s := coreTaken s) hnt hn
  let u := (coreApply rate b (coreTaken s)).genUp
  have hucmd : u.cmd = { s.cmd with gen := s.cmd.gen + 1 } := by
    show ({ (coreApply rate b (coreTaken s)).cmd with gen := _ } : Cmd) = _
    rw [hcmd]
    rfl
  have hufl : u.cmd.flights = [f] := by rw [hucmd]; exact hfl
  have hur : u.cmd.restarting = false := by rw [hucmd]; exact hr
  have hb : coreBoundary s = u.answer f .ok 0 [(coreApply rate b (coreTaken s)).reg Reg.MCK_CORE_CFG] :=
    (coreBoundary_one hc).trans (coreDue_completes hfl hfin (coreForm_fits (s := coreTaken s) hn hl hf))
  obtain ⟨hnone, q, hq, htag, hst⟩ := answer_only (s := u) (word := 0)
    (body := [(coreApply rate b (coreTaken s)).reg Reg.MCK_CORE_CFG]) hufl hsrc hur (by decide : Status.ok ≠ .lost) (by decide)
  rw [← hb] at hnone hq
  rw [answer_path hsrc hur (by decide) (by decide)] at hb
  refine ⟨?_, hnone, ?_, ?_, q, hq, htag, hst⟩
  · rw [hb]
    exact congrArg Mck.coreNext (State.mck_of_core coreApply_core)
  · rw [hb]
    exact hreg
  · rw [hb]
    exact congrArg Cmd.gen hucmd
end

end Sys2Proof.Machine
end

section
/-! The statement of `REF_CONFIG`. -/
open Sys2Proof Sys2Proof.Machine

/-- Settles O18: `REF_CONFIG` of a reference by what its commit stores (`refStored`), its core form by the outcomes of
`coreForm`, at once or at the end of the stroke (`coreBoundary_refuses`, `coreBoundary_applies`). -/
theorem refConfigCompletes : Obligations.RefConfigCompletes := by
  refine ⟨?_, ?_, ?_⟩
  · intro k s hb hl w i v u hi
    refine ⟨fun ⟨h3, hen, hf⟩ => ?_, fun h => ?_⟩
    · rw [h3] at hen hf
      exact exec_refConfig_fails hb (commitRefConfig_stale (s := begun 0x30 k s) h3 hen hf) (by decide) (by decide)
    · obtain ⟨body, g, hc⟩ := commitRefConfig_stores (x := k.x) (ord := s.cmd.nextOrd) (s := begun 0x30 k s) rfl hi h
      obtain ⟨hcmd, hsrx, hdrv, hsel, hstate, hstroke, -⟩ :=
        refStored_frame (x := k.x) (p := k.params) (i := i) (en := bitOf w 3) (s := begun 0x30 k s)
      have hib : i < (begun 0x30 k s).mck.refs.length := lt_of_lt_of_eq hi hl.symm
      refine ⟨_, replyOf 0x30 s.cmd.nextOrd k .ok 0 body (genAfter g s),
        exec_refConfig_completes hb hc ((State.trackRefs_cmd _).trans hcmd), ?_, rfl, rfl, ?_, fun j hj => ?_, fun hen => ?_,
        ?_, ?_, ?_, ?_, ?_⟩
      · rw [replied_cmd]
      · rw [replied_refClock, refConfig_settings hib, if_pos rfl]
        rfl
      · rw [replied_refClock, refConfig_settings hib, if_neg hj]
        rfl
      · rw [replied_refClock, show bitOf (k.params.getD 0 0) 3 = false from hen]
        exact refConfig_disabled hib hen
      · rw [replied_mck, trackRefs_refs]
        exact hsel
      · rw [replied_mck, trackRefs_refs]
        exact hstate
      · rw [replied_mck, trackRefs_refs]
        exact hstroke
      · rw [replied_srx, State.trackRefs_srx]
        exact hsrx
      · rw [replied_drv, State.trackRefs_drv]
        exact hdrv
  · intro k s hb hc w rate b h6
    have hcore : commitRefConfig s.cmd.nextOrd k.x k.params (begun 0x30 k s)
        = commitCoreForm s.cmd.nextOrd w (begun 0x30 k s) := commitRefConfig_core h6
    have hnow : s.mck.grid = false ∨ s.coreLocked = true ∨ s.coreSame rate b = true →
        commitRefConfig s.cmd.nextOrd k.x k.params (begun 0x30 k s) = coreForm rate b (begun 0x30 k s) := fun h =>
      hcore.trans (commitCoreForm_now (s := begun 0x30 k s) hc h)
    refine ⟨fun hs => ?_, fun hs hboot hquiet => ?_, fun hs hm => ⟨fun hg hf => ?_, fun hg hf => ?_, fun hg => ?_⟩⟩
    · exact exec_refConfig_completes (s1 := begun 0x30 k s) hb ((hnow (.inr (.inr hs))).trans (coreForm_same hs)) rfl
    · have hl : s.coreLocked = true := coreLocked_true_iff.mpr ⟨hboot, hquiet⟩
      exact exec_refConfig_fails hb ((hnow (.inr (.inl hl))).trans (coreForm_locked (s := begun 0x30 k s) hs hl))
        (by decide) (by decide)
    · have hl : s.coreLocked = false := coreLocked_false_iff.mpr hm
      exact exec_refConfig_fails hb ((hnow (.inl hg)).trans (coreForm_misfit (s := begun 0x30 k s) hs hl hf))
        (by decide) (by decide)
    · have hl : s.coreLocked = false := coreLocked_false_iff.mpr hm
      obtain ⟨hcmd, hreg⟩ := coreApply_changes (s := begun 0x30 k s) (noTdmFlight_begun 0x30 k s) hs
      have hform := (hnow (.inl hg)).trans (coreForm_fits (s := begun 0x30 k s) hs hl hf)
      refine ⟨_, replyOf 0x30 s.cmd.nextOrd k .ok 0 [w32 (rate + 8 * b2n b)] (genAfter true s),
        exec_refConfig_completes hb hform hcmd, ?_, ?_, rfl, rfl, ?_⟩
      · rw [replied_reg, hreg]
      · rw [replied_cmd, hreg]
      · rw [replied_cmd]
        rfl
    · have hl : s.coreLocked = false := coreLocked_false_iff.mpr hm
      have hw := hcore.trans (commitCoreForm_waits (ord := s.cmd.nextOrd) (s := begun 0x30 k s) hg hl hs)
      refine (exec_refConfig_waits hb hw rfl).trans ?_
      simp [inFlight, coreWaits, begun, hc, rate, b]
  · intro s f p rate b hc hfl hfin hsrc hr hrate hn t
    by_cases hl : s.coreLocked = true
    · obtain ⟨hboot, hquiet⟩ := coreLocked_true_iff.mp hl
      obtain ⟨hnext, hnone, hregs, q, hq, htag, hst⟩ :=
        coreBoundary_refuses hc hfl hfin hsrc hr (by decide) (by decide) (coreForm_locked (s := coreTaken s) hn hl)
      exact ⟨hnext, hnone, q, hq, htag, fun _ _ => ⟨hst, hregs⟩, fun hm => by tauto, fun hm => by tauto⟩
    · have hl : s.coreLocked = false := by simpa using hl
      have hm := coreLocked_false_iff.mp hl
      cases hf : s.coreFits rate with
      | false =>
        obtain ⟨hnext, hnone, hregs, q, hq, htag, hst⟩ :=
          coreBoundary_refuses hc hfl hfin hsrc hr (by decide) (by decide) (coreForm_misfit (s := coreTaken s) hn hl hf)
        exact ⟨hnext, hnone, q, hq, htag, fun _ _ => by tauto, fun _ _ => ⟨hst, hregs⟩, fun _ h => absurd h (by simp)⟩
      | true =>
        obtain ⟨hnext, hnone, hreg, hgen, q, hq, htag, hst⟩ := coreBoundary_applies hc hfl hfin hsrc hr hn hl hf
        exact ⟨hnext, hnone, q, hq, htag, fun _ _ => by tauto, fun _ h => absurd h (by simp), fun _ _ => ⟨hst, hreg, hgen⟩⟩
end

section
/-! SUPPORT. A state with a handed Start List entry far beyond those that a command can write. -/
namespace Sys2Proof.Machine

/-- The Start List entry whose flag of NTU_SL_DONE would stand in bit 0 of MCK_CORE_CFG. The number that STARTLIST_LOAD
gives an entry has ten bits (R385), so no command writes this one. -/
def strayEntry : Nat := 32 * ((Reg.MCK_CORE_CFG - Reg.NTU_SL_DONE 0) / 4)

/-- A TDM_CONFIG fired from the stray entry, which awaits port 0. -/
def strayFlight : Flight :=
  { ord := 0, src := .starter strayEntry, op := 0x58, tag := 0, x := false, s := false, c := false, seq := 0, params := [],
    phase := .committed, fin := .tdm 0 }

/-- BOOT with the host interface up, port 0 about to end, and the stray entry handed to its command. -/
def strayState : State :=
  { hif := { up := true }
    cmd := { flights := [strayFlight] }
    ntu := { list := [(strayEntry,
      { time := 0, action := 0, lateDrop := false, pin := 0, level := 0, stream := 0, state := .handed })] }
    tdm := { ending := true, wants := [(1, true)] } :: List.replicate 15 {} }

/-- The write of rate 0 in the stray state drops TDM port 0, and the command's end sets the flag of the stray entry: the rate
reads as 1. -/
theorem strayState_rate : (settle (wordWrite .host Reg.MCK_CORE_CFG 0 strayState)).rateCode = 1 := by decide +kernel

end Sys2Proof.Machine
end

section
/-! The statement of the registers whose write acts. -/
open Sys2Proof Sys2Proof.Machine

/-- Refutes O38: its second clause speaks of every state, one with a handed Start List entry of any number included. The
flag of entry 129152 in NTU_SL_DONE would stand at the address of MCK_CORE_CFG; a change of rate ends a TDM_CONFIG fired
from that entry, which sets the flag, and so the rate written as 0 reads as 1. The clause wants the numbers of the list's
entries bounded. -/
theorem not_actingRegistersComplete : ¬ Obligations.ActingRegistersComplete := by
  intro h
  obtain ⟨-, happly, -⟩ := h .host 0 strayState rfl rfl
  obtain ⟨t, ht, hrate, -⟩ := happly (by decide) (by decide) (by decide) (by decide) (by decide)
  have hnext : exec (.mckCoreCfgWrite .host 0) strayState = .next (settle (wordWrite .host Reg.MCK_CORE_CFG 0 strayState)) := rfl
  rw [hnext] at ht
  obtain rfl := Host.Outcome.next.inj ht
  rw [strayState_rate] at hrate
  exact absurd hrate (by decide)
end

section
/-! SUPPORT. Flags that are set stay set where other flags are set, and what an append to a Slip queue and the end of a Start
List entry leave alone. -/
namespace Sys2Proof.Machine

/-! ## Flags stay set -/

/-- Every bit of a register that is set in `s` is set in `t`. -/
def keepsBits (s t : State) : Prop := ∀ a i, s.bit a i = true → t.bit a i = true

theorem keepsBits.refl (s : State) : keepsBits s s := fun _ _ h => h

theorem keepsBits.trans {s t u : State} (h : keepsBits s t) (h' : keepsBits t u) : keepsBits s u :=
  fun a i hb => h' a i (h a i hb)

/-- Bits stand where no register changes. -/
theorem keepsBits_of_regs {s t : State} (h : t.regs = s.regs) : keepsBits s t := fun a i hb => by
  unfold State.bit State.reg at *
  rwa [h]

variable (s : State)

theorem State.bit_flag_ne {a b : Nat} (i j : Nat) (h : b ≠ a) : (s.flag a i).bit b j = s.bit b j := by
  unfold State.bit
  rw [State.reg_flag, if_neg h]

/-- A flag that is set stays set as another is. -/
theorem keepsBits_flag (b j : Nat) : keepsBits s (s.flag b j) := by
  intro a i h
  by_cases hab : a = b
  · subst hab
    unfold State.bit bitOf at *
    rw [State.reg_flag, if_pos rfl, BitVec.getLsbD_or, h, Bool.true_or]
  · rw [s.bit_flag_ne j i hab, h]

theorem keepsBits_foldl {α : Type} {f : State → α → State} (hf : ∀ t a, keepsBits t (f t a)) (l : List α) (s : State) :
    keepsBits s (l.foldl f s) := by
  induction l generalizing s with
  | nil => exact .refl s
  | cons a l ih => exact (hf s a).trans (ih (f s a))

@[simp] theorem settle_bit (a i : Nat) : (settle s).bit a i = s.bit a i := by simp [State.bit]

/-! ## An append to a Slip queue -/

/-- Everything but the contents of the registers and of the Slip queues is as it was. -/
def sameButQueues (s t : State) : Prop :=
  ∃ r m q, t = { s with regs := r, misparity := m, buf := { s.buf with queues := q } }

theorem sameButQueues.refl (s : State) : sameButQueues s s := ⟨s.regs, s.misparity, s.buf.queues, rfl⟩

theorem sameButQueues.trans {s t u : State} (h : sameButQueues s t) (h' : sameButQueues t u) : sameButQueues s u := by
  obtain ⟨_, _, _, rfl⟩ := h
  obtain ⟨_, _, _, rfl⟩ := h'
  exact ⟨_, _, _, rfl⟩

theorem sameButQueues_setReg (a : Nat) (v : Word) : sameButQueues s (s.setReg a v) := ⟨_, _, _, rfl⟩

theorem sameButQueues_flag (a i : Nat) : sameButQueues s (s.flag a i) := sameButQueues_setReg s a _

theorem sameButQueues_setQueue (n : Nat) (q : Queue) : sameButQueues s (s.setQueue n q) := by
  unfold State.setQueue
  dsimp only
  split
  · exact .trans ⟨s.regs, s.misparity, _, rfl⟩ (sameButQueues_flag ..)
  · exact ⟨_, _, _, rfl⟩

theorem sameButQueues_onQueue (n : Nat) (f : Queue → Queue) : sameButQueues s (s.onQueue n f) := by
  unfold State.onQueue
  split
  · exact sameButQueues_setQueue s n _
  · exact .refl s

theorem sameButQueues_stampEntry (q pflags : Nat) (ws : List Word) : sameButQueues s (stampEntry q pflags ws s) := by
  unfold stampEntry
  split
  · exact .refl s
  · split
    · exact sameButQueues_setReg s _ _
    · dsimp only
      split
      · exact (sameButQueues_setQueue s q _).trans (sameButQueues_flag ..)
      · exact sameButQueues_setQueue s q _

theorem sameButQueues_orderEdges (pin : Nat) : sameButQueues s (orderEdges pin s) := sameButQueues_onQueue s 26 _

/-! ## The end of a Start List entry -/

variable (e : Nat) (st : SlState) (status : Nat)

/-- Outside the registers the end of a Start List entry changes that entry alone. -/
theorem State.slDone_eq : ∃ r m, s.slDone e st status = { s with
    regs := r, misparity := m,
    ntu := { s.ntu with list := tmod s.ntu.list e fun x => { x with state := st, status := status } } } := by
  unfold State.slDone
  dsimp only
  split_ifs
  · exact ⟨_, _, rfl⟩
  · exact ⟨_, _, rfl⟩

theorem State.slDone_ntu : (s.slDone e st status).ntu
    = { s.ntu with list := tmod s.ntu.list e fun x => { x with state := st, status := status } } := by
  obtain ⟨_, _, h⟩ := s.slDone_eq e st status
  rw [h]

theorem State.slDone_cmd : (s.slDone e st status).cmd = s.cmd := by
  obtain ⟨_, _, h⟩ := s.slDone_eq e st status
  rw [h]

theorem State.slDone_pmu : (s.slDone e st status).pmu = s.pmu := by
  obtain ⟨_, _, h⟩ := s.slDone_eq e st status
  rw [h]

/-- The end of an entry sets NTU_EVENT.SL_DONE, and sets flags alone. -/
theorem State.bit_slDone : (s.slDone e st status).bit Reg.NTU_EVENT 7 = true := by
  unfold State.slDone
  dsimp only
  split
  · exact keepsBits_flag _ _ _ _ _ (State.bit_flag_self _ _ _ (by decide))
  · exact State.bit_flag_self _ _ _ (by decide)

theorem keepsBits_slDone : keepsBits s (s.slDone e st status) := by
  let s1 : State := { s with ntu := { s.ntu with list := tmod s.ntu.list e fun x => { x with state := st, status := status } } }
  have h1 : keepsBits s s1 := .refl s
  have h2 := (h1.trans (keepsBits_flag s1 (Reg.NTU_SL_DONE (e / 32)) (e % 32))).trans (keepsBits_flag _ Reg.NTU_EVENT 7)
  unfold State.slDone
  dsimp only
  split
  · exact h2.trans (keepsBits_flag _ Reg.NTU_EVENT 8)
  · exact h2

end Sys2Proof.Machine
end

section
/-! SUPPORT. Edges at the event inputs and outputs: what a missed and a stamped edge, and a driven one, leave. -/
namespace Sys2Proof.Machine

variable {s : State} {pin : Nat}

/-! ## Event inputs -/

/-- An edge comes less than 100 ns after the last stamped one of its pin (R72, R366). -/
def edgeClose (pin : Nat) (s : State) : Prop :=
  match (s.ntu.evtIn.getD pin {}).lastStamp with
  | some c => s.ntu.course < c + 100
  | none => False

theorem evtIn_unchosen {rising : Bool} (h : s.edgeChosen pin rising = false) : evtIn pin rising s = s := by
  unfold evtIn
  simp [h]

theorem evtIn_close {rising : Bool} (h : s.edgeChosen pin rising = true) (hc : edgeClose pin s) :
    evtIn pin rising s = edgeMissed pin s := by
  unfold edgeClose at hc
  split at hc
  · next c hl => simp only [evtIn, h, hl, hc, Bool.not_true, Bool.false_eq_true, if_false, decide_true, if_true]
  · exact hc.elim

theorem evtIn_stamped {rising : Bool} (h : s.edgeChosen pin rising = true) (hc : ¬edgeClose pin s) :
    evtIn pin rising s = edgeStamped pin rising s := by
  unfold edgeClose at hc
  split at hc
  · next c hl => simp only [evtIn, h, hl, hc, Bool.not_true, Bool.false_eq_true, if_false, decide_false]
  · next hl => simp only [evtIn, h, hl, Bool.not_true, Bool.false_eq_true, if_false]

theorem edgeMissed_evtIn : (edgeMissed pin s).ntu.evtIn
    = listMod s.ntu.evtIn pin fun e => { e with missed := satNat 255 (e.missed + 1) } := rfl

theorem edgeMissed_event : (edgeMissed pin s).bit Reg.NTU_EVENT 5 = true := State.bit_flag_self _ _ _ (by decide)

/-- A stamped edge changes its pin, the registers and the Slip queues alone. -/
theorem edgeStamped_frame (rising : Bool) :
    (edgeStamped pin rising s).ntu
      = { s.ntu with evtIn := listMod s.ntu.evtIn pin fun _ => { lastStamp := some s.ntu.course, missed := 0 } }
    ∧ (edgeStamped pin rising s).cmd = s.cmd ∧ (edgeStamped pin rising s).mck = s.mck := by
  unfold edgeStamped
  dsimp only
  generalize ht : orderEdges pin _ = t
  obtain ⟨_, _, _, rfl⟩ : sameButQueues s t := ht ▸ (sameButQueues_stampEntry ..).trans (sameButQueues_orderEdges ..)
  exact ⟨rfl, rfl, rfl⟩

theorem execEvtInEdge_clocked {dt : Nat} {rising : Bool} (hp : pin < 8) (hm : clocked s.mode = true) :
    execEvtInEdge dt pin rising s = .next (settle (evtIn pin rising ((fresh s).advance dt))) := by
  unfold execEvtInEdge
  simp [hp, hm]

/-! ## Event outputs -/

variable {h : HandedEdge} {rest : List HandedEdge}

theorem evtDrive_wrongMode (hm : s.evtMode pin ≠ 1) :
    evtDrive pin h rest s = (s.onEvt pin fun _ => { s.ntu.evtOut.getD pin {} with handed := rest }).slDone h.entry .failed
      (statusCode .wrongMode) := by
  unfold evtDrive
  rw [if_pos hm]
  rfl

/-- A driven edge sets its level and leaves the edges that were handed after it; its entry is FIRED, or LATE. Beside the pin,
the entry and the registers nothing changes. -/
theorem evtDrive_driven {e : SlEntry} (hm : s.evtMode pin = 1) (he : tget s.ntu.list h.entry = some e) :
    ∃ (o : EvtOut) (u : State), evtDrive pin h rest s = u.slDone h.entry (if e.isLate then .late else .fired) 0
      ∧ u.ntu = { s.ntu with evtOut := listMod s.ntu.evtOut pin fun _ => o } ∧ u.cmd = s.cmd
      ∧ o.level = edgeLevel (s.ntu.evtOut.getD pin {}) h ∧ o.handed = rest := by
  unfold evtDrive
  rw [if_neg (by simp [hm]), he]
  dsimp only
  split
  · exact ⟨_, _, rfl, rfl, rfl, rfl, rfl⟩
  · exact ⟨_, _, rfl, rfl, rfl, rfl, rfl⟩

theorem execEvtOutEdge_drives {dt : Nat} (hm : clocked s.mode = true)
    (hh : (((fresh s).advance dt).ntu.evtOut.getD pin {}).handed = h :: rest)
    (ht : h.time ≤ ((fresh s).advance dt).tick64) (hw : evtWaits pin h ((fresh s).advance dt) = false) :
    execEvtOutEdge dt pin s = .next (settle (evtDrive pin h rest ((fresh s).advance dt))) := by
  have hm' : clocked ((fresh s).advance dt).mode = true := by simpa using hm
  simp only [execEvtOutEdge, hh, hm', ht, hw, decide_true, Bool.not_false, Bool.and_self, if_true]

theorem evtWaits_wrongMode (hm : s.evtMode pin ≠ 1) : evtWaits pin h s = false := by
  simp [evtWaits, hm]

/-- The handed edge of an entry is done with: the entry, and the pin as it is left. -/
theorem tget_slDone {u : State} {e : SlEntry} (he : tget u.ntu.list h.entry = some e) (st : SlState) (status : Nat) :
    tget (u.slDone h.entry st status).ntu.list h.entry = some { e with state := st, status := status } := by
  rw [State.slDone_ntu, tget_tmod_self, he]
  rfl

end Sys2Proof.Machine
end

section
/-! The statement of the event pins. -/
open Sys2Proof Sys2Proof.Machine

/-- Settles O24: an input edge by what it comes to (`evtIn_unchosen`, `edgeMissed`, `edgeStamped_frame`), an output edge by the
pin and the Start List entry that it leaves (`evtDrive_driven`, `evtDrive_wrongMode`). -/
theorem eventPinsComplete : Obligations.EventPinsComplete := by
  refine ⟨?_, ?_⟩
  · intro dt pin rising s hp hm hl u close
    have hexec : exec (.evtInEdge dt pin rising) s = .next (settle (evtIn pin rising u)) := execEvtInEdge_clocked hp hm
    have hul : u.ntu.evtIn = s.ntu.evtIn := State.advance_ntu_evtIn ..
    have hpin : pin < u.ntu.evtIn.length := by rw [hul, hl]; exact hp
    refine ⟨fun h => ?_, fun h hc => ⟨_, hexec, ?_⟩, fun h hc => ⟨_, hexec, ?_⟩⟩
    · rw [hexec, evtIn_unchosen h]
    · rw [evtIn_close h hc, settle_bit, settle_ntu, edgeMissed_evtIn, settle_buf, getD_listMod_self _ _ _ _ hpin]
      refine ⟨edgeMissed_event, rfl, rfl, State.advance_buf .., fun j hj => ?_⟩
      rw [getD_listMod_ne _ _ _ hj, hul]
    · obtain ⟨hntu, hcmd, hmck⟩ := edgeStamped_frame (pin := pin) (s := u) rising
      rw [evtIn_stamped h hc, settle_ntu, settle_cmd, settle_mck, hntu, hcmd, hmck]
      dsimp only
      rw [getD_listMod_self _ _ _ _ hpin]
      refine ⟨rfl, fun j hj => ?_, State.advance_cmd .., rfl⟩
      rw [getD_listMod_ne _ _ _ hj, hul]
  · intro dt pin s u h rest e hp hl hm hh he ht
    have hexec (hw : evtWaits pin h u = false) : exec (.evtOutEdge dt pin) s = .next (settle (evtDrive pin h rest u)) :=
      execEvtOutEdge_drives hm hh ht hw
    have hul : u.ntu.evtOut = s.ntu.evtOut := State.advance_ntu_evtOut ..
    have hpin : pin < u.ntu.evtOut.length := by rw [hul, hl]; exact hp
    refine ⟨fun hmode hw => ?_, fun hmode => ?_⟩
    · obtain ⟨o, v, hv, hntu, hcmd, hlevel, hrest⟩ := evtDrive_driven (h := h) (rest := rest) hmode he
      have hev : tget v.ntu.list h.entry = some e := by rw [hntu]; exact he
      refine ⟨_, _, hexec hw, ?_, ?_, (settle_ntu _).symm ▸ hv ▸ tget_slDone hev _ _, rfl, ?_, ?_, fun j hj => ?_⟩
      · rw [settle_ntu, hv, State.slDone_ntu, hntu]
        dsimp only
        rw [getD_listMod_self _ _ _ _ hpin]
        exact hlevel
      · rw [settle_ntu, hv, State.slDone_ntu, hntu]
        dsimp only
        rw [getD_listMod_self _ _ _ _ hpin]
        exact hrest
      · rw [settle_bit, hv]
        exact v.bit_slDone ..
      · rw [settle_cmd, hv, State.slDone_cmd, hcmd]
        exact State.advance_cmd ..
      · rw [settle_ntu, hv, State.slDone_ntu, hntu]
        dsimp only
        rw [getD_listMod_ne _ _ _ hj, hul]
    · have hev : tget (u.onEvt pin fun _ => { u.ntu.evtOut.getD pin {} with handed := rest }).ntu.list h.entry = some e := he
      refine ⟨_, _, hexec (evtWaits_wrongMode hmode), ?_, ?_,
        (settle_ntu _).symm ▸ evtDrive_wrongMode hmode ▸ tget_slDone hev _ _, rfl, rfl⟩
      · rw [settle_ntu, evtDrive_wrongMode hmode, State.slDone_ntu]
        simp only [State.onEvt]
        rw [getD_listMod_self _ _ _ _ hpin]
      · rw [settle_ntu, evtDrive_wrongMode hmode, State.slDone_ntu]
        simp only [State.onEvt]
        rw [getD_listMod_self _ _ _ _ hpin]
end

section
/-! SUPPORT. What a power request that ends, and the next that takes its place, leave alone of the rails; what a return from
WATCH does to the units; and what the entry to MOORED keeps of the always-on island. -/
namespace Sys2Proof.Machine

variable (s : State)

/-! ## Answers leave the PMU alone -/

theorem State.hold_pmu (r : Reply) : (s.hold r).pmu = s.pmu := by
  unfold State.hold
  dsimp only
  split_ifs <;> rfl

theorem State.slOutcome_pmu (e : Nat) (st : Status) : (s.slOutcome e st).pmu = s.pmu := by
  unfold State.slOutcome
  split
  · rfl
  · split
    · rfl
    · split
      · exact State.slDone_pmu ..
      · exact State.slDone_pmu ..

theorem State.answer_pmu (f : Flight) (st : Status) (word : Nat) (body : List Word) :
    (s.answer f st word body).pmu = s.pmu := by
  unfold State.answer
  dsimp only
  split
  · exact State.slOutcome_pmu ..
  · split <;> rfl
  · exact State.hold_pmu ..

/-! ## Power requests leave the rails alone -/

/-- The enables, PWR_GOOD and the place of the rail sequencer. -/
def State.supply (s : State) : BitVec 4 × Bool × RailSeq := (s.pmu.railEn, s.pmu.pwrGood, s.pmu.seq)

theorem State.supply_of_pmu {s t : State} (h : t.pmu = s.pmu) : t.supply = s.supply := by
  unfold State.supply
  rw [h]

theorem State.endRequest_supply (r : PowerReq) (st : Status) (m : Mode) (refuser reason : Nat) :
    (s.endRequest r st m refuser reason).supply = s.supply := by
  unfold State.endRequest
  dsimp only
  split
  · refine (State.supply_of_pmu (State.answer_pmu ..)).trans ?_
    split <;> rfl
  · split <;> rfl

theorem commitReq_supply (r : PowerReq) : (commitReq r s).supply = s.supply := by
  unfold commitReq
  dsimp only
  split
  · exact State.supply_of_pmu (State.slOutcome_pmu ..)
  · rfl

theorem tryRequest_supply (r : PowerReq) : (tryRequest r s).supply = s.supply := by
  unfold tryRequest
  dsimp only
  split
  · exact State.endRequest_supply ..
  · split
    · exact State.endRequest_supply ..
    · split
      · exact commitReq_supply ..
      · split <;> rfl

theorem afterRequest_supply : (afterRequest s).supply = s.supply := by
  unfold afterRequest
  extract_lets _ waited s1
  have h1 : s1.supply = s.supply := by
    unfold s1
    split
    · split <;> rfl
    · rfl
  split
  · rfl
  · split
    · exact (tryRequest_supply ..).trans h1
    · exact h1

theorem tryNext_supply : (tryNext s).supply = s.supply :=
  (afterRequest_supply _).trans (afterRequest_supply s)

/-- With no request and no change of ISLAND waiting, nothing follows the end of a request. -/
theorem tryNext_none (hs : s.pmu.slot = none) (ha : s.pmu.autoWait = none) : tryNext s = s := by
  have h : afterRequest s = s := by
    unfold afterRequest
    simp only [ha, hs]
    split <;> rfl
  unfold tryNext
  rw [h, h]

/-! ## The units at a return from WATCH -/

/-- Nothing of the PMU changes but its registers, in which flags are set alone. -/
def keepsPmu (s t : State) : Prop := t.pmu = s.pmu ∧ keepsBits s t

theorem keepsPmu.refl (s : State) : keepsPmu s s := ⟨rfl, .refl s⟩

theorem keepsPmu.trans {s t u : State} (h : keepsPmu s t) (h' : keepsPmu t u) : keepsPmu s u :=
  ⟨h'.1.trans h.1, h.2.trans h'.2⟩

theorem keepsPmu_foldl {α : Type} {f : State → α → State} (hf : ∀ t a, keepsPmu t (f t a)) (l : List α) (s : State) :
    keepsPmu s (l.foldl f s) :=
  ⟨foldl_keeps State.pmu f (fun t a => (hf t a).1) l s, keepsBits_foldl (fun t a => (hf t a).2) l s⟩

theorem keepsPmu_slDone (e : Nat) (st : SlState) (status : Nat) : keepsPmu s (s.slDone e st status) :=
  ⟨s.slDone_pmu e st status, keepsBits_slDone s e st status⟩

theorem keepsPmu_of {s t : State} (hp : t.pmu = s.pmu) (hr : t.regs = s.regs) : keepsPmu s t :=
  ⟨hp, keepsBits_of_regs hr⟩

theorem keepsPmu_slEvaluateOne (i : Nat) : keepsPmu s (slEvaluateOne s i) := by
  unfold slEvaluateOne
  split
  · exact .refl s
  · dsimp only
    split
    · exact .refl s
    · split
      · exact keepsPmu_of rfl rfl
      · split
        · refine .trans ?_ (keepsPmu_slDone _ i .dropped 0)
          exact keepsPmu_of rfl rfl
        · exact keepsPmu_of rfl rfl

theorem keepsPmu_slReevaluate : keepsPmu s (slReevaluate s) := by
  unfold slReevaluate slEvaluate
  refine .trans ?_ (keepsPmu_foldl keepsPmu_slEvaluateOne _ _)
  exact keepsPmu_of rfl rfl

theorem keepsPmu_linkTrain : keepsPmu s (linkTrain s) := by
  unfold linkTrain
  split
  · exact keepsPmu_of rfl rfl
  · exact .refl s

theorem keepsPmu_oblWakeForward : keepsPmu s (oblWakeForward s) := by
  unfold oblWakeForward State.oblWake
  split
  · split
    · exact .refl s
    · exact keepsPmu_of rfl rfl
  · exact .refl s

/-- Everything but the Obien unit, the references and the contents of the registers is as it was, and of the registers flags
are set alone. -/
def sameButLinks (s t : State) : Prop :=
  (∃ r m o refs, t = { s with regs := r, misparity := m, obl := o, mck := { s.mck with refs := refs } }) ∧ keepsBits s t

theorem sameButLinks.refl (s : State) : sameButLinks s s := ⟨⟨s.regs, s.misparity, s.obl, s.mck.refs, rfl⟩, .refl s⟩

theorem sameButLinks.trans {s t u : State} (h : sameButLinks s t) (h' : sameButLinks t u) : sameButLinks s u := by
  refine ⟨?_, h.2.trans h'.2⟩
  obtain ⟨⟨_, _, _, _, rfl⟩, -⟩ := h
  obtain ⟨⟨_, _, _, _, rfl⟩, -⟩ := h'
  exact ⟨_, _, _, _, rfl⟩

theorem sameButLinks_flag (a i : Nat) : sameButLinks s (s.flag a i) :=
  ⟨⟨_, _, s.obl, s.mck.refs, rfl⟩, keepsBits_flag s a i⟩

theorem sameButLinks_obl (o : Obl) : sameButLinks s { s with obl := o } :=
  ⟨⟨s.regs, s.misparity, o, s.mck.refs, rfl⟩, .refl s⟩

theorem sameButLinks_refs (refs : List RefClock) : sameButLinks s { s with mck := { s.mck with refs := refs } } :=
  ⟨⟨s.regs, s.misparity, s.obl, refs, rfl⟩, .refl s⟩

theorem sameButLinks_trackRefs : sameButLinks s s.trackRefs := by
  unfold State.trackRefs
  dsimp only
  split
  · exact (sameButLinks_refs s _).trans (sameButLinks_flag ..)
  · exact sameButLinks_refs s _

theorem sameButLinks_onObl (q : Nat) (f : OblPort → OblPort) : sameButLinks s (s.onObl q f) := sameButLinks_obl s _

theorem sameButLinks_oblBreak (q : Nat) : sameButLinks s (oblBreak q s) := by
  unfold oblBreak
  extract_lets lost s1 _ cox seat
  have h1 : sameButLinks s s1 := sameButLinks_onObl s q _
  have hcox : sameButLinks s cox := by
    unfold cox
    split
    · exact h1.trans (sameButLinks_obl s1 _)
    · exact h1
  have hseat : sameButLinks s seat := h1.trans (sameButLinks_obl s1 _)
  split
  · split
    · exact hcox
    · exact hcox.trans (sameButLinks_flag cox _ _)
  · split
    · split
      · exact hseat
      · exact hseat.trans (sameButLinks_flag seat _ _)
    · exact h1

theorem sameButLinks_oblLeave (q st cause : Nat) : sameButLinks s (s.oblLeave q st cause) := by
  unfold State.oblLeave
  extract_lets run s1
  have h1 : sameButLinks s s1 := sameButLinks_onObl s q _
  split
  · exact (h1.trans (sameButLinks_oblBreak s1 q)).trans (sameButLinks_trackRefs _)
  · exact h1

theorem sameButLinks_foldl {α : Type} {f : State → α → State} (hf : ∀ t a, sameButLinks t (f t a)) (l : List α) (s : State) :
    sameButLinks s (l.foldl f s) := by
  induction l generalizing s with
  | nil => exact .refl s
  | cons a l ih => exact (hf s a).trans (ih (f s a))

theorem sameButLinks_oblPower : sameButLinks s (oblPower s) := by
  unfold oblPower
  refine (sameButLinks_foldl (fun t q => ?_) [0, 1] s).trans (sameButLinks_trackRefs _)
  dsimp only
  split
  · split
    · exact .refl t
    · exact sameButLinks_oblLeave t q 0 0
  · split
    · exact sameButLinks_onObl t q _
    · exact .refl t

theorem keepsPmu_oblPower : keepsPmu s (oblPower s) := by
  obtain ⟨⟨_, _, _, _, h⟩, hb⟩ := sameButLinks_oblPower s
  exact ⟨by rw [h], hb⟩

theorem keepsPmu_modeUnits_back {m : Mode} (hm : m = .quiet ∨ m = .safe) : keepsPmu s (modeUnits .watch m false s) := by
  have hback : modeUnits .watch m false s
      = linkTrain (slReevaluate (if s.mck.grid then s else { s with mck := { s.mck with gridStart := true } })) := by
    rcases hm with rfl | rfl <;> rfl
  rw [hback]
  refine .trans ?_ ((keepsPmu_slReevaluate _).trans (keepsPmu_linkTrain _))
  split
  · exact .refl s
  · exact keepsPmu_of rfl rfl

/-- The PMU as QUIET or SAFE comes into force in WATCH. -/
def pmuBack (m : Mode) (p : Pmu) : Pmu :=
  { p with mode := m, prevMode := .watch, islandAuto := false, modeNext := none, modeLate := false, autoNext := false
           forced := none, forcing := false }

/-- The return to QUIET or SAFE from WATCH: the PMU, and PMU_EVENT.MODE. -/
theorem enterMode_back {m : Mode} (hm : m = .quiet ∨ m = .safe) (hw : s.mode = .watch) :
    (s.enterMode m false).pmu = pmuBack m s.pmu ∧ (s.enterMode m false).bit Reg.PMU_EVENT 0 = true := by
  have hback : s.enterMode m false
      = oblPower (modeUnits .watch m false (State.flag { s with pmu := pmuBack m s.pmu } Reg.PMU_EVENT 0)) := by
    unfold State.enterMode
    rcases hm with rfl | rfl <;> simp [hw, pmuBack, sleeps, clocked]
  obtain ⟨hp, hb⟩ := (keepsPmu_modeUnits_back (State.flag { s with pmu := pmuBack m s.pmu } Reg.PMU_EVENT 0) hm).trans
    (keepsPmu_oblPower _)
  rw [hback]
  exact ⟨hp, hb _ _ (State.bit_flag_self _ _ _ (by decide))⟩

theorem wakeDone_pmu : (wakeDone s).pmu = { s.pmu with waking := false } := by
  unfold wakeDone
  split
  · rfl
  · next h =>
    rw [show false = s.pmu.waking by simpa using h]

theorem keepsBits_wakeDone : keepsBits s (wakeDone s) := by
  unfold wakeDone
  split
  · refine .trans ?_ (keepsBits_flag _ Reg.PMU_EVENT 5)
    exact keepsBits_of_regs rfl
  · exact .refl s

theorem wakeDone_event (h : s.pmu.waking = true) : (wakeDone s).bit Reg.PMU_EVENT 5 = true := by
  unfold wakeDone
  rw [if_pos h]
  exact State.bit_flag_self _ _ _ (by decide)

/-- The return from WATCH with no request and no change of ISLAND waiting. -/
theorem backFromWatch_none {m : Mode} (hm : m = .quiet ∨ m = .safe) (hw : s.mode = .watch) (hs : s.pmu.slot = none)
    (ha : s.pmu.autoWait = none) :
    (backFromWatch m s).pmu = { pmuBack m s.pmu with seq := .idle, waking := false }
    ∧ (backFromWatch m s).bit Reg.PMU_EVENT 0 = true
    ∧ (s.pmu.waking = true → (backFromWatch m s).bit Reg.PMU_EVENT 5 = true) := by
  let s1 := State.enterMode { s with pmu := { s.pmu with seq := .idle } } m false
  let s2 := if m = .quiet then oblWakeForward s1 else s1
  obtain ⟨hp1, hb1⟩ := enterMode_back { s with pmu := { s.pmu with seq := .idle } } hm hw
  have h2 : keepsPmu s1 s2 := by
    unfold s2
    split
    · exact keepsPmu_oblWakeForward s1
    · exact .refl s1
  have hp2 : s2.pmu = { pmuBack m s.pmu with seq := .idle } := h2.1.trans hp1
  have hback : backFromWatch m s = wakeDone s2 := by
    refine tryNext_none _ ?_ ?_
    · rw [wakeDone_pmu, show s2.pmu = _ from hp2]
      exact hs
    · rw [wakeDone_pmu, show s2.pmu = _ from hp2]
      exact ha
  rw [hback]
  refine ⟨?_, keepsBits_wakeDone s2 _ _ (h2.2 _ _ hb1), fun hwaking => wakeDone_event s2 ?_⟩
  · rw [wakeDone_pmu, hp2]
  · rw [hp2]
    exact hwaking

/-! ## The entry to MOORED -/

/-- An entry whose key a filter keeps. -/
theorem tget_filter_key {α : Type} (t : Table α) (p : Nat → Bool) {k : Nat} (h : p k = true) :
    tget (t.filter fun e => p e.1) k = tget t k := by
  induction t with
  | nil => rfl
  | cons e t ih =>
    obtain ⟨a, v⟩ := e
    by_cases ha : a = k
    · subst ha
      simp [h, tget]
    · cases hp : p a <;> simp [hp, ha, tget, ih]

/-- The registers of the always-on island keep their contents as the core loses power (R111, R115). -/
theorem coreOff_reg {a : Nat} (h : 0x4000 ≤ a) (h' : a < 0x4100) : (coreOff s).reg a = s.reg a := by
  have hk : (decide (0x4000 ≤ a) && decide (a < 0x4100)) = true := by simp [h, h']
  exact congrArg (·.getD (regReset a)) (tget_filter_key s.regs (fun k => decide (0x4000 ≤ k) && decide (k < 0x4100)) hk)

/-- The entry to MOORED: the core loses power after MOOR_COUNT has counted, with the always-on registers otherwise as they
were but for PMU_EVENT.MODE, and of the rails nothing has changed yet. -/
theorem enterMode_moored : ∃ u : State, s.enterMode .moored false = coreOff (u.bump Reg.PMU_MOOR_COUNT) ∧ keepsBits s u
    ∧ u.mode = .moored ∧ u.pmu.porN = s.pmu.porN ∧ u.pmu.req = s.pmu.req ∧ u.supply = s.supply := by
  unfold State.enterMode
  simp only [Bool.false_eq_true, if_false, if_true]
  refine ⟨_, rfl, ?_, ?_⟩
  · split
    · exact keepsBits_of_regs rfl
    · refine .trans ?_ (keepsBits_flag _ Reg.PMU_EVENT 0)
      exact keepsBits_of_regs rfl
  · split
    · exact ⟨rfl, rfl, rfl, rfl⟩
    · exact ⟨rfl, rfl, rfl, rfl⟩

/-- A flag of the island, which MOOR_COUNT is not, stands as the count goes up and the core loses power. -/
theorem coreOff_bump_bit {a i : Nat} (hb : s.bit a i = true) (h : 0x4000 ≤ a) (h' : a < 0x4100)
    (hc : a ≠ Reg.PMU_MOOR_COUNT) : (coreOff (s.bump Reg.PMU_MOOR_COUNT)).bit a i = true := by
  unfold State.bit
  rw [coreOff_reg _ h h', State.bump, State.reg_setReg_ne _ _ hc]
  exact hb

end Sys2Proof.Machine
end

section
/-! SUPPORT. The steps of the rail sequencer. -/
namespace Sys2Proof.Machine

variable {s : State}

/-! ## The enables rise and fall -/

theorem railUp_some {g : RailGoal} {i : Nat} (hq : s.pmu.seq = .rising g) (hi : lowestLow s.pmu.railEn = some i) :
    railUp s = { s with pmu := { s.pmu with
      railEn := s.pmu.railEn ||| ((1 : BitVec 4) <<< i)
      seq := if s.pmu.railEn ||| ((1 : BitVec 4) <<< i) = 0xF then .waitGood g else .rising g } } := by
  unfold railUp
  simp only [hq, hi]

theorem railUp_none {g : RailGoal} (hq : s.pmu.seq = .rising g) (hi : lowestLow s.pmu.railEn = none) :
    railUp s = { s with pmu := { s.pmu with seq := .waitGood g } } := by
  unfold railUp
  simp only [hq, hi]

theorem railsDown_supply (next : Option RailGoal) : (railsDown next s).supply = (s.pmu.railEn, s.pmu.pwrGood, .off next) := by
  unfold railsDown
  dsimp only
  split
  · split
    · exact tryNext_supply _
    · rfl
  · rfl

theorem railsDown_none (next : Option RailGoal) (h : s.pmu.req = none) :
    railsDown next s = { s with pmu := { s.pmu with seq := .off next } } := by
  unfold railsDown
  dsimp only
  rw [h]

/-- A power request whose rails have fallen ends there (R117). -/
theorem railsDown_ends (next : Option RailGoal) {r : PowerReq} (h : s.pmu.req = some r) (hr : r.stage = .rails)
    (hs : s.pmu.slot = none) (ha : s.pmu.autoWait = none) :
    (railsDown next s).pmu.req = none ∧ (railsDown next s).bit Reg.PMU_EVENT 1 = true := by
  have hdown : railsDown next s = State.hsFree { s with pmu := { s.pmu with seq := .off next } } r 0 0 := by
    unfold railsDown
    dsimp only
    rw [h]
    dsimp only
    rw [if_pos hr]
    exact tryNext_none _ hs ha
  rw [hdown]
  exact ⟨rfl, State.bit_flag_self _ _ _ (by decide)⟩

/-- The state with the enables `e` as one of them has just fallen, and PWR_GOOD with it. -/
def enablesFallen (e : BitVec 4) (s : State) : State := { s with pmu := { s.pmu with railEn := e, pwrGood := false } }

theorem railDown_moored {next : Option RailGoal} {i : Nat} (hq : s.pmu.seq = .falling .moored next)
    (hi : highestHigh s.pmu.railEn = some i) :
    railDown s = (let e := s.pmu.railEn &&& ~~~((1 : BitVec 4) <<< i)
      if e = 0 then railsDown next (enablesFallen e s) else enablesFallen e s) := by
  unfold railDown enablesFallen
  simp [hq, hi]

theorem railDown_watch {next : Option RailGoal} (hq : s.pmu.seq = .falling .watch next) (he : s.pmu.railEn = 0xF) :
    railDown s = railsDown next (enablesFallen 7 s) := by
  unfold railDown enablesFallen
  simp [hq, he]

/-- One step of a fall to MOORED: the rails, and with no request in progress nothing else. -/
theorem railDown_moored_step {next : Option RailGoal} {i : Nat} (hq : s.pmu.seq = .falling .moored next)
    (hi : highestHigh s.pmu.railEn = some i) :
    let e := s.pmu.railEn &&& ~~~((1 : BitVec 4) <<< i)
    (railDown s).supply = (e, false, if e = 0 then .off next else .falling .moored next)
    ∧ (s.pmu.req = none → (railDown s).regs = s.regs ∧ (railDown s).mode = s.mode) := by
  intro e
  rw [railDown_moored hq hi]
  dsimp only
  split
  · next h0 =>
    refine ⟨?_, fun hr => ?_⟩
    · rw [railsDown_supply]
      rfl
    · rw [railsDown_none (s := enablesFallen _ s) next hr]
      exact ⟨rfl, rfl⟩
  · next h0 =>
    refine ⟨?_, fun _ => ⟨rfl, rfl⟩⟩
    show (e, false, s.pmu.seq) = _
    rw [hq]

/-! ## A PWR_GOOD failure -/

/-- What a PWR_GOOD failure leaves (R56, R104, R126). -/
def railsFailed (s t : State) : Prop :=
  t.pmu.pgFault = true ∧ t.faultN = t.pmu.porN ∧ t.pmu.porN = s.pmu.porN ∧ t.pmu.seq = .falling .moored none
  ∧ t.pmu.railEn = s.pmu.railEn ∧ t.pmu.req = none ∧ t.pmu.slot = none ∧ t.bit Reg.PMU_EVENT 6 = true
  ∧ t.bit Reg.PMU_WAKE_REASON 9 = true ∧ t.mode = .moored ∧ t.cmd.flights = []

theorem railsFailed_settle {t : State} (h : railsFailed s t) : railsFailed s (settle t) := by
  simpa [railsFailed, State.faultN] using h

theorem faultN_of_pgFault (h : s.pmu.pgFault = true) : s.faultN = s.pmu.porN := by
  simp [State.faultN, h]

theorem pgFail_failed (hm : fallsMoored s = true → s.mode = .moored ∧ s.cmd.flights = []) :
    railsFailed s (pgFail s) ∧ (pgFail s).pmu.pwrGood = s.pmu.pwrGood := by
  let s1 := dropRequests ((s.flag Reg.PMU_EVENT 6).flag Reg.PMU_WAKE_REASON 9)
  have h6 : s1.bit Reg.PMU_EVENT 6 = true := keepsBits_flag _ _ _ _ _ (State.bit_flag_self _ _ _ (by decide))
  have h9 : s1.bit Reg.PMU_WAKE_REASON 9 = true := State.bit_flag_self _ _ _ (by decide)
  cases hf : fallsMoored s with
  | true =>
    obtain ⟨hmode, hfl⟩ := hm hf
    have hfail : pgFail s
        = { s1 with pmu := { s1.pmu with pgFault := true, waking := false, seq := .falling .moored none } } := by
      unfold pgFail
      simp only [hf, if_true]
      rfl
    rw [hfail]
    exact ⟨⟨rfl, faultN_of_pgFault rfl, rfl, rfl, rfl, rfl, rfl, h6, h9, hmode, hfl⟩, rfl⟩
  | false =>
    obtain ⟨u, hu, hbits, hmode, hpor, hreq, hsup⟩ := enterMode_moored s1
    simp only [State.supply, Prod.mk.injEq] at hsup
    obtain ⟨hen, hgood, -⟩ := hsup
    let s2 := coreOff (u.bump Reg.PMU_MOOR_COUNT)
    have hfail : pgFail s
        = { s2 with pmu := { s2.pmu with pgFault := true, waking := false, seq := .falling .moored none } } := by
      unfold pgFail
      simp only [hf, Bool.false_eq_true, if_false, ← hu, s2, s1]
    rw [hfail]
    refine ⟨⟨rfl, faultN_of_pgFault rfl, hpor, rfl, hen, hreq, rfl, ?_, ?_, hmode, rfl⟩, hgood⟩
    · exact coreOff_bump_bit u (hbits _ _ h6) (by decide) (by decide) (by decide)
    · exact coreOff_bump_bit u (hbits _ _ h9) (by decide) (by decide) (by decide)

/-- PWR_GOOD is lost with all four enables high and no raise in progress. -/
theorem execPwrGoodFail_fails (hq : ∀ g, s.pmu.seq ≠ .rising g ∧ s.pmu.seq ≠ .waitGood g) (he : s.pmu.railEn = 0xF)
    (hg : s.pmu.pwrGood = true) :
    execPwrGoodFail s = .next (settle (pgFail { fresh s with pmu := { s.pmu with pwrGood := false } })) := by
  unfold execPwrGoodFail
  refine congrArg (fun t => Host.Outcome.next (settle t)) (if_pos ?_)
  simp only [fresh_pmu, he, hg, decide_true, Bool.and_true]
  split
  · next g h => exact absurd h (hq g).1
  · next g h => exact absurd h (hq g).2
  · rfl

end Sys2Proof.Machine
end

section
/-! The statement of the rail sequencer. -/
open Sys2Proof Sys2Proof.Machine

/-- Settles O43: the steps of the enables (`railUp_some`, `railDown_moored_step`, `railDown_watch`), the return from WATCH
(`backFromWatch_none`) and the failures of PWR_GOOD (`pgFail_failed`), each brought to its end by `settle`. -/
theorem railSequenceCompletes : Obligations.RailSequenceCompletes := by
  intro s g
  refine ⟨fun hq => ⟨fun i hi => ?_, fun hi => ?_⟩, fun next i hq hi => ?_, fun next hq he => ?_, fun hq => ?_,
    fun hq => ?_, fun c hq => ?_, fun m hm hq hw hr hs ha => ?_, ?_⟩
  · exact congrArg (fun t => Host.Outcome.next (settle t)) (railUp_some (s := fresh s) hq hi)
  · exact congrArg (fun t => Host.Outcome.next (settle t)) (railUp_none (s := fresh s) hq hi)
  · obtain ⟨hsup, hreq⟩ := railDown_moored_step (s := fresh s) hq hi
    simp only [State.supply, Prod.mk.injEq] at hsup
    obtain ⟨he, hg, hseq⟩ := hsup
    refine ⟨settle (railDown (fresh s)), rfl, ?_, ?_, ?_, fun h => ?_⟩
    · rw [settle_pmu, he]
      rfl
    · rw [settle_pmu, hg]
    · rw [settle_pmu, hseq, he]
    · rw [settle_regs, settle_mode]
      exact hreq h
  · have hdown := railDown_watch (s := fresh s) hq he
    have hsup := railsDown_supply (s := enablesFallen 7 (fresh s)) next
    rw [← hdown] at hsup
    simp only [State.supply, Prod.mk.injEq] at hsup
    obtain ⟨hen, hg, hseq⟩ := hsup
    refine ⟨settle (railDown (fresh s)), rfl, ?_, ?_, ?_, fun r hr hst hs ha => ?_⟩
    · rw [settle_pmu, hen]
      rfl
    · rw [settle_pmu, hg]
      rfl
    · rw [settle_pmu, hseq]
    · rw [settle_pmu, settle_bit, hdown]
      exact railsDown_ends (s := enablesFallen 7 (fresh s)) next hr hst hs ha
  · show execRailOffElapsed s = _
    simp only [execRailOffElapsed, fresh_pmu, hq]
  · have hexec : exec .railOffElapsed s
        = .next (settle (cycleReason g { fresh s with pmu := { s.pmu with seq := .rising g } })) := by
      show execRailOffElapsed s = _
      simp only [execRailOffElapsed, fresh_pmu, hq]
    refine ⟨_, hexec, ?_, fun h => ?_, fun h => ?_⟩
    · rw [settle_pmu]
      unfold cycleReason
      split <;> rfl
    · rw [settle_bit, cycleReason, if_pos h]
      exact State.bit_flag_self _ _ _ (by decide)
    · rw [settle_regs, cycleReason, if_neg h]
      rfl
  · show execPwrGoodRise s = _
    simp only [execPwrGoodRise, fresh_pmu, hq]
  · let s1 : State := { fresh s with pmu := { s.pmu with pwrGood := true } }
    have hexec : exec .pwrGoodRise s = .next (settle (backFromWatch m s1)) := by
      show execPwrGoodRise s = _
      simp only [execPwrGoodRise, fresh_pmu, hq]
      rfl
    obtain ⟨hpmu, h0, h5⟩ := backFromWatch_none s1 hm hw hs ha
    refine ⟨_, hexec, ?_, ?_, ?_, ?_, ?_, ?_, fun hwk => ?_⟩
    · rw [settle_mode, State.mode, hpmu]
      rfl
    · rw [settle_pmu, hpmu]
      rfl
    · rw [settle_pmu, hpmu]
      rfl
    · rw [settle_pmu, hpmu]
    · rw [settle_pmu, hpmu]
    · rw [settle_bit]
      exact h0
    · rw [settle_bit]
      exact h5 hwk
  · refine ⟨fun hq => ?_, fun hrise he hpg hm => ?_⟩
    · have hexec : exec .pwrGoodTimeout s = .next (settle (pgFail (fresh s))) := by
        show execPwrGoodTimeout s = _
        simp only [execPwrGoodTimeout, fresh_pmu, hq]
      have hf : fallsMoored (fresh s) = false := by simp [fallsMoored, hq]
      exact ⟨_, hexec, railsFailed_settle (pgFail_failed (s := fresh s) (by simp [hf])).1⟩
    · let s1 : State := { fresh s with pmu := { s.pmu with pwrGood := false } }
      have hexec : exec .pwrGoodFail s = .next (settle (pgFail s1)) :=
        execPwrGoodFail_fails hrise he hpg
      obtain ⟨hfail, hgood⟩ := pgFail_failed (s := s1) hm
      refine ⟨_, hexec, ?_, railsFailed_settle hfail⟩
      rw [settle_pmu, hgood]
end

section
/-! SUPPORT. What a fault under the policy FLAG leaves alone, and the core as its reset is released. -/
namespace Sys2Proof.Machine

variable (s : State)

/-! ## The fault log -/

/-- Everything but the Umpire, the Slip queues and the contents of the registers is as it was. -/
def sameButLog (s t : State) : Prop :=
  ∃ r m u q, t = { s with regs := r, misparity := m, ump := u, buf := { s.buf with queues := q } }

theorem sameButLog.refl (s : State) : sameButLog s s := ⟨s.regs, s.misparity, s.ump, s.buf.queues, rfl⟩

theorem sameButLog.trans {s t u : State} (h : sameButLog s t) (h' : sameButLog t u) : sameButLog s u := by
  obtain ⟨_, _, _, _, rfl⟩ := h
  obtain ⟨_, _, _, _, rfl⟩ := h'
  exact ⟨_, _, _, _, rfl⟩

theorem sameButQueues.log {s t : State} (h : sameButQueues s t) : sameButLog s t := by
  obtain ⟨_, _, _, rfl⟩ := h
  exact ⟨_, _, s.ump, _, rfl⟩

theorem sameButLog_ump (u : Ump) : sameButLog s { s with ump := u } := ⟨s.regs, s.misparity, u, s.buf.queues, rfl⟩

theorem sameButLog_setReg (a : Nat) (v : Word) : sameButLog s (s.setReg a v) := (sameButQueues_setReg s a v).log

theorem sameButQueues_appendLog (suppressed : Nat) (ws : List Word) : sameButQueues s (s.appendLog suppressed ws) := by
  unfold State.appendLog
  split
  · exact .refl s
  · exact sameButQueues_setQueue ..

theorem sameButLog_logEntry (code unit action : Nat) (injected : Bool) (suppressed : Nat) (detail : Word) :
    sameButLog s (s.logEntry code unit action injected suppressed detail) := by
  unfold State.logEntry
  extract_lets w0 ws _ s1 s2 _
  have h2 : sameButLog s s2 :=
    ((sameButLog_ump s _).trans (sameButLog_setReg s1 _ _)).trans (sameButLog_setReg _ _ _)
  split
  · exact h2.trans (sameButQueues_appendLog s2 _ _).log
  · exact h2.trans (sameButLog_ump s2 _)

/-- A fault under FLAG is logged and sets its event (R643). -/
theorem sameButLog_raiseFlag (code unit : Nat) (detail : Word) (injected : Bool) :
    sameButLog s (s.raiseAs code unit detail injected polFlag) := by
  unfold State.raiseAs
  dsimp only
  rw [if_neg (by decide), if_neg (by decide)]
  refine .trans ?_ (sameButQueues_flag _ Reg.PMU_UMP_EVENT code).log
  split
  · exact (sameButLog_logEntry ..).trans (sameButLog_ump _ _)
  · exact sameButLog_ump s _

/-- The early entries go to queue 27, which leaves none of them (R649). -/
theorem flushLog_eq : ∃ r m q, s.flushLog
    = { s with regs := r, misparity := m, buf := { s.buf with queues := q }, ump := { s.ump with early := [] } } := by
  have h : ∀ (l : List (Nat × List Word)) (t : State), sameButQueues t (l.foldl (fun t e => t.appendLog e.1 e.2) t) := by
    intro l
    induction l with
    | nil => exact .refl
    | cons e l ih => exact fun t => (sameButQueues_appendLog t _ _).trans (ih _)
  exact h s.ump.early _

/-! ## The release of the core reset -/

/-- A factory record that fails its checks is a fault of policy FLAG (R641). -/
theorem policy_record : s.policy 10 = polFlag := by
  simp [State.policy, policyRow]

theorem sameButLog_bootChecks : sameButLog s (bootChecks s) := by
  unfold bootChecks
  extract_lets s1 s2
  have h1 : sameButLog s s1 := by
    unfold s1
    split
    · exact .refl s
    · unfold State.raise
      rw [policy_record]
      exact sameButLog_raiseFlag ..
  have h2 : sameButLog s s2 := by
    unfold s2
    split
    · exact h1.trans (sameButLog_setReg s1 _ _)
    · exact h1
  split
  · exact h2
  · exact h2.trans (sameButLog_setReg s2 _ _)

theorem wakeDone_eq : ∃ r m, wakeDone s = { s with regs := r, misparity := m, pmu := { s.pmu with waking := false } } := by
  unfold wakeDone
  split
  · exact ⟨_, _, rfl⟩
  · next h =>
    refine ⟨s.regs, s.misparity, ?_⟩
    rw [show false = s.pmu.waking by simpa using h]

/-- The core in BOOT: `bootState` over the core without power, but for the registers, the Obien ports, the references, the
Umpire and the queues, and the end of a wake. -/
theorem bootCore_eq (c : Nat) (words : List Word) :
    let b := bootState c (if c = 3 then s.pmu.prevMode else .moored) (recordTable words) (coreOff s)
    ∃ r m o refs u q, bootCore c words s = { b with
      regs := r, misparity := m, obl := o, mck := { b.mck with refs := refs }, ump := u
      buf := { b.buf with queues := q }, pmu := { b.pmu with waking := false } } := by
  intro b
  let u := if c = 1 then bootChecks b else (bootChecks b).flag Reg.PMU_EVENT 0
  obtain ⟨_, _, _, _, hchecks⟩ : sameButLog b u := by
    unfold u
    split
    · exact sameButLog_bootChecks b
    · exact (sameButLog_bootChecks b).trans (sameButQueues_flag ..).log
  obtain ⟨⟨_, _, _, _, hpower⟩, -⟩ := sameButLinks_oblPower u
  obtain ⟨_, _, hwake⟩ := wakeDone_eq (oblPower u)
  have hcore : bootCore c words s = wakeDone (oblPower u) := rfl
  rw [hcore, hwake, hpower, hchecks]
  exact ⟨_, _, _, _, _, _, rfl⟩

end Sys2Proof.Machine
end

section
/-! SUPPORT. The Command Processor as it becomes ready, after a start, a boot image or a restart. -/
namespace Sys2Proof.Machine

variable {s : State}

/-- The Command Processor as CMD_READY rises: the markers stand before every reply that was kept (R172, R236). -/
def cmdReadied (s : State) : Cmd :=
  { s.cmd with ready := true, restarting := false, after := [], image := [], imageAt := none, imageStop := false
               held := s.cmd.held ++ [s.marker .host, s.marker .mgmt] ++ s.cmd.after }

theorem makeReady_eq (hb : s.patch.busy = false) :
    makeReady s = (({ s with cmd := cmdReadied s } : State).flag Reg.HIF_EVENT 0).flag Reg.CMD_EVENT 0 := by
  have hp : s.patchReady = s := by
    unfold State.patchReady
    simp [hb]
  unfold makeReady
  rw [hp]
  rfl

/-- With nothing waiting, CMD_READY is all that comes. -/
theorem readyNow_eq (hb : s.patch.busy = false) (hw : s.cmd.weigh = none) (hq : s.hif.cmdQueue = []) (ht : s.cmd.tunnelIn = []) :
    readyNow s = (({ s with cmd := cmdReadied s } : State).flag Reg.HIF_EVENT 0).flag Reg.CMD_EVENT 0 := by
  have hweigh : weighServe (makeReady s) = makeReady s := by
    rw [makeReady_eq hb]
    unfold weighServe
    simp [cmdReadied, hw]
  unfold readyNow
  rw [hweigh, makeReady_eq hb]
  simp [cmdReadied, hq, ht, drainQueue, drainTunnel]

/-- A boot image of no packets as it has been loaded. -/
def imageTaken (s : State) : State :=
  { s with cmd := { s.cmd with image := [], imageAt := none, imageStop := false, imageLoaded := true } }

/-- The Command Processor drops an image that has failed (R91). -/
def imageFailed (s : State) : State :=
  { s with cmd := { s.cmd with imageFail := true, image := [], imageAt := none, imageStop := false } }

/-- The last packet of an image has been executed. -/
theorem imageRun_end {n i : Nat} (ha : s.cmd.imageAt = some i) (hst : s.cmd.imageStop = false)
    (hf : (s.cmd.flights.any fun f => decide (f.src = .image)) = false) (hi : s.cmd.image = []) :
    imageRun (n + 1) s = readyNow { s with cmd := { s.cmd with imageAt := none } } := by
  unfold imageRun
  simp only [ha, hst, hf, hi, Bool.false_eq_true, if_false]

theorem imageLoad_taken {ws : List Word} (hok : imageCheck ws = .ok []) (hp : ws.getD 4 0 = 0) (hf : s.cmd.flights = []) :
    imageLoad ws s = readyNow (imageTaken s) := by
  have hpatch : imagePatch ws s = (s, true) := if_pos (show (ws.getD 4 0).toNat = 0 by rw [hp]; rfl)
  have hnone : (s.cmd.flights.any fun f => decide (f.src = .image)) = false := by
    rw [hf]
    rfl
  unfold imageLoad
  simp only [hok, hpatch, Bool.not_true, Bool.false_eq_true, if_false]
  exact imageRun_end (n := 2) rfl rfl hnone rfl

theorem imageLoad_failed {ws : List Word} {reason word : Nat} (he : imageCheck ws = .error (reason, word))
    (hb : s.pmu.straps.bootSrc = 2) :
    imageLoad ws s = readyNow ((imageFailed s).raiseAs 5 12 (w32 (word % 2 ^ 24 + 2 ^ 24 * reason)) false polFlag) := by
  unfold imageLoad
  rw [he]
  dsimp only
  unfold imageFails
  simp [hb, imageFailed]

section
variable {ws : List Word} (hb : s.patch.busy = false) (hw : s.cmd.weigh = none) (hq : s.hif.cmdQueue = [])
  (ht : s.cmd.tunnelIn = [])
include hb hw hq ht

/-- A boot image of no packets and no patch is loaded, and the Command Processor is ready. -/
theorem imageLoad_empty (hok : imageCheck ws = .ok []) (hp : ws.getD 4 0 = 0) (hf : s.cmd.flights = []) :
    (imageLoad ws s).cmd.imageLoaded = true ∧ (imageLoad ws s).cmd.imageFail = s.cmd.imageFail
    ∧ (imageLoad ws s).cmd.ready = true ∧ (imageLoad ws s).mode = s.mode := by
  rw [imageLoad_taken hok hp hf, readyNow_eq (s := imageTaken s) hb hw hq ht]
  exact ⟨rfl, rfl, rfl, rfl⟩

/-- A boot image that fails its checks under BOOT_SRC 2 is dropped, and the Command Processor is ready. -/
theorem imageLoad_fails {e : Nat × Nat} (he : imageCheck ws = .error e) (hsrc : s.pmu.straps.bootSrc = 2) :
    (imageLoad ws s).cmd.imageFail = true ∧ (imageLoad ws s).cmd.ready = true ∧ (imageLoad ws s).mode = s.mode := by
  obtain ⟨reason, word⟩ := e
  rw [imageLoad_failed he hsrc]
  generalize hu : (imageFailed s).raiseAs 5 12 _ false polFlag = u
  obtain ⟨_, _, _, _, hlog⟩ : sameButLog (imageFailed s) u := hu ▸ sameButLog_raiseFlag ..
  rw [readyNow_eq (s := u) (by rw [hlog]; exact hb) (by rw [hlog]; exact hw) (by rw [hlog]; exact hq)
    (by rw [hlog]; exact ht), hlog]
  exact ⟨rfl, rfl, rfl⟩
end

end Sys2Proof.Machine
end

section
/-! SUPPORT. Wake events, and the frames that wake. -/
namespace Sys2Proof.Machine

/-! ## Fields of a word -/

/-- A field reads as the number that was put into it. -/
theorem fieldOf_withField (w : Word) {hi lo : Nat} (v : Nat) (h : hi < 32) :
    fieldOf (withField w hi lo v) hi lo = v % 2 ^ (hi + 1 - lo) := by
  refine Nat.eq_of_testBit_eq fun i => ?_
  unfold fieldOf withField w32
  rw [Nat.testBit_mod_two_pow, Nat.testBit_mod_two_pow, Nat.testBit_shiftRight, BitVec.testBit_toNat]
  by_cases hi' : i < hi + 1 - lo
  · have h32 : lo + i < 32 := by omega
    simp only [BitVec.getLsbD_or, BitVec.getLsbD_and, BitVec.getLsbD_not, BitVec.getLsbD_ofNat, Nat.testBit_shiftLeft,
      Nat.add_sub_cancel_left, Nat.testBit_two_pow_sub_one]
    simp [hi', h32]
  · simp [hi']

/-- A bit below a field does not show in it. -/
theorem fieldOf_or_below (w : Word) {hi lo i : Nat} (h : i < lo) : fieldOf (w ||| (1 <<< i)) hi lo = fieldOf w hi lo := by
  refine Nat.eq_of_testBit_eq fun j => ?_
  unfold fieldOf
  rw [Nat.testBit_mod_two_pow, Nat.testBit_mod_two_pow, Nat.testBit_shiftRight, Nat.testBit_shiftRight,
    BitVec.testBit_toNat, BitVec.testBit_toNat]
  have hne : ¬i = lo + j := by omega
  rw [BitVec.getLsbD_or, BitVec.natCast_eq_ofNat, BitVec.getLsbD_ofNat, Nat.one_shiftLeft, Nat.testBit_two_pow,
    decide_eq_false hne]
  simp

variable {s : State}

/-! ## Wake events -/

/-- The sequencer after a wake event: a raise begins from rest, or follows the fall or T_OFF (R57, R107). -/
def seqWoken (s : State) : RailSeq :=
  match s.pmu.seq with
  | .idle => .rising (wakeGoal s.mode)
  | .off none => .off (some (wakeGoal s.mode))
  | .falling d none => .falling d (some (wakeGoal s.mode))
  | q => q

theorem wakeEvent_none {bit : Nat} {pins : Bool} (h : s.bit Reg.PMU_WAKE_CFG bit = false ∨ clocked s.mode = true) :
    wakeEvent bit pins s = s := by
  unfold wakeEvent
  rcases h with h | h <;> simp [h, sleeps]

/-- The raise begins, or follows, and the reason of source `bit` of PMU_WAKE_CFG is set (R106, R107). -/
def wakeRaised (bit : Nat) (s : State) : State :=
  ({ s with pmu := { s.pmu with seq := seqWoken s, waking := true } } : State).flag Reg.PMU_WAKE_REASON (bit + 1)

theorem wakeEvent_wakes {bit : Nat} {pins : Bool} (hp : s.pmu.porN = true) (hm : clocked s.mode = false)
    (hb : s.bit Reg.PMU_WAKE_CFG bit = true) (hs : bit < 2 ∨ s.mode = .watch) :
    wakeEvent bit pins s = if pins then wakePins (wakeRaised bit s) else wakeRaised bit s := by
  have hs' : (decide (2 ≤ bit) && decide (s.mode ≠ .watch)) = false := by
    rcases hs with h | h
    · simp [h]
    · simp [h]
  have hguard : (!s.pmu.porN || !(sleeps s.mode) || !(s.bit Reg.PMU_WAKE_CFG bit)
      || (decide (2 ≤ bit) && decide (s.mode ≠ .watch))) = false := by
    rw [hp, sleeps, hm, hb, hs']
    rfl
  unfold wakeEvent
  rw [hguard]
  rfl

/-- The PMU in WATCH after a wake event of a link source: the raise to QUIET, and the pins of R109. -/
def pmuWoken (s : State) : Pmu :=
  { s.pmu with seq := .rising (.back .quiet), waking := true
               wakeOutN := s.pmu.wakeOutN || s.bit Reg.PMU_WAKE_CFG 8, peWakeN := s.pmu.peWakeN || !s.pmu.straps.hostSel }

/-- No raise has begun, or the return to QUIET has. -/
def restsOrReturns (s : State) : Prop := s.pmu.seq = .idle ∨ s.pmu.seq = .rising (.back .quiet)

theorem wakeEvent_link {bit : Nat} (hp : s.pmu.porN = true) (hm : s.mode = .watch) (hq : restsOrReturns s)
    (hb : s.bit Reg.PMU_WAKE_CFG bit = true) :
    wakeEvent bit true s = ({ s with pmu := pmuWoken s } : State).flag Reg.PMU_WAKE_REASON (bit + 1) := by
  have hseq : seqWoken s = .rising (.back .quiet) := by
    unfold seqWoken
    rcases hq with h | h <;> rw [h]
    rw [hm]
    rfl
  rw [wakeEvent_wakes hp (by rw [hm]; rfl) hb (.inr hm)]
  simp only [if_true, wakePins, wakeRaised, hseq]
  rw [State.bit_flag_ne _ _ _ (by decide)]
  rfl

/-! ## Frames that wake -/

/-- `t` is `s` after wake events of links: the PMU is woken, the length in the wake status of port `q` and the enables of
the wake sources are as they were, and flags are set alone. -/
structure LinkWoken (q : Nat) (s t : State) : Prop where
  pmu : t.pmu = pmuWoken s
  length : t.regField (Reg.NP_WAKE_STATUS q) 15 2 = s.regField (Reg.NP_WAKE_STATUS q) 15 2
  cfg : t.reg Reg.PMU_WAKE_CFG = s.reg Reg.PMU_WAKE_CFG
  bits : keepsBits s t

theorem pmuWoken_congr {s t : State} (h : t.pmu = s.pmu) (hc : t.reg Reg.PMU_WAKE_CFG = s.reg Reg.PMU_WAKE_CFG) :
    pmuWoken t = pmuWoken s := by
  unfold pmuWoken State.bit
  rw [h, hc]

theorem pmuWoken_of {s t : State} (h : t.pmu = pmuWoken s) (hc : t.reg Reg.PMU_WAKE_CFG = s.reg Reg.PMU_WAKE_CFG) :
    pmuWoken t = pmuWoken s := by
  unfold pmuWoken at h ⊢
  unfold State.bit at *
  rw [h, hc]
  simp

theorem LinkWoken.trans {q : Nat} {s t u : State} (h : LinkWoken q s t) (h' : LinkWoken q t u) : LinkWoken q s u :=
  ⟨h'.pmu.trans (pmuWoken_of h.pmu h.cfg), h'.length.trans h.length, h'.cfg.trans h.cfg, h.bits.trans h'.bits⟩

theorem npWakeStatus_ne {q : Nat} :
    Reg.NP_WAKE_STATUS q ≠ Reg.PMU_WAKE_REASON ∧ Reg.NP_WAKE_STATUS q ≠ Reg.PMU_WAKE_CFG := by
  unfold Reg.NP_WAKE_STATUS Reg.PMU_WAKE_REASON Reg.PMU_WAKE_CFG
  omega

/-- A wake event of port `q` after its flag `i` of NPx_WAKE_STATUS. -/
theorem linkWoken_wakeEvent {q bit i : Nat} (r : Nat) (hr : r = bit + 1) (hp : s.pmu.porN = true) (hm : s.mode = .watch)
    (hq : restsOrReturns s) (hb : s.bit Reg.PMU_WAKE_CFG bit = true) (hbit : bit < 31) (hi : i < 2) :
    let t := wakeEvent bit true (s.flag (Reg.NP_WAKE_STATUS q) i)
    LinkWoken q s t ∧ t.bit (Reg.NP_WAKE_STATUS q) i = true ∧ t.bit Reg.PMU_WAKE_REASON r = true := by
  subst hr
  obtain ⟨hreason, hcfg⟩ := npWakeStatus_ne (q := q)
  let u := s.flag (Reg.NP_WAKE_STATUS q) i
  have hucfg : u.reg Reg.PMU_WAKE_CFG = s.reg Reg.PMU_WAKE_CFG := by
    rw [State.reg_flag, if_neg hcfg.symm]
  have hub : u.bit Reg.PMU_WAKE_CFG bit = true := by
    unfold State.bit at *
    rwa [hucfg]
  intro t
  have ht : t = ({ u with pmu := pmuWoken u } : State).flag Reg.PMU_WAKE_REASON (bit + 1) := wakeEvent_link hp hm hq hub
  have hkeeps : keepsBits u t := by
    rw [ht]
    refine .trans ?_ (keepsBits_flag _ _ _)
    exact keepsBits_of_regs rfl
  refine ⟨⟨?_, ?_, ?_, (keepsBits_flag s _ _).trans hkeeps⟩, hkeeps _ _ (State.bit_flag_self _ _ _ (by omega)), ?_⟩
  · rw [ht, State.flag_pmu]
    unfold pmuWoken State.bit
    rw [hucfg]
    rfl
  · have hstatus : t.reg (Reg.NP_WAKE_STATUS q) = u.reg (Reg.NP_WAKE_STATUS q) := by
      rw [ht, State.reg_flag, if_neg hreason]
      rfl
    unfold State.regField
    rw [hstatus, State.reg_flag, if_pos rfl, fieldOf_or_below _ hi]
  · rw [ht, State.reg_flag, if_neg (by decide)]
    exact hucfg
  · rw [ht]
    exact State.bit_flag_self _ _ _ (by omega)

/-- The frame is a magic packet, or matches the filter, and the port has that wake source (R314). -/
def wakesByMagic (q : Nat) (bs : List Byte) (s : State) : Bool := magicMatch s q bs && s.bit Reg.PMU_WAKE_CFG (2 + 2 * q)
def wakesByPattern (q : Nat) (bs : List Byte) (s : State) : Bool := patternMatch s q bs && s.bit Reg.PMU_WAKE_CFG (3 + 2 * q)

theorem wakeFrame_none {q : Nat} {bs : List Byte} (hmagic : wakesByMagic q bs s = false) (hpattern : wakesByPattern q bs s = false) :
    wakeFrame q bs s = s := by
  unfold wakesByMagic at hmagic
  unfold wakesByPattern at hpattern
  unfold wakeFrame
  simp [hmagic, hpattern]

section
variable {q : Nat} {bs : List Byte} (hm : s.mode = .watch) (hl : (s.port q).live = true) (hq : q < 2)
include hm hl hq

/-- A frame that wakes: its length is kept, and each match is a wake event of its own. -/
theorem wakeFrame_wakes (hp : s.pmu.porN = true) (hseq : s.pmu.seq = .idle)
    (h : (wakesByMagic q bs s || wakesByPattern q bs s) = true) :
    LinkWoken q (s.setField (Reg.NP_WAKE_STATUS q) 15 2 bs.length) (wakeFrame q bs s)
    ∧ (wakesByMagic q bs s = true → (wakeFrame q bs s).bit (Reg.NP_WAKE_STATUS q) 0 = true
        ∧ (wakeFrame q bs s).bit Reg.PMU_WAKE_REASON (3 + 2 * q) = true)
    ∧ (wakesByPattern q bs s = true → (wakeFrame q bs s).bit (Reg.NP_WAKE_STATUS q) 1 = true
        ∧ (wakeFrame q bs s).bit Reg.PMU_WAKE_REASON (4 + 2 * q) = true) := by
  let s0 := s.setField (Reg.NP_WAKE_STATUS q) 15 2 bs.length
  let s1 := if wakesByMagic q bs s then wakeEvent (2 + 2 * q) true (s0.flag (Reg.NP_WAKE_STATUS q) 0) else s0
  have hcfg : s0.reg Reg.PMU_WAKE_CFG = s.reg Reg.PMU_WAKE_CFG := by
    rw [State.reg_setField, if_neg npWakeStatus_ne.2.symm]
  have hframe : wakeFrame q bs s
      = if wakesByPattern q bs s then wakeEvent (3 + 2 * q) true (s1.flag (Reg.NP_WAKE_STATUS q) 1) else s1 := by
    have hq' : ¬1 < q := by omega
    unfold wakesByMagic wakesByPattern at *
    unfold wakeFrame
    simp [hm, hl, hq', h, s1, s0, wakesByMagic]
  have hmagic (hw : wakesByMagic q bs s = true) := by
    have hb : s0.bit Reg.PMU_WAKE_CFG (2 + 2 * q) = true := by
      unfold State.bit
      rw [hcfg]
      exact (Bool.and_eq_true_iff.mp hw).2
    exact linkWoken_wakeEvent (s := s0) (q := q) (i := 0) (3 + 2 * q) (by omega) hp hm (.inl hseq) hb (by omega) (by omega)
  have hpattern (u : State) (hu : u.reg Reg.PMU_WAKE_CFG = s.reg Reg.PMU_WAKE_CFG) (hup : u.pmu.porN = true)
      (hum : u.mode = .watch) (hus : restsOrReturns u) (hw : wakesByPattern q bs s = true) := by
    have hb : u.bit Reg.PMU_WAKE_CFG (3 + 2 * q) = true := by
      unfold State.bit
      rw [hu]
      exact (Bool.and_eq_true_iff.mp hw).2
    exact linkWoken_wakeEvent (s := u) (q := q) (i := 1) (4 + 2 * q) (by omega) hup hum hus hb (by omega) (by omega)
  rw [hframe]
  cases hwm : wakesByMagic q bs s with
  | true =>
    have hs1 : s1 = wakeEvent (2 + 2 * q) true (s0.flag (Reg.NP_WAKE_STATUS q) 0) := if_pos hwm
    obtain ⟨hwoken, h0, h3⟩ := hmagic hwm
    rw [← hs1] at hwoken h0 h3
    cases hwp : wakesByPattern q bs s with
    | true =>
      obtain ⟨hwoken', h1, h4⟩ := hpattern s1 (hwoken.cfg.trans hcfg) (by rw [hwoken.pmu]; exact hp)
        (by rw [State.mode, hwoken.pmu]; exact hm) (.inr (by rw [hwoken.pmu]; rfl)) hwp
      exact ⟨hwoken.trans hwoken', fun _ => ⟨hwoken'.bits _ _ h0, hwoken'.bits _ _ h3⟩, fun _ => ⟨h1, h4⟩⟩
    | false => exact ⟨hwoken, fun _ => ⟨h0, h3⟩, nofun⟩
  | false =>
    have hs1 : s1 = s0 := if_neg (by simp [hwm])
    have hwp : wakesByPattern q bs s = true := by simpa [hwm] using h
    obtain ⟨hwoken, h1, h4⟩ := hpattern s0 hcfg hp hm (.inl hseq) hwp
    rw [hs1, if_pos hwp]
    exact ⟨hwoken, nofun, fun _ => ⟨h1, h4⟩⟩

/-- What a frame that wakes leaves of the PMU, and the length that it leaves. -/
theorem wakeFrame_leaves (hp : s.pmu.porN = true) (hseq : s.pmu.seq = .idle)
    (h : (wakesByMagic q bs s || wakesByPattern q bs s) = true) :
    (wakeFrame q bs s).pmu = pmuWoken s
    ∧ (wakeFrame q bs s).regField (Reg.NP_WAKE_STATUS q) 15 2 = bs.length % 2 ^ 14 := by
  obtain ⟨⟨hpmu, hlen, -, -⟩, -⟩ := wakeFrame_wakes hm hl hq hp hseq h
  refine ⟨hpmu.trans (pmuWoken_congr rfl ?_), hlen.trans ?_⟩
  · rw [State.reg_setField, if_neg npWakeStatus_ne.2.symm]
  · unfold State.regField
    rw [State.reg_setField, if_pos rfl, fieldOf_withField _ _ (by decide)]
end

end Sys2Proof.Machine
end

section
/-! SUPPORT. The rows of power, reset and boot, each in the state in which it acts. -/
namespace Sys2Proof.Machine

variable {s : State}

theorem execVddAonPowerUp_starts (h : s.pmu.vddAon = false) :
    execVddAonPowerUp s = .next (settle { fresh s with pmu := { s.pmu with vddAon := true } }) := by
  unfold execVddAonPowerUp
  exact congrArg (fun t => Host.Outcome.next (settle t)) (if_neg (by rw [fresh_pmu, h]; exact Bool.false_ne_true))

theorem execPorNFall_falls (h : s.pmu.porN = true) :
    execPorNFall s = .next (settle { coreOff (dropRequests (fresh s)) with
      pmu := { (coreOff (dropRequests (fresh s))).pmu with
        porN := false, railEn := 0, pwrGood := false, mode := .moored, seq := seqDown s, waking := false
        wakeOutN := false, peWakeN := false } }) := by
  unfold execPorNFall
  exact congrArg (fun t => Host.Outcome.next (settle t)) (if_neg (by rw [fresh_pmu, h]; exact Bool.false_ne_true))

theorem execPorNRise_rises {st : Straps} (h : s.pmu.porN = false) (hv : s.pmu.vddAon = true) :
    execPorNRise st s = .next (settle (porRise st (fresh s))) := by
  unfold execPorNRise
  exact congrArg (fun t => Host.Outcome.next (settle t)) (if_neg (by rw [fresh_pmu, h, hv]; exact Bool.false_ne_true))

/-- At a rising edge of POR_N every register of the island but PMU_MOOR_COUNT is reset (R115, R124). -/
theorem porRise_reg (st : Straps) (a : Nat) : (porRise st s).reg a
    = if a = Reg.PMU_MOOR_COUNT then s.reg Reg.PMU_MOOR_COUNT else regReset a := by
  unfold porRise
  rw [State.reg_setReg]
  rfl

theorem porRise_seq (st : Straps) : (porRise st s).pmu.seq
    = match s.pmu.seq with | .off _ => .off (some (.boot 1)) | _ => .rising (.boot 1) := rfl

theorem execCoreResetRelease_boots {c : Nat} {words : List Word} (h : s.pmu.seq = .release c) :
    execCoreResetRelease words s = .next (settle (bootCore c words (fresh s))) := by
  simp only [execCoreResetRelease, fresh_pmu, h]

theorem execBufferClearDone_ready (hm : clocked s.mode = true) (hb : s.buf.ready = false) :
    execBufferClearDone s = .next (settle (linkTrain (State.flushLog
      { fresh s with buf := { s.buf with ready := true }, hif := { (fresh s).hif with up := true } }))) := by
  unfold execBufferClearDone
  exact congrArg (fun t => Host.Outcome.next (settle t))
    (if_neg (by rw [fresh_mode, fresh_buf, hm, hb]; exact Bool.false_ne_true))

theorem linkTrain_eq : ∃ b, linkTrain s = { s with hif := { s.hif with training := b } } := by
  unfold linkTrain
  split
  · exact ⟨_, rfl⟩
  · exact ⟨s.hif.training, rfl⟩

theorem execCmdBootReady_ready (hm : s.mode = .boot) (hu : s.hif.up = true) (hr : s.cmd.ready = false)
    (hrs : s.cmd.restarting = false) (hf : s.bootsFromFlash = false) :
    execCmdBootReady s = .next (settle (readyNow (fresh s))) := by
  have hf' : (fresh s).bootsFromFlash = false := hf
  unfold execCmdBootReady
  simp [hm, hu, hr, hrs, hf', clocked]

theorem execBootImageLoad_loads {ws : List Word} (hm : s.mode = .boot) (hu : s.hif.up = true) (hr : s.cmd.ready = false)
    (hrs : s.cmd.restarting = false) (hf : s.bootsFromFlash = true) (hi : s.cmd.imageFail = false)
    (ha : s.cmd.imageAt = none) : execBootImageLoad ws s = .next (settle (imageLoad ws (fresh s))) := by
  have hf' : (fresh s).bootsFromFlash = true := hf
  unfold execBootImageLoad
  simp [hm, hu, hr, hrs, hf', hi, ha, clocked]

theorem execCmdRestartComplete_ready (hm : clocked s.mode = true) (hr : s.cmd.restarting = true) :
    execCmdRestartComplete s = .next (settle (readyNow (fresh s))) := by
  unfold execCmdRestartComplete
  simp [hm, hr]

end Sys2Proof.Machine
end

section
/-! The statement of power, reset, boot and wake. -/
open Sys2Proof Sys2Proof.Machine

/-- Settles O45: power, reset and boot by the state that each row leaves (`porRise`, `bootCore_eq`, `readyNow_eq`,
`imageLoad_empty`, `imageLoad_fails`), the wakes by their events (`wakeEvent_wakes`, `wakeEvent_link`, `wakeFrame_wakes`). -/
theorem bootAndWakeComplete : Obligations.BootAndWakeComplete := by
  refine ⟨fun s => ⟨?_, ?_, ?_, ?_, ?_, ?_, ?_, ?_, ?_⟩, fun s => ?_⟩
  · refine ⟨_, rfl, ?_⟩
    rw [settle_pmu, settle_mode, settle_buf]
    exact ⟨rfl, rfl, rfl, rfl, rfl, fun a => settle_reg _ a⟩
  · exact execVddAonPowerUp_starts
  · intro h
    refine ⟨_, execPorNFall_falls h, ?_⟩
    rw [settle_pmu, settle_mode, settle_hif_up, settle_cmd]
    exact ⟨rfl, rfl, rfl, rfl, rfl, rfl, rfl, rfl⟩
  · intro st h hv
    refine ⟨_, execPorNRise_rises h hv, ?_⟩
    simp only [settle_pmu, settle_mode, settle_reg, porRise_reg, porRise_seq, fresh_pmu, fresh_reg]
    exact ⟨rfl, rfl, rfl, fun hq => by rw [hq], fun hq => by rw [hq], rfl, fun a ha => if_neg ha⟩
  · intro c rec hq
    obtain ⟨_, _, _, _, _, _, hboot⟩ := bootCore_eq (fresh s) c rec
    refine ⟨_, execCoreResetRelease_boots hq, ?_⟩
    rw [settle_mode, settle_otp, settle_otpBad, settle_pmu, settle_hif_up, settle_cmd, settle_srx, settle_stx, settle_mck, hboot]
    exact ⟨rfl, rfl, rfl, rfl, rfl, rfl, rfl, rfl, rfl, rfl, rfl⟩
  · intro hm hb
    let u : State := { fresh s with buf := { s.buf with ready := true }, hif := { (fresh s).hif with up := true } }
    obtain ⟨_, htrain⟩ := linkTrain_eq (s := u.flushLog)
    obtain ⟨_, _, _, hflush⟩ := flushLog_eq u
    refine ⟨_, execBufferClearDone_ready hm hb, ?_⟩
    rw [settle_buf, settle_hif_up, settle_mode, settle_ump, htrain, hflush]
    exact ⟨rfl, rfl, rfl, rfl, fun _ => rfl⟩
  · intro hm hu hr hrs hp hf hw hq ht ha
    refine ⟨_, (fresh s).marker .host, (fresh s).marker .mgmt, execCmdBootReady_ready hm hu hr hrs hf, ?_⟩
    rw [settle_cmd, settle_bit, readyNow_eq (s := fresh s) hp hw hq ht]
    refine ⟨rfl, ?_, rfl, rfl, rfl, rfl, State.bit_flag_self _ _ _ (by decide)⟩
    simp [cmdReadied, ha]
  · intro ws hm hu hr hrs hp hf hi ha hfl hw hq ht
    have hexec : exec (.bootImageLoad ws) s = .next (settle (imageLoad ws (fresh s))) :=
      execBootImageLoad_loads hm hu hr hrs hf hi ha
    refine ⟨fun hok h0 => ⟨_, hexec, ?_⟩, fun e he hb => ⟨_, hexec, ?_⟩⟩
    · obtain ⟨hloaded, hfail, hready, hmode⟩ := imageLoad_empty (s := fresh s) hp hw hq ht hok h0 hfl
      rw [settle_cmd, settle_mode]
      exact ⟨hloaded, hfail.trans hi, hready, hmode.trans hm⟩
    · obtain ⟨hfail, hready, hmode⟩ := imageLoad_fails (s := fresh s) hp hw hq ht he hb
      rw [settle_cmd, settle_mode]
      exact ⟨hfail, hready, hmode.trans hm⟩
  · intro hm hr hw hp hq ht
    refine ⟨_, (fresh s).marker .host, (fresh s).marker .mgmt, execCmdRestartComplete_ready hm hr, ?_⟩
    rw [settle_cmd, settle_mode, readyNow_eq (s := fresh s) hp hw hq ht]
    exact ⟨rfl, rfl, rfl, rfl, rfl, rfl, rfl, rfl⟩
  · intro pins
    refine ⟨fun h => ?_, fun hp hm hb q hq => ?_, fun q hq2 hp hm hseq => ⟨fun hb => ?_, fun hb => ?_, fun bytes hl => ?_⟩⟩
    · exact congrArg (fun t => Host.Outcome.next (settle t)) (wakeEvent_none (s := fresh s) h)
    · have hwoken : seqWoken (fresh s) = q := by
        unfold seqWoken
        rcases hq with ⟨hs, rfl⟩ | ⟨hs, rfl⟩ | ⟨d, hs, rfl⟩ <;> rw [fresh_pmu, hs] <;> rfl
      have hwake := wakeEvent_wakes (s := fresh s) (bit := 1) (pins := false) hp hm hb (.inl (by decide))
      rw [wakeRaised, hwoken] at hwake
      exact congrArg (fun t => Host.Outcome.next (settle t)) hwake
    · have hexec : exec (.obienWakePattern q) s = .next (settle (wakeEvent (6 + q) true (fresh s))) :=
        congrArg (fun t => Host.Outcome.next (settle t)) (if_pos (by rw [fresh_mode, hm]; simpa using hq2))
      refine ⟨_, hexec, ?_⟩
      unfold pins
      rw [settle_pmu, settle_bit, wakeEvent_link (s := fresh s) hp hm (.inl hseq) hb, show 7 + q = 6 + q + 1 by omega]
      exact ⟨rfl, rfl, State.bit_flag_self _ _ _ (by omega), rfl, rfl⟩
    · have hexec : exec (.obienWakePattern q) s = .next (settle (wakeEvent (6 + q) true (fresh s))) :=
        congrArg (fun t => Host.Outcome.next (settle t)) (if_pos (by rw [fresh_mode, hm]; simpa using hq2))
      rw [hexec, wakeEvent_none (s := fresh s) (.inl hb)]
    · intro magic pattern
      refine ⟨fun hw => ?_, fun hnm hnp => ?_⟩
      · obtain ⟨-, hmagic, hpattern⟩ := wakeFrame_wakes (s := fresh s) hm hl hq2 hp hseq hw
        obtain ⟨hpmu, hlen⟩ := wakeFrame_leaves (s := fresh s) hm hl hq2 hp hseq hw
        refine ⟨settle (wakeFrame q bytes (fresh s)), rfl, ?_⟩
        unfold pins
        simp only [settle_pmu, settle_bit, State.regField, settle_reg, hpmu]
        exact ⟨rfl, rfl, hlen, ⟨rfl, rfl⟩, hmagic, hpattern⟩
      · exact congrArg (fun t => Host.Outcome.next (settle t)) (wakeFrame_none (s := fresh s) hnm hnp)
end

section
/-! SUPPORT. The state after reset. -/
namespace Sys2Proof.Machine

theorem reset_irqLevel : State.reset.irqLevel = false := by decide

theorem reset_bank {i : Nat} (h : i < 2) : State.reset.bank i = {} := by
  obtain rfl | rfl : i = 0 ∨ i = 1 := by omega
  · rfl
  · rfl

theorem irqOk_reset : irqOk State.reset := by
  unfold irqOk
  rw [reset_irqLevel]
  rfl

end Sys2Proof.Machine
end

section
/-! The statement of the state after reset. -/
open Sys2Proof Sys2Proof.Machine

/-- Settles O3: each field by its value in `State.reset`, and IRQ_N by `reset_irqLevel`. -/
theorem resetState : Obligations.ResetState :=
  ⟨⟨rfl, rfl, rfl, fun _ => rfl, rfl, rfl, rfl, rfl, rfl, fun _ => reset_bank, rfl, rfl, rfl⟩, irqOk_reset⟩
end

section
/-! SUPPORT. The arrival of a Dadin command beside one in flight, the answer that a command of a path gets, and the end of a
power request. -/
namespace Sys2Proof.Machine

variable {s : State} {op : Nat} {k : Pkt}

/-! ## Arrival -/

/-- The state as the command of a packet has been taken in, behind those in flight (R227). -/
def arrived (op : Nat) (k : Pkt) (s : State) : State :=
  { fresh s with cmd := { s.cmd with
      flights := s.cmd.flights ++ [flightOf (.path k.path) op k s], nextOrd := s.cmd.nextOrd + 1 } }

theorem arrive_proper (ht : s.takes = true) (hp : proper op k s = true) (h0 : op ≠ 0) :
    arrive op k (fresh s) = intake (flightOf (.path k.path) op k s) (fresh s) := by
  simp only [proper, Bool.and_eq_true, decide_eq_true_eq, Option.isNone_iff_eq_none, Bool.not_eq_true'] at hp
  obtain ⟨⟨⟨⟨hlo, hhi⟩, hcheck⟩, hfree⟩, hwords⟩ := hp
  have htakes : (fresh s).takes = true := ht
  have htag : (fresh s).tagBusy k.tag.toNat = false := hfree
  have hc : (k.c && !k.checkOk) = false := by
    cases hk : k.c <;> simp_all
  have hlen : ¬(pktLen k < 2 ∨ 64 < pktLen k) := by omega
  unfold arrive takeIn
  simp only [htakes, h0, hc, htag, hwords, Bool.or_eq_true, decide_eq_true_eq, if_neg hlen, if_true, if_false,
    Bool.false_eq_true, Bool.and_false]
  rfl

/-- A command without S on whose objects none in flight acts, and for which no power request stands, starts as it arrives. -/
theorem arrive_now (ht : s.takes = true) (hp : proper op k s = true) (h0 : op ≠ 0)
    (hm : mayStart (arrived op k s) (flightOf (.path k.path) op k s) = true) :
    arrive op k (fresh s) = startFlight (flightOf (.path k.path) op k s) (arrived op k s) :=
  (arrive_proper ht hp h0).trans (if_pos hm)

/-! ## Answers -/

/-- The state as the status of reply `r` has set its flags of CMD_EVENT (R248). -/
def replyFlagged (r : Reply) (s : State) : State :=
  let s1 := if r.status = .lost then s.flag Reg.CMD_EVENT 1 else s
  if r.status = .aborted then s1.flag Reg.CMD_EVENT 3 else s1

theorem replyFlagged_eq (r : Reply) : ∃ rs m, replyFlagged r s = { s with regs := rs, misparity := m } := by
  unfold replyFlagged
  dsimp only
  split_ifs <;> exact ⟨_, _, rfl⟩

theorem State.hold_flagged (r : Reply) (hr : s.cmd.restarting = false) :
    s.hold r = { replyFlagged r s with cmd := { s.cmd with held := s.cmd.held ++ [r] } } := by
  have hhold : s.hold r = if (replyFlagged r s).cmd.restarting then
      { replyFlagged r s with cmd := { (replyFlagged r s).cmd with after := (replyFlagged r s).cmd.after ++ [r] } }
    else { replyFlagged r s with cmd := { (replyFlagged r s).cmd with held := (replyFlagged r s).cmd.held ++ [r] } } := rfl
  obtain ⟨rs, m, h⟩ := replyFlagged_eq (s := s) r
  rw [hhold, h]
  exact if_neg (by simp [hr])

theorem replyFlagged_aborted {r : Reply} (h : r.status = .aborted) : (replyFlagged r s).bit Reg.CMD_EVENT 3 = true := by
  unfold replyFlagged
  simp only [h, if_true]
  exact State.bit_flag_self _ _ _ (by decide)

/-- The command `f` is out of flight (R217). -/
def flightOut (f : Flight) (s : State) : State :=
  { s with cmd := { s.cmd with flights := s.cmd.flights.filter fun g => decide (g.ord ≠ f.ord) } }

/-- The answer of a command that came in on a path: its reply is held, and its status may set flags. -/
theorem answer_flagged {f : Flight} {pa : Path} (st : Status) (word : Nat) (body : List Word) (hsrc : f.src = .path pa)
    (hr : s.cmd.restarting = false) : s.answer f st word body
      = { replyFlagged (answerOf s.cmd.gen f st word body) (flightOut f s) with cmd := { (flightOut f s).cmd with
            held := s.cmd.held ++ [answerOf s.cmd.gen f st word body] } } := by
  refine Eq.trans ?_ (State.hold_flagged (s := flightOut f s) _ hr)
  unfold State.answer
  simp only [hsrc]
  rw [answerOf, hsrc]
  rfl

theorem answer_path_eq {f : Flight} {pa : Path} (st : Status) (word : Nat) (body : List Word) (hsrc : f.src = .path pa)
    (hr : s.cmd.restarting = false) : ∃ rs m, s.answer f st word body = { flightOut f s with
      regs := rs, misparity := m, cmd := { (flightOut f s).cmd with
        held := s.cmd.held ++ [answerOf s.cmd.gen f st word body] } } := by
  obtain ⟨rs, m, h⟩ := replyFlagged_eq (s := flightOut f s) (answerOf s.cmd.gen f st word body)
  rw [answer_flagged st word body hsrc hr, h]
  exact ⟨rs, m, rfl⟩

theorem answer_aborted_event {f : Flight} {pa : Path} (word : Nat) (body : List Word) (hsrc : f.src = .path pa)
    (hr : s.cmd.restarting = false) : (s.answer f .aborted word body).bit Reg.CMD_EVENT 3 = true := by
  rw [answer_flagged .aborted word body hsrc hr]
  exact replyFlagged_aborted rfl

/-! ## The end of a power request -/

/-- The state as request `r` has been answered by the command `f` with a status and a body, the registers aside. -/
def reqEnded (f : Flight) (st : Status) (body : List Word) (s : State) : State :=
  { s.hsRelease with
    pmu := { s.pmu with req := none, parts := 0 }
    cmd := { s.cmd with
      flights := s.cmd.flights.filter fun g => decide (g.ord ≠ f.ord)
      held := s.cmd.held ++ [answerOf s.cmd.gen f st 0 body] } }

/-- A request that ends is answered, and the PMU holds it no more (R98, R99, R102, R117). -/
theorem endRequest_eq {r : PowerReq} {f : Flight} {pa : Path} (st : Status) (m : Mode) (refuser reason : Nat)
    (hf : s.flight r.ord = some f) (hsrc : f.src = .path pa) (hr : s.cmd.restarting = false) :
    ∃ rs mp, s.endRequest r st m refuser reason
      = { reqEnded f st (powerBody m r.before refuser reason (s.ntu.course - r.askAt)) s with
          regs := rs, misparity := mp } := by
  unfold State.endRequest
  extract_lets body s1 s2
  obtain ⟨rs, mp, h⟩ : ∃ rs mp, s2 = { s.hsRelease with
      regs := rs, misparity := mp, pmu := { s.pmu with req := none, parts := 0 } } := by
    unfold s2 s1
    split <;> exact ⟨_, _, rfl⟩
  have hflight : s2.flight r.ord = some f := by
    rw [h]
    exact hf
  rw [hflight]
  dsimp only
  rw [h]
  obtain ⟨rs', mp', hans⟩ := answer_path_eq (s := { s.hsRelease with
    regs := rs, misparity := mp, pmu := { s.pmu with req := none, parts := 0 } }) st 0 body hsrc hr
  exact ⟨rs', mp', hans⟩

/-- With none waiting, the end of a request is all that follows. -/
theorem finishRequest_eq {r : PowerReq} {f : Flight} {pa : Path} (st : Status) (refuser reason : Nat)
    (hf : s.flight r.ord = some f) (hsrc : f.src = .path pa) (hr : s.cmd.restarting = false)
    (hs : s.pmu.slot = none) (ha : s.pmu.autoWait = none) :
    ∃ rs mp, finishRequest r st refuser reason s
      = { reqEnded f st (powerBody s.mode r.before refuser reason (s.ntu.course - r.askAt)) s with
          regs := rs, misparity := mp } := by
  obtain ⟨rs, mp, h⟩ := endRequest_eq st s.mode refuser reason hf hsrc hr
  refine ⟨rs, mp, ?_⟩
  unfold finishRequest
  rw [h]
  exact tryNext_none _ hs ha

end Sys2Proof.Machine
end

section
/-! SUPPORT. `ABORT` at its commit point, which it reaches as it arrives. -/
namespace Sys2Proof.Machine

variable {s : State} {k : Pkt} {f g : Flight}

/-! ## The outcomes of an `ABORT` -/

/-- The tag that an `ABORT` names (R242). -/
def abortTarget (f : Flight) : Nat := fieldOf (f.params.getD 0 0) 6 0

/-- The expert form names a sequence number, and it is not that of the command `g` (R242). -/
def namesOther (f g : Flight) : Bool :=
  f.x && bitOf (f.params.getD 0 0) 7 && decide (g.seq.toNat ≠ fieldOf (f.params.getD 0 0) 15 8)

theorem commitAbort_none (h : s.tagFlight (abortTarget f) = none) :
    commitAbort f s = s.answer f .nothingToAbort 0 (s.abortBody (abortTarget f)) := by
  unfold abortTarget at *
  unfold commitAbort
  simp only [h]

theorem commitAbort_some (h : s.tagFlight (abortTarget f) = some g) :
    commitAbort f s = if g.phase = .committed ∨ g.op = 3 ∨ namesOther f g = true then
      s.answer f .nothingToAbort 0 (s.abortBody (abortTarget f))
    else (abortFlight g s).answer f .ok 0 (s.abortBody (abortTarget f)) := by
  unfold abortTarget at *
  unfold commitAbort
  simp only [h]
  refine if_congr ?_ rfl rfl
  simp [namesOther, or_assoc]

/-- The body of the ABORTED reply: that of R132 for a power request, which is what was never asked (R214, R242). -/
def abortedBody (g : Flight) (s : State) : List Word :=
  if g.op = 4 ∨ g.op = 5 then powerBody s.mode s.mode 0 0x22 0 else []

theorem abortFlight_plain (h : withPmu s g = false) : abortFlight g s = s.answer g .aborted 0 (abortedBody g s) := by
  unfold abortFlight abortedBody
  by_cases hop : g.op = 4 ∨ g.op = 5
  · simp [hop, h]
  · simp [hop]

theorem abortFlight_request {r : PowerReq} (hop : g.op = 4 ∨ g.op = 5) (hreq : s.pmu.req = some r) (hord : r.ord = g.ord) :
    abortFlight g s = finishRequest r .aborted 0 0x22 s := by
  have hw : withPmu s g = true := by simp [withPmu, hreq, hord]
  unfold abortFlight abortRequest
  simp [hop, hw, hreq, hord]

/-! ## An `ABORT` that arrives beside one command in flight -/

/-- A command for which the PMU holds no request. -/
theorem withPmu_none (hs : s.pmu.slot = none) (hreq : ∀ r, s.pmu.req = some r → r.ord ≠ f.ord) : withPmu s f = false := by
  unfold withPmu
  rw [hs]
  cases hq : s.pmu.req with
  | none => rfl
  | some r => exact decide_eq_false (hreq r hq)

theorem exec_abort_commits (ht : s.takes = true) (hp : proper 3 k s = true) (hs : s.pmu.slot = none) (hk : k.s = false)
    (hreq : ∀ r, s.pmu.req = some r → r.ord ≠ s.cmd.nextOrd) :
    exec (.abort k) s = .next (settle (commitAbort (started 3 k s) (arrived 3 k s))) := by
  have hpmu : withPmu (arrived 3 k s) (flightOf (.path k.path) 3 k s) = false := withPmu_none hs hreq
  have hm : mayStart (arrived 3 k s) (flightOf (.path k.path) 3 k s) = true := by
    unfold mayStart
    rw [hpmu]
    simp [flightOf, sHeld, objHeld, objects, streamObjs, hk]
  exact congrArg (fun t => Host.Outcome.next (settle t)) (arrive_now ht hp (by decide) hm)

section
variable {p : Path} (hfl : s.cmd.flights = [g]) (hsrc : g.src = .path p)
  (htag : g.tag.toNat = fieldOf (k.params.getD 0 0) 6 0)
include hfl hsrc htag

theorem arrived_target : (arrived 3 k s).tagFlight (abortTarget (started 3 k s)) = some g := by
  unfold State.tagFlight arrived
  rw [hfl]
  exact List.find?_cons_of_pos (by simp [hsrc, takesTag, htag, abortTarget, started, flightIn, flightOf])

theorem arrived_abortBody : (arrived 3 k s).abortBody (abortTarget (started 3 k s))
    = [w32 (g.tag.toNat + 2 ^ 8 * g.op + 2 ^ 16 * phaseCode g.phase)] := by
  unfold State.abortBody State.tagOp State.tagState
  rw [arrived_target hfl hsrc htag, htag]
  rfl
end

/-- The state `t` with the command `g`, which was in flight in `s`, answered ABORTED with the body `b`, and after it the
`ABORT` that arrived answered OK. -/
def bothAnswered (g : Flight) (k : Pkt) (b body : List Word) (s t : State) : State :=
  { t with cmd := { s.cmd with
      flights := [], nextOrd := s.cmd.nextOrd + 1
      held := s.cmd.held ++ [answerOf s.cmd.gen g .aborted 0 b, answerOf s.cmd.gen (started 3 k s) .ok 0 body] } }

section
variable (hr : s.cmd.restarting = false) (hfl : s.cmd.flights = [g]) (hord : g.ord < s.cmd.nextOrd)
include hr hfl hord

/-- The `ABORT` is answered, and the command in flight stays. -/
theorem arrived_answer_abort (body : List Word) :
    (arrived 3 k s).answer (started 3 k s) .nothingToAbort 0 body = { arrived 3 k s with cmd := { (arrived 3 k s).cmd with
      flights := [g], held := s.cmd.held ++ [answerOf s.cmd.gen (started 3 k s) .nothingToAbort 0 body] } } := by
  have hne : g.ord ≠ s.cmd.nextOrd := by omega
  rw [answer_path (s := arrived 3 k s) (pa := k.path) rfl hr (by decide) (by decide)]
  simp [arrived, started, flightIn, flightOf, hfl, hne]

theorem arrived_both_answered {t : State} {b : List Word} (body : List Word)
    (htc : t.cmd = { (flightOut g (arrived 3 k s)).cmd with held := s.cmd.held ++ [answerOf s.cmd.gen g .aborted 0 b] }) :
    t.answer (started 3 k s) .ok 0 body = bothAnswered g k b body s t := by
  have hne : s.cmd.nextOrd ≠ g.ord := by omega
  have hrt : t.cmd.restarting = false := by rw [htc]; exact hr
  rw [answer_path (s := t) (pa := k.path) rfl hrt (by decide) (by decide), htc]
  simp [bothAnswered, flightOut, arrived, started, flightIn, flightOf, hfl, hne]

variable {p : Path} (hsrc : g.src = .path p)
include hsrc

/-- The command in flight has no request at the PMU: it is answered alone. -/
theorem abortFlight_arrived (hw : withPmu (arrived 3 k s) g = false) (body : List Word) :
    ∃ t, (abortFlight g (arrived 3 k s)).answer (started 3 k s) .ok 0 body = bothAnswered g k (abortedBody g s) body s t
      ∧ t.bit Reg.CMD_EVENT 3 = true ∧ t.mck = s.mck ∧ t.srx = s.srx ∧ t.buf = s.buf := by
  have hbody : abortedBody g (arrived 3 k s) = abortedBody g s := rfl
  rw [abortFlight_plain hw, hbody]
  have hevent := answer_aborted_event (s := arrived 3 k s) 0 (abortedBody g s) hsrc hr
  obtain ⟨rs, m, hans⟩ := answer_path_eq (s := arrived 3 k s) .aborted 0 (abortedBody g s) hsrc hr
  refine ⟨(arrived 3 k s).answer g .aborted 0 (abortedBody g s), ?_, hevent, ?_, ?_, ?_⟩
  · exact arrived_both_answered hr hfl hord body (by rw [hans]; rfl)
  all_goals
    rw [hans]
    rfl

/-- The command in flight is a power request that the PMU holds: the request ends with it (R102). -/
theorem abortFlight_arrived_request {r : PowerReq} (hop : g.op = 4 ∨ g.op = 5) (hreq : s.pmu.req = some r)
    (hro : r.ord = g.ord) (hs : s.pmu.slot = none) (ha : s.pmu.autoWait = none) (body : List Word) :
    ∃ b t, (abortFlight g (arrived 3 k s)).answer (started 3 k s) .ok 0 body = bothAnswered g k b body s t
      ∧ t.pmu.req = none ∧ t.mode = s.mode := by
  have hflight : (arrived 3 k s).flight r.ord = some g := by
    unfold State.flight arrived
    rw [hfl, hro]
    exact List.find?_cons_of_pos (by simp)
  rw [abortFlight_request (s := arrived 3 k s) hop hreq hro]
  obtain ⟨rs, m, hend⟩ := finishRequest_eq (s := arrived 3 k s) .aborted 0 0x22 hflight hsrc hr hs ha
  refine ⟨_, finishRequest r .aborted 0 0x22 (arrived 3 k s),
    arrived_both_answered hr hfl hord body (by rw [hend]; rfl), ?_, ?_⟩
  all_goals
    rw [hend]
    rfl
end

/-! ## An `ABORT` with nothing under its tag -/

/-- An `ABORT` does not name its own tag (R233). -/
theorem abort_other_tag (hp : proper 3 k s = true) : k.tag.toNat ≠ fieldOf (k.params.getD 0 0) 6 0 := by
  have hbad : badPacket 3 k.tag k.x k.params = none := by
    simp only [proper, Bool.and_eq_true, Option.isNone_iff_eq_none] at hp
    exact hp.2
  intro he
  have hb : badPacket 3 k.tag k.x k.params = badAbort k.tag k.x k.params := rfl
  rw [hb] at hbad
  unfold badAbort at hbad
  split at hbad
  · exact absurd hbad nofun
  · rw [if_pos (by simp [he])] at hbad
    exact absurd hbad nofun

theorem arrive_abort_none (hb : begins 3 k s = true) (hnone : s.tagFlight (fieldOf (k.params.getD 0 0) 6 0) = none) :
    let t := fieldOf (k.params.getD 0 0) 6 0
    settle (arrive 3 k (fresh s))
      = replied 3 k .nothingToAbort 0 [w32 (t + 2 ^ 8 * s.tagOp t + 2 ^ 16 * s.tagState t)] false s (fresh s) := by
  intro t
  have hi := begins_idle hb
  have hp : proper 3 k s = true := by
    simp only [begins, Bool.and_eq_true] at hb
    exact hb.1.2
  let u : State := { fresh s with cmd := { s.cmd with
    flights := [flightOf (.path k.path) 3 k s], nextOrd := s.cmd.nextOrd + 1 } }
  have hcommit : arrive 3 k (fresh s) = commitAbort (started 3 k s) u := arrive_starts hi hp (by decide)
  simp only [cmdIdle, Bool.and_eq_true, List.isEmpty_iff, Bool.not_eq_true'] at hi
  obtain ⟨⟨⟨⟨⟨-, hr⟩, hfl⟩, -⟩, -⟩, -⟩ := hi
  have htarget : u.tagFlight (abortTarget (started 3 k s)) = none := by
    unfold State.tagFlight
    refine List.find?_eq_none.mpr fun f hf => ?_
    obtain rfl := List.mem_singleton.mp hf
    simpa [flightOf, takesTag, abortTarget, started, flightIn] using abort_other_tag hp
  have hbody : u.abortBody (abortTarget (started 3 k s)) = [w32 (t + 2 ^ 8 * s.tagOp t + 2 ^ 16 * s.tagState t)] := by
    unfold State.abortBody State.tagOp State.tagState
    rw [htarget, hnone]
    rfl
  rw [hcommit, commitAbort_none htarget, hbody,
    answer_path (s := u) (pa := k.path) rfl hr (by decide) (by decide)]
  simp [u, replied, replyOf, answerOf, started, flightIn, flightOf, genAfter, hfl]

end Sys2Proof.Machine
end

section
/-! The statement of `ABORT`. -/
open Sys2Proof Sys2Proof.Machine

/-- Settles O7: the outcomes of an `ABORT` at its commit point (`commitAbort_some`, `commitAbort_none`), with the answers of
the command aborted (`abortFlight_arrived`, `abortFlight_arrived_request`) and of the `ABORT` itself. That a waiting `NOP` or
`WEIGH_IN` is answered ABORTED is the model's choice (log entry 127). -/
theorem abortCompletes : Obligations.AbortCompletes := by
  refine ⟨fun k s g p ht hr hp hs hk hfl hsrc hord htag => ?_,
    fun k s hb hnone => congrArg Host.Outcome.next (arrive_abort_none hb hnone)⟩
  intro other body
  have hcommit := commitAbort_some (arrived_target hfl hsrc htag)
  rw [arrived_abortBody hfl hsrc htag] at hcommit
  refine ⟨fun hph hop hother => ?_, fun hreq hspared => ?_⟩
  · have haborts : ¬(g.phase = .committed ∨ g.op = 3 ∨ namesOther (started 3 k s) g = true) := by
      rintro (h | h | h)
      · exact hph h
      · exact hop h
      · exact absurd (hother.symm.trans h) (by decide)
    rw [if_neg haborts] at hcommit
    refine ⟨fun hreq => ?_, fun a hreq hao hop' _ ha => ?_⟩
    · have hno : ∀ n r, s.pmu.req = some r → r.ord ≠ n := fun _ r h => absurd (hreq.symm.trans h) nofun
      have hexec := exec_abort_commits ht hp hs hk (hno _)
      obtain ⟨t, hans, hevent, hmck, hsrx, hbuf⟩ :=
        abortFlight_arrived (k := k) hr hfl hord hsrc (withPmu_none hs (hno _)) body
      rw [hcommit, hans] at hexec
      refine ⟨_, answerOf s.cmd.gen g .aborted 0 (abortedBody g s), answerOf s.cmd.gen (started 3 k s) .ok 0 body, hexec, ?_⟩
      rw [settle_cmd, settle_mck, settle_srx, settle_buf, settle_bit]
      exact ⟨rfl, rfl, rfl, rfl, rfl, rfl, rfl, rfl, hevent, hmck, hsrx, hbuf⟩
    · have hexec := exec_abort_commits ht hp hs hk fun r h => by
        obtain rfl := Option.some.inj (hreq.symm.trans h)
        omega
      obtain ⟨b, t, hans, hnone, hmode⟩ := abortFlight_arrived_request (k := k) hr hfl hord hsrc hop' hreq hao hs ha body
      rw [hcommit, hans] at hexec
      refine ⟨_, answerOf s.cmd.gen g .aborted 0 b, answerOf s.cmd.gen (started 3 k s) .ok 0 body, hexec, ?_⟩
      rw [settle_cmd, settle_pmu, settle_mode]
      exact ⟨rfl, rfl, rfl, rfl, rfl, rfl, rfl, hnone, hmode⟩
  · have hexec := exec_abort_commits ht hp hs hk fun r h => absurd (hreq.symm.trans h) nofun
    rw [hcommit, if_pos (show g.phase = .committed ∨ g.op = 3 ∨ namesOther (started 3 k s) g = true from hspared),
      arrived_answer_abort hr hfl hord body] at hexec
    refine ⟨_, answerOf s.cmd.gen (started 3 k s) .nothingToAbort 0 body, hexec, ?_⟩
    rw [settle_cmd, settle_mck, settle_srx, settle_buf, settle_regs]
    exact ⟨rfl, rfl, rfl, rfl, rfl, rfl, rfl, rfl, rfl⟩
end

section
/-! SUPPORT. `MODE_SET` and `POWER_REQUEST` as they arrive, by what their trial comes to. -/
namespace Sys2Proof.Machine

variable {s : State} {op : Nat} {k : Pkt} {r : PowerReq}

/-! ## The trial of a request -/

/-- The request `r` as the PMU asks it in `s` (R97). -/
def reqAsked (r : PowerReq) (s : State) : PowerReq :=
  { r with before := s.mode, askAt := s.ntu.course, stage := .asking, ans := List.replicate 14 UnitAns.none }

/-- The state as the trial of request `r` begins: its command has started. -/
def reqTried (r : PowerReq) (s : State) : State :=
  { s with
    cmd := { s.cmd with
      flights := s.cmd.flights.map fun f => if f.ord = r.ord then { f with phase := CmdPhase.started } else f }
    pmu := { s.pmu with req := some (reqAsked r s) } }

theorem tryRequest_same (h : r.target = s.mode) :
    tryRequest r s = (reqTried r s).endRequest (reqAsked r s) .ok s.mode 0 0 := if_pos h

theorem tryRequest_wrong (h : r.target ≠ s.mode) (hp : permitted s.mode r.target = false) :
    tryRequest r s = (reqTried r s).endRequest (reqAsked r s) .wrongMode s.mode 0 0 := by
  unfold tryRequest
  refine (if_neg h).trans (if_pos ?_)
  exact congrArg not hp

theorem tryRequest_safe (h : r.target ≠ s.mode) (hp : permitted s.mode r.target = true) (hs : r.target = .safe) :
    tryRequest r s = ((commitReq (reqAsked r s) (reqTried r s)).onReq
      fun r => { r with stage := .carrying }).startChange .safe false false := by
  unfold tryRequest
  refine (if_neg h).trans ((if_neg ?_).trans (if_pos hs))
  exact ne_true_of_eq_false (congrArg not hp)

theorem tryRequest_asks (h : r.target ≠ s.mode) (hp : permitted s.mode r.target = true) (hs : r.target ≠ .safe) :
    tryRequest r s = (let t := (reqTried r s).setReg Reg.PMU_UNIT_ANS 0
      if sleeps r.target then { t with np := t.np.map fun p => { p with holdHost := true } } else t) := by
  unfold tryRequest
  refine (if_neg h).trans ((if_neg ?_).trans (if_neg hs))
  exact ne_true_of_eq_false (congrArg not hp)

/-- The command of a request that came in on a path commits: the generation counts (R102, R232). -/
theorem commitReq_path {f : Flight} {pa : Path} (hf : s.cmd.flights = [f]) (ho : f.ord = r.ord) (hsrc : f.src = .path pa) :
    commitReq r s = { s with cmd := { s.cmd with
      flights := [{ f with phase := .committed }], gen := s.cmd.gen + 1 } } := by
  unfold commitReq
  simp [hf, ho, hsrc, State.genUp, State.flight]

/-- With a request in progress nothing follows (R103). -/
theorem tryNext_busy (h : s.pmu.req.isSome = true) : tryNext s = s := by
  have hafter : afterRequest s = s := if_pos (by simp [h])
  unfold tryNext
  rw [hafter, hafter]

/-! ## A power command that arrives at an idle Command Processor -/

/-- The state as the power command has been taken in. -/
def powerTaken (op : Nat) (k : Pkt) (s : State) : State :=
  { fresh s with cmd := { s.cmd with flights := [flightOf (.path k.path) op k s], nextOrd := s.cmd.nextOrd + 1 } }

/-- The request that the command makes. -/
def powerReqOf (op : Nat) (k : Pkt) (s : State) : PowerReq := requestOf (started op k s)

theorem arrive_power (hop : op = 4 ∨ op = 5) (hb : begins op k s = true) (hf : s.pmu.forced = none) :
    arrive op k (fresh s) = tryNext (tryRequest (powerReqOf op k s) (powerTaken op k s)) := by
  have hi := begins_idle hb
  have hp : proper op k s = true := by
    simp only [begins, Bool.and_eq_true] at hb
    exact hb.1.2
  rw [arrive_starts hi hp (by omega)]
  have hstart : startFlight (flightOf (.path k.path) op k s) (powerTaken op k s)
      = requestArrives (powerReqOf op k s) (powerTaken op k s) := by
    rcases hop with rfl | rfl
    · rfl
    · rfl
  refine hstart.trans (if_pos ?_)
  simp only [cmdIdle, Bool.and_eq_true] at hi
  obtain ⟨⟨⟨-, hreq⟩, -⟩, -⟩ := hi
  simpa [powerTaken, hf] using hreq

/-- A trial that ends at once: the command is answered, and the PMU holds no request. -/
theorem power_ends (st : Status) (hb : begins op k s = true) (ha : s.pmu.autoWait = none) :
    let q := (reqTried (powerReqOf op k s) (powerTaken op k s)).endRequest
      (reqAsked (powerReqOf op k s) (powerTaken op k s)) st s.mode 0 0
    let t := tryNext q
    t.mode = s.mode ∧ t.mck = s.mck ∧ t.srx = s.srx ∧ t.drv = s.drv ∧ t.pmu.req = none
      ∧ t.cmd.held = s.cmd.held ++ [replyOf op s.cmd.nextOrd k st 0 (powerBody s.mode s.mode 0 0 0) s.cmd.gen] := by
  intro q t
  have hi := begins_idle hb
  simp only [cmdIdle, Bool.and_eq_true, Option.isNone_iff_eq_none, Bool.not_eq_true'] at hi
  obtain ⟨⟨⟨⟨⟨-, hr⟩, -⟩, -⟩, hs⟩, -⟩ := hi
  let f : Flight := { flightOf (.path k.path) op k s with phase := .started }
  have hflights : (reqTried (powerReqOf op k s) (powerTaken op k s)).cmd.flights = [f] := by
    simp [reqTried, powerTaken, powerReqOf, requestOf, started, flightIn, flightOf, f]
  have hflight : (reqTried (powerReqOf op k s) (powerTaken op k s)).flight
      (reqAsked (powerReqOf op k s) (powerTaken op k s)).ord = some f := by
    unfold State.flight
    rw [hflights]
    exact List.find?_cons_of_pos (by simp [reqAsked, powerReqOf, requestOf, started, flightIn, flightOf, f])
  obtain ⟨rs, m, hq⟩ := endRequest_eq (s := reqTried (powerReqOf op k s) (powerTaken op k s)) (f := f) (pa := k.path)
    st s.mode 0 0 hflight rfl hr
  have ht : t = q := tryNext_none _ (by rw [show q = _ from hq]; exact hs) (by rw [show q = _ from hq]; exact ha)
  rw [ht, show q = _ from hq]
  refine ⟨rfl, rfl, rfl, rfl, rfl, ?_⟩
  have hbody : powerBody s.mode (reqAsked (powerReqOf op k s) (powerTaken op k s)).before 0 0
      ((reqTried (powerReqOf op k s) (powerTaken op k s)).ntu.course
        - (reqAsked (powerReqOf op k s) (powerTaken op k s)).askAt) = powerBody s.mode s.mode 0 0 0 := by
    show powerBody s.mode s.mode 0 0 (s.ntu.course - s.ntu.course) = _
    rw [Nat.sub_self]
  rw [hbody]
  rfl

/-- A change to another mode than QUIET leaves the grid as it is (R83). -/
theorem startChange_mck {m : Mode} {auto forcing : Bool} (h : m ≠ .quiet) : (s.startChange m auto forcing).mck = s.mck := by
  unfold State.startChange
  simp [h]

/-- A request for SAFE that is permitted commits at its trial. -/
theorem power_safe (hm : (powerReqOf op k s).target ≠ s.mode)
    (hp : permitted s.mode (powerReqOf op k s).target = true) (hsafe : (powerReqOf op k s).target = .safe) :
    let t := tryNext (tryRequest (powerReqOf op k s) (powerTaken op k s))
    t.mode = s.mode ∧ t.mck = s.mck ∧ t.srx = s.srx ∧ t.drv = s.drv ∧ t.pmu.modeNext = some .safe
      ∧ t.cmd.gen = s.cmd.gen + 1
      ∧ t.pmu.req = some { reqAsked (powerReqOf op k s) (powerTaken op k s) with stage := .carrying } := by
  intro t
  let f : Flight := { flightOf (.path k.path) op k s with phase := .started }
  have hflights : (reqTried (powerReqOf op k s) (powerTaken op k s)).cmd.flights = [f] := by
    simp [reqTried, powerTaken, powerReqOf, requestOf, started, flightIn, flightOf, f]
  have ht : t = _ := congrArg tryNext (tryRequest_safe (s := powerTaken op k s) hm hp hsafe)
  rw [commitReq_path (s := reqTried (powerReqOf op k s) (powerTaken op k s)) (f := f) (pa := k.path) hflights rfl rfl,
    tryNext_busy rfl] at ht
  rw [ht]
  exact ⟨rfl, startChange_mck (by decide), rfl, rfl, rfl, rfl, rfl⟩

/-- Any other request that is permitted is asked of every unit. -/
theorem power_asks (hm : (powerReqOf op k s).target ≠ s.mode) (hp : permitted s.mode (powerReqOf op k s).target = true)
    (hsafe : (powerReqOf op k s).target ≠ .safe) :
    let t := tryNext (tryRequest (powerReqOf op k s) (powerTaken op k s))
    t.mode = s.mode ∧ t.mck = s.mck ∧ t.srx = s.srx ∧ t.drv = s.drv ∧ t.cmd.gen = s.cmd.gen
      ∧ t.reg Reg.PMU_UNIT_ANS = 0 ∧ t.pmu.req = some (reqAsked (powerReqOf op k s) (powerTaken op k s)) := by
  intro t
  have ht : t = _ := congrArg tryNext (tryRequest_asks (s := powerTaken op k s) hm hp hsafe)
  have hans : ∀ u : State, (u.setReg Reg.PMU_UNIT_ANS 0).reg Reg.PMU_UNIT_ANS = 0 := fun u => u.reg_setReg_self _ _
  dsimp only at ht
  split at ht
  · rw [tryNext_busy rfl] at ht
    rw [ht]
    exact ⟨rfl, rfl, rfl, rfl, rfl, hans _, rfl⟩
  · rw [tryNext_busy rfl] at ht
    rw [ht]
    exact ⟨rfl, rfl, rfl, rfl, rfl, hans _, rfl⟩

end Sys2Proof.Machine
end

section
/-! The statement of `MODE_SET` and `POWER_REQUEST`. -/
open Sys2Proof Sys2Proof.Machine

/-- Settles O8: the request that the command makes, by what its trial comes to (`tryRequest_same`, `tryRequest_wrong`,
`power_safe`, `power_asks`). -/
theorem powerCommandsComplete : Obligations.PowerCommandsComplete := by
  intro op k s hop hb hf ha target body
  have hexec : exec (if op = 4 then .modeSet k else .powerRequest k) s = .next (settle (arrive op k (fresh s))) := by
    rcases hop with rfl | rfl
    · rfl
    · rfl
  rw [arrive_power hop hb hf] at hexec
  have htarget : (powerReqOf op k s).target = target := rfl
  refine ⟨_, hexec, ?_⟩
  rw [settle_mode, settle_mck, settle_srx, settle_drv, settle_pmu, settle_cmd, settle_reg]
  by_cases hm : target = s.mode
  · rw [tryRequest_same (s := powerTaken op k s) (htarget.trans hm)]
    obtain ⟨hmode, hmck, hsrx, hdrv, hreq, hheld⟩ := power_ends .ok hb ha
    exact ⟨hmode, hmck, hsrx, hdrv, fun _ => ⟨hreq, hheld⟩, fun h => absurd hm h, fun h => absurd hm h⟩
  · cases hp : permitted s.mode target with
    | false =>
      rw [tryRequest_wrong (s := powerTaken op k s) (r := powerReqOf op k s) hm hp]
      obtain ⟨hmode, hmck, hsrx, hdrv, hreq, hheld⟩ := power_ends .wrongMode hb ha
      exact ⟨hmode, hmck, hsrx, hdrv, fun h => absurd h hm, fun _ _ => ⟨hreq, hheld⟩, fun _ h => absurd h nofun⟩
    | true =>
      by_cases hsafe : target = .safe
      · obtain ⟨hmode, hmck, hsrx, hdrv, hnext, hgen, hreq⟩ := power_safe hm hp hsafe
        exact ⟨hmode, hmck, hsrx, hdrv, fun h => absurd h hm, fun _ h => absurd h nofun,
          fun _ _ => ⟨_, hreq, rfl, rfl, rfl, fun _ => ⟨rfl, hnext, hgen⟩, fun h => absurd hsafe h⟩⟩
      · obtain ⟨hmode, hmck, hsrx, hdrv, hgen, hans, hreq⟩ := power_asks hm hp hsafe
        exact ⟨hmode, hmck, hsrx, hdrv, fun h => absurd h hm, fun _ h => absurd h nofun,
          fun _ _ => ⟨_, hreq, rfl, rfl, rfl, fun h => absurd h hsafe, fun _ => ⟨rfl, rfl, hgen, hans⟩⟩⟩
end

section
/-! SUPPORT. A port that ends its disable as its register is written, with a handed Start List entry far beyond those that a
command can write. -/
namespace Sys2Proof.Machine

/-- The Start List entry whose flag of NTU_SL_DONE would stand in bit 1 of NP0_CFG. The number that STARTLIST_LOAD gives an
entry has ten bits (R385), so no command writes this one. -/
def cfgEntry : Nat := 32 * ((Reg.NP_CFG 0 - Reg.NTU_SL_DONE 0) / 4) + 1

/-- A PORT_CONFIG without EN from that entry, which awaits the end of port 0. -/
def cfgFlight : Flight :=
  { ord := 0, src := .starter cfgEntry, op := 0x50, tag := 0, x := false, s := false, c := false, seq := 0, params := [],
    phase := .committed, fin := .portDown 0 }

/-- BOOT with the host interface up, port 0 live until its frame in progress ends, and the entry handed to its command. -/
def cfgState : State :=
  { hif := { up := true }
    cmd := { flights := [cfgFlight] }
    ntu := { list := [(cfgEntry,
      { time := 0, action := 0, lateDrop := false, pin := 0, level := 0, stream := 0, state := .handed })] }
    np := [{ live := true, disabling := true }, {}] }

/-- The fields of NPx_CFG (R296, R317). -/
def npCfgRow : RegRow := { base := Reg.NP_CFG 0, reset := 0x8, rw := 0x1, rwd := 0xE }

theorem regRow_npCfg : regRow (Reg.NP_CFG 0) = some npCfgRow := by decide

/-- A write of EN in that state ends the disable, and the end of its command sets the flag of the entry: bit 1 of NP0_CFG, an
RWD bit, reads as 1. -/
theorem cfgState_written :
    (settle (wordWrite .host (Reg.NP_CFG 0) 1 cfgState)).reg (Reg.NP_CFG 0) &&& w32 0xE
      ≠ cfgState.reg (Reg.NP_CFG 0) &&& w32 0xE := by decide +kernel

end Sys2Proof.Machine
end

section
/-! The statement of the writes and reads of plain registers. -/
open Sys2Proof Sys2Proof.Machine

/-- Refutes O36: its clause on RWD fields speaks of every state, one with a handed Start List entry of any number included. The
flag of that entry in NTU_SL_DONE would stand in NP0_CFG beside EN, at bit 1; a write of EN to a port whose disable is under way
ends the disable, with it the PORT_CONFIG of the entry, which sets the flag, and so an RWD field reads otherwise than
before. The clause wants the numbers of the list's entries bounded. -/
theorem not_registerAccessCompletes : ¬ Obligations.RegisterAccessCompletes := by
  intro h
  obtain ⟨-, hplain⟩ := h.1 .host (Reg.NP_CFG 0) 0 0xF 1 npCfgRow .bar0 cfgState (by decide) (by decide) (by decide)
    regRow_npCfg rfl (by decide) (by decide) rfl (by decide) (by decide)
  obtain ⟨-, -, hrwd, -⟩ := hplain (by decide)
  obtain ⟨t, e, ht, -, -, hkept⟩ := hrwd rfl rfl rfl (by decide) (by decide)
  have hnext : exec (.registerWrite ⟨.host, .bar0⟩ (Reg.NP_CFG 0) 0xF 1) cfgState
      = .next (settle (wordWrite .host (Reg.NP_CFG 0) 1 cfgState)) := rfl
  rw [hnext] at ht
  obtain rfl := Host.Outcome.next.inj ht
  exact cfgState_written hkept
end

section
/-! SUPPORT. The keyed words and the writes to them, with a sequence open in the window and without one (R147, R148). -/
namespace Sys2Proof.Machine

variable {s : State} {p : Path} {a : Nat} {v : Word}

/-- A row of keyed words holds one word, which is the value word of a keyed register or the complement word of one. -/
theorem keyedRow_base : ∀ w < 16, ∀ r ∈ windowRows w, r.key = true →
    r.stride = 4 ∧ r.count = 1 ∧ (r.base ∈ keyedRegs ∨ r.base % 8 = 4) := by decide

theorem mem_keyedRegs (hlt : a < 0x40000) (h : isKeyValue a = true) : a ∈ keyedRegs := by
  unfold isKeyValue at h
  cases hr : regRow a with
  | none => simp [hr] at h
  | some r =>
    simp only [hr, Bool.and_eq_true, decide_eq_true_eq] at h
    obtain ⟨h8, hkey⟩ := h
    obtain ⟨hstride, hcount, hbase⟩ := keyedRow_base _ (by omega) r (List.mem_of_find?_eq_some hr) hkey
    have hholds : r.holds a = true := List.find?_some (p := fun q : RegRow => q.holds a) hr
    simp only [RegRow.holds, hstride, hcount, Bool.and_eq_true, decide_eq_true_eq] at hholds
    obtain rfl : a = r.base := by omega
    exact hbase.resolve_right (by omega)

/-- Value word and complement word stand in one window, in the normal view, each at its canonical address. -/
theorem keyedRegs_words : ∀ b ∈ keyedRegs, b + 4 < 0x80000 ∧ busCanon b = b ∧ busView b = 0 ∧ busView (b + 4) = 0
    ∧ busCanon (b + 4) = b + 4 ∧ busWindow (b + 4) = busWindow b ∧ isKeyValue b = true := by decide

/-- Both words of a keyed register have a row of keyed words. -/
theorem keyedRegs_rows : ∀ b ∈ keyedRegs,
    (regRow b).map RegRow.key = some true ∧ (regRow (b + 4)).map RegRow.key = some true := by decide

/-- A write that reaches a word of the unit windows. -/
theorem busWrite_answers {be : BitVec 4} (hbe : be ≠ 0) (hlt : a < 0x80000) (h : s.answers p a = true) :
    busWrite p a be v s = regWrite p a be v s := by
  have hre : reachable p a = true := by simp [reachable]; left; omega
  unfold busWrite
  rw [if_neg (by simpa [hre] using hbe), if_pos hlt, if_pos h]

/-- A value word written with no sequence open in its window opens one. -/
theorem wordWrite_keyValue (ha : a ∈ keyedRegs) (h : s.answers p a = true) (hk : tget s.keys (busWindow a) = none) :
    wordWrite p a v s
      = { fresh s with keys := tset s.keys (busWindow a) { addr := a, issued := a, path := p, value := v } } := by
  obtain ⟨hlt, hcanon, hview, -, -, -, hvalue⟩ := keyedRegs_words a ha
  obtain ⟨r, hr, hkey⟩ := Option.map_eq_some_iff.mp (keyedRegs_rows a ha).1
  have hnone : tget (fresh s).keys (busWindow a) = none := hk
  refine (busWrite_answers (s := fresh s) (by decide) (by omega) h).trans ?_
  unfold regWrite
  rw [hcanon, hr]
  simp only [hnone, hkey, if_true]
  unfold keyWrite
  rw [hcanon]
  exact if_pos (by simp [hview, hvalue])

/-- The complement word written with a sequence open in its window. -/
theorem busWrite_complement {k : KeySeq} (ha : a ∈ keyedRegs) (h : s.answers p (a + 4) = true)
    (hk : tget s.keys (busWindow a) = some k) : busWrite p (a + 4) 0xF v s
      = if completes k (a + 4) 0xF v then keyedEffect k.addr k.value { s with keys := terase s.keys (busWindow a) }
        else keyFault p (a + 4) 0xF { s with keys := terase s.keys (busWindow a) } := by
  obtain ⟨hlt, -, -, -, hcanon, hwindow, -⟩ := keyedRegs_words a ha
  obtain ⟨r, hr, hkey⟩ := Option.map_eq_some_iff.mp (keyedRegs_rows a ha).2
  refine (busWrite_answers (by decide) hlt h).trans ?_
  unfold regWrite
  rw [hcanon, hwindow, hr]
  simp only [hk, hkey, if_true]

theorem completes_complement {k : KeySeq} (ha : a ∈ keyedRegs) (hk : k.addr = a) (hage : k.age ≤ 128) :
    completes k (a + 4) 0xF (~~~k.value) = true := by
  obtain ⟨-, -, -, hview, hcanon, -, -⟩ := keyedRegs_words a ha
  simp [completes, hview, hcanon, hk, keyNs, hage]

theorem completes_other {k : KeySeq} (h : v ≠ ~~~k.value) : completes k (a + 4) 0xF v = false := by
  simp [completes, h]

end Sys2Proof.Machine
end

section
/-! SUPPORT. What the answers of commands leave alone, the restart of the Command Processor, and the forced actions of a
change of mode. -/
namespace Sys2Proof.Machine

variable (s : State)

/-! ## Answers -/

/-- Everything but the flights and replies of the Command Processor, the contents of the registers and what the Start List
records of its entries is as it was. -/
def sameButReplies (s t : State) : Prop :=
  ∃ rs m l fl h a i, t = { s with
    regs := rs, misparity := m, ntu := { s.ntu with list := l }
    cmd := { s.cmd with flights := fl, held := h, after := a, imageStop := i } } ∧ l.map Prod.fst = s.ntu.list.map Prod.fst

theorem sameButReplies.refl (s : State) : sameButReplies s s :=
  ⟨s.regs, s.misparity, s.ntu.list, s.cmd.flights, s.cmd.held, s.cmd.after, s.cmd.imageStop, rfl, rfl⟩

theorem sameButReplies.trans {s t u : State} (h : sameButReplies s t) (h' : sameButReplies t u) : sameButReplies s u := by
  obtain ⟨_, _, _, _, _, _, _, rfl, hl⟩ := h
  obtain ⟨_, _, _, _, _, _, _, rfl, hl'⟩ := h'
  exact ⟨_, _, _, _, _, _, _, rfl, hl'.trans hl⟩

theorem sameButReplies_foldl {α : Type} {f : State → α → State} (hf : ∀ t a, sameButReplies t (f t a)) (l : List α)
    (s : State) : sameButReplies s (l.foldl f s) := by
  induction l generalizing s with
  | nil => exact .refl s
  | cons a l ih => exact (hf s a).trans (ih (f s a))

theorem fst_tmod {α : Type} (t : Table α) (k : Nat) (f : α → α) : (tmod t k f).map Prod.fst = t.map Prod.fst := by
  unfold tmod
  rw [List.map_map]
  refine List.map_congr_left fun e _ => ?_
  obtain ⟨a, v⟩ := e
  simp only [Function.comp]
  split <;> rfl

theorem sameButReplies_slDone (e : Nat) (st : SlState) (status : Nat) : sameButReplies s (s.slDone e st status) := by
  obtain ⟨_, _, h⟩ := s.slDone_eq e st status
  exact ⟨_, _, _, _, _, _, _, h, fst_tmod ..⟩

theorem sameButReplies_slOutcome (e : Nat) (st : Status) : sameButReplies s (s.slOutcome e st) := by
  unfold State.slOutcome
  split
  · exact .refl s
  · split
    · exact .refl s
    · split
      · exact sameButReplies_slDone ..
      · exact sameButReplies_slDone ..

theorem sameButReplies_hold (r : Reply) : sameButReplies s (s.hold r) := by
  have hhold : s.hold r = if (replyFlagged r s).cmd.restarting then
      { replyFlagged r s with cmd := { (replyFlagged r s).cmd with after := (replyFlagged r s).cmd.after ++ [r] } }
    else { replyFlagged r s with cmd := { (replyFlagged r s).cmd with held := (replyFlagged r s).cmd.held ++ [r] } } := rfl
  obtain ⟨rs, m, h⟩ := replyFlagged_eq (s := s) r
  rw [hhold, h]
  split
  · exact ⟨rs, m, _, _, _, _, _, rfl, rfl⟩
  · exact ⟨rs, m, _, _, _, _, _, rfl, rfl⟩

theorem sameButReplies_flightOut (f : Flight) : sameButReplies s (flightOut f s) :=
  ⟨s.regs, s.misparity, s.ntu.list, _, s.cmd.held, s.cmd.after, s.cmd.imageStop, rfl, rfl⟩

theorem sameButReplies_answer (f : Flight) (st : Status) (word : Nat) (body : List Word) :
    sameButReplies s (s.answer f st word body) := by
  refine (sameButReplies_flightOut s f).trans ?_
  unfold State.answer
  dsimp only
  split
  · exact sameButReplies_slOutcome ..
  · split
    · exact .refl _
    · exact ⟨s.regs, s.misparity, s.ntu.list, _, s.cmd.held, s.cmd.after, true, rfl, rfl⟩
  · exact sameButReplies_hold ..

theorem State.slOutcome_cmd (e : Nat) (st : Status) : (s.slOutcome e st).cmd = s.cmd := by
  unfold State.slOutcome
  split
  · rfl
  · split
    · rfl
    · split
      · exact State.slDone_cmd ..
      · exact State.slDone_cmd ..

theorem State.hold_flights (r : Reply) : (s.hold r).cmd.flights = s.cmd.flights := by
  unfold State.hold
  dsimp only
  split_ifs <;> rfl

theorem State.answer_flights (f : Flight) (st : Status) (word : Nat) (body : List Word) :
    (s.answer f st word body).cmd.flights = s.cmd.flights.filter fun g => decide (g.ord ≠ f.ord) := by
  unfold State.answer
  dsimp only
  split
  · rw [State.slOutcome_cmd]
  · split <;> rfl
  · exact State.hold_flights ..

/-- Of the flights, those that are answered one after the other leave. -/
theorem mem_flights_answers {st : Status} {word : Nat} {body : Flight → List Word} {l : List Flight} {g : Flight}
    (h : g ∈ (l.foldl (fun s f => s.answer f st word (body f)) s).cmd.flights) :
    g ∈ s.cmd.flights ∧ ∀ f ∈ l, g.ord ≠ f.ord := by
  induction l generalizing s with
  | nil => exact ⟨h, fun f hf => absurd hf List.not_mem_nil⟩
  | cons f l ih =>
    obtain ⟨hg, hl⟩ := ih _ h
    rw [State.answer_flights] at hg
    obtain ⟨hmem, hne⟩ := List.mem_filter.mp hg
    refine ⟨hmem, fun f' hf' => ?_⟩
    rcases List.mem_cons.mp hf' with rfl | htail
    · exact of_decide_eq_true hne
    · exact hl f' htail

/-! ## The restart of the Command Processor (R172, R235) -/

/-- The state as the restart of the Command Processor begins. -/
def restartBegun (cause : Nat) (s : State) : State :=
  { s with cmd := { s.cmd with
      ready := false, restarting := true, cause := cause, restarts := satNat 0xFFFF (s.cmd.restarts + 1),
      restartTick := s.logTick, held := s.cmd.held.map fun r => { r with behind := none } } }

/-- The restart answers with LOST what has not committed. -/
def restartLost (cause : Nat) (s : State) : State :=
  (s.cmd.flights.filter fun f => decide (f.phase ≠ .committed)).foldl
    (fun t f => t.answer f .lost 0 ((restartBegun cause s).lostBody f)) (restartBegun cause s)

/-- With the answers made, the restart ends the wait of a power request that is being asked and no more. -/
theorem cmdRestart_eq (cause : Nat) : ∃ rs m np rud pmu, s.cmdRestart cause = { restartLost cause s with
    regs := rs, misparity := m, np := np, rud := rud, pmu := pmu } ∧ pmu.mode = (restartLost cause s).pmu.mode := by
  unfold State.cmdRestart
  dsimp only
  split
  · split
    · exact ⟨_, _, _, _, _, rfl, rfl⟩
    · exact ⟨_, _, _, _, _, rfl, rfl⟩
  · exact ⟨_, _, _, _, _, rfl, rfl⟩

theorem sameButReplies_restartLost (cause : Nat) : sameButReplies (restartBegun cause s) (restartLost cause s) :=
  sameButReplies_foldl (fun t _ => sameButReplies_answer t ..) _ _

/-- What a restart leaves in flight has committed. -/
theorem cmdRestart_flights {cause : Nat} {f : Flight} (h : f ∈ (s.cmdRestart cause).cmd.flights) : f.phase = .committed := by
  obtain ⟨_, _, _, _, _, heq, -⟩ := cmdRestart_eq s cause
  rw [heq] at h
  obtain ⟨hmem, hne⟩ := mem_flights_answers (restartBegun cause s) h
  by_contra hphase
  exact hne f (List.mem_filter.mpr ⟨hmem, decide_eq_true hphase⟩) rfl

theorem cmdRestart_keeps (cause : Nat) : let t := s.cmdRestart cause
    t.cmd.ready = false ∧ t.cmd.restarting = true ∧ t.cmd.cause = cause ∧ t.cmd.gen = s.cmd.gen ∧ t.srx = s.srx
      ∧ t.buf = s.buf ∧ t.patch = s.patch := by
  intro t
  obtain ⟨_, _, _, _, _, heq, -⟩ := cmdRestart_eq s cause
  obtain ⟨_, _, _, _, _, _, _, hlost, -⟩ := sameButReplies_restartLost s cause
  rw [show t = _ from heq, hlost]
  exact ⟨rfl, rfl, rfl, rfl, rfl, rfl, rfl⟩

/-! ## Forced actions leave the mode alone (R100) -/

theorem State.endInProgress_core (reason : Nat) : (s.endInProgress reason).core = s.core := by
  unfold State.endInProgress
  split
  · exact State.endRequest_core ..
  · rfl

theorem State.rxDisable_core (ovr n : Nat) : (s.rxDisable ovr n).1.core = s.core := by
  unfold State.rxDisable
  dsimp only
  split
  · rfl
  · split <;> rfl

theorem srxDisableAll_core : (srxDisableAll s).core = s.core :=
  foldl_keeps State.core _ (fun t n => t.rxDisable_core 0 n) _ s

theorem State.txDisable_core (drop : Bool) (n : Nat) : (s.txDisable drop n).1.core = s.core := by
  unfold State.txDisable
  split <;> rfl

theorem stxDisableAll_core : (stxDisableAll s).core = s.core :=
  foldl_keeps State.core _ (fun t n => t.txDisable_core false n) _ s

theorem State.memRewritten_core (m : Nat) (p : Nat → Bool) : (s.memRewritten m p).core = s.core := by
  unfold State.memRewritten
  split
  · rfl
  · dsimp only
    split <;> rfl

theorem slClear_core : (slClear s).core = s.core := State.memRewritten_core ..

theorem stxDropStores_core : (stxDropStores s).core = s.core := by
  unfold stxDropStores
  dsimp only
  refine foldl_keeps State.core _ (fun t n => ?_) _ { s with stx := { s.stx with reqA := [], reqB := [] } }
  split
  · exact (State.txFlag_core ..).trans (t.txDropStore_core n)
  · exact t.txDropStore_core n

theorem State.tdmForceStop_core (n : Nat) : (s.tdmForceStop n).core = s.core := by
  unfold State.tdmForceStop
  dsimp only
  split
  · rfl
  · exact tdmEndFlights_core ..

theorem State.ringStop_core (i : Nat) : (s.ringStop i).core = s.core := by
  unfold State.ringStop
  dsimp only
  split <;> rfl

theorem State.stopRings_core : s.stopRings.core = s.core := foldl_keeps State.core _ State.ringStop_core _ s

/-- Stores, TDM ports and rings stop. -/
def sleepStopped (s : State) : State := ((List.range 16).foldl State.tdmForceStop (stxDropStores s)).stopRings

theorem sleepStopped_core : (sleepStopped s).core = s.core :=
  (State.stopRings_core _).trans ((foldl_keeps State.core _ State.tdmForceStop_core _ _).trans (stxDropStores_core s))

theorem forcedActions_core (m : Mode) : (forcedActions m s).core = s.core := by
  unfold forcedActions
  extract_lets s1 s2 s3
  have h1 : s1.core = s.core := by
    unfold s1
    split
    · rfl
    · exact (stxDisableAll_core _).trans (srxDisableAll_core s)
  have h2 : s2.core = s.core := by
    unfold s2
    split
    · exact (slClear_core s1).trans h1
    · exact h1
  have h3 : s3.core = s.core := by
    unfold s3
    split
    · exact (sleepStopped_core s2).trans h2
    · exact h2
  exact (State.endFlights_core ..).trans h3

/-! ## With the Start List cleared, nothing enters an entry (R100) -/

/-- The numbers of the Start List entries. -/
def State.entries (s : State) : List Nat := s.ntu.list.map Prod.fst

theorem entries_nil_iff : s.entries = [] ↔ s.ntu.list = [] := List.map_eq_nil_iff

theorem sameButReplies.entries {s t : State} (h : sameButReplies s t) : t.entries = s.entries := by
  obtain ⟨_, _, _, _, _, _, _, rfl, hl⟩ := h
  exact hl

theorem State.answer_entries (f : Flight) (st : Status) (word : Nat) (body : List Word) :
    (s.answer f st word body).entries = s.entries := (sameButReplies_answer s f st word body).entries

theorem slClear_entries : (slClear s).entries = [] := by
  unfold slClear State.memRewritten
  dsimp only
  split
  · rfl
  · split <;> rfl

theorem State.withPend_entries (pend : State → Bool) (ev i : Nat) (f : State → State) :
    (s.withPend pend ev i f).entries = (f s).entries := by
  unfold State.withPend
  dsimp only
  split <;> rfl

theorem State.txDropStore_entries (n : Nat) : (s.txDropStore n).entries = s.entries := rfl

theorem stxDropStores_entries : (stxDropStores s).entries = s.entries := by
  unfold stxDropStores
  dsimp only
  refine foldl_keeps State.entries _ (fun t n => ?_) _ { s with stx := { s.stx with reqA := [], reqB := [] } }
  split
  · exact State.withPend_entries ..
  · exact t.txDropStore_entries n

theorem tdmEndFlights_entries (n : Nat) : (tdmEndFlights n s).entries = s.entries :=
  (foldl_keeps State.entries _ (fun t _ => t.answer_entries ..) _ _).trans
    (foldl_keeps State.entries _ (fun t _ => t.answer_entries ..) _ s)

theorem State.tdmForceStop_entries (n : Nat) : (s.tdmForceStop n).entries = s.entries := by
  unfold State.tdmForceStop
  dsimp only
  split
  · rfl
  · exact tdmEndFlights_entries ..

theorem State.ringStop_entries (i : Nat) : (s.ringStop i).entries = s.entries := by
  unfold State.ringStop
  dsimp only
  split <;> rfl

theorem sleepStopped_entries : (sleepStopped s).entries = s.entries :=
  (foldl_keeps State.entries _ State.ringStop_entries _ _).trans
    ((foldl_keeps State.entries _ State.tdmForceStop_entries _ _).trans (stxDropStores_entries s))

/-- The forced actions for MOORED leave the Start List empty. -/
theorem forcedActions_moored_entries : (forcedActions .moored s).entries = [] := by
  refine (foldl_keeps State.entries _ (fun t _ => t.answer_entries ..) _ _).trans ?_
  exact (sleepStopped_entries _).trans (slClear_entries _)

end Sys2Proof.Machine
end

section
/-! SUPPORT. What a keyed write of each register does: a forced mode, the restart of a port, a ROM patch and the bank map. -/
namespace Sys2Proof.Machine

variable {s : State}

/-! ## Forced modes (R118) -/

theorem sameButObl_oblLeaving (s : State) : sameButObl s (oblLeaving s) := by
  refine sameButObl_foldl (fun t q => ?_) [0, 1] s
  split
  · exact sameButObl_sendLink ..
  · exact .refl t

/-- The forced actions of a change to `m`, and with MOORED the LINK frames and the ports that fall silent. -/
def forceActed (m : Mode) (s : State) : State :=
  let s1 := forcedActions m (s.endInProgress 0x21)
  if m = .moored then oblLeaving (dropEgress s1) else s1

theorem forceActed_core (m : Mode) : (forceActed m s).core = s.core := by
  have h1 : (forcedActions m (s.endInProgress 0x21)).core = s.core :=
    (forcedActions_core _ m).trans (s.endInProgress_core 0x21)
  unfold forceActed
  dsimp only
  split
  · exact (sameButObl_oblLeaving _).core.trans h1
  · exact h1

theorem forceActed_moored_list : (forceActed .moored s).ntu.list = [] := by
  have h1 := (entries_nil_iff _).mp (forcedActions_moored_entries (s.endInProgress 0x21))
  obtain ⟨o, ho⟩ := sameButObl_oblLeaving (dropEgress (forcedActions .moored (s.endInProgress 0x21)))
  show (oblLeaving (dropEgress (forcedActions .moored (s.endInProgress 0x21)))).ntu.list = []
  rw [ho]
  exact h1

theorem clocked_modes (h : clocked s.mode = true) : s.mode ≠ .moored ∧ s.mode ≠ .watch := by
  constructor <;> intro hm <;> rw [hm] at h <;> exact absurd h (by decide)

/-- A forced change to `m` waits for its instant. -/
def forceStarted (m : Mode) (s : State) : State :=
  let t := s.startChange m false true
  { t with pmu := { t.pmu with forced := some m } }

/-- A forced change to another mode than that in force begins. -/
theorem modeForce_begins {m : Mode} (hc : clocked s.mode = true) (hm : m ≠ s.mode) :
    modeForce m s = forceStarted m (forceActed m s) := by
  obtain ⟨hmoored, hwatch⟩ := clocked_modes hc
  have hmode : m ≠ (forcedActions m (s.endInProgress 0x21)).mode := by
    rw [State.mode_of_core ((forcedActions_core _ m).trans (s.endInProgress_core 0x21))]
    exact hm
  unfold modeForce
  exact (if_neg hmoored).trans ((if_neg hwatch).trans (if_neg hmode))

theorem forceStarted_mode (m : Mode) (s : State) : (forceStarted m s).mode = s.mode := rfl
theorem forceStarted_ntu (m : Mode) (s : State) : (forceStarted m s).ntu = s.ntu := rfl

theorem modeForce_pmu {m : Mode} (hc : clocked s.mode = true) (hm : m ≠ s.mode) :
    (modeForce m s).pmu.forced = some m ∧ (modeForce m s).pmu.modeNext = some m ∧ (modeForce m s).mode = s.mode := by
  rw [modeForce_begins hc hm]
  exact ⟨rfl, rfl, (forceStarted_mode ..).trans (State.mode_of_core (forceActed_core m))⟩

theorem modeForce_moored_list (hc : clocked s.mode = true) : (modeForce .moored s).ntu.list = [] := by
  rw [modeForce_begins hc (clocked_modes hc).1.symm, forceStarted_ntu]
  exact forceActed_moored_list

/-! ## The restart of a port (R317, R320) -/

section port
variable {p : Nat}

/-- What the restart of port `p` leaves alone beside it. -/
def State.besidePort (p : Nat) (s : State) : NetPort × Mode × Nat := (s.port (1 - p), s.mode, s.np.length)

theorem onPort_besidePort (hp : p < 2) (f : NetPort → NetPort) : (s.onPort p f).besidePort p = s.besidePort p := by
  have h : (s.onPort p f).port (1 - p) = s.port (1 - p) := getD_listMod_ne _ _ _ (by omega)
  unfold State.besidePort
  rw [h]
  exact congrArg (fun n => (s.port (1 - p), s.mode, n)) (length_listMod ..)

theorem onPort_port (hl : p < s.np.length) (f : NetPort → NetPort) : (s.onPort p f).port p = f (s.port p) :=
  getD_listMod_self _ _ _ _ hl

theorem sameButQueues.np {s t : State} (h : sameButQueues s t) : t.np = s.np := by
  obtain ⟨_, _, _, rfl⟩ := h
  rfl

theorem sameButQueues.mode {s t : State} (h : sameButQueues s t) : t.mode = s.mode := by
  obtain ⟨_, _, _, rfl⟩ := h
  rfl

theorem sameButQueues_stampAbort (s : State) (p : Nat) : sameButQueues s (stampAbort p s) := sameButQueues_onQueue s _ _

theorem sameButQueues_txGone (s : State) (f : TxFrame) : sameButQueues s (txGone f s) := by
  unfold txGone
  split
  · exact sameButQueues_onQueue s _ _
  · exact .refl s

/-- The port as its restart looks at it, with what the restart leaves alone beside it. -/
def State.portMark (p : Nat) (s : State) : (NetPort × Mode × Nat) × Bool × Bool × Option (Nat × TxFrame) :=
  (s.besidePort p, (s.port p).live, (s.port p).link, (s.port p).sending)

theorem onPort_portMark (hp : p < 2) (hl : p < s.np.length) (f : NetPort → NetPort)
    (hf : ((f (s.port p)).live, (f (s.port p)).link, (f (s.port p)).sending)
      = ((s.port p).live, (s.port p).link, (s.port p).sending)) : (s.onPort p f).portMark p = s.portMark p := by
  unfold State.portMark
  rw [onPort_besidePort hp, onPort_port hl, hf]

theorem sameButQueues.portMark {s t : State} (h : sameButQueues s t) (p : Nat) : t.portMark p = s.portMark p := by
  unfold State.portMark State.besidePort State.port
  rw [h.np, h.mode]

theorem lt_np_of_besidePort {t : State} (h : t.besidePort p = s.besidePort p) (hl : p < s.np.length) : p < t.np.length := by
  rw [show t.np.length = s.np.length from congrArg (fun m => m.2.2) h]
  exact hl

theorem lt_np_of_portMark {t : State} (h : t.portMark p = s.portMark p) : p < s.np.length → p < t.np.length :=
  lt_np_of_besidePort (congrArg Prod.fst h)

theorem creditStep_portMark (hp : p < 2) (hl : p < s.np.length) : (creditStep p s).portMark p = s.portMark p :=
  onPort_portMark hp hl _ rfl

theorem charge_portMark (hp : p < 2) (hl : p < s.np.length) (q : Nat) (bytes : Int) :
    (s.charge p q bytes).portMark p = s.portMark p := onPort_portMark hp hl _ rfl

/-- A frame that is cut keeps its place in the port, and is marked as cut. -/
theorem txCut_port (hp : p < 2) (hl : p < s.np.length) : (txCut p s).portMark p = s.portMark p
    ∧ ((s.port p).sending.isSome = true → ((txCut p s).port p).lastCut = true) := by
  unfold txCut
  split
  · rename_i hnone
    exact ⟨rfl, fun h => by simp [hnone] at h⟩
  · rename_i q f _
    extract_lets left s1
    have hstamp : (if f.tstamp = true then stampAbort p s else s).portMark p = s.portMark p := by
      split
      · exact (sameButQueues_stampAbort s p).portMark p
      · rfl
    have h1 : s1.portMark p = s.portMark p :=
      (charge_portMark hp (lt_np_of_portMark hstamp hl) q _).trans hstamp
    have hl1 : p < s1.np.length := lt_np_of_portMark h1 hl
    refine ⟨(onPort_portMark hp hl1 _ rfl).trans h1, fun _ => ?_⟩
    rw [onPort_port hl1]

/-- A frame that was cut, or none, ends without a return to the receiver. -/
theorem txEnd_port (hp : p < 2) (hl : p < s.np.length)
    (hcut : (s.port p).sending.isSome = true → (s.port p).lastCut = true) : (txEnd p s).besidePort p = s.besidePort p
      ∧ ((txEnd p s).port p).live = (s.port p).live ∧ ((txEnd p s).port p).sending = none := by
  have hc := creditStep_portMark (s := s) hp hl
  have hlc : p < (creditStep p s).np.length := lt_np_of_portMark hc hl
  have hlive : ((creditStep p s).port p).live = (s.port p).live := congrArg (fun m => m.2.1) hc
  unfold txEnd
  dsimp only
  split
  · rename_i hnone
    exact ⟨congrArg Prod.fst hc, hlive, (congrArg (fun m => m.2.2.2) hc).trans hnone⟩
  · rename_i q f hsome
    have hlast : (s.port p).lastCut = true := hcut (by simp [hsome])
    rw [if_neg (by simp [hlast])]
    have hg := (sameButQueues_txGone ((creditStep p s).onPort p fun np => { np with sending := none }) f).portMark p
    have hport := onPort_port hlc fun np => { np with sending := none }
    refine ⟨(congrArg Prod.fst hg).trans ((onPort_besidePort hp _).trans (congrArg Prod.fst hc)), ?_, ?_⟩
    · exact (congrArg (fun m => m.2.1) hg).trans ((congrArg NetPort.live hport).trans hlive)
    · exact (congrArg (fun m => m.2.2.2) hg).trans (congrArg NetPort.sending hport)

theorem linkFalls_port (hp : p < 2) (hl : p < s.np.length) : (linkFalls p s).besidePort p = s.besidePort p
    ∧ ((linkFalls p s).port p).live = (s.port p).live ∧ ((linkFalls p s).port p).sending = (s.port p).sending
    ∧ ((linkFalls p s).port p).link = false := by
  unfold linkFalls
  split
  · let u := s.onPort p fun np => { np with link := false, linkAt := s.ntu.course }
    have hnp : ((u.flag (Reg.NP_EVENT p) 1).trackRefs).np = u.np := State.trackRefs_np _
    have hmode : ((u.flag (Reg.NP_EVENT p) 1).trackRefs).mode = u.mode := congrArg Pmu.mode (State.trackRefs_pmu _)
    have hbeside : ((u.flag (Reg.NP_EVENT p) 1).trackRefs).besidePort p = u.besidePort p := by
      unfold State.besidePort State.port
      rw [hnp, hmode]
    have hport : ((u.flag (Reg.NP_EVENT p) 1).trackRefs).port p = u.port p := by
      unfold State.port
      rw [hnp]
    rw [hbeside, hport, onPort_port hl]
    exact ⟨onPort_besidePort hp _, rfl, rfl, rfl⟩
  · rename_i hlink
    exact ⟨rfl, rfl, rfl, by simpa using hlink⟩

/-- The restart of a live port: its link is down and it sends nothing. -/
theorem portRestart_port (hp : p < 2) (hl : p < s.np.length) : (portRestart p s).besidePort p = s.besidePort p
    ∧ ((portRestart p s).port p).inReset = true ∧ ((portRestart p s).port p).link = false
    ∧ ((portRestart p s).port p).live = (s.port p).live ∧ ((portRestart p s).port p).sending = none := by
  obtain ⟨hmark, hcut⟩ := txCut_port hp hl
  have hl1 : p < (txCut p s).np.length := lt_np_of_portMark hmark hl
  obtain ⟨hbeside2, hlive2, hsend2⟩ := txEnd_port hp hl1 fun h => hcut (by
    rw [← show ((txCut p s).port p).sending = (s.port p).sending from congrArg (fun m => m.2.2.2) hmark]
    exact h)
  have hl2 : p < (txEnd p (txCut p s)).np.length := lt_np_of_besidePort hbeside2 hl1
  obtain ⟨hbeside3, hlive3, hsend3, hlink3⟩ := linkFalls_port hp hl2
  have hl3 : p < (linkFalls p (txEnd p (txCut p s))).np.length := lt_np_of_besidePort hbeside3 hl2
  unfold portRestart
  rw [onPort_port hl3]
  refine ⟨?_, rfl, hlink3, ?_, hsend3.trans hsend2⟩
  · exact (onPort_besidePort hp _).trans (hbeside3.trans (hbeside2.trans (congrArg Prod.fst hmark)))
  · exact hlive3.trans (hlive2.trans (congrArg (fun m => m.2.1) hmark))

end port

/-! ## The effects of the keyed writes -/

variable {p : Path} {a : Nat} {v : Word}

/-- A keyed write with no sequence open, on a path that the unit windows answer. -/
theorem keyedWrite_core (hk : s.keys = []) (hc : s.coreAnswers = true) (ha : a ∈ keyedRegs) :
    keyedWrite p a v s = keyedEffect a v (fresh s) :=
  keyedWrite_effect (by simp [State.answers, hc]) (by rw [hk]; rfl) ha

/-- A keyed write of CYCLE in another mode than MOORED (R119). -/
theorem railCycle_eq (h : s.mode ≠ .moored) : railCycle s = (let t := coreOff (dropRequests s)
    { t with pmu := { t.pmu with mode := .moored, prevMode := s.mode, seq := .falling .moored (some (.boot 3)) } }) :=
  if_neg h

/-- A keyed swap with an image staged, or a keyed revert with a patch in force (R657). -/
theorem patchKeyed_eq {revert : Bool} (h : if revert then s.patch.level ≠ 0 else s.inactive.staged = true) :
    patchKeyed revert s = ((s.patchChange revert).genUp).cmdRestart 5 := by
  unfold patchKeyed
  cases revert with
  | false => exact (if_neg (by simp)).trans (if_neg (by simpa using h))
  | true => exact (if_neg (by simpa using h)).trans (if_neg (by simp))

theorem patchKeyed_restarts {revert : Bool} (h : if revert then s.patch.level ≠ 0 else s.inactive.staged = true) :
    (patchKeyed revert s).patch = (s.patchChange revert).patch ∧ (patchKeyed revert s).cmd.ready = false
      ∧ (patchKeyed revert s).cmd.gen = s.cmd.gen + 1 := by
  obtain ⟨hready, -, -, hgen, -, -, hpatch⟩ := cmdRestart_keeps ((s.patchChange revert).genUp) 5
  rw [patchKeyed_eq h]
  refine ⟨hpatch, hready, hgen.trans ?_⟩
  cases revert <;> rfl

/-- The two fields of the value that BANK_MAP_MIGRATE writes. -/
theorem migrate_fields {l : Nat} (h : l < 64) :
    fieldOf (w32 (2 ^ 8 + l % 64)) 5 0 = l ∧ fieldOf (w32 (2 ^ 8 + l % 64)) 15 8 = 1 := by
  unfold fieldOf w32
  rw [BitVec.toNat_ofNat, Nat.shiftRight_eq_div_pow, Nat.shiftRight_eq_div_pow]
  constructor <;> omega

/-- A migration of a mapped bank with a spare to take (R261, R292). -/
theorem bankMapWrite_migrates {l src b : Nat} {rest : List Nat} (hl : l < 64) (hsrc : (s.buf.map[l]?).join = some src)
    (hmig : s.buf.mig = none) (hspare : s.spareBanks = b :: rest) : bankMapWrite (w32 (2 ^ 8 + l % 64)) s
      = { s with buf := { s.buf with mig := some { logical := l, source := src, target := b } } } := by
  obtain ⟨hbank, hcode⟩ := migrate_fields hl
  have hstart : s.startMigration l
      = { s with buf := { s.buf with mig := some { logical := l, source := src, target := b } } } := by
    unfold State.startMigration
    rw [hsrc, hspare]
  unfold bankMapWrite
  simp only [hbank, hcode]
  rw [if_neg (by decide), if_neg (by simp [hsrc, hmig, hspare]), hstart]

/-! ## The accesses themselves -/

theorem exec_keyValueWrite (hlt : a < 0x40000) (hcanon : busCanon a = a) (hvalue : isKeyValue a = true) :
    exec (.keyValueWrite p a v) s = .next (settle (wordWrite p a v s)) :=
  congrArg (fun t => Host.Outcome.next (settle t)) (if_pos (by simp [hcanon, hvalue]; omega))

theorem exec_keySequenceTimeout {w : Nat} {k : KeySeq} (hk : tget s.keys w = some k) (hc : clocked s.mode = true) :
    exec (.keySequenceTimeout w) s
      = .next (settle ({ fresh s with keys := terase s.keys w }.keyError k.issued k.path 0)) := by
  have hk' : tget (fresh s).keys w = some k := hk
  refine congrArg (fun t => Host.Outcome.next (settle t)) ?_
  simp only [hk']
  exact if_pos hc

/-- A full-width write to the register space of BAR0. -/
theorem exec_registerWrite_bar0 :
    exec (.registerWrite ⟨p, .bar0⟩ a 0xF v) s = .next (settle (busWrite p a 0xF v (fresh s))) :=
  congrArg (fun t => Host.Outcome.next (settle t)) (if_neg (by simp [State.beside]))

/-- The complement word within 128 ns of the value word has the effect. -/
theorem exec_complement {k : KeySeq} (ha : a ∈ keyedRegs) (h : s.answers p (a + 4) = true)
    (hk : tget s.keys (busWindow a) = some k) (haddr : k.addr = a) (hage : k.age ≤ 128) :
    exec (.registerWrite ⟨p, .bar0⟩ (a + 4) 0xF (~~~k.value)) s
      = .next (settle (keyedEffect a k.value { fresh s with keys := terase s.keys (busWindow a) })) := by
  rw [exec_registerWrite_bar0, busWrite_complement (s := fresh s) ha h hk, if_pos (completes_complement ha haddr hage), haddr]
  rfl

/-- Another word in its place is an error, and nothing else. -/
theorem exec_complement_wrong {k : KeySeq} (ha : a ∈ keyedRegs) (h : s.answers p (a + 4) = true)
    (hk : tget s.keys (busWindow a) = some k) (hv : v ≠ ~~~k.value) :
    exec (.registerWrite ⟨p, .bar0⟩ (a + 4) 0xF v) s
      = .next (settle (keyFault p (a + 4) 0xF { fresh s with keys := terase s.keys (busWindow a) })) := by
  rw [exec_registerWrite_bar0, busWrite_complement (s := fresh s) ha h hk, if_neg (ne_true_of_eq_false (completes_other hv))]
  rfl

/-! ## Each keyed register -/

section effects
variable (s : State)

theorem keyedEffect_cmdReset : keyedEffect Reg.GLB_RESET 1 s = s.cmdRestart 4 := rfl
theorem keyedEffect_forceQuiet : keyedEffect Reg.PMU_MODE_FORCE 3 s = modeForce .quiet s := rfl
theorem keyedEffect_forceSafe : keyedEffect Reg.PMU_MODE_FORCE 6 s = modeForce .safe s := rfl
theorem keyedEffect_forceMoored : keyedEffect Reg.PMU_MODE_FORCE 0 s = modeForce .moored s := rfl
theorem keyedEffect_railCycle : keyedEffect Reg.PMU_RAIL 1 s = railCycle s := rfl
theorem keyedEffect_serdesReset {n : Nat} (h : n < 2) : keyedEffect (Reg.NP_SERDES_RESET n) 1 s = portRestart n s := by
  obtain rfl | rfl : n = 0 ∨ n = 1 := by omega
  · rfl
  · rfl
theorem keyedEffect_patchSwap : keyedEffect Reg.CMD_PATCH_SWAP 1 s = patchKeyed false s := rfl
theorem keyedEffect_patchRevert : keyedEffect Reg.CMD_PATCH_SWAP 3 s = patchKeyed true s := rfl
theorem keyedEffect_bankMap (v : Word) : keyedEffect Reg.BUF_BANK_MAP v s = bankMapWrite v s := rfl

end effects

/-- A step that is one keyed write, by the effect of it. -/
theorem next_keyedWrite (hk : s.keys = []) (hc : s.coreAnswers = true) (ha : a ∈ keyedRegs) {t : State}
    (h : keyedEffect a v (fresh s) = t) :
    (Host.Outcome.next (settle (keyedWrite p a v s)) : Host.Outcome State Fault Refusal) = .next (settle t) := by
  rw [keyedWrite_core hk hc ha, h]

theorem settle_port (s : State) (n : Nat) : (settle s).port n = s.port n := by
  unfold State.port
  rw [settle_np]

theorem serdes_mem_keyedRegs {n : Nat} (h : n < 2) : Reg.NP_SERDES_RESET n ∈ keyedRegs := by
  obtain rfl | rfl : n = 0 ∨ n = 1 := by omega
  · decide
  · decide

theorem exec_serdesReset {n : Nat} (h : n < 2) :
    exec (.serdesReset p n) s = .next (settle (keyedWrite p (Reg.NP_SERDES_RESET n) 1 s)) :=
  congrArg (fun t => Host.Outcome.next (settle t)) (if_pos h)

end Sys2Proof.Machine
end

section
/-! The statement of the keyed writes. -/
open Sys2Proof Sys2Proof.Machine

/-- Settles O37: a sequence by the words that open and end it (`wordWrite_keyValue`, `exec_complement`), and each keyed
register by what its write does (`cmdRestart_keeps`, `modeForce_pmu`, `railCycle_eq`, `portRestart_port`,
`patchKeyed_restarts`, `bankMapWrite_migrates`). -/
theorem keyedWritesComplete : Obligations.KeyedWritesComplete := by
  refine ⟨fun p a v s hlt hcanon hvalue => ?_, fun p s hk hc => ?_⟩
  · have ha := mem_keyedRegs hlt hvalue
    refine ⟨fun hans hopen => ?_, fun k hopen haddr => ⟨exec_keySequenceTimeout hopen, fun hans =>
      ⟨exec_complement ha hans hopen haddr, exec_complement_wrong ha hans hopen⟩⟩⟩
    exact (exec_keyValueWrite hlt hcanon hvalue).trans (congrArg (fun t => Host.Outcome.next (settle t))
      (wordWrite_keyValue ha hans hopen))
  · have hclk : clocked (fresh s).mode = true := (Bool.and_eq_true_iff.mp hc).2
    have hmoored : (fresh s).mode ≠ .moored := (clocked_modes hclk).1
    refine ⟨next_keyedWrite hk hc (a := Reg.GLB_OTP_ACCESS) (by decide) rfl,
      next_keyedWrite hk hc (a := Reg.GLB_OTP_ACCESS) (by decide) rfl,
      ⟨_, next_keyedWrite hk hc (by decide) (keyedEffect_cmdReset _), ?_⟩,
      fun hm => ⟨_, next_keyedWrite hk hc (by decide) (keyedEffect_forceQuiet _), ?_⟩,
      fun hm => ⟨_, next_keyedWrite hk hc (by decide) (keyedEffect_forceSafe _), ?_⟩,
      ⟨_, next_keyedWrite hk hc (by decide) (keyedEffect_forceMoored _), ?_⟩,
      ⟨_, next_keyedWrite hk hc (by decide) ((keyedEffect_railCycle _).trans (railCycle_eq hmoored)), ?_⟩,
      fun n hn hlen hlive => ⟨_, (exec_serdesReset hn).trans
        (next_keyedWrite hk hc (serdes_mem_keyedRegs hn) (keyedEffect_serdesReset _ hn)), ?_⟩,
      fun hst => ⟨_, next_keyedWrite hk hc (by decide) (keyedEffect_patchSwap _), ?_⟩,
      fun hlev => ⟨_, next_keyedWrite hk hc (by decide) (keyedEffect_patchRevert _), ?_⟩,
      fun l src b rest hl hsrc hmig hspare => next_keyedWrite hk hc (by decide)
        ((keyedEffect_bankMap ..).trans (bankMapWrite_migrates (s := fresh s) hl hsrc hmig hspare)),
      next_keyedWrite hk hc (a := Reg.BUF_BANK_MAP) (by decide) rfl⟩
    · obtain ⟨hready, hrestarting, hcause, hgen, hsrx, hbuf, -⟩ := cmdRestart_keeps (fresh s) 4
      have hcore := (fresh s).cmdRestart_core 4
      rw [settle_cmd, settle_mode, settle_srx, settle_drv, settle_buf]
      exact ⟨hready, hrestarting, hcause, fun f => cmdRestart_flights (fresh s), hgen, State.mode_of_core hcore, hsrx,
        State.drv_of_core hcore, hbuf⟩
    · rw [settle_pmu, settle_mode]
      exact modeForce_pmu hclk (Ne.symm hm)
    · rw [settle_pmu, settle_mode]
      exact modeForce_pmu hclk (Ne.symm hm)
    · rw [settle_pmu, settle_mode, settle_ntu]
      obtain ⟨hforced, hnext, hmode⟩ := modeForce_pmu hclk hmoored.symm
      exact ⟨hforced, hnext, hmode, modeForce_moored_list hclk⟩
    · rw [settle_pmu, settle_mode, settle_cmd, settle_srx]
      exact ⟨rfl, rfl, rfl, rfl, rfl, rfl⟩
    · obtain ⟨hbeside, hreset, hlink, hlive', hsend⟩ := portRestart_port (s := fresh s) hn (by rw [fresh_np, hlen]; exact hn)
      rw [settle_port, settle_port, settle_mode]
      exact ⟨hreset, hlink, hlive'.trans hlive, hsend, congrArg Prod.fst hbeside, congrArg (fun m => m.2.1) hbeside⟩
    · obtain ⟨hpatch, hready, hgen⟩ := patchKeyed_restarts (s := fresh s) (revert := false) hst
      rw [settle_patch, settle_cmd, hpatch]
      exact ⟨rfl, rfl, rfl, hready, hgen⟩
    · obtain ⟨hpatch, hready, hgen⟩ := patchKeyed_restarts (s := fresh s) (revert := true) hlev
      rw [settle_patch, settle_cmd, hpatch]
      exact ⟨rfl, rfl, rfl, hready, hgen⟩
end

section
/-! SUPPORT. The handshake of a change of mode, with the command of the request the one in flight (R97 to R102). -/
namespace Sys2Proof.Machine

variable {s : State} {r : PowerReq} {f : Flight} {p : Path}

/-- Nothing but `f`, the command of request `r`, is in flight, and no other request or change of ISLAND waits. -/
structure ReqAlone (s : State) (r : PowerReq) (f : Flight) (p : Path) : Prop where
  slot : s.pmu.slot = none
  autoWait : s.pmu.autoWait = none
  flights : s.cmd.flights = [f]
  ord : f.ord = r.ord
  src : f.src = .path p
  tag : f.tag = r.tag
  restarting : s.cmd.restarting = false

theorem ReqAlone.flight (h : ReqAlone s r f p) : s.flight r.ord = some f := by
  unfold State.flight
  rw [h.flights]
  exact List.find?_cons_of_pos (by simpa using h.ord)

/-! ## The end of the request -/

/-- Request `r` has ended in `t`: its command is answered with a status, and with the unit and the reason that refused. -/
def reqEnds (r : PowerReq) (s t : State) (st : Status) (unit reason : Nat) : Prop :=
  ∃ q, t.cmd.held = s.cmd.held ++ [q] ∧ q.status = st ∧ q.tag = r.tag ∧ q.body.length = 1
    ∧ fieldOf (q.body.getD 0 0) 11 8 = unit ∧ fieldOf (q.body.getD 0 0) 17 12 = reason
    ∧ t.pmu.req = none ∧ t.cmd.flights = [] ∧ t.mode = s.mode

theorem modeCode_lt (m : Mode) : modeCode m < 8 := by
  cases m <;> decide

theorem satNat_le (n k : Nat) : satNat n k ≤ n := by
  unfold satNat
  split <;> omega

/-- The unit and the reason stand in the body's word (R132). -/
theorem powerBody_fields (mode before : Mode) {refuser reason : Nat} (elapsed : Nat) (hu : refuser < 16) (hk : reason < 64) :
    fieldOf ((powerBody mode before refuser reason elapsed).getD 0 0) 11 8 = refuser
      ∧ fieldOf ((powerBody mode before refuser reason elapsed).getD 0 0) 17 12 = reason := by
  have hm := modeCode_lt mode
  have hb := modeCode_lt before
  have ht := satNat_le 0xFFF (elapsed / 100000)
  unfold powerBody fieldOf w32
  rw [List.getD_cons_zero, BitVec.toNat_ofNat, Nat.shiftRight_eq_div_pow, Nat.shiftRight_eq_div_pow]
  constructor <;> omega

theorem finishRequest_ends (h : ReqAlone s r f p) (st : Status) {refuser reason : Nat} (hu : refuser < 16)
    (hk : reason < 64) : reqEnds r s (finishRequest r st refuser reason s) st refuser reason := by
  obtain ⟨rs, mp, heq⟩ := finishRequest_eq st refuser reason h.flight h.src h.restarting h.slot h.autoWait
  obtain ⟨hunit, hreason⟩ := powerBody_fields s.mode r.before (s.ntu.course - r.askAt) hu hk
  rw [heq]
  refine ⟨_, rfl, rfl, h.tag, rfl, hunit, hreason, rfl, ?_, rfl⟩
  show s.cmd.flights.filter _ = []
  rw [h.flights]
  simp

theorem reqEnds.settle {t : State} {st : Status} {unit reason : Nat} (h : reqEnds r s t st unit reason) :
    reqEnds r s (settle t) st unit reason := by
  unfold reqEnds
  rw [settle_cmd, settle_pmu, settle_mode]
  exact h

/-! ## The answers of the units -/

/-- The answer `a` of unit `u` is noted. -/
def answerNoted (u : Nat) (a : UnitAns) (s : State) : State :=
  (s.onReq fun r => { r with ans := r.ans.set (u - 1) a }).setField Reg.PMU_UNIT_ANS (2 * u - 1) (2 * u - 2) (ansCode a)

theorem ReqAlone.answerNoted (h : ReqAlone s r f p) (u : Nat) (a : UnitAns) : ReqAlone (answerNoted u a s) r f p :=
  ⟨h.slot, h.autoWait, h.flights, h.ord, h.src, h.tag, h.restarting⟩

theorem answerNoted_req (u : Nat) (a : UnitAns) (hreq : s.pmu.req = some r) :
    (answerNoted u a s).pmu.req = some { r with ans := r.ans.set (u - 1) a } := by
  show s.pmu.req.map _ = _
  rw [hreq]
  rfl

/-- The state in which the last GRANT commits: a first entry to SERVICE holds the loaded bank (R339). -/
def grantNoted (r : PowerReq) (u : Nat) (s : State) : State :=
  let s1 := answerNoted u .grant s
  if u = 2 && r.target = .service && !s1.pmu.firstService then
    { s1 with rud := { s1.rud with heldBank := some s1.rud.loaded } } else s1

/-- What the answer `a` of unit `u`, with its reason, comes to. -/
def answerActs (r : PowerReq) (u : Nat) (a : UnitAns) (reason : Nat) (s : State) : State :=
  match a with
  | .refuse => finishRequest r .refused u reason (answerNoted u .refuse s)
  | .grant =>
    if (r.ans.set (u - 1) .grant).all fun x => decide (x = .grant) then commitPower r (grantNoted r u s) else grantNoted r u s
  | a => answerNoted u a s

/-- The answer of a unit that has not answered yet. -/
theorem unitAnswers_eq {u : Nat} {a : UnitAns} {k : Nat} (hreq : s.pmu.req = some r) (hstage : r.stage = .asking) (hu : 0 < u)
    (hu' : u ≤ 14) (hnow : r.ans.getD (u - 1) .grant = .none) (ha : unitAnswer s r u = (a, k)) :
    unitAnswers u s = answerActs r u a k s := by
  unfold unitAnswers
  simp only [hreq]
  refine (if_neg (by simp only [hstage, hnow]; simp; omega)).trans ?_
  simp only [ha]
  cases a <;> rfl

/-- A REFUSE ends the request (R98). -/
theorem unitAnswers_refuse {u k : Nat} (h : ReqAlone s r f p) (hreq : s.pmu.req = some r) (hstage : r.stage = .asking)
    (hu : 0 < u) (hu' : u ≤ 14) (hnow : r.ans.getD (u - 1) .grant = .none) (ha : unitAnswer s r u = (.refuse, k))
    (hk : k < 64) : reqEnds r s (unitAnswers u s) .refused u k := by
  rw [unitAnswers_eq hreq hstage hu hu' hnow ha]
  exact finishRequest_ends (h.answerNoted u .refuse) .refused (by omega) hk

/-- A DELAY is noted, and nothing else. -/
theorem unitAnswers_delay {u : Nat} (hreq : s.pmu.req = some r) (hstage : r.stage = .asking)
    (hu : 0 < u) (hu' : u ≤ 14) (hnow : r.ans.getD (u - 1) .grant = .none) (ha : unitAnswer s r u = (.delay, 0)) :
    (unitAnswers u s).pmu.req = some { r with ans := r.ans.set (u - 1) .delay } ∧ (unitAnswers u s).cmd = s.cmd := by
  rw [unitAnswers_eq hreq hstage hu hu' hnow ha]
  exact ⟨answerNoted_req u .delay hreq, rfl⟩

/-- With one unit's answer to come and every other a GRANT, a GRANT is the last. -/
theorem all_grant {ans : List UnitAns} {u : Nat} (hlen : ans.length = 14)
    (h : ∀ i, i < 14 → i ≠ u - 1 → ans.getD i .none = .grant) :
    ((ans.set (u - 1) .grant).all fun x => decide (x = .grant)) = true := by
  refine List.all_eq_true.mpr fun x hx => ?_
  obtain ⟨i, hi, rfl⟩ := List.mem_iff_getElem.mp hx
  rw [List.length_set] at hi
  rw [List.getElem_set, decide_eq_true_eq]
  split
  · rfl
  · rename_i hne
    have hgrant := h i (by omega) (Ne.symm hne)
    rwa [List.getD_eq_getElem _ _ hi] at hgrant

/-- The commitment of a request for WATCH without FORCE: the generation counts, and the change begins (R102, R315). -/
theorem commitPower_watch {r' : PowerReq} (h : ReqAlone s r f p) (hreq : s.pmu.req = some r') (hforce : r.force = false)
    (hwake : r.wake = none) (htarget : r.target = .watch) : (commitPower r s).pmu.req.map PowerReq.stage = some .carrying
      ∧ (commitPower r s).pmu.modeNext = some .watch ∧ (commitPower r s).cmd.gen = s.cmd.gen + 1
      ∧ (commitPower r s).mode = s.mode := by
  let s1 : State := { s with cmd := { s.cmd with flights := [{ f with phase := .committed }], gen := s.cmd.gen + 1 } }
  obtain ⟨o, ho⟩ := sameButObl_oblLeaving (dropEgress s1)
  have hcommit : commitPower r s = ((oblLeaving (dropEgress s1)).onReq fun r => { r with stage := .carrying }).startChange
      .watch false false := by
    unfold commitPower
    rw [commitReq_path h.flights h.ord h.src, hwake, hforce, htarget]
    rfl
  rw [hcommit, ho]
  refine ⟨?_, rfl, rfl, rfl⟩
  show (s.pmu.req.map _).map _ = _
  rw [hreq]
  rfl

/-- The last GRANT commits a request for WATCH (R97). -/
theorem unitAnswers_last {u : Nat} (h : ReqAlone s r f p) (hreq : s.pmu.req = some r) (hstage : r.stage = .asking)
    (hu : 0 < u) (hu' : u ≤ 14) (hlen : r.ans.length = 14) (hnow : r.ans.getD (u - 1) .grant = .none)
    (ha : unitAnswer s r u = (.grant, 0)) (hforce : r.force = false) (hwake : r.wake = none) (htarget : r.target = .watch)
    (hall : ∀ i, i < 14 → i ≠ u - 1 → r.ans.getD i .none = .grant) :
    (unitAnswers u s).pmu.req.map PowerReq.stage = some .carrying ∧ (unitAnswers u s).pmu.modeNext = some .watch
      ∧ (unitAnswers u s).cmd.gen = s.cmd.gen + 1 ∧ (unitAnswers u s).mode = s.mode := by
  have hgrant : grantNoted r u s = answerNoted u .grant s := if_neg (by simp [htarget])
  rw [unitAnswers_eq hreq hstage hu hu' hnow ha]
  unfold answerActs
  rw [if_pos (all_grant hlen hall), hgrant]
  exact commitPower_watch (h.answerNoted u .grant) (answerNoted_req u .grant hreq) hforce hwake htarget

/-! ## Delays (R99) -/

theorem exec_handshakeDelayExpired {u : Nat} (hreq : s.pmu.req = some r) (hstage : r.stage = .asking) (hu : 0 < u)
    (hd : r.ans.getD (u - 1) .none = .delay) :
    exec (.handshakeDelayExpired u) s = .next (settle (finishRequest r .refused u 0x0A (fresh s))) := by
  have hreq' : (fresh s).pmu.req = some r := hreq
  refine congrArg (fun t => Host.Outcome.next (settle t)) ?_
  simp only [hreq']
  exact if_pos (by rw [hstage, hd]; simpa using hu)

theorem exec_handshakeDelayCap {i : Nat} (hreq : s.pmu.req = some r) (hstage : r.stage = .asking) (hcap : r.cap ≠ 0)
    (hd : firstDelay r.ans = some i) :
    exec .handshakeDelayCap s = .next (settle (finishRequest r .refused (i + 1) 0x0B (fresh s))) := by
  have hreq' : (fresh s).pmu.req = some r := hreq
  refine congrArg (fun t => Host.Outcome.next (settle t)) ?_
  simp only [hreq', hd]
  exact if_pos (by simp [hstage, hcap])

theorem firstDelay_lt {l : List UnitAns} {i : Nat} (h : firstDelay l = some i) : i < 14 := by
  have hmem := List.mem_of_head? h
  exact List.mem_range.mp (List.mem_of_mem_filter hmem)

end Sys2Proof.Machine
end

section
/-! SUPPORT. The entry to QUIET and to WATCH leaves the Command Processor alone, and the part of a unit that is the last. -/
namespace Sys2Proof.Machine

variable (s : State)

/-- The Command Processor and the PMU beside its registers. -/
def State.control (s : State) : Cmd × Pmu := (s.cmd, s.pmu)

/-! ## MCK as it sleeps -/

theorem State.trackRefs_control : s.trackRefs.control = s.control := by
  unfold State.control
  rw [State.trackRefs_cmd, State.trackRefs_pmu]

theorem State.setFreq_control (f : Int) : (s.setFreq f).control = s.control := by
  unfold State.setFreq
  split <;> rfl

theorem State.measurePhase_control (i : Nat) : (s.measurePhase i).control = s.control := by
  unfold State.measurePhase
  split
  · rfl
  · split <;> rfl

theorem switchTo_control (i : Nat) : (switchTo i s).control = s.control := by
  refine Eq.trans ?_ (State.measurePhase_control { s with mck := { s.mck with sel := some i } } i)
  unfold switchTo
  split
  · rfl
  · rfl

theorem State.flag_control (a i : Nat) : (s.flag a i).control = s.control := rfl

theorem loseAll_control : (loseAll s).control = s.control := by
  unfold loseAll
  split
  · rw [State.setFreq_control]
    rfl
  · rw [State.flag_control, State.setFreq_control]
    rfl
  · rfl

theorem noteDisagree_control : (noteDisagree s).control = s.control := by
  unfold noteDisagree
  dsimp only
  split <;> rfl

theorem selectNow_control : (selectNow s).control = s.control := by
  have h1 : (noteDisagree s.trackRefs).control = s.control := (noteDisagree_control _).trans s.trackRefs_control
  unfold selectNow
  dsimp only
  split
  · exact h1
  · split
    · exact (switchTo_control ..).trans h1
    · exact (loseAll_control _).trans h1

theorem mckSleeps_control : (mckSleeps s).control = s.control := by
  unfold mckSleeps
  rw [selectNow_control]
  rfl

/-! ## The units at the entry of a mode -/

theorem State.ringStop_control (i : Nat) : (s.ringStop i).control = s.control := by
  unfold State.ringStop
  dsimp only
  split <;> rfl

theorem hostPathLost_control : (hostPathLost s).control = s.control := by
  have hrings : s.stopRings.control = s.control := foldl_keeps State.control _ State.ringStop_control _ s
  unfold hostPathLost
  dsimp only
  split
  · rfl
  · split
    · exact hrings
    · exact hrings

theorem linkGone_control : (linkGone true s).control = s.control := rfl

/-- What falls silent as WATCH begins. -/
theorem watchBegins_control : (mckSleeps (linkGone true (hostPathLost (dropEgress s)))).control = s.control := by
  rw [mckSleeps_control, linkGone_control, hostPathLost_control]
  rfl

/-- Loopbacks and the Drive engine as mode `old` is left for `m`, which does not compute. -/
def unitsLeft (old m : Mode) (s : State) : State :=
  let s1 := if old = .test then clearLoops s else s
  if computes old && !(computes m) then drvStop s1 else s1

theorem unitsLeft_control (old m : Mode) : (unitsLeft old m s).control = s.control := by
  unfold unitsLeft
  split_ifs <;> rfl

/-- The stroke grid starts, or runs already. -/
def gridBegins (s : State) : State := if s.mck.grid then s else { s with mck := { s.mck with gridStart := true } }

theorem gridBegins_control : (gridBegins s).control = s.control := by
  unfold gridBegins
  split <;> rfl

/-- The stroke grid stops. -/
def gridEnds (s : State) : State :=
  { s with mck := { s.mck with grid := false, gridStart := false, aligns := [], part := .boundary } }

theorem modeUnits_quiet {old : Mode} (h : old ≠ .watch) : modeUnits old .quiet false s
    = gridBegins (unitsLeft old .quiet s) := by
  unfold modeUnits
  exact if_neg h

theorem modeUnits_watch {old : Mode} (h : old ≠ .watch) : modeUnits old .watch false s
    = mckSleeps (linkGone true (hostPathLost (dropEgress (gridEnds (unitsLeft old .watch s))))) := by
  unfold modeUnits
  refine (if_neg h).trans ((if_pos rfl).trans ?_)
  exact congrArg (fun u => mckSleeps (linkGone true (hostPathLost (dropEgress u)))) (if_neg (by decide))

/-- The units at an entry to QUIET or WATCH from a mode with a running clock. -/
theorem modeUnits_control {old m : Mode} (hm : m = .quiet ∨ m = .watch) (hold : old ≠ .watch) :
    (modeUnits old m false s).control = s.control := by
  rcases hm with rfl | rfl
  · rw [modeUnits_quiet s hold]
    exact (gridBegins_control _).trans (unitsLeft_control s old _)
  · rw [modeUnits_watch s hold]
    exact (watchBegins_control (gridEnds (unitsLeft old .watch s))).trans (unitsLeft_control s old _)

theorem oblPower_control : (oblPower s).control = s.control := by
  obtain ⟨⟨_, _, _, _, h⟩, -⟩ := sameButLinks_oblPower s
  rw [h]
  rfl

end Sys2Proof.Machine
end

section
/-! SUPPORT. A unit's part that is the last of a change, the reply of a request, and the mode that takes effect. -/
namespace Sys2Proof.Machine

variable {s : State} {r : PowerReq} {f : Flight} {p : Path}

/-! ## The last part (R97) -/

/-- Unit `u` has reported its part. -/
def partNoted (u : Nat) (s : State) : State :=
  { s with pmu := { s.pmu with parts := s.pmu.parts ||| ((1 : BitVec 14) <<< (u - 1)) } }

theorem allDone_partNoted (m : Mode) (waits : Bool) (u : Nat) (s : State) :
    allDone m waits (partNoted u s) = allDone m waits s := rfl

theorem ReqAlone.partNoted (h : ReqAlone s r f p) (u : Nat) : ReqAlone (partNoted u s) r f p :=
  ⟨h.slot, h.autoWait, h.flights, h.ord, h.src, h.tag, h.restarting⟩

/-- With the last part reported the change takes effect, or the request is answered first. -/
theorem unitReports_last {m : Mode} (hreq : s.pmu.req = some r) (hstage : r.stage = .carrying) (hnext : s.pmu.modeNext = some m)
    (hwaits : awaitsParts m s = true) (hparts : s.pmu.parts ||| 1 <<< 13 = 0x3FFF) (hall : allDone m true s = true) :
    unitReports 14 s = if sleeps m then powerReply r (partNoted 14 s) else modeTakes m (partNoted 14 s) := by
  unfold unitReports
  split
  · rename_i hnone
    exact absurd (hnext.symm.trans hnone) nofun
  · rename_i m' hsome
    obtain rfl : m' = m := Option.some.inj (hsome.symm.trans hnext)
    have hw : s.pmu.req.isSome = true := by rw [hreq]; rfl
    dsimp only
    rw [hw]
    refine (if_neg ?_).trans ((if_neg ?_).trans ?_)
    · rw [hwaits]
      simp [partDone]
    · have hparts' : (partNoted 14 s).pmu.parts = 0x3FFF := hparts
      have hall' : allDone m' true (partNoted 14 s) = true := (allDone_partNoted ..).trans hall
      show ¬(decide ((partNoted 14 s).pmu.parts ≠ 0x3FFF) || !(allDone m' true (partNoted 14 s))) = true
      rw [hparts', hall']
      decide
    · cases sleeps m' with
      | true =>
        refine (if_neg (by decide)).trans ?_
        split
        · rename_i g hg
          obtain rfl : g = r := Option.some.inj (hg.symm.trans hreq)
          exact if_pos hstage
        · rename_i hnone
          exact absurd (hreq.symm.trans hnone) nofun
      | false => rfl

/-! ## The reply (R131) -/

theorem powerReply_alone (h : ReqAlone s r f p) (hreq : s.pmu.req = some r) : ∃ q,
    (powerReply r s).cmd.held = s.cmd.held ++ [q] ∧ q.status = .ok ∧ q.tag = r.tag ∧ (powerReply r s).pmu.req.map PowerReq.stage = some .replying
    ∧ (powerReply r s).mode = s.mode := by
  let s1 := s.onReq fun r => { r with stage := .replying }
  have hflight : s1.flight r.ord = some f := h.flight
  have hreply : powerReply r s = s1.answer f .ok 0 (powerBody r.target r.before 0 0 (s.ntu.course - r.askAt)) := by
    unfold powerReply
    dsimp only
    split
    · rename_i hnone
      exact absurd (hflight.symm.trans hnone) nofun
    · rename_i g hsome
      obtain rfl : g = f := Option.some.inj (hsome.symm.trans hflight)
      rw [h.src]
  obtain ⟨rs, mp, heq⟩ := answer_path_eq (s := s1) .ok 0 (powerBody r.target r.before 0 0 (s.ntu.course - r.askAt)) h.src
    h.restarting
  have hstage : s1.pmu.req.map PowerReq.stage = some .replying := by
    show (s.pmu.req.map _).map _ = _
    rw [hreq]
    rfl
  rw [hreply, heq]
  exact ⟨_, rfl, rfl, h.tag, hstage, rfl⟩

/-! ## The mode takes effect (R83) -/

/-- The PMU as mode `m` is in force. -/
def pmuEntered (m : Mode) (auto : Bool) (s : State) : Pmu :=
  { s.pmu with
    mode := m, prevMode := if s.mode = m then s.pmu.prevMode else s.mode,
    islandAuto := auto && decide (m = .island), modeNext := none, modeLate := false, autoNext := false, forced := none,
    forcing := false, otpOpen := s.pmu.otpOpen && !(sleeps m) }

theorem enterMode_control {m : Mode} (auto : Bool) (hm : m = .quiet ∨ m = .watch) (hold : s.mode ≠ .watch) :
    (s.enterMode m auto).control = (s.cmd, pmuEntered m auto s) := by
  have hflag : ∀ (u : State) (c : Prop) [Decidable c] (i j : Nat),
      (if c then u.flag Reg.PMU_EVENT i else u).control = u.control
        ∧ (if c then u else u.flag Reg.PMU_EVENT j).control = u.control := by
    intro u c _ i j
    split <;> exact ⟨rfl, rfl⟩
  have hpowered : m ≠ .moored := by
    rcases hm with rfl | rfl <;> decide
  have hfirst : (decide (m = .service) && !s.pmu.firstService) = false := by
    rcases hm with rfl | rfl <;> rfl
  unfold State.enterMode
  dsimp only
  rw [if_neg hpowered, hfirst, oblPower_control, modeUnits_control _ hm hold, (hflag _ _ 4 0).1, (hflag _ _ 4 0).2,
    Bool.or_false]
  rfl

theorem imageReady_eq (h : s.mode ≠ .safe) : s.imageReady = s := if_neg (by simp [h])

/-- With QUIET in force, the request for it is answered OK. -/
theorem finishRequest_entered {u : State} {auto : Bool} (h : ReqAlone s r f p)
    (hu : u.control = (s.cmd, pmuEntered .quiet auto s)) : ∃ q, (finishRequest r .ok 0 0 u).cmd.held = s.cmd.held ++ [q]
      ∧ q.status = .ok ∧ q.tag = r.tag ∧ (finishRequest r .ok 0 0 u).pmu.req = none
      ∧ (finishRequest r .ok 0 0 u).mode = .quiet := by
  have hcmd : u.cmd = s.cmd := congrArg Prod.fst hu
  have hpmu : u.pmu = pmuEntered .quiet auto s := congrArg Prod.snd hu
  have halone : ReqAlone u r f p :=
    ⟨(congrArg Pmu.slot hpmu).trans h.slot, (congrArg Pmu.autoWait hpmu).trans h.autoWait,
      (congrArg Cmd.flights hcmd).trans h.flights, h.ord, h.src, h.tag, (congrArg Cmd.restarting hcmd).trans h.restarting⟩
  obtain ⟨q, hheld, hst, htag, -, -, -, hnone, -, hmode⟩ :=
    finishRequest_ends halone .ok (refuser := 0) (reason := 0) (by decide) (by decide)
  exact ⟨q, hheld.trans (congrArg (fun c => c.held ++ [q]) hcmd), hst, htag, hnone, hmode.trans (congrArg Pmu.mode hpmu)⟩

theorem modeTakes_finishes {m : Mode} {u : State} (hu : s.enterMode m s.pmu.autoNext = u) (hm : u.mode ≠ .safe)
    (hreq : u.pmu.req = some r) (hstage : r.stage = .carrying) (htarget : r.target = m) :
    modeTakes m s = finishRequest r .ok 0 0 u := by
  unfold modeTakes
  dsimp only
  rw [hu, imageReady_eq hm, hreq]
  exact if_pos (by simp [hstage, htarget])

/-- From BOOT, the change to QUIET takes effect and answers the request. -/
theorem modeTakes_quiet (h : ReqAlone s r f p) (hreq : s.pmu.req = some r) (hstage : r.stage = .carrying)
    (htarget : r.target = .quiet) (hboot : s.mode = .boot) : ∃ q, (modeTakes .quiet s).cmd.held = s.cmd.held ++ [q]
      ∧ q.status = .ok ∧ q.tag = r.tag ∧ (modeTakes .quiet s).pmu.req = none ∧ (modeTakes .quiet s).mode = .quiet := by
  have hu := enterMode_control s.pmu.autoNext (.inl rfl) (show s.mode ≠ .watch by rw [hboot]; decide)
  generalize hdef : s.enterMode .quiet s.pmu.autoNext = u at hu
  have hpmu : u.pmu = pmuEntered .quiet s.pmu.autoNext s := congrArg Prod.snd hu
  have hmode : u.mode = .quiet := congrArg Pmu.mode hpmu
  rw [modeTakes_finishes hdef (by rw [hmode]; decide) ((congrArg Pmu.req hpmu).trans hreq) hstage htarget]
  exact finishRequest_entered h hu

/-! ## The last part of a change to WATCH and of one to QUIET -/

theorem unitReports_watch (h : ReqAlone s r f p) (hreq : s.pmu.req = some r) (hstage : r.stage = .carrying)
    (hnext : s.pmu.modeNext = some .watch) (hparts : s.pmu.parts ||| 1 <<< 13 = 0x3FFF)
    (hall : allDone .watch true s = true) : ∃ q, (unitReports 14 s).cmd.held = s.cmd.held ++ [q] ∧ q.status = .ok
      ∧ q.tag = r.tag ∧ (unitReports 14 s).pmu.req.map PowerReq.stage = some .replying
      ∧ (unitReports 14 s).mode = s.mode := by
  have hwaits : awaitsParts .watch s = true := by simp [awaitsParts, gridMode]
  have hlast : unitReports 14 s = powerReply r (partNoted 14 s) :=
    (unitReports_last hreq hstage hnext hwaits hparts hall).trans (if_pos rfl)
  rw [hlast]
  exact powerReply_alone (h.partNoted 14) hreq

theorem unitReports_quiet (h : ReqAlone s r f p) (hreq : s.pmu.req = some r) (hstage : r.stage = .carrying)
    (htarget : r.target = .quiet) (hboot : s.mode = .boot) (hnext : s.pmu.modeNext = some .quiet)
    (hparts : s.pmu.parts ||| 1 <<< 13 = 0x3FFF) (hall : allDone .quiet true s = true) :
    ∃ q, (unitReports 14 s).cmd.held = s.cmd.held ++ [q] ∧ q.status = .ok ∧ q.tag = r.tag
      ∧ (unitReports 14 s).pmu.req = none ∧ (unitReports 14 s).mode = .quiet := by
  have hwaits : awaitsParts .quiet s = true := by simp [awaitsParts, gridMode, hboot]
  have hlast : unitReports 14 s = modeTakes .quiet (partNoted 14 s) :=
    (unitReports_last hreq hstage hnext hwaits hparts hall).trans (if_neg (by decide))
  rw [hlast]
  exact modeTakes_quiet (h.partNoted 14) hreq hstage htarget hboot

/-! ## The rails (R131) -/

theorem exec_powerReplyWaitExpired (hreq : s.pmu.req = some r) (hstage : r.stage = .replying) :
    exec .powerReplyWaitExpired s = .next (settle (railsFall r (fresh s))) := by
  have hreq' : (fresh s).pmu.req = some r := hreq
  refine congrArg (fun t => Host.Outcome.next (settle t)) ?_
  simp only [hreq']
  exact if_pos hstage

theorem railsFall_moored (htarget : r.target = .moored) :
    (railsFall r s).mode = .moored ∧ (railsFall r s).pmu.seq = .falling .moored none := by
  obtain ⟨u, hu, -, hmode, -⟩ := enterMode_moored (s.onReq fun r => { r with stage := .rails })
  unfold railsFall
  dsimp only
  rw [htarget, hu]
  exact ⟨hmode, rfl⟩

theorem railsFall_watch (htarget : r.target = .watch) (hclk : clocked s.mode = true) :
    (railsFall r s).mode = .watch ∧ (railsFall r s).pmu.seq = .falling .watch none
      ∧ (railsFall r s).cmd = s.cmd := by
  have hu := enterMode_control (s := s.onReq fun r => { r with stage := .rails }) false (.inr rfl) (clocked_modes hclk).2
  unfold railsFall
  dsimp only
  rw [htarget]
  generalize State.enterMode _ .watch false = u at hu ⊢
  exact ⟨congrArg (fun c => c.2.mode) hu, rfl, congrArg Prod.fst hu⟩

/-! ## Automatic ISLAND (R85, R105) -/

/-- An automatic change that is due begins where no request is in progress, and else waits for its end. -/
theorem autoIsland_due {m : Mode} (hforced : s.pmu.forced = none) (hnext : s.pmu.modeNext = none) (h : autoHolds m s = true) :
    (s.pmu.req = none → autoIsland m s = s.startChange m true false)
      ∧ (s.pmu.req.isSome = true → autoIsland m s = { s with pmu := { s.pmu with autoWait := some m } }) := by
  have hgo : (!(autoHolds m s) || s.pmu.forced.isSome || decide (s.pmu.modeNext = some m)) ≠ true := by
    simp [h, hforced, hnext]
  exact ⟨fun hreq => (if_neg hgo).trans (if_neg (by simp [hreq])), fun hreq => (if_neg hgo).trans (if_pos hreq)⟩

end Sys2Proof.Machine
end

section
/-! The statement of the handshake. -/
open Sys2Proof Sys2Proof.Machine

/-- Settles O44: the handshake by the answers of the units (`unitAnswers_refuse`, `unitAnswers_delay`, `unitAnswers_last`), by
the delays (`finishRequest_ends`) and by the last part (`unitReports_last`); ISLAND by `autoIsland_due`. -/
theorem handshakeCompletes : Obligations.HandshakeCompletes := by
  refine ⟨fun s r f p hreq hslot hauto _ hfl hord hsrc _ htag hrest hclk => ?_, fun s hforced hnext => ?_⟩
  · have h : ReqAlone (fresh s) r f p := ⟨hslot, hauto, hfl, hord, hsrc, htag, hrest⟩
    have hreq' : (fresh s).pmu.req = some r := hreq
    intro ends
    refine ⟨fun hstage => ⟨fun u hu hu' hlen hnow =>
        ⟨fun k ha hk => ?_, fun ha => ?_, fun ha hforce hwake htarget hall => ?_⟩,
      fun u hu hu' hd => ?_, fun i hcap hd => ?_⟩, fun hstage htarget hnext hparts hall => ?_,
      fun hstage htarget hboot hnext hparts hall => ?_, fun hstage => ⟨fun htarget => ?_, fun htarget => ?_⟩⟩
    · exact ⟨_, rfl, (unitAnswers_refuse h hreq' hstage hu hu' hnow ha hk).settle⟩
    · refine ⟨_, rfl, ?_⟩
      rw [settle_pmu, settle_cmd]
      exact unitAnswers_delay hreq' hstage hu hu' hnow ha
    · refine ⟨_, rfl, ?_⟩
      rw [settle_pmu, settle_cmd, settle_mode]
      exact unitAnswers_last h hreq' hstage hu hu' hlen hnow ha hforce hwake htarget hall
    · exact ⟨_, exec_handshakeDelayExpired hreq hstage hu hd, (finishRequest_ends h .refused (by omega) (by decide)).settle⟩
    · have hi := firstDelay_lt hd
      exact ⟨_, exec_handshakeDelayCap hreq hstage hcap hd, (finishRequest_ends h .refused (by omega) (by decide)).settle⟩
    · obtain ⟨q, hq⟩ := unitReports_watch h hreq' hstage hnext hparts hall
      refine ⟨_, q, rfl, ?_⟩
      rw [settle_cmd, settle_pmu, settle_mode]
      exact hq
    · obtain ⟨q, hq⟩ := unitReports_quiet h hreq' hstage htarget hboot hnext hparts hall
      refine ⟨_, q, rfl, ?_⟩
      rw [settle_cmd, settle_pmu, settle_mode]
      exact hq
    · refine ⟨_, exec_powerReplyWaitExpired hreq hstage, ?_⟩
      rw [settle_mode, settle_pmu]
      exact railsFall_moored htarget
    · refine ⟨_, exec_powerReplyWaitExpired hreq hstage, ?_⟩
      obtain ⟨hmode, hseq, hcmd⟩ := railsFall_watch (s := fresh s) htarget hclk
      rw [settle_mode, settle_pmu, settle_cmd, hcmd]
      exact ⟨hmode, hseq, rfl⟩
  · have hstep : ∀ t u : State, t = u →
        (Host.Outcome.next (settle t) : Host.Outcome State Fault Refusal) = .next (settle u) :=
      fun t u h => congrArg (fun t => Host.Outcome.next (settle t)) h
    refine ⟨fun hdue => ?_, fun hdue => ?_⟩
    · obtain ⟨hnow, hwait⟩ := autoIsland_due (s := fresh s) hforced hnext hdue
      exact ⟨fun hr => hstep _ _ (hnow hr), fun hr => hstep _ _ (hwait hr)⟩
    · obtain ⟨hnow, hwait⟩ := autoIsland_due (s := fresh s) hforced hnext hdue
      exact ⟨fun hr => hstep _ _ (hnow hr), fun hr => hstep _ _ (hwait hr)⟩
end

section
/-! SUPPORT. Every command, and every tick, ends by bringing IRQ_N to the level of its causes. -/
namespace Sys2Proof.Machine

/-- Every arm of `exec` answers a settled state. -/
theorem exec_settles (i : Instr) (s : State) : ∃ u, exec i s = .next (settle u) := by
  cases i <;> exact ⟨_, rfl⟩

theorem step_settles (s : State) : ∃ u, step s = .next (settle u) := by
  unfold step
  split
  · exact ⟨oblLinksDue (passTick s), rfl⟩
  · exact exec_settles ..

end Sys2Proof.Machine
end

section
/-! The statement of the device interrupt pin. -/
open Sys2Proof Sys2Proof.Machine

/-- Settles O4: every step ends settled (`step_settles`), and a settled state has IRQ_N at the level of its causes
(`irqOk_settle`), whatever it was before. -/
theorem irqPinFollows : Obligations.IrqPinFollows := by
  intro s t _ hstep
  obtain ⟨u, hu⟩ := step_settles s
  rw [hu] at hstep
  obtain rfl := Host.Outcome.next.inj hstep
  exact irqOk_settle u
end

section
/-! SUPPORT. A read of a unit window in each of its views (R135, R142), and the keyed words among them (R150). -/
namespace Sys2Proof.Machine

variable {s : State} {p : Path} {a view : Nat}

/-! ## The views of a register (R135) -/

/-- The canonical addresses of the sixteen windows end below 0x4_0000. -/
theorem busCanon_lt : busCanon a < 0x40000 := by
  unfold busCanon busWindow
  omega

theorem busWindow_view (hc : busCanon a = a) (hv : view < 4) : busWindow (a + 0x1000 * view) = busWindow a := by
  unfold busCanon busWindow at *
  omega

theorem busView_view (hc : busCanon a = a) (hv : view < 4) : busView (a + 0x1000 * view) = view := by
  unfold busCanon busWindow busView at *
  omega

theorem busCanon_view (hc : busCanon a = a) (hv : view < 4) : busCanon (a + 0x1000 * view) = a := by
  have hlow : (a + 0x1000 * view) % 0x400 = a % 0x400 := by omega
  unfold busCanon
  rw [busWindow_view hc hv, hlow]
  exact hc

/-- A register answers in every view or in none. -/
theorem answers_view (hc : busCanon a = a) (hv : view < 4) : s.answers p (a + 0x1000 * view) = s.answers p a := by
  unfold State.answers
  rw [busCanon_view hc hv, busWindow_view hc hv, hc]

/-! ## Reads -/

/-- A read that reaches a word of the unit windows. -/
theorem busRead_answers {be : BitVec 4} (hbe : be ≠ 0) (hlt : a < 0x80000) (h : s.answers p a = true) :
    busRead p a be s = regRead p a be s := by
  have hre : reachable p a = true := by simp [reachable]; left; omega
  unfold busRead
  rw [if_neg (by simpa [hre] using hbe), if_pos hlt, if_pos h]

/-- A read of a register answers the same word in every view; one beside the normal view changes nothing (R142). -/
theorem busRead_view {be : BitVec 4} (hbe : be ≠ 0) (hc : busCanon a = a) (hv : view < 4) (h : s.answers p a = true) :
    busRead p (a + 0x1000 * view) be s
      = (s.readReg p a, if view = 0 then readEffect a (beMask be) s else s) := by
  have hlt : a < 0x40000 := hc ▸ busCanon_lt
  rw [busRead_answers hbe (by omega) ((answers_view hc hv).trans h)]
  unfold regRead
  rw [busCanon_view hc hv, busView_view hc hv]

/-- A read row that reaches BAR0, the parallel host bus or the management port drives the word that is read. -/
theorem exec_rcRead {be : BitVec 4} {req : PcieReq} {addr : Nat} (h : s.beside p req = false) :
    exec (.rcRead ⟨p, req⟩ addr be) s
      = .next (settle ((busRead p addr be (fresh s)).2.driveOut [(busRead p addr be (fresh s)).1])) :=
  congrArg (fun t => Host.Outcome.next (settle t)) (if_neg (by simp [h]))

/-! ## Keyed words -/

theorem isKeyValue_iff (hc : busCanon a = a) : isKeyValue a = true ↔ a ∈ keyedRegs := by
  refine ⟨mem_keyedRegs (hc ▸ busCanon_lt), fun ha => ?_⟩
  obtain ⟨-, -, -, -, -, -, hvalue⟩ := keyedRegs_words a ha
  exact hvalue

/-- A keyed word reads as zero (R150). -/
theorem readReg_key (h : (regRow a).map RegRow.key = some true) : s.readReg p a = 0 := by
  obtain ⟨r, hr, hkey⟩ := Option.map_eq_some_iff.mp h
  unfold State.readReg
  rw [hr]
  exact if_pos hkey

end Sys2Proof.Machine
end

section
/-! The statements of the set, clear and toggle views and of the keyed words. -/
open Sys2Proof Sys2Proof.Machine

/-- Settles O57: the read through a view, and through the normal view, by what a read gives in each (`busRead_view`). -/
theorem peekReads : Obligations.PeekReads := by
  intro p a view be req s hreq _ hcanon hpos hview hbe hans
  have hans' : (fresh s).answers p a = true := hans
  refine ⟨?_, _, exec_rcRead hreq, ?_⟩
  · rw [exec_rcRead hreq, busRead_view hbe hcanon hview hans', if_neg (by omega)]
  · have hnormal := busRead_view hbe hcanon (view := 0) (by omega) hans'
    rw [settle_bus]
    exact congrArg (fun r => [r.1]) hnormal

/-- Settles O58: the keyed registers by their rows (`isKeyValue_iff`), and both words of each by `readReg_key`. -/
theorem keyedWords : Obligations.KeyedWords :=
  ⟨fun _ => isKeyValue_iff, fun _ _ a ha =>
    ⟨readReg_key (keyedRegs_rows a ha).1, readReg_key (keyedRegs_rows a ha).2⟩⟩
end

section
/-! SUPPORT. A state whose list of bad parities names a register that holds no configuration field. -/
namespace Sys2Proof.Machine

/-- BOOT with the parity of PMU_WAKE_CFG bad, and GLB_PARITY listed beside it. The checker visits configuration registers
alone (R158), and GLB_PARITY is none, so no upset lists it. -/
def listedParity : State := { misparity := [Reg.PMU_WAKE_CFG, Reg.GLB_PARITY] }

/-- The visit that finds PMU_WAKE_CFG bad writes GLB_PARITY, and a register that is written leaves the list. -/
theorem listedParity_visited :
    (settle (parityVisit Reg.PMU_WAKE_CFG 0 (fresh listedParity))).misparity = [Reg.PMU_WAKE_CFG] := by decide +kernel

end Sys2Proof.Machine
end

section
/-! The statement of the test commands and the Umpire. -/
open Sys2Proof Sys2Proof.Machine

/-- Refutes O55: its clause on a visit that finds a register bad speaks of every state, one that lists GLB_PARITY as bad
too included. That register holds no field that parity covers; the visit writes it, which takes it off the list, and so the
list is not as the upset left it. The clause wants the list to name configuration registers alone. -/
theorem not_testAndUmpireComplete : ¬ Obligations.TestAndUmpireComplete := by
  intro h
  obtain ⟨-, hbad, -⟩ := h.2 listedParity rfl
  obtain ⟨t, ht, -, -, -, -, hkept⟩ := hbad Reg.PMU_WAKE_CFG 0 (by decide) (by decide) (by decide)
  obtain rfl := Host.Outcome.next.inj ht
  have hlist := listedParity_visited.symm.trans hkept
  exact absurd hlist (by decide)
end

section
/-! SUPPORT. A Dadin command is the arrival of its packet; what a packet that fails a check of R224 gets; the answer to a
command that has started at an idle Command Processor; `NOP` and `WEIGH_IN`. -/
namespace Sys2Proof.Machine

variable {s : State} {op : Nat} {k : Pkt} {c : Instr}

/-! ## The arrival of a Dadin command -/

/-- A Dadin command is the arrival of its packet (R226). -/
theorem exec_dadin (h : dadinRow op k = some c) : exec c s = .next (settle (arrive op k (fresh s))) := by
  unfold dadinRow at h
  split at h <;> cases h <;> rfl

theorem dadinRow_zero : dadinRow 0 k = none := rfl

theorem exec_dadin_takes (h : dadinRow op k = some c) (ht : s.takes = true) :
    exec c s = .next (settle (takeIn (.path k.path) op k (fresh s))) :=
  (exec_dadin h).trans (congrArg (fun t => Host.Outcome.next (settle t)) (if_pos ht))

theorem exec_dadin_ignored (h : dadinRow op k = some c) (ht : s.takes = false) : exec c s = .next (settle (fresh s)) :=
  (exec_dadin h).trans (congrArg (fun t => Host.Outcome.next (settle t)) (if_neg (ne_true_of_eq_false ht)))

/-! ## Checks 1 to 5 of R224 -/

theorem takeIn_badLength (h0 : op ≠ 0) (hl : pktLen k < 2 ∨ 64 < pktLen k) :
    takeIn (.path k.path) op k s = rejectFlight (flightOf (.path k.path) op k s) .badParam 0 false s := by
  unfold takeIn
  exact (if_neg h0).trans (if_pos (by simpa using hl))

/-- A packet of a right length goes on to its check word. -/
theorem takeIn_goodLength (h0 : op ≠ 0) (hl : 2 ≤ pktLen k ∧ pktLen k ≤ 64) : takeIn (.path k.path) op k s
    = if k.c && !k.checkOk then rejectFlight (flightOf (.path k.path) op k s) .checkFail 0 false s
      else if s.tagBusy k.tag.toNat then rejectFlight (flightOf (.path k.path) op k s) .tagBusy 0 false s
      else match badPacket op k.tag k.x k.params with
        | some w => rejectFlight (flightOf (.path k.path) op k s) .badParam w true s
        | none => intake (flightOf (.path k.path) op k s) s := by
  unfold takeIn
  exact (if_neg h0).trans (if_neg (by simp; omega))

theorem checkWord_right (hc : k.c = false ∨ k.checkOk = true) : (k.c && !k.checkOk) = false := by
  rcases hc with h | h
  · rw [h, Bool.false_and]
  · rw [h, Bool.not_true, Bool.and_false]

/-- The reply to a packet that fails a check (R214, R218, R228). -/
def rejection (op : Nat) (k : Pkt) (st : Status) (word : Nat) (frees : Bool) (s : State) : Reply :=
  { src := .path k.path, op := op, tag := k.tag, status := st, seq := k.seq, c := k.c, word := word
    gen8 := s.cmd.gen.toNat % 256, frees := frees, behind := if k.s then some s.cmd.nextOrd else none
    body := if op = 4 || op = 5 then powerBody s.mode s.mode 0 0 0 else [] }

/-- A packet that is rejected gets its reply, and nothing else happens. -/
theorem rejectFlight_path {st : Status} {word : Nat} {frees : Bool} (hr : s.cmd.restarting = false) (h1 : st ≠ .lost)
    (h2 : st ≠ .aborted) : rejectFlight (flightOf (.path k.path) op k s) st word frees s
      = { s with cmd := { s.cmd with held := s.cmd.held ++ [rejection op k st word frees s] } } := by
  unfold rejectFlight State.hold
  simp [takesTag, flightOf, hr, h1, h2, rejection]

/-! ## The answer to a command that has started -/

theorem replyFlagged_cmd (r : Reply) (c : Cmd) :
    replyFlagged r { s with cmd := c } = { replyFlagged r s with cmd := c } := by
  unfold replyFlagged
  split_ifs <;> rfl

theorem begins_quiet (h : begins op k s = true) : s.cmd.restarting = false ∧ s.cmd.flights = [] := by
  have hi := begins_idle h
  simp only [cmdIdle, Bool.and_eq_true, List.isEmpty_iff, Bool.not_eq_true'] at hi
  obtain ⟨⟨⟨⟨⟨-, hr⟩, hfl⟩, -⟩, -⟩, -⟩ := hi
  exact ⟨hr, hfl⟩

theorem begins_proper (h : begins op k s = true) : proper op k s = true := by
  simp only [begins, Bool.and_eq_true] at h
  exact h.1.2

/-- The only command in flight is answered: its reply is held, and its status may set flags of CMD_EVENT (R248). -/
theorem settle_answer_started {t : State} {f : Flight} (st : Status) (word : Nat) (body : List Word)
    (hb : begins op k s = true) (ho : f.ord = s.cmd.nextOrd)
    (hc : t.cmd = { s.cmd with flights := [f], nextOrd := s.cmd.nextOrd + 1 }) :
    settle (t.answer (started op k s) st word body)
      = replied op k st word body false s (replyFlagged (replyOf op s.cmd.nextOrd k st word body s.cmd.gen) t) := by
  obtain ⟨hr, hfl⟩ := begins_quiet hb
  have hnone : [f].filter (fun g => decide (g.ord ≠ s.cmd.nextOrd)) = [] := by simp [ho]
  rw [answer_flagged (s := t) (pa := k.path) st word body rfl (by rw [hc]; exact hr)]
  unfold flightOut replied
  rw [replyFlagged_cmd, hc]
  refine congrArg (fun fl => settle { replyFlagged (replyOf op s.cmd.nextOrd k st word body s.cmd.gen) t with
    cmd := { s.cmd with
      flights := fl, nextOrd := s.cmd.nextOrd + 1
      held := s.cmd.held ++ [replyOf op s.cmd.nextOrd k st word body s.cmd.gen] } }) (hnone.trans hfl.symm)

/-! ## `NOP` and `WEIGH_IN`

`powerTaken op k s` is the state in which the packet of any opcode has been taken in at an idle Command Processor. -/

/-- The command that has been taken in starts in its place among those in flight. -/
theorem putFlight_started : (powerTaken op k s).putFlight (started op k s) = begun op k s := by
  simp [State.putFlight, powerTaken, started, begun, flightIn, flightOf]

theorem arrive_nop (hb : begins 1 k s = true) : arrive 1 k (fresh s) = startNop (started 1 k s) (powerTaken 1 k s) :=
  arrive_starts (begins_idle hb) (begins_proper hb) (by decide)

theorem exec_nop_basic (hb : begins 1 k s = true) (hx : k.x = false) :
    exec (.nop k) s = .next (replied 1 k .ok 0 [k.params.getD 0 0] false s (fresh s)) := by
  have hnop : startNop (started 1 k s) (powerTaken 1 k s)
      = (powerTaken 1 k s).answer (started 1 k s) .ok 0 [k.params.getD 0 0] := if_neg (ne_true_of_eq_false hx)
  have hreply := settle_answer_started (t := powerTaken 1 k s) .ok 0 [k.params.getD 0 0] hb rfl rfl
  rw [← hnop, ← arrive_nop hb] at hreply
  exact congrArg Host.Outcome.next hreply

theorem exec_nop_expert (hb : begins 1 k s = true) (hx : k.x = true) :
    exec (.nop k) s = .next (inFlight 1 k .started .nopDelay [] 0 false s (fresh s)) := by
  have hnop : startNop (started 1 k s) (powerTaken 1 k s)
      = (powerTaken 1 k s).putFlight (flightIn 1 k .started .nopDelay [] 0 s) := if_pos hx
  have hput : (powerTaken 1 k s).putFlight (flightIn 1 k .started .nopDelay [] 0 s)
      = { fresh s with cmd := { s.cmd with
          flights := [flightIn 1 k .started .nopDelay [] 0 s], nextOrd := s.cmd.nextOrd + 1 } } := by
    simp [powerTaken, State.putFlight, flightIn, flightOf]
  exact congrArg (fun t => Host.Outcome.next (settle t)) ((arrive_nop hb).trans (hnop.trans hput))

theorem exec_weighIn_begins (hb : begins 2 k s = true) : exec (.weighIn k) s
    = .next (replied 2 k .ok 0 ((begun 2 k s).weighBody (.path k.path) k.x k.params) false s
        { fresh s with free := s.free + 2 }) := by
  have hstart : arrive 2 k (fresh s) = startWeigh (started 2 k s) (powerTaken 2 k s) :=
    arrive_starts (begins_idle hb) (begins_proper hb) (by decide)
  unfold startWeigh at hstart
  rw [putFlight_started] at hstart
  have hreply := settle_answer_started (t := (begun 2 k s).weighed) .ok 0
    ((begun 2 k s).weighBody (.path k.path) k.x k.params) hb rfl rfl
  exact congrArg Host.Outcome.next ((congrArg settle hstart).trans hreply)

/-- The only expert `NOP` whose delay runs is the one that ends first (R231). -/
theorem nopEnd_one {f : Flight}
    (h : (s.cmd.flights.filter fun g => decide (g.fin = .nopDelay) && decide (g.phase = .started)) = [f]) :
    nopEnd s = s.answer f .ok 0 (f.params.drop 1) := by
  unfold nopEnd
  rw [h]
  simp

end Sys2Proof.Machine
end

section
/-! The statement of a step. -/
open Sys2Proof Sys2Proof.Machine

/-- Settles O1: a step by its definition, and a next state of every command by `exec_settles`. -/
theorem stepRunsFront : Obligations.StepRunsFront := by
  refine ⟨fun c rest s hp => ?_, fun c s => ?_⟩
  · unfold step
    rw [hp]
  · obtain ⟨u, hu⟩ := exec_settles c s
    exact ⟨settle u, hu⟩
end

section
/-! The statement of the checks of a Dadin packet. -/
open Sys2Proof Sys2Proof.Machine

/-- Settles O5: the first check that fails by the branch of the intake that it takes (`takeIn_badLength`,
`takeIn_goodLength`), and the reply by `rejectFlight_path` (log entries 30, 32). -/
theorem dadinChecks : Obligations.DadinChecks := by
  refine ⟨fun op k c s hrow ht hr => ?_, fun op k c s hrow ht => exec_dadin_ignored hrow ht⟩
  intro reject
  have h0 : op ≠ 0 := by
    rintro rfl
    exact absurd (hrow.symm.trans dadinRow_zero) nofun
  have hreject : ∀ st word frees, st ≠ .lost → st ≠ .aborted →
      takeIn (.path k.path) op k (fresh s)
        = rejectFlight (flightOf (.path k.path) op k (fresh s)) st word frees (fresh s) →
      reject st word frees := by
    intro st word frees h1 h2 h
    have hexec := exec_dadin_takes hrow ht
    rw [h, rejectFlight_path (s := fresh s) hr h1 h2] at hexec
    refine ⟨_, rejection op k st word frees s, hexec, ?_⟩
    rw [settle_cmd, settle_regs]
    exact ⟨rfl, rfl, rfl, rfl, rfl, rfl, rfl, rfl, rfl, rfl⟩
  refine ⟨fun hl => hreject _ _ _ nofun nofun (takeIn_badLength h0 hl), fun hl => ?_⟩
  have hlen := takeIn_goodLength (s := fresh s) h0 hl
  refine ⟨fun ⟨hc, hk⟩ => hreject _ _ _ nofun nofun (hlen.trans (if_pos (by simp [hc, hk]))), fun hc => ?_⟩
  rw [checkWord_right hc, if_neg nofun] at hlen
  refine ⟨fun htag => hreject _ _ _ nofun nofun (hlen.trans (if_pos htag)), fun htag w hw => ?_⟩
  have hfree : (fresh s).tagBusy k.tag.toNat = false := htag
  rw [hfree, if_neg nofun, hw] at hlen
  exact hreject _ _ _ nofun nofun hlen
end

section
/-! The statement of `NOP` and `WEIGH_IN`. -/
open Sys2Proof Sys2Proof.Machine

/-- Settles O6: `NOP` by its two forms (`exec_nop_basic`, `exec_nop_expert`) and the end of its delay (`nopEnd_one`),
`WEIGH_IN` by its start (`exec_weighIn_begins`). -/
theorem nopAndWeighInComplete : Obligations.NopAndWeighInComplete := by
  refine ⟨⟨fun k s hb => ?_, fun s f p hfl hsrc hr => ?_⟩, fun k s hb => exec_weighIn_begins hb⟩
  · cases hx : k.x with
    | false => exact exec_nop_basic hb hx
    | true => exact exec_nop_expert hb hx
  · have hexec : exec .nopDelayEnd s = .next (settle (nopEnd (fresh s))) := rfl
    rw [nopEnd_one (s := fresh s) hfl, answer_path (s := fresh s) (st := .ok) hsrc hr nofun nofun] at hexec
    refine ⟨_, answerOf s.cmd.gen f .ok 0 (f.params.drop 1), hexec, ?_⟩
    rw [settle_cmd, settle_regs, settle_pmu, settle_mck]
    exact ⟨rfl, rfl, rfl, rfl, rfl, rfl, rfl⟩
end

section
/-! SUPPORT. A table of receive streams that lists a stream twice. -/
namespace Sys2Proof.Machine

/-- A RUNNING receive stream whose definition has DRAIN set, with its jitter buffer. -/
def drainStream (slots : Table Slot) : RxStream := { state := .running, ctrl := 2, slots := slots }

/-- BOOT with the Command Processor ready, and a table that lists receive stream 3 twice: the first entry holds a sample of
group 100, the second none. `SRX_DEFINE` puts a stream in the place of its former entry, so no command makes such a table. -/
def listedTwice : State :=
  { cmd := { ready := true }
    srx := { streams := [(3, drainStream [(64 * 100, {})]), (3, drainStream [])] } }

/-- `SRX_DISABLE` of stream 3 in the basic form. -/
def disableThree : Pkt := { tag := 5, params := [3] }

theorem listedTwice_begins : begins 0x12 disableThree listedTwice = true := by decide +kernel

/-- Each entry drains its own samples: the first until the stroke of its last one, the second until the next Catch. -/
theorem listedTwice_fades :
    ((listedTwice.rxDisable 0 3).1.srx.streams.map fun e => e.2.fade) = [some 302, some 0] := by decide +kernel

end Sys2Proof.Machine
end

section
/-! The statement of the enables and disables of streams. -/
open Sys2Proof Sys2Proof.Machine

/-- Refutes O10: its last clause on `SRX_DISABLE` speaks of every state, one whose table lists a stream twice included. The
disable changes both entries, and each drains until its own last sample; the clause has the stroke of the first entry's for
both. The clause wants a table that lists each stream once. -/
theorem not_streamEnablesAndDisables : ¬ Obligations.StreamEnablesAndDisables := by
  intro h
  obtain ⟨-, -, -, hdisable, -⟩ := h
  obtain ⟨-, -, hdrain⟩ := hdisable disableThree listedTwice listedTwice_begins (by decide)
  have hsame := congrArg (fun t => t.srx.streams.map fun e => e.2.fade) (hdrain 3 (by decide) (by decide))
  obtain ⟨hfirst, hrest⟩ := List.cons.inj (listedTwice_fades.symm.trans hsame)
  obtain ⟨hsecond, -⟩ := List.cons.inj hrest
  exact absurd (hfirst.trans hsecond.symm) (by decide)
end

section
/-! SUPPORT. What a stream or Drive command that begins at an idle Command Processor comes to, by the outcome of its commit;
and that a re-anchor neither reads nor changes the Command Processor. -/
namespace Sys2Proof.Machine

variable {s : State} {op : Nat} {k : Pkt} {c : Cmd}

/-! ## The Command Processor apart -/

/-- The state with other contents of the Command Processor. -/
def State.withCmd (s : State) (c : Cmd) : State := { s with cmd := c }

theorem State.withPend_withCmd {pend : State → Bool} {f : State → State} (ev i : Nat)
    (hp : ∀ t : State, pend (t.withCmd c) = pend t) (hf : ∀ t : State, f (t.withCmd c) = (f t).withCmd c) :
    (s.withCmd c).withPend pend ev i f = (s.withPend pend ev i f).withCmd c := by
  unfold State.withPend
  simp only [hf, hp]
  split
  · rfl
  · rfl

theorem State.ralFlag_withCmd (n i : Nat) : (s.withCmd c).ralFlag n i = (s.ralFlag n i).withCmd c := by
  unfold State.ralFlag
  exact State.withPend_withCmd _ _ (by intro t; rfl) (by intro t; rfl)

theorem State.rxFlag_withCmd (n i : Nat) : (s.withCmd c).rxFlag n i = (s.rxFlag n i).withCmd c := by
  unfold State.rxFlag
  exact State.withPend_withCmd _ _ (by intro t; rfl) (by intro t; rfl)

theorem State.onRal_withCmd (n : Nat) (f : RalStream → RalStream) :
    (s.withCmd c).onRal n f = (s.onRal n f).withCmd c := rfl

theorem State.onRx_withCmd (n : Nat) (f : RxStream → RxStream) :
    (s.withCmd c).onRx n f = (s.onRx n f).withCmd c := rfl

theorem State.ralRelease_withCmd (n : Nat) : (s.withCmd c).ralRelease n = (s.ralRelease n).withCmd c := by
  have hral : (s.withCmd c).ralOf n = s.ralOf n := rfl
  unfold State.ralRelease
  rw [hral]
  split
  · rw [State.onRal_withCmd, State.ralFlag_withCmd]
  · rfl
  · rfl
  · rfl

/-- A re-anchor neither reads nor changes the Command Processor. -/
theorem State.rxReanchor_withCmd (n : Nat) : (s.withCmd c).rxReanchor n = (s.rxReanchor n).withCmd c := by
  unfold State.rxReanchor State.rxFlush
  rw [State.onRx_withCmd, State.ralRelease_withCmd, State.rxFlag_withCmd]

/-! ## The commit of a stream or Drive command, whose effect is `t` -/

theorem commitOp_begun_low (hb : begins op k s = true) (hlow : op < 0x30) :
    commitOp s.cmd.nextOrd op k.tag k.x k.params (begun op k s) = commitLow op k.x k.params (begun op k s) :=
  commitOp_low (s := begun op k s) (show modeRefuses op s.mode = false from begins_mode hb) hlow

section
variable {i : Instr} {t : State} (hrow : dadinRow op k = some i) (hb : begins op k s = true) (h5 : 5 < op)
  (hlow : op < 0x30)
include hrow hb h5 hlow

theorem exec_low_completes {body : List Word} {g : Bool}
    (hc : commitLow op k.x k.params (begun op k s) = (t.withCmd (begun op k s).cmd, .ok body g)) :
    exec i s = .next (replied op k .ok 0 body g s t) :=
  (exec_dadin hrow).trans (congrArg Host.Outcome.next
    (commit_ok (s1 := t.withCmd (begun op k s).cmd) hb h5 ((commitOp_begun_low hb hlow).trans hc) rfl))

theorem exec_low_waits {body : List Word} {g : Bool} {fin : Fin} (hf : fin ≠ .patchSwap)
    (hc : commitLow op k.x k.params (begun op k s) = (t.withCmd (begun op k s).cmd, .later fin body g)) :
    exec i s = .next (inFlight op k .committed fin body (dueOf s fin) g s t) :=
  (exec_dadin hrow).trans (congrArg Host.Outcome.next
    (commit_later (s1 := t.withCmd (begun op k s).cmd) hb h5 ((commitOp_begun_low hb hlow).trans hc) rfl hf))

/-- A check fails: the status ABORTED sets its flag of CMD_EVENT (R248). -/
theorem exec_low_fails {st : Status} {word : Nat}
    (hc : commitLow op k.x k.params (begun op k s) = (begun op k s, .fail st word)) :
    exec i s = .next (replied op k st word [] false s
      (replyFlagged (replyOf op s.cmd.nextOrd k st word [] s.cmd.gen) (fresh s))) := by
  have hop : commitOp (started op k s).ord (started op k s).op (started op k s).tag (started op k s).x
      (started op k s).params (begun op k s) = (begun op k s, .fail st word) :=
    (commitOp_begun_low hb hlow).trans hc
  have hcommit : commitUnit (started op k s) (begun op k s) = (begun op k s).answer (started op k s) st word [] := by
    unfold commitUnit
    rw [hop]
    rfl
  have hreply := settle_answer_started (t := begun op k s) (f := started op k s) st word [] hb rfl rfl
  have hflags : replyFlagged (replyOf op s.cmd.nextOrd k st word [] s.cmd.gen) (begun op k s) = _ :=
    replyFlagged_cmd (s := fresh s) _ _
  rw [hflags, ← hcommit, ← arrive_begun hb h5] at hreply
  exact (exec_dadin hrow).trans (congrArg Host.Outcome.next hreply)
end

end Sys2Proof.Machine
end

section
/-! SUPPORT. The queries of streams, `SRX_RETARGET` and `STX_TEMPLATE` at their commit points, and a retarget at its
boundary. -/
namespace Sys2Proof.Machine

variable {s : State} {x : Bool} {p : List Word} {r : RxStream}

/-! ## Receive streams by number -/

theorem tget_of_thas {n : Nat} (h : thas s.srx.streams n = true) : tget s.srx.streams n = some (s.rxStream n) := by
  obtain ⟨r, hr⟩ := Option.isSome_iff_exists.mp h
  unfold State.rxStream tgetD
  rw [hr]
  rfl

/-- A stream that is not defined accepts no frames (R454). -/
theorem thas_of_accepting {n : Nat} (h : (s.rxStream n).accepting = true) : thas s.srx.streams n = true := by
  unfold State.rxStream tgetD at h
  unfold thas
  cases hr : tget s.srx.streams n with
  | none =>
    rw [hr] at h
    exact absurd h (by decide)
  | some r => rfl

/-! ## The queries at their commit points (R485, R520) -/

theorem commitSrxQuery_eq (c : Cmd) : commitSrxQuery x p (s.withCmd c)
    = ((if x && bitOf (p.getD 0 0) 9 then
        s.onRx (fieldOf (p.getD 0 0) 8 0) fun r => { r with cnt := List.replicate 8 0, margin := 0xFFFF }
      else s).withCmd c,
      .ok (srxBody s x (fieldOf (p.getD 0 0) 8 0))) := by
  unfold commitSrxQuery
  dsimp only
  split
  · rfl
  · rfl

theorem commitStxQuery_eq (c : Cmd) : commitStxQuery x p (s.withCmd c)
    = ((if x && bitOf (p.getD 0 0) 9 then
        s.onTx (fieldOf (p.getD 0 0) 8 0) fun t => { t with cnt := List.replicate 8 0 }
      else s).withCmd c,
      .ok (stxBody s x (fieldOf (p.getD 0 0) 8 0))) := by
  unfold commitStxQuery
  dsimp only
  split
  · rfl
  · rfl

/-! ## `SRX_RETARGET` at its commit point (R486) -/

/-- The form with map words. -/
def retargetMapped (x : Bool) (p : List Word) : Bool := x && bitOf (p.getD 0 0) 9

/-- The bindings that the command gives stream `r`, from the boundary of R32. -/
def retargetNew (x : Bool) (p : List Word) (r : RxStream) (s : State) : SrxPending :=
  { wait := s.boundaryWait, first := fieldOf (p.getD 1 0) 11 0, mapped := retargetMapped x p
    map := bindings (retargetMapped x p) (fieldOf (p.getD 1 0) 11 0) r.chans (p.drop 3) }

/-- The word of a binding that is wrong, or taken by another stream. -/
def retargetBad (x : Bool) (p : List Word) (r : RxStream) (s : State) : Option Nat :=
  let m := (retargetNew x p r s).map
  firstPos (if retargetMapped x p then 64 else r.chans) (fun c => bindBad 0x800 r.pair m c
    || s.bindTaken (fieldOf (p.getD 0 0) 8 0) m c || (retargetMapped x p && entryBad (p.drop 3) r.chans c))
    (bindWord (retargetMapped x p) 4 2)

/-- The definition words with the SSRC that the expert form names. -/
def retargetSsrc (x : Bool) (p ws : List Word) : List Word :=
  if x && bitOf (p.getD 0 0) 10 then listMod (listMod ws 4 fun _ => p.getD 2 0) 3 fun v => withField v 7 7 0 else ws

/-- A stored setting changes (R232). -/
def retargetChanges (x : Bool) (p : List Word) (r : RxStream) (s : State) : Bool :=
  let soon := r.retarget.foldl RxStream.retargeted r
  decide ((retargetNew x p r s).map ≠ soon.map)
    || decide (retargetSsrc x p (soon.retargeted (retargetNew x p r s)).words ≠ soon.words)

/-- The state in which the bindings wait, after a re-anchor where the expert form asks so. -/
def retargetWaits (x : Bool) (p : List Word) (r : RxStream) (s : State) : State :=
  let n := fieldOf (p.getD 0 0) 8 0
  let t := s.onRx n fun q => { q with words := retargetSsrc x p q.words, retarget := q.retarget ++ [retargetNew x p r s] }
  if x && bitOf (p.getD 0 0) 11 then t.rxReanchor n else t

theorem commitSrxRetarget_undefined (h : tget s.srx.streams (fieldOf (p.getD 0 0) 8 0) = none) :
    commitSrxRetarget x p s = (s, .fail .aborted) := by
  unfold commitSrxRetarget
  dsimp only
  rw [h]

section
variable (h : tget s.srx.streams (fieldOf (p.getD 0 0) 8 0) = some r)
include h

theorem commitSrxRetarget_bad {w : Nat} (hbad : retargetBad x p r s = some w) :
    commitSrxRetarget x p s = (s, .fail .badParam w) := by
  unfold commitSrxRetarget
  dsimp only
  rw [h]
  dsimp only
  split
  · next v hv => rw [Option.some.inj (hbad.symm.trans hv)]
  · next hv => exact absurd (hbad.symm.trans hv) nofun

variable (hbad : retargetBad x p r s = none)
include hbad

theorem commitSrxRetarget_closed (ha : r.accepting = false) : commitSrxRetarget x p s = (s, .fail .aborted) := by
  unfold commitSrxRetarget
  dsimp only
  rw [h]
  dsimp only
  split
  · next v hv => exact absurd (hbad.symm.trans hv) nofun
  · exact if_pos (by rw [ha]; rfl)

theorem commitSrxRetarget_commits (ha : r.accepting = true) :
    commitSrxRetarget x p s = (retargetWaits x p r s, .later .boundary [] (retargetChanges x p r s)) := by
  unfold commitSrxRetarget
  dsimp only
  rw [h]
  dsimp only
  split
  · next v hv => exact absurd (hbad.symm.trans hv) nofun
  · exact if_neg (by rw [ha]; exact nofun)
end

theorem retargetWaits_withCmd (c : Cmd) :
    retargetWaits x p r (s.withCmd c) = (retargetWaits x p r s).withCmd c := by
  unfold retargetWaits
  dsimp only
  split
  · rw [State.onRx_withCmd, State.rxReanchor_withCmd]
    rfl
  · rfl

/-! ## A retarget at its boundary -/

/-- The one retarget that waits takes effect at the next boundary. -/
theorem rxEnableStep_retargets {q : SrxPending} (he : r.enableWait = none) (hq : r.retarget = [q]) (hw : q.wait ≤ 1) :
    rxEnableStep r = { r.retargeted q with retarget := [] } := by
  unfold rxEnableStep
  rw [he]
  dsimp only
  rw [hq]
  have hnot : ¬1 < q.wait := by omega
  simp [hw, hnot]

theorem bitOf_withField_one (w : Word) (b : Bool) : bitOf (withField w 5 5 (b2n b)) 5 = b := by
  cases b <;> simp [bitOf, withField, w32, b2n]

theorem retargeted_first (q : SrxPending) (h : 2 ≤ r.words.length) :
    fieldOf ((r.retargeted q).words.getD 1 0) 11 0 = q.first % 4096 := by
  unfold RxStream.retargeted
  dsimp only
  rw [getD_listMod_ne _ _ _ (by decide), getD_listMod_self _ _ _ _ (by omega)]
  exact fieldOf_withField _ _ (by decide)

theorem retargeted_mapped (q : SrxPending) (h : 7 ≤ r.words.length) :
    bitOf ((r.retargeted q).words.getD 6 0) 5 = q.mapped := by
  unfold RxStream.retargeted
  dsimp only
  rw [getD_listMod_self _ _ _ _ (by rw [length_listMod]; omega)]
  exact bitOf_withField_one _ _

/-! ## `STX_TEMPLATE` at its commit point (R515, R521) -/

/-- The template of the command. -/
def templateNew (x : Bool) (p : List Word) : Template :=
  { kind := fieldOf (p.getD 0 0) 10 9, tagged := bitOf (p.getD 0 0) 11, randSeq := x && bitOf (p.getD 1 0) 1
    bytes := (templateBytes (p.drop (if x then 2 else 1))).take
      (templateLen (fieldOf (p.getD 0 0) 10 9) (bitOf (p.getD 0 0) 11)) }

/-- The templates as the command leaves them. -/
def templatesAfter (x : Bool) (p : List Word) (s : State) : Table Template :=
  if x && bitOf (p.getD 1 0) 0 then terase s.stx.templates (fieldOf (p.getD 0 0) 8 0)
  else tset s.stx.templates (fieldOf (p.getD 0 0) 8 0) (templateNew x p)

theorem tget_templatesAfter : tget (templatesAfter x p s) (fieldOf (p.getD 0 0) 8 0)
    = if x && bitOf (p.getD 1 0) 0 then none else some (templateNew x p) := by
  unfold templatesAfter
  split
  · exact tget_terase_self _ _
  · exact tget_tset_self _ _ _

theorem commitStxTemplate_unused
    (h : ∀ e ∈ s.stx.streams.filter (fun e => e.2.names (fieldOf (p.getD 0 0) 8 0)),
      e.2.enabled = false ∧ e.2.state ≠ .serving) :
    commitStxTemplate x p s = ({ s with stx := { s.stx with templates := templatesAfter x p s } },
      .ok [w32 (fieldOf (p.getD 0 0) 8 0 + 2 ^ 9 * b2n (!(x && bitOf (p.getD 1 0) 0))
        + 2 ^ 10 * (s.stx.streams.filter fun e => e.2.names (fieldOf (p.getD 0 0) 8 0)).length)]
        (decide (templatesAfter x p s ≠ s.stx.templates))) := by
  unfold commitStxTemplate
  refine if_neg ?_
  rw [List.any_eq_true]
  rintro ⟨e, he, hused⟩
  obtain ⟨hoff, hserve⟩ := h e he
  simp [hoff, hserve] at hused

end Sys2Proof.Machine
end

section
/-! The statement of stream queries, retargeting and templates. -/
open Sys2Proof Sys2Proof.Machine

/-- Settles O11: each command by the outcome of its commit (`commitSrxRetarget_commits`, `commitSrxRetarget_bad`,
`commitSrxRetarget_closed`, `commitStxTemplate_unused`), and the retarget at its boundary by `rxEnableStep_retargets`. -/
theorem streamQueriesRetargetTemplate : Obligations.StreamQueriesRetargetTemplate := by
  refine ⟨fun k s => ⟨fun hb => ?_, fun hb => ?_⟩, ⟨fun k s hb => ?_, fun r q he hq hw => ?_⟩, fun k s hb => ?_⟩
  · exact exec_low_completes (i := .srxQuery k) rfl hb (by decide) (by decide)
      (commitSrxQuery_eq (s := fresh s) (begun 0x13 k s).cmd)
  · exact exec_low_completes (i := .stxQuery k) rfl hb (by decide) (by decide)
      (commitStxQuery_eq (s := fresh s) (begun 0x1B k s).cmd)
  · intro w n mapped r first m bad next ssrc soon t
    refine ⟨fun ha hbad => ?_, fun i hn hbad => ?_, fun h => ?_⟩
    · have hget : tget (begun 0x14 k s).srx.streams n = some r := tget_of_thas (thas_of_accepting ha)
      have hc := commitSrxRetarget_commits (x := k.x) hget hbad ha
      have hwaits := retargetWaits_withCmd (x := k.x) (p := k.params) (r := r) (s := fresh s) (begun 0x14 k s).cmd
      exact exec_low_waits (i := .srxRetarget k) rfl hb (by decide) (by decide) nofun
        (hc.trans (congrArg (fun t => (t, _)) hwaits))
    · have hget : tget (begun 0x14 k s).srx.streams n = some r := tget_of_thas hn
      exact exec_low_fails (i := .srxRetarget k) rfl hb (by decide) (by decide) (commitSrxRetarget_bad hget hbad)
    · have hc : commitSrxRetarget k.x k.params (begun 0x14 k s) = (begun 0x14 k s, .fail .aborted) := by
        cases hn : thas s.srx.streams n with
        | false =>
          have hget : tget s.srx.streams n = none := by simpa [thas] using hn
          exact commitSrxRetarget_undefined (s := begun 0x14 k s) hget
        | true =>
          have hget : tget (begun 0x14 k s).srx.streams n = some r := tget_of_thas hn
          obtain hno | ⟨ha, hbad⟩ := h
          · exact absurd (hn.symm.trans hno) nofun
          · exact commitSrxRetarget_closed hget hbad ha
      exact exec_low_fails (i := .srxRetarget k) rfl hb (by decide) (by decide) hc
  · rw [rxEnableStep_retargets he hq hw]
    exact ⟨rfl, rfl, retargeted_first q, retargeted_mapped q⟩
  · intro w i users remove new tb hu
    exact ⟨exec_low_completes (i := .stxTemplate k) rfl hb (by decide) (by decide)
      (commitStxTemplate_unused (x := k.x) (s := begun 0x1C k s) hu), tget_templatesAfter⟩
end

section
/-! SUPPORT. The Slip queues: what a crossing of the watermark, a discard and an append leave, how many items an append
discards, and what a producer and a consumer do to an item (R266 to R277). -/
namespace Sys2Proof.Machine

variable {q : Queue} {it : Item}

/-! ## Event flags of a queue -/

theorem bitOf_or_shift_self (w : Word) {i : Nat} (h : i < 32) : bitOf (w ||| (1 <<< i)) i = true := by
  simp [bitOf, h, BitVec.getLsbD_ofNat]

theorem bitOf_or_left {w : Word} {j : Nat} (v : Word) (h : bitOf w j = true) : bitOf (w ||| v) j = true := by
  unfold bitOf at *
  rw [BitVec.getLsbD_or, h, Bool.true_or]

theorem qFlag_event_self (q : Queue) {i : Nat} (h : i < 32) : bitOf (qFlag q i).event i = true :=
  bitOf_or_shift_self _ h

/-- A crossing of the watermark changes the event flags, of which it clears none, and its count alone (R276). -/
theorem qCross_eq (old : Nat) (q : Queue) : ∃ e n, qCross old q = { q with event := e, wmCount := n }
    ∧ ∀ j, bitOf q.event j = true → bitOf e j = true := by
  unfold qCross
  dsimp only
  split_ifs
  · exact ⟨_, _, rfl, fun _ h => h⟩
  · exact ⟨_, _, rfl, fun _ h => bitOf_or_left _ h⟩
  · exact ⟨_, _, rfl, fun _ h => bitOf_or_left _ h⟩
  · exact ⟨_, _, rfl, fun _ h => h⟩

section
variable (old : Nat) (q : Queue)

@[simp] theorem qCross_items : (qCross old q).items = q.items := by obtain ⟨_, _, h, -⟩ := qCross_eq old q; rw [h]
@[simp] theorem qCross_lost : (qCross old q).lost = q.lost := by obtain ⟨_, _, h, -⟩ := qCross_eq old q; rw [h]
@[simp] theorem qCross_rpItem : (qCross old q).rpItem = q.rpItem := by obtain ⟨_, _, h, -⟩ := qCross_eq old q; rw [h]
@[simp] theorem qCross_rpOff : (qCross old q).rpOff = q.rpOff := by obtain ⟨_, _, h, -⟩ := qCross_eq old q; rw [h]
@[simp] theorem qCross_nextHeld : (qCross old q).nextHeld = q.nextHeld := by
  obtain ⟨_, _, h, -⟩ := qCross_eq old q; rw [h]
@[simp] theorem qCap_qCross : qCap (qCross old q) = qCap q := by obtain ⟨_, _, h, -⟩ := qCross_eq old q; rw [h]; rfl

theorem qCross_event {j : Nat} (h : bitOf q.event j = true) : bitOf (qCross old q).event j = true := by
  obtain ⟨_, _, he, hk⟩ := qCross_eq old q
  rw [he]
  exact hk j h
end

/-! ## Discards (R268) -/

/-- A discard takes the oldest item out, counts it where the consumer had not read it in full, and sets OVERWRITE. -/
theorem qDiscard_eq (q : Queue) : ∃ x, qDiscard q = qDropFront x 1 ∧ x.items = q.items
    ∧ x.lost = (if q.items.head?.any Item.read then q.lost else (q.lost + 1) % 2 ^ 48)
    ∧ x.sizeKib = q.sizeKib ∧ bitOf x.event 3 = true := by
  refine ⟨_, rfl, ?_⟩
  have hset : bitOf (q.event ||| (1 <<< 3)) 3 = true := bitOf_or_shift_self _ (by decide)
  have hlost : ∀ b, (if (!b) = true then (q.lost + 1) % 2 ^ 48 else q.lost)
      = if b = true then q.lost else (q.lost + 1) % 2 ^ 48 := fun b => by cases b <;> rfl
  dsimp only
  split <;> split
  all_goals simp only [qFlag, hlost, hset, bitOf_or_left, and_self]

theorem qDiscard_items (q : Queue) : (qDiscard q).items = q.items.drop 1 := by
  obtain ⟨x, hx, hitems, -⟩ := qDiscard_eq q
  rw [hx, ← hitems]
  rfl

theorem qDiscard_lost (q : Queue) :
    (qDiscard q).lost = if q.items.head?.any Item.read then q.lost else (q.lost + 1) % 2 ^ 48 := by
  obtain ⟨x, hx, -, hlost, -⟩ := qDiscard_eq q
  rw [hx, ← hlost]
  rfl

theorem qCap_qDiscard (q : Queue) : qCap (qDiscard q) = qCap q := by
  obtain ⟨x, hx, -, -, hsize, -⟩ := qDiscard_eq q
  rw [hx]
  exact congrArg (1024 * ·) hsize

theorem qDiscard_event (q : Queue) : bitOf (qDiscard q).event 3 = true := by
  obtain ⟨x, hx, -, -, -, hset⟩ := qDiscard_eq q
  rw [hx]
  exact hset

theorem qDiscards_items (n : Nat) (q : Queue) : (qDiscard^[n] q).items = q.items.drop n := by
  induction n with
  | zero => rfl
  | succ n ih => rw [Function.iterate_succ_apply', qDiscard_items, ih, List.drop_drop]

theorem qCap_qDiscards (n : Nat) (q : Queue) : qCap (qDiscard^[n] q) = qCap q := by
  induction n with
  | zero => rfl
  | succ n ih => rw [Function.iterate_succ_apply', qCap_qDiscard, ih]

theorem qDiscards_event {n : Nat} (h : 0 < n) (q : Queue) : bitOf (qDiscard^[n] q).event 3 = true := by
  obtain ⟨m, rfl⟩ := Nat.exists_eq_add_of_lt h
  rw [Nat.zero_add, Function.iterate_succ_apply']
  exact qDiscard_event _

/-- Discards count the items that the consumer had not read in full. -/
theorem qDiscards_lost {n : Nat} {q : Queue} (hn : n ≤ q.items.length) (hq : q.lost < 2 ^ 48) :
    (qDiscard^[n] q).lost = (q.lost + ((q.items.take n).filter fun x => !x.read).length) % 2 ^ 48 := by
  induction n with
  | zero => simpa using (Nat.mod_eq_of_lt hq).symm
  | succ n ih =>
    have hlt : n < q.items.length := hn
    rw [Function.iterate_succ_apply', qDiscard_lost, ih hlt.le, qDiscards_items, List.head?_drop,
      List.getElem?_eq_getElem hlt, List.take_succ_eq_append_getElem hlt, List.filter_append]
    cases hr : (q.items[n]).read
    · simp [hr]
      omega
    · simp [hr]

/-! ## Room for an item (R268) -/

/-- Bytes that the items take once the `n` oldest are out. -/
def takenAfter (q : Queue) (n : Nat) : Nat := ((q.items.drop n).map itemTaken).sum

theorem takenAfter_zero (q : Queue) : takenAfter q 0 = qTaken q := rfl

theorem takenAfter_qDiscard (q : Queue) (n : Nat) : takenAfter (qDiscard q) n = takenAfter q (n + 1) := by
  unfold takenAfter
  rw [qDiscard_items, List.drop_drop, Nat.add_comm]

/-- Room is made by discarding as many of the oldest items as it takes, and no more. -/
theorem qMakeRoom_discards {size : Nat} (fuel : Nat) (q : Queue) (hf : q.items.length ≤ fuel) (hs : size ≤ qCap q) :
    ∃ n ≤ q.items.length, qMakeRoom size fuel q = qDiscard^[n] q ∧ takenAfter q n + size ≤ qCap q
      ∧ ∀ m < n, qCap q < takenAfter q m + size := by
  induction fuel generalizing q with
  | zero =>
    have hnil : q.items = [] := List.length_eq_zero_iff.mp (Nat.le_zero.mp hf)
    exact ⟨0, Nat.zero_le _, rfl, by simpa [takenAfter, hnil] using hs, nofun⟩
  | succ fuel ih =>
    unfold qMakeRoom
    split
    · next hroom =>
      simp only [Bool.or_eq_true, decide_eq_true_eq] at hroom
      refine ⟨0, Nat.zero_le _, rfl, ?_, nofun⟩
      obtain hnil | hfits := hroom
      · simpa [takenAfter, hnil] using hs
      · exact hfits
    · next hfull =>
      simp only [Bool.or_eq_true, decide_eq_true_eq] at hfull
      obtain ⟨hne, hover⟩ := not_or.mp hfull
      have hpos : 0 < q.items.length := List.length_pos_iff.mpr hne
      have hlen : (qDiscard q).items.length = q.items.length - 1 := by rw [qDiscard_items, List.length_drop]
      obtain ⟨n, hn, heq, hfits, hmin⟩ := ih (qDiscard q) (by omega) (by rwa [qCap_qDiscard])
      rw [takenAfter_qDiscard, qCap_qDiscard] at hfits
      refine ⟨n + 1, by omega, heq, hfits, fun m hm => ?_⟩
      cases m with
      | zero => exact Nat.lt_of_not_le hover
      | succ m =>
        have := hmin m (by omega)
        rwa [takenAfter_qDiscard, qCap_qDiscard] at this

/-! ## Appends (R268 to R270) -/

/-- An item larger than the queue is discarded, or refused in held mode, with TOO_BIG. -/
theorem qAppend_large (h : qCap q < itemTaken it) :
    qAppend q it = (qFlag { q with lost := if q.hold then q.lost else (q.lost + 1) % 2 ^ 48 } 5, false) := by
  unfold qAppend
  dsimp only
  rw [if_pos h]
  split <;> rfl

/-- A held queue refuses an item for which it has no room now. -/
theorem qAppend_refused (hh : q.hold = true) (hs : itemTaken it ≤ qCap q) (h : qCap q < qTaken q + itemTaken it) :
    qAppend q it = (qFlag q 4, false) := by
  unfold qAppend
  dsimp only
  rw [if_neg hs.not_gt, if_pos (by simp [hh, h])]

/-- An item that is taken stands last, after as many of the oldest items have been discarded as it takes. -/
theorem qAppend_taken (hs : itemTaken it ≤ qCap q) (hh : q.hold = true → qTaken q + itemTaken it ≤ qCap q) :
    ∃ n ≤ q.items.length, takenAfter q n + itemTaken it ≤ qCap q ∧ (∀ m < n, qCap q < takenAfter q m + itemTaken it)
      ∧ qAppend q it = (qCross (qLevel q) { qDiscard^[n] q with items := q.items.drop n ++ [it] }, true) := by
  obtain ⟨n, hn, heq, hfits, hmin⟩ := qMakeRoom_discards q.items.length q le_rfl hs
  refine ⟨n, hn, hfits, hmin, ?_⟩
  unfold qAppend
  dsimp only
  rw [if_neg hs.not_gt, if_neg (by simpa using hh), heq, qDiscards_items]

/-- An item for which there is room is appended, and nothing is discarded. -/
theorem qAppend_fits (h : qTaken q + itemTaken it ≤ qCap q) :
    qAppend q it = (qCross (qLevel q) { q with items := q.items ++ [it] }, true) := by
  obtain ⟨n, -, -, hmin, heq⟩ := qAppend_taken (Nat.le_of_add_left_le h) fun _ => h
  have hn : n = 0 := Nat.eq_zero_of_not_pos fun hpos => absurd (hmin 0 hpos) h.not_gt
  rw [heq, hn]
  rfl

end Sys2Proof.Machine
end

section
/-! The statement of what an arriving item displaces. -/
open Sys2Proof Sys2Proof.Machine

/-- Settles O59: the discards of `qAppend_taken` are the fewest that make room, and one larger than the queue is
`qAppend_large`. -/
theorem itemsDisplaced : Obligations.ItemsDisplaced := by
  intro q it _ hlost
  refine ⟨fun hh hs hover => ?_, fun hbig => ?_, fun reserve pf hh hbig => ?_⟩
  · obtain ⟨n, hn, hfits, hmin, heq⟩ := qAppend_taken hs fun h => absurd (hh.symm.trans h) nofun
    have hpos : 0 < n := by
      rcases Nat.eq_zero_or_pos n with rfl | hpos
      · exact absurd hfits hover.not_ge
      · exact hpos
    rw [heq]
    exact ⟨n, hpos, hn, rfl, qCross_items _ _, hfits, hmin _ (Nat.sub_one_lt_of_lt hpos),
      (qCross_lost _ _).trans (qDiscards_lost hn hlost), qCross_event _ _ (qDiscards_event hpos q)⟩
  · rw [qAppend_large hbig]
    exact ⟨rfl, rfl, qFlag_event_self _ (by decide), rfl⟩
  · have hlarge := qAppend_large (q := q) (it := { len := none, data := [], reserve := reserve, pflags := pf }) hbig
    unfold qOpen
    rw [hlarge]
    exact ⟨rfl, rfl, qFlag_event_self _ (by decide)⟩
end

section
/-! SUPPORT. An append keeps a queue within its memory; what a producer's open, writes and commit make of an item, and what a
consumer's reads and NEXT do to one (R266, R268, R271 to R273). -/
namespace Sys2Proof.Machine

variable {q : Queue} {it : Item}

/-! ## An append keeps the queue within its memory -/

theorem qTaken_eq_of_items {x : Queue} (l : List Item) (h : x.items = l) : qTaken x = (l.map itemTaken).sum := by
  rw [← h]
  rfl

theorem qCap_qAppend : qCap (qAppend q it).1 = qCap q := by
  rcases Nat.lt_or_ge (qCap q) (itemTaken it) with hbig | hs
  · rw [qAppend_large hbig]
    rfl
  · by_cases hh : q.hold = true ∧ qCap q < qTaken q + itemTaken it
    · rw [qAppend_refused hh.1 hs hh.2]
      rfl
    · obtain ⟨n, -, -, -, heq⟩ := qAppend_taken hs fun h => Nat.le_of_not_lt fun hover => hh ⟨h, hover⟩
      rw [heq, qCap_qCross]
      exact qCap_qDiscards n q

/-- A queue within its memory stays within it. -/
theorem qTaken_qAppend (h : qTaken q ≤ qCap q) : qTaken (qAppend q it).1 ≤ qCap q := by
  rcases Nat.lt_or_ge (qCap q) (itemTaken it) with hbig | hs
  · rw [qAppend_large hbig]
    exact h
  · by_cases hh : q.hold = true ∧ qCap q < qTaken q + itemTaken it
    · rw [qAppend_refused hh.1 hs hh.2]
      exact h
    · obtain ⟨n, -, hfits, -, heq⟩ := qAppend_taken hs fun h => Nat.le_of_not_lt fun hover => hh ⟨h, hover⟩
      rw [heq, qTaken_eq_of_items _ (qCross_items _ _), List.map_append, List.sum_append]
      exact hfits

/-- A held queue takes the item whole, or nothing. -/
theorem qAppend_held (hh : q.hold = true) :
    ((qAppend q it).2 = true ↔ qTaken q + itemTaken it ≤ qCap q)
    ∧ (qAppend q it).1.items = if (qAppend q it).2 then q.items ++ [it] else q.items := by
  by_cases hfits : qTaken q + itemTaken it ≤ qCap q
  · rw [qAppend_fits hfits]
    exact ⟨⟨fun _ => hfits, fun _ => rfl⟩, qCross_items _ _⟩
  · rcases Nat.lt_or_ge (qCap q) (itemTaken it) with hbig | hs
    · rw [qAppend_large hbig]
      exact ⟨⟨nofun, fun h => absurd h hfits⟩, rfl⟩
    · rw [qAppend_refused hh hs (Nat.lt_of_not_le hfits)]
      exact ⟨⟨nofun, fun h => absurd h hfits⟩, rfl⟩

/-- An overwrite queue takes an item just where it holds one so large, after its oldest items have gone. -/
theorem qAppend_overwrites (hh : q.hold = false) :
    ((qAppend q it).2 = true ↔ itemTaken it ≤ qCap q)
    ∧ ((qAppend q it).2 = true → ∃ n, (qAppend q it).1.items = q.items.drop n ++ [it]) := by
  rcases Nat.lt_or_ge (qCap q) (itemTaken it) with hbig | hs
  · rw [qAppend_large hbig]
    exact ⟨⟨nofun, fun h => absurd h hbig.not_ge⟩, nofun⟩
  · obtain ⟨n, -, -, -, heq⟩ := qAppend_taken hs fun h => absurd (hh.symm.trans h) nofun
    rw [heq]
    exact ⟨⟨fun _ => hs, fun _ => rfl⟩, fun _ => ⟨n, qCross_items _ _⟩⟩

/-! ## The producer's open item (R271) -/

/-- The producer has item `it` open behind the items `l`, and the consumer has not begun the item at RP. -/
def fills (l : List Item) (it : Item) (q : Queue) : Prop :=
  q.items = l ++ [it] ∧ it.len = none ∧ q.rpOff = 0 ∧ q.nextHeld = false

section
variable {l : List Item}

theorem qOpenItem_of_fills (h : fills l it q) : qOpenItem q = some it := by
  obtain ⟨hitems, hopen, -, -⟩ := h
  simp [qOpenItem, hitems, hopen]

theorem qSetLast_items (it' : Item) (h : fills l it q) : (qSetLast q it').items = l ++ [it'] := by
  simp [qSetLast, h.1]

theorem qOpen_fills {reserve : Nat} {pf : Byte} (hroom : qTaken q + 4 + 4 * ((reserve + 3) / 4) ≤ qCap q)
    (hoff : q.rpOff = 0) (hheld : q.nextHeld = false) :
    fills q.items { len := none, data := [], reserve := reserve, pflags := pf } (qOpen q reserve pf) := by
  unfold qOpen
  rw [qAppend_fits (by simpa [itemTaken, Nat.add_assoc] using hroom)]
  exact ⟨qCross_items _ _, rfl, (qCross_rpOff _ _).trans hoff, (qCross_nextHeld _ _).trans hheld⟩

theorem qWrite_fills (w : Word) (h : fills l it q) (hroom : it.data.length + 4 ≤ 4 * ((it.reserve + 3) / 4)) :
    fills l { it with data := it.data ++ leBytes 4 w.toNat } (qWrite q w) := by
  unfold qWrite
  rw [qOpenItem_of_fills h]
  dsimp only
  rw [if_neg hroom.not_gt]
  obtain ⟨-, hopen, hoff, hheld⟩ := id h
  exact ⟨(qCross_items _ _).trans (qSetLast_items _ h), hopen, (qCross_rpOff _ _).trans hoff,
    (qCross_nextHeld _ _).trans hheld⟩

theorem length_leBytes (n v : Nat) : (leBytes n v).length = n := by simp [leBytes]

theorem length_wordBytes (ws : List Word) : (wordBytes ws).length = 4 * ws.length := by
  simp [wordBytes, length_leBytes, Nat.mul_comm]

theorem qWrites_fill (ws : List Word) (h : fills l it q)
    (hroom : it.data.length + 4 * ws.length ≤ 4 * ((it.reserve + 3) / 4)) :
    fills l { it with data := it.data ++ wordBytes ws } (ws.foldl qWrite q) := by
  induction ws generalizing q it with
  | nil => simpa [wordBytes] using h
  | cons w ws ih =>
    rw [List.length_cons] at hroom
    have hone := qWrite_fills w h (by omega)
    have := ih hone (by simp only [List.length_append, length_leBytes]; omega)
    simpa [wordBytes] using this

/-- What a commit leaves of the open item: LENGTH bytes, zeros where fewer were written. -/
theorem qCommit_items (len : Nat) (h : fills l it q) : (qCommit q len).items = l ++ [{ it with
    len := some len, data := (it.data ++ List.replicate (len - it.data.length) 0).take len }] := by
  unfold qCommit
  rw [qOpenItem_of_fills h]
  dsimp only
  generalize hx : qCross _ _ = x
  have hitems : x.items = _ := hx ▸ (qCross_items _ _).trans (qSetLast_items _ h)
  have hoff : x.rpOff = 0 := hx ▸ (qCross_rpOff _ _).trans h.2.2.1
  have hheld : x.nextHeld = false := hx ▸ (qCross_nextHeld _ _).trans h.2.2.2
  have hsame : qAfterCommit x = x := by
    unfold qAfterCommit
    split
    · rfl
    · simp [hoff, hheld]
  rw [hsame, hitems]
end

/-! ## The consumer (R272, R273) -/

theorem qPass_mrr (h : q.mrr = true) : qPass q = { q with rpItem := q.rpItem + 1, rpOff := 0 } := if_pos h

theorem qPass_frees (h : q.mrr = false) : (qPass q).items = q.items.drop (q.rpItem + 1) ∧ (qPass q).rpOff = 0 := by
  unfold qPass
  rw [if_neg (by simp [h])]
  exact ⟨qCross_items _ _, qCross_rpOff _ _⟩

theorem listMod_drop_succ {α : Type} (l : List α) (i : Nat) (f : α → α) :
    (listMod l i f).drop (i + 1) = l.drop (i + 1) := by
  apply List.ext_getElem?
  intro j
  rw [List.getElem?_drop, List.getElem?_drop, getElem?_listMod, if_neg (by omega)]

/-- An item read in full is released without MRR, and retained as read with it (R268, R273). -/
theorem qReadAll_frees (h : q.mrr = false) :
    (qReadAll q).items = q.items.drop (q.rpItem + 1) ∧ (qReadAll q).rpOff = 0 := by
  obtain ⟨hitems, hoff⟩ := qPass_frees (q := { q with items := listMod q.items q.rpItem fun it => { it with read := true } }) h
  exact ⟨hitems.trans (listMod_drop_succ ..), hoff⟩

theorem qReadAll_mrr (h : q.mrr = true) : qReadAll q = { q with
    items := listMod q.items q.rpItem fun it => { it with read := true }, rpItem := q.rpItem + 1, rpOff := 0 } :=
  qPass_mrr h

section
variable (hit : q.items[q.rpItem]? = some it) (hlen : it.len.isSome = true)
include hit hlen

theorem qVisible_committed : qVisible q = true := by simp [qVisible, hit, hlen]

variable (hres : q.resync = false)
include hres

/-- A read of a committed item (R272): the next word, and the item passed at its last one. -/
theorem qRead_committed (hheld : q.nextHeld = false) :
    qRead q = (if q.rpOff = 0 then itemHeader it else w32 (leNat (slice it.data (q.rpOff - 4) 4)),
      if itemTaken it ≤ q.rpOff + 4 then qReadAll { q with rpOff := q.rpOff + 4 } else { q with rpOff := q.rpOff + 4 }) := by
  have hopen : it.len.isNone = false := by simp [hlen]
  unfold qRead
  simp only [hres, hheld, qVisible_committed hit hlen, hit, hopen, hlen, Bool.false_eq_true, if_false, Bool.not_true,
    Bool.or_self, Bool.false_and, Bool.true_and, decide_eq_true_eq]

theorem qNext_committed : qNext q = qPass q := by
  have hopen : it.len.isNone = false := by simp [hlen]
  unfold qNext
  simp [hres, hit, hopen]
end

end Sys2Proof.Machine
end

section
/-! The statement of items appended, produced and consumed. -/
open Sys2Proof Sys2Proof.Machine

/-- Settles O32: an append by its outcomes (`qAppend_held`, `qAppend_overwrites`, `qTaken_qAppend`), the producer's item along
the writes (`qWrites_fill`), and the consumer's read by `qRead_committed`. -/
theorem queueItems : Obligations.QueueItems := by
  refine ⟨fun q it hin => ?_, fun q reserve len pf ws _ _ hroom hws _ hoff hheld => ?_,
    fun q it n hit hlen hdata hres hheld => ?_⟩
  · refine ⟨(qTaken_qAppend hin).trans qCap_qAppend.ge, qCap_qAppend, fun hh => (qAppend_held hh).2,
      fun hh => (qAppend_held hh).1,
      fun hh => (qAppend_overwrites hh).1, fun hh => (qAppend_overwrites hh).2, fun _ hfits => ?_⟩
    rw [qAppend_fits hfits]
    exact ⟨qCross_items _ _, qCross_lost _ _⟩
  · have hwritten := qWrites_fill ws (qOpen_fills (pf := pf) hroom hoff hheld) (by simp only [List.length_nil]; omega)
    rw [qCommit_items len hwritten]
    simp [length_wordBytes]
  · have hsome : it.len.isSome = true := by rw [hlen]; rfl
    rw [qRead_committed hit hsome hres hheld]
    refine ⟨fun h0 => ?_, fun hpos => if_neg hpos.ne', fun hmore => if_neg hmore.not_ge, fun hlast => ?_,
      qNext_committed hit hsome hres, qPass_mrr, qPass_frees⟩
    · dsimp only
      rw [if_pos h0]
      simp [itemHeader, hlen, Nat.mul_comm]
    · dsimp only
      rw [if_pos hlast]
      refine ⟨rfl, fun hm => qReadAll_frees hm, fun hm => ?_⟩
      rw [qReadAll_mrr (q := { q with rpOff := q.rpOff + 4 }) hm]
      exact ⟨by simp [getElem?_listMod, hit], rfl, rfl⟩
end

section
/-! SUPPORT. The commits of the commands from opcode 0x30 on; `QUEUE_CONFIG` and `QUEUE_QUERY` at their commit points (R285 to
R287); and the accesses of the host to a queue page (R271 to R273, R282, R283). -/
namespace Sys2Proof.Machine

variable {s : State} {k : Pkt} {op n off : Nat} {v : Word}

/-! ## Commits at an idle Command Processor -/

theorem commitOp_begun_mid (hb : begins op k s = true) (h1 : 0x30 ≤ op) (h2 : op < 0x50) :
    commitOp s.cmd.nextOrd op k.tag k.x k.params (begun op k s) = commitMid s.cmd.nextOrd op k.x k.params (begun op k s) :=
  commitOp_mid (show modeRefuses op s.mode = false from begins_mode hb) h1 h2

theorem commitOp_begun_high (hb : begins op k s = true) (h1 : 0x50 ≤ op) (h2 : op ≠ 0x68) (h3 : op ≠ 0x69) :
    commitOp s.cmd.nextOrd op k.tag k.x k.params (begun op k s) = commitHigh op k.tag k.x k.params (begun op k s) :=
  commitOp_high (show modeRefuses op s.mode = false from begins_mode hb) h1 (fun h => absurd h h2) (fun h => absurd h h3)

section
variable {i : Instr} {t : State} {body : List Word} (hrow : dadinRow op k = some i) (hb : begins op k s = true) (h5 : 5 < op)
include hrow hb h5

/-- A command that completes at its commit, whose effect is `t`. -/
theorem exec_commit_ok {g : Bool} (hc : commitOp s.cmd.nextOrd op k.tag k.x k.params (begun op k s)
      = (t.withCmd (begun op k s).cmd, .ok body g)) :
    exec i s = .next (replied op k .ok 0 body g s t) :=
  (exec_dadin hrow).trans (congrArg Host.Outcome.next (commit_ok (s1 := t.withCmd (begun op k s).cmd) hb h5 hc rfl))

theorem exec_commit_fail {st : Status} {word : Nat} (h1 : st ≠ .lost) (h2 : st ≠ .aborted)
    (hc : commitOp s.cmd.nextOrd op k.tag k.x k.params (begun op k s)
      = (t.withCmd (begun op k s).cmd, .fail st word body)) :
    exec i s = .next (replied op k st word body false s t) :=
  (exec_dadin hrow).trans (congrArg Host.Outcome.next (commit_fail (s1 := t.withCmd (begun op k s).cmd) hb h5 hc rfl h1 h2))

theorem exec_commit_later {g : Bool} {fin : Fin} (hf : fin ≠ .patchSwap)
    (hc : commitOp s.cmd.nextOrd op k.tag k.x k.params (begun op k s)
      = (t.withCmd (begun op k s).cmd, .later fin body g)) :
    exec i s = .next (inFlight op k .committed fin body (dueOf s fin) g s t) :=
  (exec_dadin hrow).trans (congrArg Host.Outcome.next (commit_later (s1 := t.withCmd (begun op k s).cmd) hb h5 hc rfl hf))
end

/-! ## `QUEUE_CONFIG` and `QUEUE_QUERY` (R285 to R287) -/

/-- The queue that `QUEUE_CONFIG` gives (R285). -/
def queueGiven (x : Bool) (p : List Word) : Queue :=
  { sizeKib := fieldOf (p.getD 0 0) 29 16, hold := bitOf (p.getD 0 0) 8, mrr := bitOf (p.getD 0 0) 9
    cut := if x then fieldOf (p.getD 1 0) 7 0 else 0
    wm := if x then fieldOf (p.getD 1 0) 31 16 else 3 * fieldOf (p.getD 0 0) 29 16 }

/-- The bytes that a queue holds before it is configured anew. -/
def queueBytes (n : Nat) (s : State) : Nat :=
  match tget s.buf.queues n with
  | some o => 1024 * o.sizeKib
  | none => 0

/-- Queue `n` is configured as `q`, or unconfigured where `q` has no memory. -/
def queueStored (n : Nat) (q : Queue) (s : State) : State :=
  if q.sizeKib = 0 then { s with buf := { s.buf with queues := terase s.buf.queues n } }
  else { s with buf := { s.buf with queues := tset s.buf.queues n q } }

theorem queueStored_eq (n : Nat) (q : Queue) (s : State) : queueStored n q s
    = { s with buf := { s.buf with queues := if q.sizeKib = 0 then terase s.buf.queues n else tset s.buf.queues n q } } := by
  unfold queueStored
  split <;> rfl

/-- Queue `n` is configured as `q` already. -/
def queueSame (n : Nat) (q : Queue) (s : State) : Bool :=
  match tget s.buf.queues n with
  | some o => decide (o.sizeKib = q.sizeKib) && decide (o.hold = q.hold) && decide (o.mrr = q.mrr) && decide (o.cut = q.cut)
      && decide (o.wm = q.wm)
  | none => decide (q.sizeKib = 0)

section
variable {x : Bool} {p : List Word}

theorem commitQueueConfig_fits (hn : fieldOf (p.getD 0 0) 7 0 = n)
    (h : s.memUsed - queueBytes n s + 1024 * (queueGiven x p).sizeKib ≤ s.memCap) :
    commitQueueConfig x p s = (queueStored n (queueGiven x p) s,
      .ok [w32 (queueStored n (queueGiven x p) s).freeKib] (!(queueSame n (queueGiven x p) s))) := by
  subst hn
  exact (if_neg h.not_gt).trans rfl

theorem commitQueueConfig_full (hn : fieldOf (p.getD 0 0) 7 0 = n)
    (h : s.memCap < s.memUsed - queueBytes n s + 1024 * (queueGiven x p).sizeKib) :
    commitQueueConfig x p s = (s, .fail .noResource 1) := by
  subst hn
  exact if_pos h
end

/-! ## Accesses to a queue page (R282, R283) -/

theorem pageAddr_bounds (hn : n < 256) (ho : off < 64) : ¬pageAddr n off < 0xC0000 ∧ pageAddr n off < 0xC4000 := by
  unfold pageAddr
  omega

theorem pageAddr_queue (ho : off < 64) : (pageAddr n off - 0xC0000) / 64 = n := by
  unfold pageAddr
  omega

theorem pageAddr_offset (ho : off < 64) (h4 : off % 4 = 0) : pageAddr n off % 64 / 4 * 4 = off := by
  unfold pageAddr
  omega

theorem busWrite_page (hc : s.coreAnswers = true) (hn : n < 256) (ho : off < 64) :
    busWrite .host (pageAddr n off) 0xF v s = pageWrite .host (pageAddr n off) 0xF v s := by
  obtain ⟨hlo, hhi⟩ := pageAddr_bounds hn ho
  unfold busWrite reachable
  simp [hc, hlo, hhi, show ¬pageAddr n off < 0x80000 by omega, show pageAddr n off < 0x100000 by omega]

theorem busRead_page (hc : s.coreAnswers = true) (hn : n < 256) (ho : off < 64) :
    busRead .host (pageAddr n off) 0xF s = pageRead .host (pageAddr n off) 0xF s := by
  obtain ⟨hlo, hhi⟩ := pageAddr_bounds hn ho
  unfold busRead reachable
  simp [hc, hlo, hhi, show ¬pageAddr n off < 0x80000 by omega, show pageAddr n off < 0x100000 by omega]

/-- A full-width write of a queue-page register does what the register's offset names. -/
theorem pageWrite_whole (h4 : off % 4 = 0) (ho : off < 64) : pageWrite .host (pageAddr n off) 0xF v s
    = if off = 0x14 then writeQEvEn n (beMask 0xF) v s
      else if off = 0x24 then s.qpOp n v
      else if off = 0x28 then s.flag Reg.BUF_ERR 0
      else if off = 0x2C then s.qpWdata n v
      else if off = 0x30 then s.qpOpen n v
      else if off = 0x34 then s.qpCommit n v
      else s := by
  unfold pageWrite
  simp only [pageAddr_queue ho, pageAddr_offset ho h4, ne_eq, not_true_eq_false, decide_false, Bool.false_and,
    Bool.false_eq_true, if_false]

theorem pageRead_rdata : pageRead .host (pageAddr n 0x28) 0xF s = s.qpRdata n := by
  unfold pageRead
  simp only [pageAddr_queue (off := 0x28) (by decide), pageAddr_offset (off := 0x28) (by decide) (by decide), ne_eq,
    not_true_eq_false, decide_false, Bool.false_and, Bool.false_eq_true, if_false, if_true]

section
variable (hc : s.coreAnswers = true) (hn : n < 256)
include hc hn

theorem onPage_eq (ho : off < 64) :
    onPage .host n off v s = pageWrite .host (pageAddr n off) 0xF v (fresh s) :=
  (if_pos hn).trans (busWrite_page (s := fresh s) hc hn ho)

theorem exec_qOpen : exec (.qOpen .host n v) s = .next (settle ((fresh s).qpOpen n v)) :=
  congrArg (fun t => Host.Outcome.next (settle t))
    ((onPage_eq hc hn (by decide)).trans (pageWrite_whole (by decide) (by decide)))

theorem exec_qWdata : exec (.qWdata .host n v) s = .next (settle ((fresh s).qpWdata n v)) :=
  congrArg (fun t => Host.Outcome.next (settle t))
    ((onPage_eq hc hn (by decide)).trans (pageWrite_whole (by decide) (by decide)))

theorem exec_qCommit : exec (.qCommit .host n v) s = .next (settle ((fresh s).qpCommit n v)) :=
  congrArg (fun t => Host.Outcome.next (settle t))
    ((onPage_eq hc hn (by decide)).trans (pageWrite_whole (by decide) (by decide)))

/-- A write of Q_OP, by the row whose word it writes. -/
theorem onPage_op : onPage .host n 0x24 v s = (fresh s).qpOp n v :=
  (onPage_eq hc hn (by decide)).trans (pageWrite_whole (by decide) (by decide))

theorem exec_qOpNext : exec (.qOpNext .host n) s = .next (settle ((fresh s).hostConsumer n qNext)) :=
  congrArg (fun t => Host.Outcome.next (settle t)) (onPage_op hc hn)

theorem exec_qOpRelease : exec (.qOpRelease .host n) s = .next (settle ((fresh s).mrrOp n qRelease)) :=
  congrArg (fun t => Host.Outcome.next (settle t)) (onPage_op hc hn)

theorem exec_qOpMark : exec (.qOpMark .host n) s = .next (settle ((fresh s).mrrOp n qMark)) :=
  congrArg (fun t => Host.Outcome.next (settle t)) (onPage_op hc hn)

theorem exec_qOpRewind : exec (.qOpRewind .host n) s = .next (settle ((fresh s).mrrOp n qRewind)) :=
  congrArg (fun t => Host.Outcome.next (settle t)) (onPage_op hc hn)

theorem exec_qOpAbandon : exec (.qOpAbandon .host n) s
    = .next (settle ((fresh s).hostProducer n (fun q => (qOpenItem q).isSome) qAbandon)) :=
  congrArg (fun t => Host.Outcome.next (settle t)) (onPage_op hc hn)
end

/-! ## What the host does to a queue (R271 to R273, R282) -/

section
variable {q : Queue} {f : Queue → Queue}

theorem hostProducer_acts {ok : Queue → Bool} (hq : tget s.buf.queues n = some q) (hp : hostProduces n = true)
    (hok : ok q = true) : s.hostProducer n ok f = s.setQueue n (f q) := by
  unfold State.hostProducer
  simp [hq, hp, hok]

theorem hostProducer_errs {ok : Queue → Bool} (h : hostProduces n = false ∨ tget s.buf.queues n = none) :
    s.hostProducer n ok f = s.flag Reg.BUF_ERR 0 := by
  unfold State.hostProducer
  split
  · next hq => simp [h.resolve_right (by simp [hq])]
  · rfl

theorem hostConsumer_acts (hq : tget s.buf.queues n = some q) (hc : hostConsumes n = true) :
    s.hostConsumer n f = s.setQueue n (f q) := by
  unfold State.hostConsumer
  simp [hq, hc]

theorem hostConsumer_errs (h : hostConsumes n = false ∨ tget s.buf.queues n = none) :
    s.hostConsumer n f = s.flag Reg.BUF_ERR 0 := by
  unfold State.hostConsumer
  split
  · next hq => simp [h.resolve_right (by simp [hq])]
  · rfl

theorem mrrOp_acts (hq : tget s.buf.queues n = some q) (hc : hostConsumes n = true) (hm : q.mrr = true) :
    s.mrrOp n f = s.setQueue n (f q) := by
  unfold State.mrrOp
  simp [hq, hc, hm]

theorem mrrOp_errs (h : hostConsumes n = false ∨ ∀ q, tget s.buf.queues n = some q → q.mrr = false) :
    s.mrrOp n f = s.flag Reg.BUF_ERR 0 := by
  unfold State.mrrOp
  split
  · next q hq =>
    obtain hc | hm := h
    · simp [hc]
    · simp [hm q hq]
  · rfl

theorem qpRdata_acts (hq : tget s.buf.queues n = some q) (hc : hostConsumes n = true) :
    s.qpRdata n = ((qRead q).1, s.setQueue n (qRead q).2) := by
  unfold State.qpRdata
  simp [hq, hc]

theorem qpRdata_errs (h : hostConsumes n = false ∨ tget s.buf.queues n = none) :
    s.qpRdata n = (0, s.flag Reg.BUF_ERR 0) := by
  unfold State.qpRdata
  split
  · next hq => simp [h.resolve_right (by simp [hq])]
  · rfl

theorem hostProduces_lt (h : hostProduces n = true) : n < 256 := by
  simp only [hostProduces, Bool.and_eq_true, decide_eq_true_eq] at h
  omega

theorem hostConsumes_lt (h : hostConsumes n = true) : n < 256 := by
  simp only [hostConsumes, Bool.or_eq_true, Bool.and_eq_true, decide_eq_true_eq] at h
  omega

end

/-! ## Q_RDATA (R253, R272) -/

section
variable {q : Queue} {e : Ecc}

/-- The word of Q_RDATA, and what reading it leaves. -/
theorem wordRead_rdata (hc : s.coreAnswers = true) (hn : n < 256) : wordRead .host (pageAddr n 0x28) s
    = ((fresh s).qpRdata n).2.driveOut [((fresh s).qpRdata n).1] := by
  unfold wordRead
  rw [busRead_page (s := fresh s) hc hn (by decide), pageRead_rdata]

/-- Without an error Q_RDATA is the read of the register, whatever the queue holds. -/
theorem exec_qRdata_plain (hc : s.coreAnswers = true) (hn : n < 256) : exec (.qRdata .host n none) s
    = .next (settle (((fresh s).qpRdata n).2.driveOut [((fresh s).qpRdata n).1])) := by
  have hread : rdataRead .host n none (fresh s) = wordRead .host (pageAddr n 0x28) s := by
    unfold rdataRead
    simp only [Option.map_none, Option.isSome_none, Bool.and_false, Bool.false_eq_true, if_false]
    rfl
  rw [← wordRead_rdata hc hn]
  refine congrArg (fun t => Host.Outcome.next (settle t)) ?_
  rw [hread]
  simp [hc, hn]

/-- A read that meets an error at a header is the read of the register, whose word a double-bit error changes. -/
theorem exec_qRdata_header (hc : s.coreAnswers = true) (hq : tget s.buf.queues n = some q) (hn : hostConsumes n = true)
    (hv : qVisible q = true) (hres : q.resync = false) (hheld : q.nextHeld = false) (hoff : q.rpOff = 0) :
    exec (.qRdata .host n (some e)) s = .next (settle (queueEcc n (some e) (((fresh s).setQueue n (qRead q).2).driveOut
      [if e.ded then (qRead q).1 ^^^ e.flips else (qRead q).1]))) := by
  have hword : rdataRead .host n (some e) (fresh s) = queueEcc n (some e) (((fresh s).setQueue n (qRead q).2).driveOut
      [if e.ded then (qRead q).1 ^^^ e.flips else (qRead q).1]) := by
    have hread : busRead .host (pageAddr n 0x28) 0xF (fresh s) = ((qRead q).1, (fresh s).setQueue n (qRead q).2) := by
      rw [busRead_page (s := fresh s) hc (hostConsumes_lt hn) (by decide), pageRead_rdata, qpRdata_acts (s := fresh s) hq hn]
    unfold rdataRead
    simp only [fresh_buf, hq, Option.map_some, Option.getD_some, hoff, Nat.lt_irrefl, decide_false, Bool.false_and,
      Bool.false_eq_true, if_false, hread, decide_true, Bool.true_and]
  rw [← hword]
  refine congrArg (fun t => Host.Outcome.next (settle t)) ?_
  simp [hq, hn, hv, hres, hheld, hc, hostConsumes_lt hn]

end

end Sys2Proof.Machine
end

section
/-! The statement of the queue commands and of the operations on queue pages. -/
open Sys2Proof Sys2Proof.Machine

/-- Settles O31: the commands by their commits (`commitQueueConfig_fits`, `commitQueueConfig_full`), and each operation of the
host by what its page write or read does (`hostProducer_acts`, `hostConsumer_acts`, `mrrOp_acts` and their errors). -/
theorem queueCommandsAndRows : Obligations.QueueCommandsAndRows := by
  refine ⟨fun k s => ⟨fun hb => ?_, fun hb => ?_⟩, fun s n v q hc hq => ⟨fun hp => ?_, fun hr => ?_⟩, fun s n v hc hn => ?_⟩
  · have hcommit : commitOp s.cmd.nextOrd 0x48 k.tag k.x k.params (begun 0x48 k s)
        = commitQueueConfig k.x k.params (begun 0x48 k s) :=
      commitOp_begun_mid hb (by decide) (by decide)
    refine ⟨fun hfits => ?_, fun hfull => ?_⟩
    · have hc := commitQueueConfig_fits (s := begun 0x48 k s) (x := k.x) rfl hfits
      rw [queueStored_eq] at hc
      exact exec_commit_ok (i := .queueConfig k) rfl hb (by decide) (hcommit.trans hc)
    · exact exec_commit_fail (i := .queueConfig k) rfl hb (by decide) nofun nofun
        (hcommit.trans (commitQueueConfig_full (s := begun 0x48 k s) rfl hfull))
  · exact exec_commit_ok (i := .queueQuery k) rfl hb (by decide) (commitOp_begun_mid hb (by decide) (by decide))
  · have hn := hostProduces_lt hp
    refine ⟨fun hnone => ?_, fun it hopen => ⟨?_, fun hle hne => ?_, ?_⟩⟩
    · rw [exec_qOpen hc hn]
      exact congrArg (fun t => Host.Outcome.next (settle t)) (hostProducer_acts hq hp (by simp [hnone]))
    · rw [exec_qWdata hc hn]
      exact congrArg (fun t => Host.Outcome.next (settle t)) (hostProducer_acts hq hp (by simp [hopen]))
    · rw [exec_qCommit hc hn]
      exact congrArg (fun t => Host.Outcome.next (settle t)) (hostProducer_acts hq hp (by simp [hopen, hle, hne]))
    · rw [exec_qOpAbandon hc hn, hostProducer_acts (s := fresh s) hq hp (by simp [hopen])]
  · have hn := hostConsumes_lt hr
    refine ⟨?_, fun hv hres hheld e => ⟨fun hd hoff => ?_, fun hd hoff => ?_⟩, ?_, fun hm => ⟨?_, ?_, ?_⟩⟩
    · rw [exec_qRdata_plain hc hn, qpRdata_acts (s := fresh s) hq hr]
    · rw [exec_qRdata_header hc hq hr hv hres hheld hoff]
      simp only [queueEcc, hd, Bool.false_eq_true, if_false]
    · rw [exec_qRdata_header hc hq hr hv hres hheld hoff]
      simp only [queueEcc, hd, if_true]
    · rw [exec_qOpNext hc hn, hostConsumer_acts (s := fresh s) hq hr]
    · rw [exec_qOpRelease hc hn, mrrOp_acts (s := fresh s) hq hr hm]
    · rw [exec_qOpMark hc hn, mrrOp_acts (s := fresh s) hq hr hm]
      rfl
    · rw [exec_qOpRewind hc hn, mrrOp_acts (s := fresh s) hq hr hm]
  · refine ⟨fun h => ⟨?_, ?_, ?_, ?_⟩, fun h => ⟨?_, ?_⟩, fun h => ⟨?_, ?_, ?_⟩⟩
    · rw [exec_qOpen hc hn]
      exact congrArg (fun t => Host.Outcome.next (settle t)) (hostProducer_errs (s := fresh s) h)
    · rw [exec_qWdata hc hn]
      exact congrArg (fun t => Host.Outcome.next (settle t)) (hostProducer_errs (s := fresh s) h)
    · rw [exec_qCommit hc hn]
      exact congrArg (fun t => Host.Outcome.next (settle t)) (hostProducer_errs (s := fresh s) h)
    · rw [exec_qOpAbandon hc hn, hostProducer_errs (s := fresh s) h]
    · rw [exec_qOpNext hc hn, hostConsumer_errs (s := fresh s) h]
    · rw [exec_qRdata_plain hc hn, qpRdata_errs (s := fresh s) h]
    · rw [exec_qOpRelease hc hn, mrrOp_errs (s := fresh s) h]
    · rw [exec_qOpMark hc hn, mrrOp_errs (s := fresh s) h]
    · rw [exec_qOpRewind hc hn, mrrOp_errs (s := fresh s) h]
end

section
/-! SUPPORT. `BANK_REPAIR` at its commit point (R264, R288). -/
namespace Sys2Proof.Machine

variable {s : State} {x : Bool} {p : List Word} {l src t : Nat} {rest : List Nat}

theorem commitBankRepair_unretires (h : (x && bitOf (p.getD 0 0) 6) = true) : commitBankRepair x p s
    = (s.unretire, .ok (repairBody (fieldOf (p.getD 0 0) 5 0) 0x3F 0x3F s.spareBanks.length 0)) := if_pos h

section
variable (h : (x && bitOf (p.getD 0 0) 6) = false) (hl : fieldOf (p.getD 0 0) 5 0 = l)
include h hl

/-- The form that asks for a migration (R288): the reasons to refuse it, in their order. -/
theorem commitBankRepair_migrates : commitBankRepair x p s
    = if ((s.buf.map[l]?).join).isNone then (s, .fail .refused 0 (repairBody l 0x3F 0x3F s.spareBanks.length 3))
      else if s.buf.mig.isSome then (s, .fail .refused 0 (repairBody l 0x3F 0x3F s.spareBanks.length 1))
      else if s.spareBanks = [] then (s, .fail .refused 0 (repairBody l 0x3F 0x3F s.spareBanks.length 2))
      else (s.startMigration l, .later (.migrate l) []) := by
  subst hl
  exact if_neg (Bool.eq_false_iff.mp h)

theorem commitBankRepair_absent (hm : (s.buf.map[l]?).join = none) :
    commitBankRepair x p s = (s, .fail .refused 0 (repairBody l 0x3F 0x3F s.spareBanks.length 3)) := by
  rw [commitBankRepair_migrates h hl, hm]
  rfl

variable (hm : (s.buf.map[l]?).join = some src)
include hm

theorem commitBankRepair_busy (hb : s.buf.mig ≠ none) :
    commitBankRepair x p s = (s, .fail .refused 0 (repairBody l 0x3F 0x3F s.spareBanks.length 1)) := by
  rw [commitBankRepair_migrates h hl, hm, if_neg (by simp), if_pos (Option.isSome_iff_ne_none.mpr hb)]

theorem commitBankRepair_noSpare (hb : s.buf.mig = none) (hs : s.spareBanks = []) :
    commitBankRepair x p s = (s, .fail .refused 0 (repairBody l 0x3F 0x3F s.spareBanks.length 2)) := by
  rw [commitBankRepair_migrates h hl, hm, if_neg (by simp), if_neg (by simp [hb]), if_pos hs]

/-- A migration of the bank begins, to the lowest spare (R261). -/
theorem commitBankRepair_starts (hb : s.buf.mig = none) (hs : s.spareBanks = t :: rest) : commitBankRepair x p s
    = ({ s with buf := { s.buf with mig := some { logical := l, source := src, target := t } } }, .later (.migrate l) []) := by
  rw [commitBankRepair_migrates h hl, hm, if_neg (by simp), if_neg (by simp [hb]), if_neg (by simp [hs])]
  unfold State.startMigration
  rw [hm, hs]
end

end Sys2Proof.Machine
end

section
/-! The statement of `BANK_REPAIR` and `BANK_STATUS`. -/
open Sys2Proof Sys2Proof.Machine

/-- Settles O34, by the outcomes of `commitBankRepair`. -/
theorem bankCommandsComplete : Obligations.BankCommandsComplete := by
  intro k s w l n refuse
  refine ⟨fun hb => ?_, fun hb => ?_⟩
  · have hcommit : commitOp s.cmd.nextOrd 0x78 k.tag k.x k.params (begun 0x78 k s)
        = commitBankRepair k.x k.params (begun 0x78 k s) :=
      commitOp_begun_high hb (by decide) (by decide) (by decide)
    have hrefuse : ∀ reason, commitBankRepair k.x k.params (begun 0x78 k s)
        = (begun 0x78 k s, .fail .refused 0 (repairBody l 0x3F 0x3F n reason)) → refuse reason := fun reason hc =>
      exec_commit_fail (i := .bankRepair k) (t := fresh s) rfl hb (by decide) nofun nofun (hcommit.trans hc)
    refine ⟨fun hx => ?_, fun hx => ⟨fun hm => ?_, fun src hm => ⟨fun hmig => ?_, fun hmig hs => ?_, fun t rest hmig hs => ?_⟩⟩⟩
    · exact exec_commit_ok (i := .bankRepair k) rfl hb (by decide) (hcommit.trans (commitBankRepair_unretires hx))
    · exact hrefuse 3 (commitBankRepair_absent hx rfl hm)
    · exact hrefuse 1 (commitBankRepair_busy hx rfl hm hmig)
    · exact hrefuse 2 (commitBankRepair_noSpare hx rfl hm hmig hs)
    · exact exec_commit_later (i := .bankRepair k) rfl hb (by decide) nofun
        (hcommit.trans (commitBankRepair_starts (s := begun 0x78 k s) hx rfl hm hmig hs))
  · have hcommit : commitOp s.cmd.nextOrd 0x79 k.tag k.x k.params (begun 0x79 k s)
        = commitBankStatus k.x k.params (begun 0x79 k s) :=
      commitOp_begun_high hb (by decide) (by decide) (by decide)
    refine exec_commit_ok (i := .bankStatus k) rfl hb (by decide) (hcommit.trans ?_)
    unfold commitBankStatus
    split <;> rfl
end

section
/-! SUPPORT. Answers set flags alone; the steps of a migration with the grid stopped (R261, R262); and a scrub pass (R254,
R260). -/
namespace Sys2Proof.Machine

variable {s : State} {m : Migration}

/-! ## Answers set flags alone -/

section
variable (s : State)

theorem keepsBits_replyFlagged (r : Reply) : keepsBits s (replyFlagged r s) := by
  have h1 : keepsBits s (if r.status = .lost then s.flag Reg.CMD_EVENT 1 else s) := by
    split
    · exact keepsBits_flag _ _ _
    · exact .refl s
  unfold replyFlagged
  dsimp only
  split
  · exact h1.trans (keepsBits_flag _ _ _)
  · exact h1

theorem keepsBits_hold (r : Reply) : keepsBits s (s.hold r) := by
  have hhold : s.hold r = if (replyFlagged r s).cmd.restarting then
      { replyFlagged r s with cmd := { (replyFlagged r s).cmd with after := (replyFlagged r s).cmd.after ++ [r] } }
    else { replyFlagged r s with cmd := { (replyFlagged r s).cmd with held := (replyFlagged r s).cmd.held ++ [r] } } := rfl
  refine (keepsBits_replyFlagged s r).trans (keepsBits_of_regs ?_)
  rw [hhold]
  split <;> rfl

theorem keepsBits_slOutcome (e : Nat) (st : Status) : keepsBits s (s.slOutcome e st) := by
  unfold State.slOutcome
  split
  · exact .refl s
  · split_ifs
    · exact .refl s
    · exact keepsBits_slDone _ _ _ _
    · exact keepsBits_slDone _ _ _ _
    · exact keepsBits_slDone _ _ _ _

theorem keepsBits_answer (f : Flight) (st : Status) (word : Nat) (body : List Word) :
    keepsBits s (s.answer f st word body) := by
  refine (keepsBits_of_regs (t := flightOut f s) rfl).trans ?_
  unfold State.answer
  dsimp only
  split
  · exact keepsBits_slOutcome _ _ _
  · split
    · exact .refl _
    · exact keepsBits_of_regs rfl
  · exact keepsBits_hold _ _

theorem keepsBits_finish (p : Fin → Bool) (body : Flight → List Word) : keepsBits s (s.finish p body) :=
  keepsBits_foldl (fun _ _ => keepsBits_answer _ _ _ _ _) _ s

theorem sameButReplies_finish (p : Fin → Bool) (body : Flight → List Word) : sameButReplies s (s.finish p body) :=
  sameButReplies_foldl (fun _ _ => sameButReplies_answer ..) _ s

theorem sameButReplies.buf {s t : State} (h : sameButReplies s t) : t.buf = s.buf := by
  obtain ⟨_, _, _, _, _, _, _, h, -⟩ := h
  rw [h]
end

/-! ## The steps of a migration (R261, R262) -/

/-- The next state of a step that a migration takes while the grid is stopped. -/
def migrationStep (m : Migration) (s : State) : State :=
  match m.phase with
  | .accepted => migBoundary { s with buf := { s.buf with mig := some { m with wait := 1 } } }
  | .copying => migCopy s
  | .remap => migBoundary s

theorem exec_migrationStep (hm : s.buf.mig = some m) (hg : s.mck.grid = false) (hc : clocked s.mode = true) :
    exec .migrationStepGridStopped s = .next (settle (migrationStep m (fresh s))) := by
  refine congrArg (fun t => Host.Outcome.next (settle t)) ?_
  refine (if_neg (by simp [hg, hc])).trans ?_
  simp only [fresh_buf, hm]
  rfl

theorem migrationStep_accepted (hp : m.phase = .accepted) : migrationStep m s
    = ({ s with buf := { s.buf with mig := some { m with phase := .copying, wait := 0 } } }).flag Reg.BUF_EVENT 3 := by
  unfold migrationStep
  rw [hp]
  unfold migBoundary
  rfl

/-- The double-bit errors that a copy step carries along and that were not known of the target. -/
def poisonCarried (m : Migration) (s : State) : List (Nat × Nat) :=
  ((s.buf.poison.filter fun e => decide (e.1 = m.source) && decide (m.copied ≤ e.2) && decide (e.2 < m.copied + 256)).map
    fun e => (m.target, e.2)).filter fun e => !(has s.buf.poison e)

theorem migrationStep_copying (hm : s.buf.mig = some m) (hp : m.phase = .copying) : migrationStep m s
    = { s with buf := { s.buf with
        mig := some { m with copied := m.copied + 256, phase := if 65536 ≤ m.copied + 256 then .remap else .copying }
        poison := s.buf.poison ++ poisonCarried m s } } := by
  unfold migrationStep
  rw [hp]
  unfold migCopy
  simp only [hm, hp]
  rfl

theorem has_iff {α : Type} [DecidableEq α] (l : List α) (x : α) : has l x = true ↔ x ∈ l := by simp [has]

/-- A known error of the words copied is known of the target once they are. -/
theorem mem_poison_carried {w : Nat} (h1 : m.copied ≤ w) (h2 : w < m.copied + 256) (h : (m.source, w) ∈ s.buf.poison) :
    (m.target, w) ∈ s.buf.poison ++ poisonCarried m s := by
  by_cases hknown : (m.target, w) ∈ s.buf.poison
  · exact List.mem_append_left _ hknown
  · refine List.mem_append_right _ (List.mem_filter.mpr ⟨List.mem_map.mpr ⟨(m.source, w), ?_, rfl⟩, ?_⟩)
    · exact List.mem_filter.mpr ⟨h, by simp [h1, h2]⟩
    · simpa [← has_iff] using hknown

/-- The remap leaves the bank mapped to the target and the source retired, with no migration. -/
theorem remap_spec (hpend : s.buf.pendTrig = []) : (s.remap m).buf = { s.buf with
      mig := none, map := listMod s.buf.map m.logical fun _ => some m.target
      retired := s.buf.retired ||| (1 <<< m.source), out := s.buf.out ||| (1 <<< m.source) }
    ∧ (s.remap m).bit Reg.BUF_EVENT 4 = true := by
  let s1 : State := { s with buf := { s.buf with mig := none, map := listMod s.buf.map m.logical fun _ => some m.target } }
  let s2 : State := (s1.retire m.source).flag Reg.BUF_EVENT 4
  let s3 : State := s2.finish (fun f => decide (f = .migrate m.logical)) fun _ =>
    repairBody m.logical m.source m.target s2.spareBanks.length 0
  have hbuf : s3.buf = s2.buf := (sameButReplies_finish s2 ..).buf
  have hpend3 : s3.buf.pendTrig = [] := hbuf ▸ hpend
  have hremap : s.remap m = { s3 with buf := { s3.buf with pendTrig := [] } } := by
    have : s.remap m = ({ s3 with buf := { s3.buf with pendTrig := [] } } : State).takePending
        (s3.buf.pendTrig.mergeSort fun a b => decide (a.1 ≤ b.1)) := rfl
    rw [this, hpend3, List.mergeSort_nil]
    rfl
  rw [hremap]
  refine ⟨?_, keepsBits_finish s2 _ _ _ _ (State.bit_flag_self _ _ _ (by decide))⟩
  dsimp only
  rw [hbuf, ← hpend]
  rfl

theorem migrationStep_remap (hm : s.buf.mig = some m) (hp : m.phase = .remap) : migrationStep m s = s.remap m := by
  unfold migrationStep
  rw [hp]
  unfold migBoundary
  simp only [hm, hp]

/-! ## A scrub pass (R254, R260) -/

theorem ceThresh_pos (s : State) : 0 < s.ceThresh := by
  unfold State.ceThresh
  dsimp only
  split <;> omega

/-- A corrected word is recorded, counted and flagged. -/
theorem ceFound_spec (p w : Nat) : (s.ceFound p w).buf = s.buf
    ∧ (s.ceFound p w).reg Reg.BUF_ECC_LAST = w32 (2 ^ 31 + 2 ^ 6 * w + p)
    ∧ (s.ceFound p w).reg Reg.BUF_CE_COUNT = w32 (satNat 0xFFFFFFFF ((s.reg Reg.BUF_CE_COUNT).toNat + 1))
    ∧ (s.ceFound p w).reg Reg.BUF_REPAIR_CFG = s.reg Reg.BUF_REPAIR_CFG
    ∧ (s.ceFound p w).bit Reg.BUF_EVENT 1 = true := by
  refine ⟨rfl, ?_, ?_, ?_, State.bit_flag_self _ _ _ (by decide)⟩
  all_goals
    unfold State.ceFound State.bump State.eccLast
    rw [State.reg_flag, if_neg (by decide)]
  · rw [State.reg_setReg_ne _ _ (by decide), State.reg_setReg_self]
    rfl
  · rw [State.reg_setReg_self, State.reg_setReg_ne _ _ (by decide)]
  · rw [State.reg_setReg_ne _ _ (by decide), State.reg_setReg_ne _ _ (by decide)]

variable {p : Nat}

/-- What a pass of bank `p` with `n` corrected words leaves known of it, before its finds. -/
def passKnown (p n : Nat) (s : State) : State :=
  { s with buf := { s.buf with poison := s.buf.poison.filter fun e => decide (e.1 ≠ p), cePass := tput s.buf.cePass p n 0 } }

/-- A pass with its finds recorded (R253). -/
def passFound (p : Nat) (ces deds : List Nat) (s : State) : State :=
  deds.foldl (fun s w => s.dedFound p w) (ces.foldl (fun s w => s.ceFound p w) (passKnown p ces.length s))

section
variable {ces deds : List Nat} (hp : p < 42) (hc : clocked s.mode = true)
include hp hc

/-- The pass of a bank in use is a trigger for it from the threshold on. -/
theorem scrubPass_carried {l : Nat} (hl : s.carried p = some l) : scrubPass p ces deds s
    = if s.ceThresh ≤ ces.length then (passFound p ces deds s).trigger l .corrected else passFound p ces deds s := by
  unfold scrubPass
  refine (if_neg (by simp [hp, hc])).trans ?_
  simp only [hl]
  rfl

/-- The pass of a spare retires it from the threshold on. -/
theorem scrubPass_spare (hl : s.carried p = none) : scrubPass p ces deds s
    = if has s.spareBanks p && (decide (s.ceThresh ≤ ces.length) || decide (deds ≠ [])) then
        ((passFound p ces deds s).retire p).flag Reg.BUF_EVENT 6 else passFound p ces deds s := by
  unfold scrubPass
  refine (if_neg (by simp [hp, hc])).trans ?_
  simp only [hl]
  rfl

/-- A pass without a find reaches no threshold. -/
theorem scrubPass_clean : scrubPass p [] [] s = passKnown p 0 s := by
  have hthresh : ¬s.ceThresh ≤ 0 := (ceThresh_pos s).not_ge
  cases hl : s.carried p with
  | some l => exact (scrubPass_carried hp hc hl).trans (if_neg hthresh)
  | none => exact (scrubPass_spare hp hc hl).trans (if_neg (by simp [hthresh]))

/-- With corrected errors as no trigger, one find in a bank in use is recorded and no more. -/
theorem scrubPass_one {w : Nat} (hoff : s.bit Reg.BUF_REPAIR_CFG 0 = false) (hcar : (s.carried p).isSome = true) :
    scrubPass p [w] [] s = (passKnown p 1 s).ceFound p w := by
  obtain ⟨l, hl⟩ := Option.isSome_iff_exists.mp hcar
  have hrepair : ((passKnown p 1 s).ceFound p w).repairOn .corrected = false := by
    obtain ⟨-, -, -, hcfg, -⟩ := ceFound_spec (s := passKnown p 1 s) p w
    exact (congrArg (bitOf · 0) hcfg).trans hoff
  have htrig : ((passKnown p 1 s).ceFound p w).trigger l .corrected = (passKnown p 1 s).ceFound p w := by
    unfold State.trigger
    rw [hrepair]
    rfl
  rw [scrubPass_carried hp hc hl]
  split
  · exact htrig
  · rfl
end

theorem exec_scrubPassComplete (p : Nat) (ces deds : List Nat) (s : State) :
    exec (.scrubPassComplete p ces deds) s = .next (settle (scrubPass p ces deds (fresh s))) := rfl

end Sys2Proof.Machine
end

section
/-! The statement of migrations and scrub passes. -/
open Sys2Proof Sys2Proof.Machine

/-- Settles O35: a migration by its three steps (`migrationStep_accepted`, `migrationStep_copying`, `remap_spec`), and a scrub
pass by `scrubPass_clean` and `scrubPass_one`. -/
theorem migrationAndScrub : Obligations.MigrationAndScrub := by
  refine ⟨fun s m hm hg hc => ?_, fun p s hp hc hpoison => ⟨?_, fun w hoff hcar => ?_⟩⟩
  · rw [exec_migrationStep hm hg hc]
    refine ⟨fun hp => ?_, fun hp => ?_, fun hp hpend hlt => ?_⟩
    · rw [migrationStep_accepted hp]
      rfl
    · refine ⟨_, rfl, ?_⟩
      rw [migrationStep_copying (s := fresh s) hm hp, settle_buf]
      exact ⟨rfl, fun w => mem_poison_carried, fun e he => List.mem_append_left _ he, rfl, rfl, settle_regs _⟩
    · refine ⟨_, rfl, ?_⟩
      obtain ⟨hbuf, hevent⟩ := remap_spec (s := fresh s) (m := m) hpend
      rw [migrationStep_remap (s := fresh s) hm hp, settle_buf, settle_bit, hbuf]
      refine ⟨rfl, ?_, fun j hj => ?_, rfl, hevent, rfl⟩
      · show ((listMod s.buf.map m.logical fun _ => some m.target)[m.logical]?).join = _
        rw [getElem?_listMod, if_pos rfl, List.getElem?_eq_getElem hlt]
        rfl
      · simp [getElem?_listMod, hj]
  · rw [exec_scrubPassComplete, scrubPass_clean (s := fresh s) hp hc]
    have hkept : (s.buf.poison.filter fun e => decide (e.1 ≠ p)) = s.buf.poison :=
      List.filter_eq_self.mpr fun e he => decide_eq_true (hpoison e he)
    unfold passKnown
    rw [fresh_buf, hkept]
    rfl
  · rw [exec_scrubPassComplete, scrubPass_one (s := fresh s) hp hc hoff hcar]
    obtain ⟨hbuf, hlast, hcount, -, hevent⟩ := ceFound_spec (s := passKnown p 1 (fresh s)) p w
    refine ⟨_, rfl, ?_⟩
    rw [settle_buf, settle_reg, settle_reg, settle_bit, hbuf]
    exact ⟨tget_tset_self _ _ _, hlast, hcount, hevent, rfl, rfl, rfl⟩
end


section
/-! SUPPORT. A port whose egress queue holds a two-step Sync of the firmware, at a frame boundary. -/
namespace Sys2Proof.Machine

/-- SERVICE, both ports running. -/
def syncBase : State :=
  { pmu := { mode := .service, firstService := true }
    np := [{ live := true }, { live := true }] }

/-- The two-step Sync that a MASTER sends at port 0 (R356, R357). -/
def syncFrame : TxFrame :=
  { bytes := ptpFrame syncBase 0 0 (ptpMessage syncBase 0 0 0x0200 0 0 0 (ptpTime 0)), kind := .ptp }

/-- That state with the Sync sent, and so alone in egress queue 7. -/
def syncState : State := syncBase.ptpSend 0 0 0x0200 0 0 0 (ptpTime 0)

/-- A frame boundary of a running port starts the next frame. -/
theorem exec_transmitFrameStart_live {dt n : Nat} {s : State} (hl : (((fresh s).advance dt).port n).live = true)
    (hr : (((fresh s).advance dt).port n).inReset = false) (hd : (((fresh s).advance dt).port n).disabling = false)
    (hc : clocked ((fresh s).advance dt).mode = true) :
    exec (.transmitFrameStart dt n) s = .next (settle (txNext n (txEnd n ((fresh s).advance dt)))) := by
  have hrun : (!(((fresh s).advance dt).port n).live || (((fresh s).advance dt).port n).inReset
      || !(clocked ((fresh s).advance dt).mode)) = false := by rw [hl, hr, hc]; rfl
  refine congrArg (fun t => Host.Outcome.next (settle t)) ?_
  exact (if_neg (ne_true_of_eq_false hrun)).trans (if_neg (ne_true_of_eq_false hd))

/-- The state at the frame boundary, the frame before it ended. -/
def syncBoundary : State := txEnd 0 ((fresh syncState).advance 0)

theorem syncState_runs : syncState.np.length = 2 ∧ clocked syncState.mode = true ∧ (syncState.port 0).live = true
    ∧ (syncState.port 0).inReset = false ∧ (syncState.port 0).disabling = false ∧ syncState.nearLoop 0 = false := by
  decide +kernel

theorem syncBoundary_head : (syncBoundary.port 0).pauseGo = []
    ∧ ([7, 6, 5, 4, 3, 2, 1, 0].find? fun q => syncBoundary.eligible 0 q) = some 7
    ∧ (syncBoundary.port 0).egress.getD 7 [] = [syncFrame] := by decide +kernel

/-- The Sync starts, and its Follow_Up enters the queue that it left (R357). -/
theorem syncBoundary_followUp : ((settle (txNext 0 syncBoundary)).port 0).egress.map List.length = [0, 0, 0, 0, 0, 0, 0, 1]
    ∧ (syncBoundary.port 0).egress.map List.length = [0, 0, 0, 0, 0, 0, 0, 1] := by decide +kernel

end Sys2Proof.Machine
end

section
/-! The statement of the frames at a port. -/
open Sys2Proof Sys2Proof.Machine

/-- Refutes O48: its clause on a head frame that starts leaves out the PTP messages of the firmware. A two-step Sync that passes
the transmit point has its Follow_Up sent at once (R357), which enters egress queue 7, so the queue is not the rest that the
clause names, here none. The clause wants a frame whose kind is no PTP message. -/
theorem not_portFramesComplete : ¬ Obligations.PortFramesComplete := by
  intro h
  obtain ⟨hnp, hclk, hlive, hreset, hdis, hloop⟩ := syncState_runs
  obtain ⟨hpause, hfind, hhead⟩ := syncBoundary_head
  obtain ⟨-, -, -, hstart, -⟩ := h 0 0 [] {} syncState (by decide) hnp hclk hlive hreset
  obtain ⟨-, hframe, -⟩ := hstart hdis hloop
  obtain ⟨t, ht, -, -, hrest⟩ := hframe 7 syncFrame [] hpause hfind hhead rfl
  have hnext : exec (.transmitFrameStart 0 0) syncState = .next (settle (txNext 0 syncBoundary)) :=
    exec_transmitFrameStart_live (by decide +kernel) (by decide +kernel) (by decide +kernel) (by decide +kernel)
  rw [hnext] at ht
  obtain rfl := Host.Outcome.next.inj ht
  obtain ⟨hfollow, hbefore⟩ := syncBoundary_followUp
  have hclaim : ((settle (txNext 0 syncBoundary)).port 0).egress = (syncBoundary.port 0).egress.set 7 [] := hrest
  rw [hclaim, List.map_set, hbefore] at hfollow
  exact absurd hfollow (by decide)
end


section
/-! SUPPORT. The restart with every command committed, and what it leaves of the events; the patch commands at their commit
points (R651, R652, R655, R656); and the ends of a verification, a swap and the tests (R265, R651, R653, R664). -/
namespace Sys2Proof.Machine

variable {s t : State} {k : Pkt} {op : Nat}

/-! ## The restart of the Command Processor (R172, R235) -/

/-- A restart answers the commands alone that have not committed. -/
theorem cmdRestart_committed {cause : Nat} (h : ∀ f ∈ s.cmd.flights, f.phase = .committed) :
    (s.cmdRestart cause).cmd.flights = s.cmd.flights := by
  have hnone : (s.cmd.flights.filter fun f => decide (f.phase ≠ .committed)) = [] :=
    List.filter_eq_nil_iff.mpr fun f hf => by simp [h f hf]
  obtain ⟨_, _, _, _, _, heq, -⟩ := cmdRestart_eq s cause
  rw [heq, restartLost, hnone]
  rfl

/-- A request that leaves its place writes PMU_HS and sets an event. -/
theorem hsFree_bit {r : PowerReq} {refuser reason a i : Nat} (ha : a ≠ Reg.PMU_HS) (h : s.bit a i = true) :
    (s.hsFree r refuser reason).bit a i = true := by
  have hdone : (s.hsDone r refuser reason).bit a i = true :=
    (congrArg (bitOf · i) (State.reg_setReg_ne s _ ha)).trans h
  have hrelease : keepsBits (s.hsDone r refuser reason) (s.hsDone r refuser reason).hsRelease := keepsBits_of_regs rfl
  exact keepsBits_flag _ Reg.PMU_EVENT 1 a i (hrelease a i hdone)

/-- A flag other than those of PMU_HS stands through a restart. -/
theorem cmdRestart_bit {cause a i : Nat} (ha : a ≠ Reg.PMU_HS) (h : s.bit a i = true) :
    (s.cmdRestart cause).bit a i = true := by
  have hbegun : keepsBits s (restartBegun cause s) := keepsBits_of_regs rfl
  have hlost : (restartLost cause s).bit a i = true :=
    hbegun.trans (keepsBits_foldl (fun _ _ => keepsBits_answer _ _ _ _ _) _ _) a i h
  unfold State.cmdRestart
  dsimp only
  split
  · split
    · exact hsFree_bit ha hlost
    · exact hlost
  · exact hlost

/-! ## What a command leaves at its commit -/

section
variable {st : Status} {word : Nat} {body : List Word} {g : Bool}

theorem replied_patch : (replied op k st word body g s t).patch = t.patch := settle_patch _

theorem replied_held : (replied op k st word body g s t).cmd.held
    = s.cmd.held ++ [replyOf op s.cmd.nextOrd k st word body (genAfter g s)] := congrArg Cmd.held (replied_cmd ..)

theorem replied_gen : (replied op k st word body g s t).cmd.gen = genAfter g s := congrArg Cmd.gen (replied_cmd ..)

variable {ph : CmdPhase} {fin : Fin} {due : Nat}

theorem inFlight_patch : (inFlight op k ph fin body due g s t).patch = t.patch := settle_patch _

theorem inFlight_flights : (inFlight op k ph fin body due g s t).cmd.flights = [flightIn op k ph fin body due s] :=
  congrArg Cmd.flights (settle_cmd _)
end

/-! ## The banks (R650) -/

theorem patchBank_of_patch (h : t.patch = s.patch) (b : Nat) : t.patchBank b = s.patchBank b := by
  unfold State.patchBank
  rw [h]

theorem inactive_of_patch (h : t.patch = s.patch) : t.inactive = s.inactive := by
  unfold State.inactive State.idleBank
  rw [h, patchBank_of_patch h]

/-- A change of the inactive bank, with two banks. -/
theorem onInactive_spec (hb : s.patch.banks.length = 2) (ha : s.patch.active < 2) (f : PatchBank → PatchBank) :
    (s.onInactive f).inactive = f s.inactive ∧ (s.onInactive f).patchBank s.patch.active = s.patchBank s.patch.active :=
  have hidle : s.idleBank < s.patch.banks.length := by unfold State.idleBank; omega
  have hother : s.patch.active ≠ s.idleBank := by unfold State.idleBank; omega
  ⟨getD_listMod_self _ _ _ _ hidle, getD_listMod_ne _ _ _ hother⟩

/-! ## `PATCH_LOAD` (R651, R655) -/

section
variable {x : Bool} {p : List Word} {had : List Word}

/-- The chunk of `PATCH_LOAD` stands in the inactive bank after the words `had`. -/
def chunkStored (x : Bool) (p had : List Word) (s : State) : State :=
  s.onInactive fun b => { words := had ++ p.drop (if x then 2 else 1), staged := b.staged && !(bitOf (p.getD 0 0) 16) }

/-- The words that a chunk is appended to. -/
def chunkHad (p : List Word) (s : State) : List Word := if bitOf (p.getD 0 0) 16 then [] else s.inactive.words

theorem chunkStored_spec (hb : s.patch.banks.length = 2) (ha : s.patch.active < 2) :
    (chunkStored x p had s).inactive.words = had ++ p.drop (if x then 2 else 1)
      ∧ (chunkStored x p had s).patchBank s.patch.active = s.patchBank s.patch.active :=
  have ⟨hwords, hother⟩ := onInactive_spec hb ha _
  ⟨congrArg PatchBank.words hwords, hother⟩

theorem commitPatchLoad_misplaced (h : fieldOf (p.getD 0 0) 15 0 ≠ (chunkHad p s).length) :
    commitPatchLoad x p s = (s.patchResult 7, .fail .refused 0 ((s.patchResult 7).loadBody 7)) := if_pos h

variable (hoff : fieldOf (p.getD 0 0) 15 0 = (chunkHad p s).length)
  (hlen : (chunkHad p s).length + (p.drop (if x then 2 else 1)).length ≤ 49152)
include hoff hlen

theorem commitPatchLoad_more (hlast : bitOf (p.getD 0 0) 17 = false) : commitPatchLoad x p s
    = (chunkStored x p (chunkHad p s) s, .ok ((chunkStored x p (chunkHad p s) s).loadBody 0)
        (decide ((chunkStored x p (chunkHad p s) s).patch.banks ≠ s.patch.banks))) := by
  unfold commitPatchLoad
  exact ((if_neg (not_not_intro hoff)).trans (if_neg hlen.not_gt)).trans (if_neg (ne_true_of_eq_false hlast))

theorem commitPatchLoad_last (hlast : bitOf (p.getD 0 0) 17 = true) : commitPatchLoad x p s
    = ({ chunkStored x p (chunkHad p s) s with patch := { (chunkStored x p (chunkHad p s) s).patch with verifying := true } },
        .later .verify [] (decide ((chunkStored x p (chunkHad p s) s).patch.banks ≠ s.patch.banks))) := by
  unfold commitPatchLoad
  exact ((if_neg (not_not_intro hoff)).trans (if_neg hlen.not_gt)).trans (if_pos hlast)
end

/-! ## `PATCH_SWAP` (R652, R656) -/

/-- The state `s1` with the swap of a packet committed, the command in flight. -/
def swapCommitted (op : Nat) (k : Pkt) (s s1 : State) : State :=
  { s1 with cmd := { s.cmd with
    nextOrd := s.cmd.nextOrd + 1, gen := s.cmd.gen + 1
    flights := [flightIn op k .committed .patchSwap [] (dueOf s .patchSwap) s] } }

/-- A swap that commits restarts the Command Processor with the command in flight. -/
theorem commit_patchSwap {s1 : State} (hb : begins op k s = true) (h5 : 5 < op)
    (hc : commitOp s.cmd.nextOrd op k.tag k.x k.params (begun op k s)
      = (s1.withCmd (begun op k s).cmd, .later .patchSwap [] true)) :
    arrive op k (fresh s) = (swapCommitted op k s s1).cmdRestart 5 := by
  have hc' : commitOp (started op k s).ord (started op k s).op (started op k s).tag (started op k s).x
      (started op k s).params (begun op k s) = (s1.withCmd (begun op k s).cmd, .later .patchSwap [] true) := hc
  rw [arrive_begun hb h5]
  unfold commitUnit
  rw [hc']
  dsimp only
  rw [dueOf_begun]
  simp [applyRes, genIf, State.genUp, State.putFlight, State.withCmd, swapCommitted, begun, started, flightIn, flightOf]

/-! ## The ends of a verification and of the tests (R265, R651, R664) -/

theorem finish_alone {f : Flight} {fin : Fin} {body : Flight → List Word} (hf : s.cmd.flights = [f]) (hp : f.phase = .committed)
    (hfin : f.fin = fin) : s.finish (fun g => decide (g = fin)) body = s.answer f .ok 0 (body f) := by
  unfold State.finish
  rw [hf, List.filter_cons_of_pos (by simp [hp, hfin])]
  rfl

/-- An answer to the only command in flight. -/
theorem answer_alone {f : Flight} {p : Path} (st : Status) (word : Nat) (body : List Word) (hf : s.cmd.flights = [f])
    (hsrc : f.src = .path p) (hr : s.cmd.restarting = false) : ∃ q, (s.answer f st word body).cmd.held = s.cmd.held ++ [q]
      ∧ q.tag = f.tag ∧ q.status = st ∧ (s.answer f st word body).cmd.flights = []
      ∧ (s.answer f st word body).patch = s.patch ∧ (s.answer f st word body).tst = s.tst
      ∧ (s.answer f st word body).buf = s.buf := by
  obtain ⟨rs, m, heq⟩ := answer_path_eq (s := s) st word body hsrc hr
  rw [heq]
  refine ⟨answerOf s.cmd.gen f st word body, rfl, rfl, rfl, ?_, rfl, rfl, rfl⟩
  exact List.filter_eq_nil_iff.mpr fun g hg => by simp [List.mem_singleton.mp (hf ▸ hg)]

/-- The result of a verification for one command, as R657 codes it. -/
def imageResult (f : Flight) (s : State) : Nat :=
  if imageCrcBad f s.inactive.words then 6 else patchVerify s.keyHash s.inactive.words

/-- The state in which a verification with the result `r` is answered. -/
def imageJudged (r : Nat) (s : State) : State :=
  let s1 := s.onInactive fun b => { b with staged := decide (r = 1) }
  { s1 with patch := { s1.patch with verifying := false, lastResult := r } }

theorem patchVerified_alone {f : Flight} (hf : s.cmd.flights = [f]) (hfin : f.fin = .verify) : patchVerified s
    = (imageJudged (imageResult f s) s).answer f (if imageResult f s = 1 then .ok else .refused) 0
        ((imageJudged (imageResult f s) s).loadBody (imageResult f s)) := by
  unfold patchVerified
  rw [hf, List.filter_cons_of_pos (by simp [hfin])]
  simp only [List.filter_nil, List.any_cons, List.any_nil, Bool.or_false, List.foldl_cons, List.foldl_nil]
  rfl

/-- Banks that are retired stay retired, and those of the list are retired. -/
theorem foldl_retire_retired (l : List Nat) (s : State) {b : Nat} (hb : b < 42)
    (h : b ∈ l ∨ s.buf.retired.getLsbD b = true) : (l.foldl (fun s p => s.retire p) s).buf.retired.getLsbD b = true := by
  induction l generalizing s with
  | nil => simpa using h
  | cons p ps ih =>
    refine ih (s.retire p) ?_
    by_cases hp : b = p
    · subst hp
      have hbit : (BitVec.ofNat 42 (1 <<< b)).getLsbD b = true := by
        rw [BitVec.getLsbD_ofNat, Nat.one_shiftLeft, Nat.testBit_two_pow_self]
        simpa using hb
      exact .inr ((BitVec.getLsbD_or ..).trans (by rw [Bool.or_eq_true]; exact .inr hbit))
    · obtain hmem | hold := h
      · exact .inl ((List.mem_cons.mp hmem).resolve_left hp)
      · exact .inr (by simp [State.retire, hold])

theorem foldl_retire_rest (l : List Nat) (s : State) : ∃ b, l.foldl (fun s p => s.retire p) s = { s with buf := b } := by
  induction l generalizing s with
  | nil => exact ⟨s.buf, rfl⟩
  | cons p ps ih =>
    obtain ⟨b, hb⟩ := ih (s.retire p)
    exact ⟨b, hb⟩

/-- The spares that failed their test (R664). -/
def sparesBad (w : Word) (failing : BitVec 42) (s : State) : List Nat :=
  s.spareBanks.filter fun p => bitOf w 0 && failing.getLsbD p

/-- The state in which the tests are answered. -/
def bistJudged (w : Word) (failing : BitVec 42) (s : State) : State :=
  (sparesBad w failing s).foldl (fun s p => s.retire p) { s with tst := { s.tst with bist := none } }

theorem bistJudged_rest (w : Word) (failing : BitVec 42) (s : State) : ∃ b, bistJudged w failing s
    = { s with tst := { s.tst with bist := none }, buf := b } := foldl_retire_rest _ _

theorem bistDone_alone {w : Word} {failing : BitVec 42} {errors : List Nat} {f : Flight} (hf : s.cmd.flights = [f])
    (hp : f.phase = .committed) (hfin : f.fin = .bist) :
    ∃ body, bistDone w failing errors s = (bistJudged w failing s).answer f .ok 0 body := by
  obtain ⟨b, hrest⟩ := bistJudged_rest w failing s
  have hf' : (bistJudged w failing s).cmd.flights = [f] := by rw [hrest]; exact hf
  exact ⟨_, finish_alone hf' hp hfin⟩

/-! ## The rollback of a swap (R653) -/

/-- A fault whose action is none of SAFE and RESTART is logged and sets its event (R643). -/
theorem raiseAs_logged {code unit : Nat} {detail : Word} {injected : Bool} {action : Nat} (h1 : action ≠ polSafe)
    (h2 : action ≠ polRestart) (hc : code < 32) : (s.raiseAs code unit detail injected action).patch = s.patch
      ∧ (s.raiseAs code unit detail injected action).bit Reg.PMU_UMP_EVENT code = true := by
  unfold State.raiseAs
  dsimp only
  rw [if_neg h1, if_neg h2]
  refine ⟨?_, State.bit_flag_self _ _ _ hc⟩
  have hlogged : ∀ u v : State, sameButLog u v → v.patch = u.patch := by
    rintro u v ⟨_, _, _, _, rfl⟩
    rfl
  refine hlogged s _ (.trans ?_ (sameButQueues_flag _ Reg.PMU_UMP_EVENT code).log)
  split
  · exact (sameButLog_logEntry ..).trans (sameButLog_ump _ _)
  · exact sameButLog_ump s _

theorem patchRolledBack_spec : (patchRolledBack s).patch.level = s.patch.before
    ∧ (patchRolledBack s).patch.active = s.patch.prevActive ∧ (patchRolledBack s).patch.rollback = true
    ∧ (patchRolledBack s).cmd.restarting = true ∧ (patchRolledBack s).cmd.ready = false
    ∧ (patchRolledBack s).bit Reg.PMU_UMP_EVENT 7 = true := by
  obtain ⟨hpatch, hevent⟩ := raiseAs_logged (s := s) (code := 7) (unit := 0) (detail := w32 s.patch.level) (injected := false)
    (action := 3) (by decide) (by decide) (by decide)
  unfold patchRolledBack
  extract_lets s1 pt s2
  obtain ⟨hready, hrestarting, -, -, -, -, hkept⟩ := cmdRestart_keeps s2 6
  have hpt : pt = s.patch := hpatch
  refine ⟨?_, ?_, ?_, hrestarting, hready, cmdRestart_bit (by decide) hevent⟩
  · rw [hkept, ← hpt]
  · rw [hkept, ← hpt]
  · rw [hkept]

end Sys2Proof.Machine
end

section
/-! The statement of the patch commands and of the ends of patches and tests. -/
open Sys2Proof Sys2Proof.Machine

/-- Settles O54: the commands by their commits (`commitPatchLoad_misplaced`, `commitPatchLoad_more`, `commitPatchLoad_last`,
`commit_patchSwap`), the ends by the answer to the only command in flight (`answer_alone`), and the rollback by
`patchRolledBack_spec`. -/
theorem patchCommandsComplete : Obligations.PatchCommandsComplete := by
  refine ⟨fun k s hbanks => ⟨fun hb hact => ?_, fun hb hx => ?_⟩, fun s f p hf hsrc hph hr =>
    ⟨fun hver hfin hbanks hact => ?_, fun u hbusy hres hroll => ?_, fun w bad errs hw hfin => ?_⟩⟩
  · have hcommit : commitOp s.cmd.nextOrd 0x70 k.tag k.x k.params (begun 0x70 k s)
        = commitPatchLoad k.x k.params (begun 0x70 k s) :=
      commitOp_begun_high hb (by decide) (by decide) (by decide)
    refine ⟨fun hoff => ?_, fun hoff hlen => ?_⟩
    · have hnext := exec_commit_fail (i := .patchLoad k) (t := (fresh s).patchResult 7) rfl hb (by decide)
        (st := .refused) nofun nofun (hcommit.trans (commitPatchLoad_misplaced (s := begun 0x70 k s) hoff))
      exact ⟨_, _, hnext, replied_held, rfl, replied_patch, replied_gen⟩
    · obtain ⟨hwords, hother⟩ := chunkStored_spec (s := s) (x := k.x) (p := k.params) (had := chunkHad k.params s) hbanks hact
      cases hlast : bitOf (k.params.getD 0 0) 17 with
      | false =>
        have hnext := exec_commit_ok (i := .patchLoad k) (t := chunkStored k.x k.params (chunkHad k.params s) (fresh s)) rfl hb
          (by decide) (hcommit.trans (commitPatchLoad_more (s := begun 0x70 k s) hoff hlen hlast))
        refine ⟨_, hnext, ?_⟩
        rw [inactive_of_patch replied_patch, patchBank_of_patch replied_patch, replied_patch]
        exact ⟨hwords, rfl, hother, rfl, fun _ => ⟨_, replied_held, rfl⟩, nofun⟩
      | true =>
        let t := chunkStored k.x k.params (chunkHad k.params s) (fresh s)
        have hnext := exec_commit_later (i := .patchLoad k) (t := { t with patch := { t.patch with verifying := true } }) rfl hb
          (by decide) (fin := .verify) nofun (hcommit.trans (commitPatchLoad_last (s := begun 0x70 k s) hoff hlen hlast))
        refine ⟨_, hnext, ?_⟩
        rw [inactive_of_patch inFlight_patch, patchBank_of_patch inFlight_patch, inFlight_patch]
        exact ⟨hwords, rfl, hother, rfl, nofun, fun _ => ⟨rfl, _, inFlight_flights, rfl⟩⟩
  · have hcommit : commitOp s.cmd.nextOrd 0x71 k.tag k.x k.params (begun 0x71 k s)
        = commitPatchSwap k.x k.params (begun 0x71 k s) :=
      commitOp_begun_high hb (by decide) (by decide) (by decide)
    have hswap : commitPatchSwap k.x k.params (begun 0x71 k s) = if s.inactive.staged then
        ((begun 0x71 k s).patchChange false, .later .patchSwap [] true) else (begun 0x71 k s, .fail .refused 0 [1]) :=
      if_neg (ne_true_of_eq_false hx)
    refine ⟨fun hst => ?_, fun hst => ?_⟩
    · exact exec_commit_fail (i := .patchSwap k) (t := fresh s) rfl hb (by decide) nofun nofun
        (hcommit.trans (hswap.trans (if_neg (ne_true_of_eq_false hst))))
    · have harrive := commit_patchSwap (s1 := (fresh s).patchChange false) hb (by decide)
        (hcommit.trans (hswap.trans (if_pos hst)))
      have hflights := cmdRestart_committed (s := swapCommitted 0x71 k s ((fresh s).patchChange false)) (cause := 5)
        (by simp [swapCommitted, flightIn])
      obtain ⟨hready, hrestarting, -, hgen, -, -, hpatch⟩ :=
        cmdRestart_keeps (swapCommitted 0x71 k s ((fresh s).patchChange false)) 5
      refine ⟨_, flightIn 0x71 k .committed .patchSwap [] (dueOf s .patchSwap) s,
        (exec_dadin (op := 0x71) (k := k) rfl).trans (congrArg (fun t => Host.Outcome.next (settle t)) harrive), ?_⟩
      rw [settle_patch, settle_cmd]
      rw [hready, hrestarting, hgen, hpatch, hflights]
      exact ⟨rfl, rfl, rfl, rfl, rfl, rfl, rfl, rfl, rfl⟩
  · intro r
    have hres : imageResult f (fresh s) = r := rfl
    have hstaged := (onInactive_spec (s := fresh s) hbanks hact fun b => { b with staged := decide (r = 1) }).1
    obtain ⟨q, hheld, htag, hst, hfl, hpatch, -, -⟩ := answer_alone (s := imageJudged r (fresh s))
      (if r = 1 then .ok else .refused) 0 ((imageJudged r (fresh s)).loadBody r) hf hsrc hr
    refine ⟨_, q, congrArg (fun t => Host.Outcome.next (settle t))
      ((if_pos hver).trans (patchVerified_alone (s := fresh s) hf hfin)), ?_⟩
    rw [hres, inactive_of_patch (settle_patch _), inactive_of_patch hpatch, settle_patch, settle_cmd, hpatch]
    exact ⟨congrArg PatchBank.staged hstaged, rfl, rfl, hheld, htag, hst, hfl⟩
  · refine ⟨settle (patchRolledBack (fresh u)), ?_, ?_⟩
    · exact congrArg (fun t => Host.Outcome.next (settle t)) (if_pos (by simp [hbusy, hres, hroll]))
    · rw [settle_patch, settle_cmd, settle_bit]
      exact patchRolledBack_spec (s := fresh u)
  · obtain ⟨b, hrest⟩ := bistJudged_rest w bad (fresh s)
    obtain ⟨body, hdone⟩ := bistDone_alone (s := fresh s) (w := w) (failing := bad) (errors := errs) hf hph hfin
    have hcmd : (bistJudged w bad (fresh s)).cmd = s.cmd := by rw [hrest]; rfl
    obtain ⟨q, hheld, htag, hst, hfl, -, htst, hbuf⟩ := answer_alone (s := bistJudged w bad (fresh s)) .ok 0 body
      (hcmd ▸ hf) hsrc (hcmd ▸ hr)
    have hexec : exec (.bistComplete bad errs) s = .next (settle (bistDone w bad errs (fresh s))) := by
      show Host.Outcome.next _ = _
      rw [hw]
    refine ⟨_, q, hexec, ?_⟩
    rw [hdone, settle_tst, settle_cmd, settle_buf, htst, hbuf]
    refine ⟨by rw [hrest], hcmd ▸ hheld, htag, hst, hfl, fun hmarch p hp hlt hfail => ?_⟩
    refine foldl_retire_retired _ _ hlt (.inl (List.mem_filter.mpr ⟨hp, ?_⟩))
    rw [hmarch, hfail]
    rfl
end


section
/-! SUPPORT. The firmware's PTP work: the oldest message of queue 31, the timers of a PTP port (R354 to R357), and the end of a
re-route hold (R373). -/
namespace Sys2Proof.Machine

variable {s : State} {p : Nat}

/-! ## The oldest message of queue 31 (R355, R357) -/

/-- The port on which a message of queue 31 came in, and its stamp in ticks, by its descriptor. -/
def messagePort (it : Item) : Nat := leNat (slice it.data 0 2) / 2 ^ 14 % 2
def messageTick (it : Item) (s : State) : Nat := unsgn 64 (extendNear 32 (leNat (slice it.data 8 4)) s.tick64)

section
variable {q : Queue} {it : Item} (hq : tget s.buf.queues 31 = some q) (hit : q.items[q.rpItem]? = some it)
include hq hit

/-- A message that is none, or that fails a check, is counted. -/
theorem ptpReceive_dropped (h : ∀ bs, ptpPayload (it.data.drop 16) = some bs →
      ptpGood (s.setQueue 31 (qReadAll { q with rpOff := 0 })) (messagePort it) (readPtp bs) = false) :
    ptpReceive s = (s.setQueue 31 (qReadAll { q with rpOff := 0 })).bump Reg.NTU_PTP_DROP := by
  unfold ptpReceive
  simp only [hq, hit]
  split
  · rfl
  · next bs hbs => exact if_neg (ne_true_of_eq_false (h bs hbs))

theorem ptpReceive_taken {bs : List Byte} (hbs : ptpPayload (it.data.drop 16) = some bs)
    (h : ptpGood (s.setQueue 31 (qReadAll { q with rpOff := 0 })) (messagePort it) (readPtp bs) = true) :
    ptpReceive s
      = ptpTaken (messagePort it) (readPtp bs) (messageTick it s) (s.setQueue 31 (qReadAll { q with rpOff := 0 })) := by
  unfold ptpReceive
  simp only [hq, hit, hbs]
  exact if_pos h
end

/-- With a message waiting, the firmware reads it, whatever errors the read meets. -/
theorem exec_ptpMessageReceived {dt : Nat} {ecc : Option Ecc} {q0 : Queue} (hr : ((fresh s).advance dt).ptpRuns = true)
    (hq0 : tget ((fresh s).advance dt).buf.queues 31 = some q0) (hlt : q0.rpItem < q0.items.length) :
    exec (.ptpMessageReceived ⟨dt, ecc⟩) s
      = .next (settle (ptpReceive (queueEcc 31 ecc (((fresh s).advance dt).onQueue 31 (qUpset ecc))))) := by
  refine congrArg (fun t => Host.Outcome.next (settle t)) ?_
  dsimp only
  rw [hr, hq0]
  exact if_pos (decide_eq_true hlt)

/-! ## The PTP ports and what they send (R354, R356, R389) -/

section
variable {f : PtpPort → PtpPort}

theorem onPtp_ptpPort (h : p < s.ntu.ports.length) : (s.onPtp p f).ptpPort p = f (s.ptpPort p) :=
  getD_listMod_self _ _ _ _ h

theorem onPtp_ptpPort_ne {j : Nat} (h : j ≠ p) : (s.onPtp p f).ptpPort j = s.ptpPort j :=
  getD_listMod_ne _ _ _ h
end

theorem settle_ptpPort (j : Nat) : (settle s).ptpPort j = s.ptpPort j :=
  congrArg (fun n : Ntu => n.ports.getD j {}) (settle_ntu s)

/-- A message enters an egress queue, or does not: nothing else changes (R301). -/
theorem ptpSend_ntu {typ flags corr seq : Nat} {logInt : Int} {body : List Byte} {one : Bool} :
    (s.ptpSend p typ flags corr seq logInt body one).ntu = s.ntu := by
  unfold State.ptpSend State.egress
  dsimp only
  split <;> rfl

/-- What follows a message that is sent changes the PTP port as it was. -/
theorem ptpSend_onPtp {typ flags corr seq : Nat} {logInt : Int} {body : List Byte} {one : Bool} {f : PtpPort → PtpPort}
    (h : p < s.ntu.ports.length) :
    ((s.ptpSend p typ flags corr seq logInt body one).onPtp p f).ptpPort p = f (s.ptpPort p) := by
  have hntu := ptpSend_ntu (s := s) (p := p) (typ := typ) (flags := flags) (corr := corr) (seq := seq) (logInt := logInt)
    (body := body) (one := one)
  rw [onPtp_ptpPort (by rw [hntu]; exact h), State.ptpPort, hntu]
  rfl

/-- A change of portState is one of the PTP port alone, and of what follows it. -/
theorem ptpState_spec {st : Nat} (h : p < s.ntu.ports.length) : (s.ptpState p st).ptpPort p = { s.ptpPort p with state := st }
    ∧ (∀ j, j ≠ p → (s.ptpState p st).ptpPort j = s.ptpPort j) ∧ (s.ptpState p st).np = s.np := by
  by_cases hst : (s.ptpPort p).state = st
  · have hsame : s.ptpState p st = s := if_pos hst
    rw [hsame, ← hst]
    exact ⟨rfl, fun _ _ => rfl, rfl⟩
  · have hnew : s.ptpState p st = ((s.onPtp p fun q => { q with state := st }).flag Reg.NTU_EVENT 9).trackRefs := if_neg hst
    have hntu : (s.ptpState p st).ntu = (s.onPtp p fun q => { q with state := st }).ntu := by
      rw [hnew, State.trackRefs_ntu, State.flag_ntu]
    have hport : ∀ j, (s.ptpState p st).ptpPort j = (s.onPtp p fun q => { q with state := st }).ptpPort j := fun j => by
      unfold State.ptpPort
      rw [hntu]
    refine ⟨(hport p).trans (onPtp_ptpPort h), fun j hj => (hport j).trans (onPtp_ptpPort_ne hj), ?_⟩
    rw [hnew, State.trackRefs_np, State.flag_np, State.onPtp_np]

/-! ## The timers (R356) -/

theorem exec_ptpMessageTimer {timer : PtpTimer} (hr : s.ptpRuns = true) (hen : (s.ptpPort p).en = true) :
    exec (.ptpMessageTimer p timer) s = .next (settle (ptpTimer p timer (fresh s))) :=
  congrArg (fun t => Host.Outcome.next (settle t)) (if_pos (by rw [hr, hen]; rfl))

section
variable (hp : p < s.ntu.ports.length)
include hp

theorem ptpTimer_receipt (h : (s.ptpPort p).state ≠ 6) :
    (ptpTimer p .receipt s).ptpPort p
        = { s.ptpPort p with best := none, syncWait := none, state := if s.ntu.ptp.slaveOnly then 4 else 6 }
      ∧ (∀ j, j ≠ p → (ptpTimer p .receipt s).ptpPort j = s.ptpPort j) ∧ (ptpTimer p .receipt s).np = s.np := by
  have heq : ptpTimer p .receipt s = (s.onPtp p fun q => { q with best := none, syncWait := none }).ptpState p
      (if s.ntu.ptp.slaveOnly then 4 else 6) := if_neg h
  have hlen : p < (s.onPtp p fun q => { q with best := none, syncWait := none }).ntu.ports.length := by
    show p < (listMod _ _ _).length
    rwa [length_listMod]
  obtain ⟨hself, hother, hnp⟩ := ptpState_spec (st := if s.ntu.ptp.slaveOnly then 4 else 6) hlen
  rw [heq]
  refine ⟨?_, fun j hj => (hother j hj).trans (onPtp_ptpPort_ne hj), hnp⟩
  rw [hself, onPtp_ptpPort hp]

section
variable (hst : (s.ptpPort p).state = 6) (hable : s.ptpAble p = true)
include hst hable

theorem ptpTimer_announce (h : (s.ptpPort p).annLog ≠ logStop) :
    ((ptpTimer p .announce s).ptpPort p).annSeq = ((s.ptpPort p).annSeq + 1) % 2 ^ 16 := by
  have hsends : ((s.ptpPort p).state = 6 && s.ptpAble p && decide ((s.ptpPort p).annLog ≠ logStop)) = true := by
    simp [hst, hable, h]
  unfold ptpTimer
  dsimp only
  rw [if_pos hsends, ptpSend_onPtp hp]

theorem ptpTimer_sync (h : (s.ptpPort p).syncLog ≠ logStop) :
    ((ptpTimer p .sync s).ptpPort p).syncSeq = ((s.ptpPort p).syncSeq + 1) % 2 ^ 16 := by
  have hsends : ((s.ptpPort p).state = 6 && s.ptpAble p && decide ((s.ptpPort p).syncLog ≠ logStop)) = true := by
    simp [hst, hable, h]
  unfold ptpTimer
  dsimp only
  rw [if_pos hsends, ptpSend_onPtp hp]
end

/-- The delay timer of a peer port sends a Pdelay_Req. -/
theorem ptpTimer_peer (h : (s.ptpPort p).p2p = true) (hlog : (s.ptpPort p).delayLog ≠ logStop) :
    ((ptpTimer p .delay s).ptpPort p).delaySeq = ((s.ptpPort p).delaySeq + 1) % 2 ^ 16 := by
  unfold ptpTimer askPeer
  dsimp only
  rw [if_pos h, if_neg hlog, ptpSend_onPtp hp]

/-- That of a port that follows a master end to end sends a Delay_Req. -/
theorem ptpTimer_endToEnd (h : (s.ptpPort p).p2p = false) (hst : (s.ptpPort p).state = 8 ∨ (s.ptpPort p).state = 9) :
    ((ptpTimer p .delay s).ptpPort p).delaySeq = ((s.ptpPort p).delaySeq + 1) % 2 ^ 16 := by
  have hfollows : ((s.ptpPort p).state = 8 || decide ((s.ptpPort p).state = 9)) = true := by simpa using hst
  unfold ptpTimer
  dsimp only
  rw [if_neg (ne_true_of_eq_false h), if_pos hfollows, ptpSend_onPtp hp]
end

/-! ## The end of a re-route hold (R373) -/

/-- The offsets measured in the last second of the hold. -/
def holdOffsets (s : State) : List Int := (s.ntu.offsets.filter fun e => decide (s.ntu.course < 1000000000 + e.1)).map Prod.snd

/-- Their median, a free value of none. -/
def holdMedian (s : State) : Int := if holdOffsets s = [] then Config.freeInt s.free else median (holdOffsets s)

/-- The slew that takes the moved offset away. -/
def holdSlew (s : State) : Slew := { left := -holdMedian s * 2 ^ 40, rate := slewRate s.ntu.ptp.slewMax, reroute := true }

/-- The median is the one of the measured offsets or the next free value. -/
theorem holdMedian_taken (s : State) : ∃ n, (if holdOffsets s = [] then s.takeInt else (median (holdOffsets s), s))
    = (holdMedian s, { s with free := n }) := by
  unfold holdMedian
  split
  · exact ⟨s.free + 1, rfl⟩
  · exact ⟨s.free, rfl⟩

/-- The state in which a hold has ended, with its event, and the free values have moved on to `n`. -/
def holdEnded (n : Nat) (s : State) : State :=
  ({ s with free := n, ntu := { s.ntu with reroute := none } } : State).flag Reg.NTU_EVENT 3

theorem rerouteEnd_eq (h : Reroute) (hf : s.timeFollow = false) : ∃ n, rerouteEnd h s
    = if (s.ntu.ptp.asymThresh : Int) < 2 * (holdMedian s - h.offsetBefore).natAbs then
        { holdEnded n s with ntu := { s.ntu with reroute := none, slew := some (holdSlew s) } } else holdEnded n s := by
  obtain ⟨n, hn⟩ := holdMedian_taken s
  have hoffsets : holdOffsets s = (s.ntu.offsets.filter fun e => decide (s.ntu.course < 1000000000 + e.1)).map Prod.snd := rfl
  refine ⟨n, ?_⟩
  unfold rerouteEnd
  simp only [← hoffsets, hn, hf, Bool.not_false, Bool.true_and, decide_eq_true_eq]
  rfl

end Sys2Proof.Machine
end

section
/-! The statement of the PTP messages and timers and of the ends of a hold and a slew. -/
open Sys2Proof Sys2Proof.Machine

/-- Settles O26: a message by what reading it finds (`ptpReceive_dropped`, `ptpReceive_taken`), the timers by the PTP
port that each leaves, and the end of a hold by `rerouteEnd_eq`. -/
theorem ptpEventsComplete : Obligations.PtpEventsComplete := by
  refine ⟨⟨fun dt ecc s q0 q it => ?_, fun p s hp hlen hr hen => ?_⟩, fun s => ⟨fun h hh hf => ?_, fun sl hsl hleft => ?_⟩⟩
  · intro u w hr hq0 hlt hq hit m v
    have hexec := exec_ptpMessageReceived (ecc := ecc) hr hq0 hlt
    refine ⟨fun hbad => ?_, fun bs hbs hgood => ?_⟩
    · rw [hexec, ptpReceive_dropped hq hit hbad]
    · rw [hexec, ptpReceive_taken hq hit hbs hgood]
      rfl
  · have hports : p < (fresh s).ntu.ports.length := by
      rw [fresh_ntu, hlen]
      exact hp
    have hother : 1 - p ≠ p := by omega
    refine ⟨fun hst => ?_, fun hst hable => ⟨fun hlog => ?_, fun hlog => ?_⟩, fun hdelay => ?_⟩
    · obtain ⟨hself, hrest, hnp⟩ := ptpTimer_receipt hports hst
      refine ⟨_, exec_ptpMessageTimer hr hen, ?_⟩
      rw [settle_ptpPort, settle_ptpPort, settle_np, hself, hrest _ hother]
      exact ⟨rfl, rfl, rfl, hnp⟩
    · refine ⟨_, exec_ptpMessageTimer hr hen, ?_⟩
      rw [settle_ptpPort]
      exact ptpTimer_announce hports hst hable hlog
    · refine ⟨_, exec_ptpMessageTimer hr hen, ?_⟩
      rw [settle_ptpPort]
      exact ptpTimer_sync hports hst hable hlog
    · refine ⟨_, exec_ptpMessageTimer hr hen, ?_⟩
      rw [settle_ptpPort]
      obtain ⟨hpeer, hlog⟩ | ⟨hend, hst⟩ := hdelay
      · exact ptpTimer_peer hports hpeer hlog
      · exact ptpTimer_endToEnd hports hend hst
  · intro l m away slew
    obtain ⟨n, hend⟩ := rerouteEnd_eq (s := fresh s) h hf
    have hexec : exec .rerouteHoldEnd s = .next (settle (rerouteEnd h (fresh s))) := by
      show Host.Outcome.next _ = _
      rw [hh]
    have hevent : (holdEnded n (fresh s)).bit Reg.NTU_EVENT 3 = true := State.bit_flag_self _ _ _ (by decide)
    refine ⟨_, hexec, ?_⟩
    rw [settle_bit, settle_ntu, settle_mck, settle_cmd]
    by_cases hmoved : (s.ntu.ptp.asymThresh : Int) < 2 * (m - h.offsetBefore).natAbs
    · have hslew : slew = some away := if_pos hmoved
      rw [hend.trans (if_pos hmoved), hslew]
      exact ⟨hevent, rfl, rfl, rfl⟩
    · have hslew : slew = s.ntu.slew := if_neg hmoved
      rw [hend.trans (if_neg hmoved), hslew]
      exact ⟨hevent, rfl, rfl, rfl⟩
  · show Host.Outcome.next _ = _
    rw [hsl]
    exact congrArg (fun t => Host.Outcome.next (settle t)) (if_pos hleft)
end

section
/-! SUPPORT. What the operations of a port leave alone: the end of a frame and of a link, a restart, a disable and a received
frame (R295, R296, R304, R320). -/
namespace Sys2Proof.Machine

variable {s t u : State} {p : Nat}

/-! ## What an operation of a port leaves alone -/

/-- The registers whose flags the end of a link or of a frame of port `p` sets. -/
def portFlags (p : Nat) : List Nat := [Reg.NP_EVENT p, Reg.MCK_REF_EVENT, Reg.BUF_EVENT]

/-- Everything but port `p`, the Slip queues, the references and their flags is as it was, and the port holds the frames in its
egress queues. -/
def sameButPort (p : Nat) (s t : State) : Prop :=
  (∃ r m q refs np, t = { s with
      regs := r, misparity := m, buf := { s.buf with queues := q }, mck := { s.mck with refs := refs }, np := np })
    ∧ t.besidePort p = s.besidePort p ∧ (t.port p).egress = (s.port p).egress ∧ ∀ a, a ∉ portFlags p → t.reg a = s.reg a

theorem sameButPort.refl (p : Nat) (s : State) : sameButPort p s s :=
  ⟨⟨s.regs, s.misparity, s.buf.queues, s.mck.refs, s.np, rfl⟩, rfl, rfl, fun _ _ => rfl⟩

theorem sameButPort.trans (h : sameButPort p s t) (h' : sameButPort p t u) : sameButPort p s u := by
  obtain ⟨⟨_, _, _, _, _, rfl⟩, hbeside, hegress, hreg⟩ := h
  obtain ⟨⟨_, _, _, _, _, rfl⟩, hbeside', hegress', hreg'⟩ := h'
  exact ⟨⟨_, _, _, _, _, rfl⟩, hbeside'.trans hbeside, hegress'.trans hegress, fun a ha => (hreg' a ha).trans (hreg a ha)⟩

theorem sameButPort_foldl {α : Type} {f : State → α → State} (hf : ∀ t a, sameButPort p t (f t a)) (l : List α) (s : State) :
    sameButPort p s (l.foldl f s) := by
  induction l generalizing s with
  | nil => exact .refl p s
  | cons a l ih => exact (hf s a).trans (ih (f s a))

section
variable (h : sameButPort p s t)
include h

theorem sameButPort.cmd : t.cmd = s.cmd := by
  obtain ⟨⟨_, _, _, _, _, rfl⟩, -⟩ := h
  rfl

theorem sameButPort.units : t.rud = s.rud ∧ t.srx = s.srx := by
  obtain ⟨⟨_, _, _, _, _, rfl⟩, -⟩ := h
  exact ⟨rfl, rfl⟩

theorem sameButPort.beside : t.besidePort p = s.besidePort p := h.2.1

theorem sameButPort.egress : (t.port p).egress = (s.port p).egress := h.2.2.1

theorem sameButPort.reg {a : Nat} (ha : a ∉ portFlags p) : t.reg a = s.reg a := h.2.2.2 a ha

theorem sameButPort.lt_np (hl : p < s.np.length) : p < t.np.length := lt_np_of_besidePort h.beside hl
end

/-! ## The steps of which they are made -/

/-- No bound on `p` is needed: a change of a port that does not exist changes nothing. -/
theorem onPort_egress {f : NetPort → NetPort} (hf : (f (s.port p)).egress = (s.port p).egress) :
    ((s.onPort p f).port p).egress = (s.port p).egress := by
  by_cases hl : p < s.np.length
  · rw [onPort_port hl, hf]
  · have hend : ∀ l : List NetPort, l.length ≤ p → l.getD p {} = {} := fun l h => by simp [List.getD, h]
    unfold State.port
    rw [hend s.np (by omega), hend _ (by simp [State.onPort]; omega)]

theorem sameButPort_onPort (hp : p < 2) {f : NetPort → NetPort} (hf : (f (s.port p)).egress = (s.port p).egress) :
    sameButPort p s (s.onPort p f) :=
  ⟨⟨_, _, s.buf.queues, s.mck.refs, _, rfl⟩, onPort_besidePort hp f, onPort_egress hf, fun _ _ => rfl⟩

theorem sameButPort_flag {a : Nat} (i : Nat) (h : a ∈ portFlags p) : sameButPort p s (s.flag a i) :=
  ⟨⟨_, _, s.buf.queues, s.mck.refs, _, rfl⟩, rfl, rfl, fun b hb => by
    rw [State.reg_flag, if_neg (ne_of_mem_of_not_mem h hb).symm]⟩

theorem sameButPort_queues (q : Table Queue) : sameButPort p s { s with buf := { s.buf with queues := q } } :=
  ⟨⟨s.regs, s.misparity, q, s.mck.refs, s.np, rfl⟩, rfl, rfl, fun _ _ => rfl⟩

theorem sameButPort_refs (refs : List RefClock) : sameButPort p s { s with mck := { s.mck with refs := refs } } :=
  ⟨⟨s.regs, s.misparity, s.buf.queues, refs, s.np, rfl⟩, rfl, rfl, fun _ _ => rfl⟩

theorem sameButPort_trackRefs : sameButPort p s s.trackRefs := by
  unfold State.trackRefs
  dsimp only
  split
  · exact (sameButPort_refs _).trans (sameButPort_flag 2 (by simp [portFlags]))
  · exact sameButPort_refs _

theorem sameButPort_onQueue (n : Nat) (f : Queue → Queue) : sameButPort p s (s.onQueue n f) := by
  unfold State.onQueue State.setQueue
  dsimp only
  split
  · split
    · exact (sameButPort_queues _).trans (sameButPort_flag 0 (by simp [portFlags]))
    · exact sameButPort_queues _
  · exact .refl p s

theorem sameButPort_creditStep (hp : p < 2) : sameButPort p s (creditStep p s) := sameButPort_onPort hp rfl

theorem sameButPort_charge (hp : p < 2) (q : Nat) (bytes : Int) : sameButPort p s (s.charge p q bytes) :=
  sameButPort_onPort hp rfl

theorem sameButPort_txGone (f : TxFrame) : sameButPort p s (txGone f s) := by
  unfold txGone
  split
  · exact sameButPort_onQueue _ _
  · exact .refl p s

theorem sameButPort_linkFalls (hp : p < 2) : sameButPort p s (linkFalls p s) := by
  unfold linkFalls
  split
  · exact ((sameButPort_onPort hp rfl).trans (sameButPort_flag 1 (by simp [portFlags]))).trans sameButPort_trackRefs
  · exact .refl p s

theorem sameButPort_txCut (hp : p < 2) : sameButPort p s (txCut p s) := by
  unfold txCut
  split
  · exact .refl p s
  · rename_i q f _
    have hstamp : sameButPort p s (if f.tstamp then stampAbort p s else s) := by
      split
      · exact sameButPort_onQueue _ _
      · exact .refl p s
    exact (hstamp.trans (sameButPort_charge hp _ _)).trans (sameButPort_onPort hp rfl)

/-- A frame ends without a return to the receiver where no near-end loopback gives one, or it was cut. -/
theorem sameButPort_txEnd (hp : p < 2) (h : s.nearLoop p = false ∨ ((s.port p).sending.isSome = true → (s.port p).lastCut = true)) :
    sameButPort p s (txEnd p s) := by
  have hcredit : sameButPort p s (creditStep p s) := sameButPort_creditStep hp
  unfold txEnd
  dsimp only
  split
  · exact hcredit
  · rename_i q f hsome
    have hback : ¬(s.nearLoop p && !(s.port p).lastCut) = true := by
      obtain hloop | hcut := h
      · simp [hloop]
      · simp [hcut (by simp [hsome])]
    rw [if_neg hback]
    exact (hcredit.trans (sameButPort_onPort hp rfl)).trans (sameButPort_txGone f)

/-- The restart of a port ends no frame with a return to the receiver, since it cuts the one in progress (R320). -/
theorem sameButPort_portRestart (hp : p < 2) (hl : p < s.np.length) : sameButPort p s (portRestart p s) := by
  obtain ⟨hmark, hcut⟩ := txCut_port hp hl
  have hsending : ((txCut p s).port p).sending = (s.port p).sending := congrArg (fun m => m.2.2.2) hmark
  have hend : sameButPort p (txCut p s) (txEnd p (txCut p s)) :=
    sameButPort_txEnd hp (.inr fun h => hcut (hsending ▸ h))
  exact (((sameButPort_txCut hp).trans hend).trans (sameButPort_linkFalls hp)).trans (sameButPort_onPort hp rfl)

/-! ## The port itself as its link falls (R295) -/

theorem trackRefs_port (n : Nat) : s.trackRefs.port n = s.port n := by
  unfold State.port
  rw [State.trackRefs_np]

theorem linkFalls_of_link (h : (s.port p).link = true) : linkFalls p s
    = ((s.onPort p fun np => { np with link := false, linkAt := s.ntu.course }).flag (Reg.NP_EVENT p) 1).trackRefs := if_pos h

theorem linkFalls_port_eq (hl : p < s.np.length) :
    ∃ since, (linkFalls p s).port p = { s.port p with link := false, linkAt := since } := by
  cases hlink : (s.port p).link with
  | true =>
    rw [linkFalls_of_link hlink, trackRefs_port]
    exact ⟨_, onPort_port hl _⟩
  | false =>
    refine ⟨(s.port p).linkAt, ?_⟩
    rw [show linkFalls p s = s from if_neg (by simp [hlink]), ← hlink]

/-! ## A disable (R296) -/

/-- The frames that stand in a port: the one in progress and those in the egress queues. -/
def NetPort.standing (np : NetPort) : List TxFrame :=
  (match np.sending with | some (_, f) => [f] | none => []) ++ np.egress.flatten

/-- Port `p` with its link down and its frames at their end. -/
def portEmptied (p : Nat) (s : State) : State := ((s.port p).standing).foldl (fun s f => txGone f s) (linkFalls p s)

/-- The transmitter of a disabled port. -/
def NetPort.idle (np : NetPort) : NetPort :=
  { np with live := false, disabling := false, inReset := false, anDone := false, anFault := false,
            partnerPause := false, egress := List.replicate 8 [], sending := none, linkPause := false, pfc := 0,
            pauseGo := [], creditA := 0, creditB := 0 }

theorem portDown_eq : portDown p s = ((portEmptied p s).onPort p NetPort.idle).finishFin (.portDown p) := rfl

theorem sameButPort_portEmptied (hp : p < 2) : sameButPort p s (portEmptied p s) :=
  (sameButPort_linkFalls hp).trans (sameButPort_foldl (fun _ f => sameButPort_txGone f) _ _)

theorem portEmptied_link (hp : p < 2) (hl : p < s.np.length) : ((portEmptied p s).port p).link = false := by
  have hmark : (portEmptied p s).portMark p = (linkFalls p s).portMark p :=
    foldl_keeps (State.portMark p) _ (fun t f => (sameButQueues_txGone t f).portMark p) _ _
  obtain ⟨-, -, -, hlink⟩ := linkFalls_port hp hl
  exact (congrArg (fun m => m.2.2.1) hmark).trans hlink

theorem sameButReplies.np (h : sameButReplies s t) : t.np = s.np := by
  obtain ⟨_, _, _, _, _, _, _, rfl, -⟩ := h
  rfl

theorem sameButReplies.port (h : sameButReplies s t) (n : Nat) : t.port n = s.port n := by
  unfold State.port
  rw [h.np]

/-- With no command committed there is none to complete. -/
theorem finishFin_started (fin : Fin) (h : ∀ f ∈ s.cmd.flights, f.phase = .started) : s.finishFin fin = s := by
  have hnone : (s.cmd.flights.filter fun f => decide (f.phase = .committed) && decide (f.fin = fin)) = [] :=
    List.filter_eq_nil_iff.mpr fun f hf => by simp [h f hf]
  unfold State.finishFin State.finish
  rw [hnone]
  rfl

/-- Of the commands that await `fin`, none is left committed. -/
theorem finishFin_flights (fin : Fin) {f : Flight} (hf : f ∈ (s.finishFin fin).cmd.flights) (hph : f.phase = .committed) :
    f.fin ≠ fin := by
  obtain ⟨hmem, hne⟩ := mem_flights_answers s hf
  intro hfin
  exact hne f (List.mem_filter.mpr ⟨hmem, by simp [hph, hfin]⟩) rfl

/-- A disabled port (R296). -/
theorem portDown_port (hp : p < 2) (hl : p < s.np.length) : let np := (portDown p s).port p
    np.live = false ∧ np.disabling = false ∧ np.link = false ∧ np.egress = List.replicate 8 [] ∧ np.sending = none := by
  have hport : (portDown p s).port p = ((portEmptied p s).port p).idle := by
    have hdone : (portDown p s).port p = ((portEmptied p s).onPort p NetPort.idle).port p := (sameButReplies_finish _ _ _).port p
    exact hdone.trans (onPort_port ((sameButPort_portEmptied hp).lt_np hl) _)
  intro np
  rw [show np = _ from hport]
  exact ⟨rfl, rfl, portEmptied_link hp hl, rfl, rfl⟩

/-! ## A frame that returns to the receiver (R297, R663) -/

theorem sameButQueues.beside (h : sameButQueues s t) : t.besidePort p = s.besidePort p := congrArg Prod.fst (h.portMark p)

theorem sameButQueues_ite {c : Prop} [Decidable c] (ht : sameButQueues s t) (hu : sameButQueues s u) :
    sameButQueues s (if c then t else u) := by
  split
  · exact ht
  · exact hu

theorem sameButQueues_stat (s : State) (p i n : Nat) : sameButQueues s (s.stat p i n) := by
  unfold State.stat
  split
  · exact .refl s
  · extract_lets old new s1 s2 a
    have h1 : sameButQueues s s1 := sameButQueues_setReg s _ _
    have h2 : sameButQueues s s2 := sameButQueues_ite (h1.trans (sameButQueues_setReg s1 _ _)) h1
    exact sameButQueues_ite (sameButQueues_ite h2 ((h2.trans (sameButQueues_flag s2 _ _)).trans (sameButQueues_flag _ _ _))) h2

theorem sameButQueues_rxCount (f : Parsed) (n : Nat) (bad : Bool) (s : State) : sameButQueues s (rxCount p f n bad s) := by
  unfold rxCount
  extract_lets s1 s2 s3
  have h1 : sameButQueues s s1 := sameButQueues_stat s _ _ _
  have h2 : sameButQueues s s2 := h1.trans (sameButQueues_stat s1 _ _ _)
  have h3 : sameButQueues s s3 := sameButQueues_ite (h2.trans (sameButQueues_stat s2 _ _ _)) h2
  exact sameButQueues_ite h1 (sameButQueues_ite (h3.trans (sameButQueues_stat s3 _ _ _)) h3)

theorem macControl_beside (hp : p < 2) (f : Parsed) (bs : List Byte) (errs : FrameErrs) (s : State) :
    (macControl p f bs errs s).besidePort p = s.besidePort p := by
  unfold macControl
  extract_lets s1 s2
  have h1 : sameButQueues s s1 := (sameButQueues_stat s _ _ _).trans (sameButQueues_stat _ _ _ _)
  split
  · exact (h1.trans (sameButQueues_stat s1 _ _ _)).beside
  · split
    · exact (h1.trans (sameButQueues_stat s1 _ _ _)).beside
    · extract_lets put alone s3
      have h2 : s2.besidePort p = s.besidePort p := (h1.trans (sameButQueues_rxCount _ _ _ s1)).beside
      have h3 : s3.besidePort p = s.besidePort p :=
        (sameButQueues_stat _ p 45 1).beside.trans ((onPort_besidePort hp _).trans ((onPort_besidePort hp _).trans h2))
      split
      · exact h3
      · exact h3

/-- A received frame changes no other port, and no mode. -/
theorem rxFrame_beside (hp : p < 2) (bs : List Byte) (errs : FrameErrs) (s : State) :
    (rxFrame p bs errs s).besidePort p = s.besidePort p := by
  unfold rxFrame
  extract_lets n f bad s1
  split
  · exact (sameButQueues_stat s _ _ _).beside
  · split
    · exact (sameButQueues_stat s _ _ _).beside
    · split
      · exact (sameButQueues_stat s _ _ _).beside
      · split
        · exact ((sameButQueues_setReg s _ _).trans (sameButQueues_rxCount _ _ _ _)).beside
        · split
          · exact macControl_beside hp ..
          · have h1 : sameButQueues s s1 :=
              ((sameButQueues_stat s _ _ _).trans (sameButQueues_stat _ _ _ _)).trans (sameButQueues_stat _ _ _ _)
            exact (h1.trans (sameButQueues_rxCount f n bad s1)).beside

/-- The end of a frame, with or without its return, changes no other port, and no mode. -/
theorem txEnd_beside (hp : p < 2) : (txEnd p s).besidePort p = s.besidePort p := by
  have hcredit : (creditStep p s).besidePort p = s.besidePort p := (sameButPort_creditStep hp).beside
  unfold txEnd
  dsimp only
  split
  · exact hcredit
  · rename_i q f _
    have hgone : (txGone f ((creditStep p s).onPort p fun np => { np with sending := none })).besidePort p = s.besidePort p :=
      (sameButQueues_txGone _ f).beside.trans ((onPort_besidePort hp _).trans hcredit)
    split
    · exact (rxFrame_beside hp ..).trans hgone
    · exact hgone

end Sys2Proof.Machine
end

section
/-! SUPPORT. The links, the resets and the timers of a port, one operation after the other (R294 to R296, R309, R310, R320). -/
namespace Sys2Proof.Machine

variable {s t u : State} {n : Nat}

/-! ## What an operation of a port leaves alone, whatever returns to the receiver -/

/-- The other port and the mode are as they were, and so are the Rudder and the receive streams but for the frame that a near-end
loopback returns. -/
def onlyPort (n : Nat) (s t : State) : Prop :=
  t.port (1 - n) = s.port (1 - n) ∧ t.mode = s.mode ∧ (s.nearLoop n = false → t.rud = s.rud ∧ t.srx = s.srx)

theorem onlyPort.step (h : onlyPort n s t) (hbeside : u.besidePort n = t.besidePort n) (hunits : u.rud = t.rud ∧ u.srx = t.srx) :
    onlyPort n s u := by
  obtain ⟨hport, hmode, hkept⟩ := h
  refine ⟨(congrArg Prod.fst hbeside).trans hport, (congrArg (fun m => m.2.1) hbeside).trans hmode, fun hloop => ?_⟩
  obtain ⟨hrud, hsrx⟩ := hkept hloop
  exact ⟨hunits.1.trans hrud, hunits.2.trans hsrx⟩

theorem sameButPort.onlyPort (h : sameButPort n s t) : onlyPort n s t :=
  ⟨congrArg Prod.fst h.beside, congrArg (fun m => m.2.1) h.beside, fun _ => h.units⟩

theorem onlyPort.settle (h : onlyPort n s t) : onlyPort n s (settle t) := by
  refine h.step ?_ ⟨settle_rud t, settle_srx t⟩
  unfold State.besidePort
  rw [settle_port, settle_mode, settle_np]

theorem onlyPort.replies (h : onlyPort n s t) (h' : sameButReplies t u) : onlyPort n s u := by
  obtain ⟨_, _, _, _, _, _, _, rfl, -⟩ := h'
  exact h.step rfl ⟨rfl, rfl⟩

theorem portDown_onlyPort (hn : n < 2) (h : onlyPort n s t) : onlyPort n s (portDown n t) := by
  have hemptied := sameButPort_portEmptied (s := t) hn
  have hidle := (h.step hemptied.beside hemptied.units).step (onPort_besidePort hn NetPort.idle) ⟨rfl, rfl⟩
  rw [portDown_eq]
  exact hidle.replies (sameButReplies_finish ..)

/-! ## Links (R294, R295) -/

section
variable (hn : n < 2) (hl : n < s.np.length)

/-- Port `n` has ended its auto-negotiation with an ability in common (R294). -/
def anAgreed (n : Nat) (pause : Bool) (s : State) : State :=
  s.onPort n fun np => { np with anDone := true, anFault := false, partnerPause := pause }

/-- Port `n` has found no ability in common (R294). -/
def anFailed (n : Nat) (s : State) : State :=
  (linkFalls n (s.onPort n fun np => { np with anDone := false, anFault := true, partnerPause := false })).flag
    (Reg.NP_EVENT n) 4

/-- The link of port `n` rises (R295). -/
def linkRises (n : Nat) (s : State) : State :=
  ((s.onPort n fun np => { np with link := true, linkAt := s.ntu.course }).flag (Reg.NP_EVENT n) 0).trackRefs

theorem exec_autoNegotiationDone {agreed pause : Bool} (hlive : (s.port n).live = true) (hreset : (s.port n).inReset = false)
    (han : s.portAn n = true) (hmode : s.mode ≠ .moored) : exec (.autoNegotiationDone n agreed pause) s
      = .next (settle (if agreed then anAgreed n pause (fresh s) else anFailed n (fresh s))) :=
  congrArg (fun t => Host.Outcome.next (settle t)) (if_neg (by simp [hlive, hreset, han, hmode]))

theorem exec_portLinkUp (hmay : s.linkMay n = true) (hlink : (s.port n).link = false) (hmode : s.mode ≠ .moored) :
    exec (.portLinkUp n) s = .next (settle (linkRises n (fresh s))) :=
  congrArg (fun t => Host.Outcome.next (settle t)) (if_pos (by simp [hmay, hlink, hmode]))

include hl in
theorem anAgreed_port (pause : Bool) :
    (anAgreed n pause s).port n = { s.port n with anDone := true, anFault := false, partnerPause := pause } := onPort_port hl _

include hn in
theorem sameButPort_anFailed : sameButPort n s (anFailed n s) :=
  ((sameButPort_onPort hn rfl).trans (sameButPort_linkFalls hn)).trans (sameButPort_flag 4 (by simp [portFlags]))

include hl in
/-- A negotiation that fails takes the link down, and sets its event. -/
theorem anFailed_port : ((anFailed n s).port n).anDone = false ∧ ((anFailed n s).port n).anFault = true
    ∧ ((anFailed n s).port n).link = false ∧ (anFailed n s).bit (Reg.NP_EVENT n) 4 = true := by
  let t := s.onPort n fun np => { np with anDone := false, anFault := true, partnerPause := false }
  have hlt : n < t.np.length := by simpa [t, State.onPort] using hl
  obtain ⟨since, hfalls⟩ := linkFalls_port_eq hlt
  have hport : (anFailed n s).port n = { s.port n with
      anDone := false, anFault := true, partnerPause := false, link := false, linkAt := since } := by
    refine hfalls.trans ?_
    rw [show t.port n = _ from onPort_port hl _]
  rw [hport]
  exact ⟨rfl, rfl, rfl, State.bit_flag_self _ _ _ (by decide)⟩

include hn in
theorem sameButPort_linkRises : sameButPort n s (linkRises n s) :=
  ((sameButPort_onPort hn rfl).trans (sameButPort_flag 0 (by simp [portFlags]))).trans sameButPort_trackRefs

/-- The link of a port as it is put, and its event `i`. -/
theorem trackRefs_event_port (hl : n < s.np.length) (f : NetPort → NetPort) {i : Nat} (hi : i < 32) :
    (((s.onPort n f).flag (Reg.NP_EVENT n) i).trackRefs).port n = f (s.port n)
      ∧ (((s.onPort n f).flag (Reg.NP_EVENT n) i).trackRefs).bit (Reg.NP_EVENT n) i = true := by
  obtain ⟨-, hkeeps⟩ := sameButLinks_trackRefs ((s.onPort n f).flag (Reg.NP_EVENT n) i)
  exact ⟨(trackRefs_port n).trans (onPort_port hl f), hkeeps _ _ (State.bit_flag_self _ _ _ hi)⟩
end

/-! ## Disables and resets (R296, R320) -/

theorem exec_portDisableDone (h : (s.port n).disabling = true) :
    exec (.portDisableDone n) s = .next (settle (portDown n (txEnd n (fresh s)))) :=
  congrArg (fun t => Host.Outcome.next (settle t)) (if_pos h)

theorem portDisabled_onlyPort (hn : n < 2) : onlyPort n s (portDown n (txEnd n s)) := by
  have hend : onlyPort n s (txEnd n s) :=
    ⟨congrArg Prod.fst (txEnd_beside hn), congrArg (fun m => m.2.1) (txEnd_beside hn),
      fun hloop => (sameButPort_txEnd hn (.inl hloop)).units⟩
  exact portDown_onlyPort hn hend

/-- Port `n` is out of its reset (R320). -/
def resetOver (n : Nat) (s : State) : State := s.onPort n fun np => { np with inReset := false }

theorem exec_portResetRelease (h : (s.port n).inReset = true) :
    exec (.portResetRelease n) s = .next (settle ((resetOver n (fresh s)).finishFin (.portUp n))) :=
  congrArg (fun t => Host.Outcome.next (settle t)) (if_pos h)

/-- The completion of the only command in flight, of a path. -/
theorem finishFin_alone {f : Flight} {p : Path} {fin : Fin} (hf : s.cmd.flights = [f]) (hph : f.phase = .committed)
    (hfin : f.fin = fin) (hsrc : f.src = .path p) (hr : s.cmd.restarting = false) :
    (s.finishFin fin).cmd.held = s.cmd.held ++ [answerOf s.cmd.gen f .ok 0 f.body] ∧ (s.finishFin fin).cmd.flights = [] := by
  have hanswer : s.finishFin fin = s.answer f .ok 0 f.body := finish_alone hf hph hfin
  obtain ⟨rs, m, heq⟩ := answer_path_eq (s := s) .ok 0 f.body hsrc hr
  rw [hanswer, heq]
  exact ⟨rfl, List.filter_eq_nil_iff.mpr fun g hg => by simp [List.mem_singleton.mp (hf ▸ hg)]⟩

/-! ## The pause timers (R309, R310) -/

/-- Timer `i` of port `n` holds it no more: the PAUSE timer is number 8, and those below are the PFC timers. -/
def timerOver (n i : Nat) (s : State) : State :=
  (creditStep n s).onPort n fun np =>
    if i = 8 then { np with linkPause := false } else { np with pfc := np.pfc &&& ~~~((1 : BitVec 8) <<< i) }

theorem exec_pauseTimerExpired (i : Nat) (h : (if i = 8 then (s.port n).pauseUntil else (s.port n).pfcUntil.getD i 0)
      ≤ 10 * s.ntu.course) : exec (.pauseTimerExpired n i) s = .next (settle (timerOver n i (fresh s))) :=
  congrArg (fun t => Host.Outcome.next (settle t)) (if_neg (by simpa [State.pauseOver] using h))

/-- A timer whose time has not come runs on. -/
theorem exec_pauseTimerExpired_early {i : Nat} (h : 10 * s.ntu.course
      < (if i = 8 then (s.port n).pauseUntil else (s.port n).pfcUntil.getD i 0)) :
    exec (.pauseTimerExpired n i) s = .next (settle (fresh s)) :=
  congrArg (fun t => Host.Outcome.next (settle t)) (if_pos (by simpa [State.pauseOver] using h))

theorem sameButPort_timerOver (hn : n < 2) (i : Nat) : sameButPort n s (timerOver n i s) := by
  refine (sameButPort_creditStep hn).trans (sameButPort_onPort hn ?_)
  split <;> rfl

theorem creditStep_port (hl : n < s.np.length) : ∃ a b at_, (creditStep n s).port n
    = { s.port n with creditA := a, creditB := b, creditAt := at_ } := ⟨_, _, _, onPort_port hl _⟩

theorem timerOver_pause (hn : n < 2) (hl : n < s.np.length) : ((timerOver n 8 s).port n).linkPause = false
    ∧ ((timerOver n 8 s).port n).pfc = (s.port n).pfc := by
  obtain ⟨a, b, at_, hcredit⟩ := creditStep_port hl
  have hport : (timerOver n 8 s).port n = { (creditStep n s).port n with linkPause := false } :=
    onPort_port ((sameButPort_creditStep hn).lt_np hl) _
  rw [hport, hcredit]
  exact ⟨rfl, rfl⟩

theorem timerOver_pfc (hn : n < 2) (hl : n < s.np.length) {i : Nat} (hi : i < 8) :
    ((timerOver n i s).port n).linkPause = (s.port n).linkPause
      ∧ ∀ j, j < 8 → ((timerOver n i s).port n).pfc.getLsbD j = ((s.port n).pfc.getLsbD j && decide (j ≠ i)) := by
  obtain ⟨a, b, at_, hcredit⟩ := creditStep_port hl
  have hport : (timerOver n i s).port n = { s.port n with
      creditA := a, creditB := b, creditAt := at_, pfc := (s.port n).pfc &&& ~~~((1 : BitVec 8) <<< i) } := by
    refine (onPort_port ((sameButPort_creditStep hn).lt_np hl) _).trans ?_
    rw [if_neg (by omega), hcredit]
  rw [hport]
  refine ⟨rfl, fun j hj => ?_⟩
  have hbit : ((1 : BitVec 8) <<< i).getLsbD j = decide (j = i) := by
    rw [BitVec.getLsbD_shiftLeft, show (1 : BitVec 8) = 1#8 from rfl, BitVec.getLsbD_one]
    rw [Bool.eq_iff_iff]
    simp only [Bool.and_eq_true, Bool.not_eq_true', decide_eq_true_eq, decide_eq_false_iff_not]
    omega
  rw [BitVec.getLsbD_and, BitVec.getLsbD_not, hbit]
  simp [hj]

/-! ## The instructions, each where it acts -/

section
variable (hn : n < 2) (hl : n < s.np.length)
include hn hl

theorem autoNegotiation_agrees (hlive : (s.port n).live = true) (hreset : (s.port n).inReset = false) (han : s.portAn n = true)
    (hmode : s.mode ≠ .moored) (pause : Bool) : ∃ t, exec (.autoNegotiationDone n true pause) s = .next t ∧ onlyPort n s t
      ∧ t.port n = { s.port n with anDone := true, anFault := false, partnerPause := pause } ∧ t.regs = s.regs := by
  have hkept : sameButPort n (fresh s) (anAgreed n pause (fresh s)) := sameButPort_onPort hn rfl
  exact ⟨_, exec_autoNegotiationDone hlive hreset han hmode, hkept.onlyPort.settle,
    (settle_port _ n).trans (anAgreed_port hl pause), settle_regs _⟩

theorem autoNegotiation_fails (hlive : (s.port n).live = true) (hreset : (s.port n).inReset = false) (han : s.portAn n = true)
    (hmode : s.mode ≠ .moored) : ∃ t, exec (.autoNegotiationDone n false false) s = .next t ∧ onlyPort n s t
      ∧ (t.port n).anDone = false ∧ (t.port n).anFault = true ∧ (t.port n).link = false
      ∧ t.bit (Reg.NP_EVENT n) 4 = true := by
  refine ⟨_, exec_autoNegotiationDone hlive hreset han hmode, (sameButPort_anFailed hn).onlyPort.settle, ?_⟩
  rw [settle_port, settle_bit]
  exact anFailed_port hl

theorem portLinkUp_rises (hmay : s.linkMay n = true) (hlink : (s.port n).link = false) (hmode : s.mode ≠ .moored) :
    ∃ t, exec (.portLinkUp n) s = .next t ∧ onlyPort n s t
      ∧ t.port n = { s.port n with link := true, linkAt := s.ntu.course } ∧ t.bit (Reg.NP_EVENT n) 0 = true := by
  obtain ⟨hport, hevent⟩ := trackRefs_event_port (s := fresh s) hl (fun np => { np with link := true, linkAt := s.ntu.course })
    (i := 0) (by decide)
  exact ⟨_, exec_portLinkUp hmay hlink hmode, (sameButPort_linkRises hn).onlyPort.settle, (settle_port _ n).trans hport,
    (settle_bit ..).trans hevent⟩

theorem portLinkDown_falls (hlink : (s.port n).link = true) : ∃ t, exec (.portLinkDown n) s = .next t ∧ onlyPort n s t
    ∧ t.port n = { s.port n with link := false, linkAt := s.ntu.course } ∧ t.bit (Reg.NP_EVENT n) 1 = true := by
  obtain ⟨hport, hevent⟩ := trackRefs_event_port (s := fresh s) hl (fun np => { np with link := false, linkAt := s.ntu.course })
    (i := 1) (by decide)
  have hfalls := linkFalls_of_link (s := fresh s) hlink
  refine ⟨_, rfl, (sameButPort_linkFalls (s := fresh s) hn).onlyPort.settle, ?_⟩
  rw [settle_port, settle_bit, hfalls]
  exact ⟨hport, hevent⟩

theorem portDisable_ends (hdis : (s.port n).disabling = true) : ∃ t, exec (.portDisableDone n) s = .next t ∧ onlyPort n s t
    ∧ (t.port n).live = false ∧ (t.port n).disabling = false ∧ (t.port n).link = false
    ∧ (t.port n).egress = List.replicate 8 [] ∧ (t.port n).sending = none
    ∧ ∀ f ∈ t.cmd.flights, f.phase = .committed → f.fin ≠ .portDown n := by
  have hend : n < (txEnd n (fresh s)).np.length := lt_np_of_besidePort (txEnd_beside hn) hl
  obtain ⟨hlive, hdone, hlink, hegress, hsending⟩ := portDown_port hn hend
  refine ⟨_, exec_portDisableDone hdis, (portDisabled_onlyPort hn).settle, ?_⟩
  rw [settle_port, settle_cmd]
  exact ⟨hlive, hdone, hlink, hegress, hsending, fun f hf hph => finishFin_flights _ hf hph⟩

theorem portReset_ends (hreset : (s.port n).inReset = true) : ∃ t, exec (.portResetRelease n) s = .next t ∧ onlyPort n s t
    ∧ t.port n = { s.port n with inReset := false }
    ∧ (∀ f p, s.cmd.flights = [f] → f.phase = .committed → f.fin = .portUp n → f.src = .path p → s.cmd.restarting = false →
        ∃ r, t.cmd.held = s.cmd.held ++ [r] ∧ r.tag = f.tag ∧ r.status = .ok ∧ r.body = f.body ∧ t.cmd.flights = []) := by
  have hdone : sameButReplies (resetOver n (fresh s)) ((resetOver n (fresh s)).finishFin (.portUp n)) :=
    sameButReplies_finish ..
  have hover : sameButPort n (fresh s) (resetOver n (fresh s)) := sameButPort_onPort hn rfl
  refine ⟨_, exec_portResetRelease hreset, (hover.onlyPort.replies hdone).settle, ?_, fun f p hf hph hfin hsrc hr => ?_⟩
  · rw [settle_port, hdone.port]
    exact onPort_port hl _
  · obtain ⟨hheld, hflights⟩ := finishFin_alone (s := resetOver n (fresh s)) hf hph hfin hsrc hr
    rw [settle_cmd]
    exact ⟨_, hheld, rfl, rfl, rfl, hflights⟩

theorem pauseTimer_runsOut (htime : (s.port n).pauseUntil ≤ 10 * s.ntu.course) :
    ∃ t, exec (.pauseTimerExpired n 8) s = .next t ∧ onlyPort n s t
      ∧ (t.port n).linkPause = false ∧ (t.port n).pfc = (s.port n).pfc := by
  refine ⟨_, exec_pauseTimerExpired 8 htime, (sameButPort_timerOver (s := fresh s) hn 8).onlyPort.settle, ?_⟩
  rw [settle_port]
  exact timerOver_pause hn hl

theorem pfcTimer_runsOut {i : Nat} (hi : i < 8) (htime : (s.port n).pfcUntil.getD i 0 ≤ 10 * s.ntu.course) :
    ∃ t, exec (.pauseTimerExpired n i) s = .next t ∧ onlyPort n s t ∧ (t.port n).linkPause = (s.port n).linkPause
      ∧ ∀ j, j < 8 → (t.port n).pfc.getLsbD j = ((s.port n).pfc.getLsbD j && decide (j ≠ i)) := by
  refine ⟨_, exec_pauseTimerExpired i (by rw [if_neg (by omega)]; exact htime),
    (sameButPort_timerOver (s := fresh s) hn i).onlyPort.settle, ?_⟩
  rw [settle_port]
  exact timerOver_pfc hn hl hi
end

end Sys2Proof.Machine
end

section
/-! SUPPORT. The commands of a port at their commit points (R318 to R321). -/
namespace Sys2Proof.Machine

variable {s t u : State} {k : Pkt} {op n : Nat} {x : Bool} {p : List Word}

/-! ## What a command leaves at its commit -/

section
variable {st : Status} {word : Nat} {body : List Word} {g : Bool} {ph : CmdPhase} {fin : Fin} {due : Nat}

theorem replied_np : (replied op k st word body g s t).np = t.np := settle_np _

theorem replied_port (m : Nat) : (replied op k st word body g s t).port m = t.port m := settle_port _ m

theorem replied_flights : (replied op k st word body g s t).cmd.flights = s.cmd.flights := by
  rw [replied_cmd]

theorem inFlight_cmd : (inFlight op k ph fin body due g s t).cmd = { s.cmd with
    nextOrd := s.cmd.nextOrd + 1, gen := genAfter g s, flights := [flightIn op k ph fin body due s] } := settle_cmd _

theorem inFlight_reg (a : Nat) : (inFlight op k ph fin body due g s t).reg a = t.reg a := settle_reg _ a

theorem inFlight_port (m : Nat) : (inFlight op k ph fin body due g s t).port m = t.port m := settle_port _ m

theorem inFlight_held : (inFlight op k ph fin body due g s t).cmd.held = s.cmd.held := by
  rw [inFlight_cmd]

theorem inFlight_gen : (inFlight op k ph fin body due g s t).cmd.gen = genAfter g s := by
  rw [inFlight_cmd]
end

/-- The command that reaches its commit point has started, and nothing else is in flight. -/
theorem begun_started : ∀ f ∈ (begun op k s).cmd.flights, f.phase = .started := fun _ hf =>
  congrArg Flight.phase (List.mem_singleton.mp hf)

theorem port_field (w : Word) : fieldOf w 0 0 < 2 := Nat.mod_lt _ (by decide)

/-! ## Enables and disables (R296) -/

/-- The Command Processor, the other port, the mode and the registers of no flag of port `n` are as they were. -/
def portApart (n : Nat) (s t : State) : Prop :=
  t.cmd = s.cmd ∧ t.besidePort n = s.besidePort n ∧ ∀ a, a ∉ portFlags n → t.reg a = s.reg a

theorem portApart.refl (n : Nat) (s : State) : portApart n s s := ⟨rfl, rfl, fun _ _ => rfl⟩

theorem portApart.onPort (hn : n < 2) (h : portApart n s t) (f : NetPort → NetPort) : portApart n s (t.onPort n f) := by
  obtain ⟨hcmd, hbeside, hreg⟩ := h
  exact ⟨hcmd, (onPort_besidePort hn f).trans hbeside, hreg⟩

theorem sameButPort.apart (h : sameButPort n s t) : portApart n s t := ⟨h.cmd, h.beside, fun _ ha => h.reg ha⟩

/-- A port that is down already, or that goes down before it, comes up in reset. -/
theorem portEnable_up (hn : n < 2) (hl : n < s.np.length) (hup : (s.port n).live = false ∨ (s.port n).disabling = true)
    (hfl : ∀ f ∈ s.cmd.flights, f.phase = .started) : portApart n s (portEnable n true s)
      ∧ ((portEnable n true s).port n).live = true ∧ ((portEnable n true s).port n).inReset = true
      ∧ ((portEnable n true s).port n).disabling = false := by
  obtain ⟨v, hv, heq⟩ : ∃ v, portApart n s v ∧ portEnable n true s = portUp n v := by
    cases hdis : (s.port n).disabling with
    | true =>
      have hemptied : sameButPort n s (portEmptied n s) := sameButPort_portEmptied hn
      have hdown : portDown n s = (portEmptied n s).onPort n NetPort.idle := by
        rw [portDown_eq]
        exact finishFin_started _ (show ∀ f ∈ (portEmptied n s).cmd.flights, _ by rw [hemptied.cmd]; exact hfl)
      refine ⟨portDown n s, ?_, if_pos hdis⟩
      rw [hdown]
      exact hemptied.apart.onPort hn _
    | false =>
      have hlive : (s.port n).live = false := hup.resolve_right (by simp [hdis])
      exact ⟨s, .refl n s, (if_neg (by simp [hdis])).trans (if_neg (by simp [hlive]))⟩
  rw [heq]
  refine ⟨hv.onPort hn _, ?_⟩
  unfold portUp
  rw [onPort_port (lt_np_of_besidePort hv.2.1 hl)]
  exact ⟨rfl, rfl, rfl⟩

theorem portEnable_down (h : (s.port n).live = true) :
    portEnable n false s = s.onPort n fun np => { np with disabling := true } := if_pos h

theorem portEnable_same {en : Bool} (h : en = (s.port n).live) (hdis : en = true → (s.port n).disabling = false) :
    portEnable n en s = s := by
  cases en with
  | true => exact (if_neg (by simp [hdis rfl])).trans (if_pos h.symm)
  | false => exact if_neg (by simp [← h])

/-! ## `PORT_CONFIG` (R318, R319) -/

theorem reg_setRegs_ne {a : Nat} (l : List (Nat × Word)) (s : State) (ha : a ∉ l.map Prod.fst) :
    (l.foldl (fun s e => s.setReg e.1 e.2) s).reg a = s.reg a := by
  induction l generalizing s with
  | nil => rfl
  | cons e l ih =>
    obtain ⟨hne, htail⟩ := not_or.mp (fun h => ha (List.mem_cons.mpr h))
    exact (ih _ htail).trans (State.reg_setReg_ne _ _ hne)

/-- A register that is written once among others holds what was written. -/
theorem reg_setRegs (l : List (Nat × Word)) (s : State) (hnd : (l.map Prod.fst).Nodup) {e : Nat × Word} (he : e ∈ l) :
    (l.foldl (fun s e => s.setReg e.1 e.2) s).reg e.1 = e.2 := by
  induction l generalizing s with
  | nil => exact absurd he List.not_mem_nil
  | cons d l ih =>
    obtain ⟨hd, hnd'⟩ := List.nodup_cons.mp hnd
    rcases List.mem_cons.mp he with rfl | hmem
    · exact (reg_setRegs_ne l _ hd).trans (State.reg_setReg_self _ _ _)
    · exact ih _ hnd' hmem

/-- The registers that `PORT_CONFIG` writes. -/
def portConfigAddrs (n : Nat) : List Nat :=
  [Reg.NP_CFG n, Reg.NP_MAC_LO n, Reg.NP_MAC_HI n, Reg.NP_MAX_FRAME n, Reg.NP_RX_CTRL n, Reg.NP_PAUSE_CTRL n, Reg.NP_CBS_A n,
   Reg.NP_CBS_B n, Reg.NP_LAUNCH_CFG n, Reg.NP_Q_PCP n]

theorem portConfigRegs_fst : (portConfigRegs x p n).map Prod.fst = portConfigAddrs n := rfl

/-- They are ten registers, none with a flag that the end of a link sets. -/
theorem portConfigAddrs_apart (h : n < 2) : (portConfigAddrs n).Nodup ∧ ∀ a ∈ portConfigAddrs n, a ∉ portFlags n := by
  obtain rfl | rfl : n = 0 ∨ n = 1 := by omega
  · decide
  · decide

/-- Port `n` holds the configuration of the command. -/
def portConfigured (x : Bool) (p : List Word) (n : Nat) (s : State) : State :=
  (portConfigRegs x p n).foldl (fun s e => s.setReg e.1 e.2) (creditStep n s)

theorem portConfigured_np : (portConfigured x p n s).np = (creditStep n s).np :=
  foldl_keeps State.np (fun s (e : Nat × Word) => s.setReg e.1 e.2) (fun _ _ => rfl) _ _

theorem portConfigured_cmd : (portConfigured x p n s).cmd = s.cmd :=
  foldl_keeps State.cmd (fun s (e : Nat × Word) => s.setReg e.1 e.2) (fun _ _ => rfl) _ (creditStep n s)

theorem portConfigured_port (m : Nat) : (portConfigured x p n s).port m = (creditStep n s).port m := by
  unfold State.port
  rw [portConfigured_np]

/-- The port that is configured keeps its frames, and stays on or off. -/
theorem portConfigured_spec (hn : n < 2) (hl : n < s.np.length) : n < (portConfigured x p n s).np.length
    ∧ (((portConfigured x p n s).port n).live, ((portConfigured x p n s).port n).disabling)
      = ((s.port n).live, (s.port n).disabling)
    ∧ ((portConfigured x p n s).port n).egress = (s.port n).egress := by
  obtain ⟨_, _, _, hcredit⟩ := creditStep_port hl
  rw [portConfigured_np, portConfigured_port, hcredit]
  exact ⟨(sameButPort_creditStep hn).lt_np hl, rfl, rfl⟩

theorem portConfigured_reg (hn : n < 2) {e : Nat × Word} (he : e ∈ portConfigRegs x p n) :
    (portConfigured x p n s).reg e.1 = e.2 := reg_setRegs (portConfigRegs x p n) _ (portConfigAddrs_apart hn).1 he

/-- A step that leaves the Command Processor and the other port alone keeps what `PORT_CONFIG` has written. -/
theorem portApart.configured (hn : n < 2) (h : portApart n (portConfigured x p n s) t) : t.cmd = s.cmd
    ∧ t.port (1 - n) = s.port (1 - n) ∧ ∀ e ∈ portConfigRegs x p n, t.reg e.1 = e.2 := by
  obtain ⟨hcmd, hbeside, hreg⟩ := h
  have hother : (portConfigured x p n s).port (1 - n) = s.port (1 - n) :=
    (portConfigured_port _).trans (congrArg Prod.fst (sameButPort_creditStep hn).beside)
  refine ⟨hcmd.trans portConfigured_cmd, (congrArg Prod.fst hbeside).trans hother, fun e he => ?_⟩
  have haddr : e.1 ∈ portConfigAddrs n := portConfigRegs_fst (x := x) (p := p) ▸ List.mem_map_of_mem he
  exact (hreg _ ((portConfigAddrs_apart hn).2 _ haddr)).trans (portConfigured_reg hn he)

/-- The outcome of an accepted `PORT_CONFIG`, port `n` of `u` holding its configuration. -/
def portAccepted (en : Bool) (n : Nat) (s u : State) : State × Res :=
  let t := portEnable n en u
  let gen := decide (u.regs ≠ s.regs)
  if en && (!(s.port n).live || ((s.port n).live && (s.port n).disabling)) then (t, .later (.portUp n) [t.npStatus n] gen)
  else if !en && (s.port n).live then (t, .later (.portDown n) [t.npStatus n] gen)
  else (t, .ok [t.npStatus n] gen)

theorem commitPortConfig_stale {w : Nat} (hn : fieldOf (p.getD 0 0) 0 0 = n) (hlive : (s.port n).live = true)
    (h : portStale x p n s = some w) : commitPortConfig x p s = (s, .fail .staleWrite w) := by
  subst hn
  unfold commitPortConfig
  dsimp only
  rw [if_pos hlive, h]

theorem commitPortConfig_accepted (hn : fieldOf (p.getD 0 0) 0 0 = n)
    (h : (s.port n).live = false ∨ portStale x p n s = none) :
    commitPortConfig x p s = portAccepted (bitOf (p.getD 0 0) 1) n s (portConfigured x p n s) := by
  subst hn
  have hfresh : (if (s.port (fieldOf (p.getD 0 0) 0 0)).live then portStale x p (fieldOf (p.getD 0 0) 0 0) s else none)
      = none := by
    obtain hlive | hstale := h
    · exact if_neg (ne_true_of_eq_false hlive)
    · rw [hstale, ite_self]
  unfold commitPortConfig
  dsimp only
  rw [hfresh]
  rfl

section
variable (s u : State) (n : Nat)

theorem portAccepted_up (h : (s.port n).live = false ∨ (s.port n).disabling = true) :
    ∃ body g, portAccepted true n s u = (portEnable n true u, .later (.portUp n) body g) := by
  refine ⟨_, _, if_pos ?_⟩
  obtain hlive | hdis := h
  · rw [hlive]
    rfl
  · rw [hdis]
    cases (s.port n).live <;> rfl

theorem portAccepted_down (h : (s.port n).live = true) :
    ∃ body g, portAccepted false n s u = (portEnable n false u, .later (.portDown n) body g) :=
  ⟨_, _, if_pos (show (!false && (s.port n).live) = true by rw [h]; rfl)⟩

theorem portAccepted_same {en : Bool} (h : en = (s.port n).live) (hdis : en = true → (s.port n).disabling = false) :
    ∃ body g, portAccepted en n s u = (portEnable n en u, .ok body g) := by
  refine ⟨_, _, (if_neg ?_).trans (if_neg ?_)⟩
  · cases en with
    | true => simp [← h, hdis rfl]
    | false => simp
  · simp [← h]
end

/-! ## `PORT_RESTART` and `PORT_STATS` (R320, R321) -/

theorem commitPortRestart_refused (hn : fieldOf (p.getD 0 0) 0 0 = n) (h : (s.port n).live = false) :
    commitPortRestart p s = (s, .fail .badParam 1) := by
  subst hn
  exact if_pos (by rw [h]; rfl)

theorem commitPortRestart_starts (hn : fieldOf (p.getD 0 0) 0 0 = n) (h : (s.port n).live = true) :
    commitPortRestart p s = (portRestart n s, .later (.portUp n) []) := by
  subst hn
  exact if_neg (by rw [h]; exact Bool.false_ne_true)

/-- The counters that `PORT_STATS` reads: those of the port, or with `ext` their extensions (R321). -/
def statsBody (ext : Bool) (n : Nat) (s : State) : List Word :=
  s.tick32 :: (List.range 48).map fun i => s.reg (if ext then Reg.NP_STAT_EXT n i else Reg.NP_STAT n i)

theorem commitPortStats_reads (hn : fieldOf (p.getD 0 0) 0 0 = n) (h : (x && bitOf (p.getD 0 0) 2) = false) :
    commitPortStats x p s = (s, .ok (statsBody (x && bitOf (p.getD 0 0) 1) n s)) := by
  subst hn
  exact congrArg (fun t => (t, Res.ok _)) (if_neg (ne_true_of_eq_false h))

theorem commitPortStats_clears (hn : fieldOf (p.getD 0 0) 0 0 = n) (h : (x && bitOf (p.getD 0 0) 2) = true) :
    commitPortStats x p s = (clearStats n s, .ok (statsBody (x && bitOf (p.getD 0 0) 1) n s)) := by
  subst hn
  exact congrArg (fun t => (t, Res.ok _)) (if_pos h)

/-- A register that reads 0 reads 0 after a register is cleared. -/
theorem reg_clear {a : Nat} (b : Nat) (h : s.reg a = 0) : (s.setReg b 0).reg a = 0 := by
  rw [State.reg_setReg, h, ite_self]

theorem sameButQueues.cmd (h : sameButQueues s t) : t.cmd = s.cmd := by
  obtain ⟨_, _, _, rfl⟩ := h
  rfl

theorem sameButQueues_foldl {α : Type} {f : State → α → State} (hf : ∀ t a, sameButQueues t (f t a)) (l : List α) (s : State) :
    sameButQueues s (l.foldl f s) := by
  induction l generalizing s with
  | nil => exact .refl s
  | cons a l ih => exact (hf s a).trans (ih (f s a))

/-- A register that a list of clears names reads 0 after them. -/
theorem reg_clears {a : Nat} (f : State → Nat → State) (hkeep : ∀ t i, t.reg a = 0 → (f t i).reg a = 0) (l : List Nat)
    {i : Nat} (hi : i ∈ l) (hclear : ∀ t, (f t i).reg a = 0) (s : State) : (l.foldl f s).reg a = 0 := by
  have hstays : ∀ (l : List Nat) (t : State), t.reg a = 0 → (l.foldl f t).reg a = 0 := fun l t h =>
    List.foldlRecOn l f h fun t ht j _ => hkeep t j ht
  induction l generalizing s with
  | nil => exact absurd hi List.not_mem_nil
  | cons j l ih =>
    rcases List.mem_cons.mp hi with rfl | hmem
    · exact hstays l _ (hclear s)
    · exact ih hmem _

/-- Counter `i` of port `n` is cleared, and its extension. -/
def statCleared (n : Nat) (s : State) (i : Nat) : State := (s.setReg (Reg.NP_STAT n i) 0).setReg (Reg.NP_STAT_EXT n i) 0

theorem clearStats_eq : clearStats n s
    = (((List.range 48).foldl (statCleared n) s).setReg (Reg.NP_STAT_HALF_LO n) 0).setReg (Reg.NP_STAT_HALF_HI n) 0 := rfl

theorem clearStats_reg {i : Nat} (hi : i < 48) :
    (clearStats n s).reg (Reg.NP_STAT n i) = 0 ∧ (clearStats n s).reg (Reg.NP_STAT_EXT n i) = 0 := by
  have hmem : i ∈ List.range 48 := List.mem_range.mpr hi
  have hkeep : ∀ a t j, State.reg t a = 0 → (statCleared n t j).reg a = 0 := fun a t j h => reg_clear _ (reg_clear _ h)
  rw [clearStats_eq]
  refine ⟨reg_clear _ (reg_clear _ ?_), reg_clear _ (reg_clear _ ?_)⟩
  · exact reg_clears (statCleared n) (hkeep _) _ hmem (fun t => reg_clear _ (State.reg_setReg_self t _ 0)) s
  · exact reg_clears (statCleared n) (hkeep _) _ hmem (fun t => State.reg_setReg_self _ _ 0) s

theorem sameButQueues_clearStats : sameButQueues s (clearStats n s) := by
  have hall : sameButQueues s ((List.range 48).foldl (statCleared n) s) :=
    sameButQueues_foldl (fun t i => (sameButQueues_setReg t _ 0).trans (sameButQueues_setReg _ _ 0)) _ s
  rw [clearStats_eq]
  exact (hall.trans (sameButQueues_setReg _ _ 0)).trans (sameButQueues_setReg _ _ 0)

end Sys2Proof.Machine
end

section
/-! SUPPORT. The commands of a port as they arrive at an idle Command Processor (R318 to R321). -/
namespace Sys2Proof.Machine

variable {s : State} {k : Pkt} {n : Nat}

theorem begun_lt_np {op : Nat} (hlen : s.np.length = 2) (hn : n < 2) : n < (begun op k s).np.length := by
  rw [show (begun op k s).np.length = 2 from hlen]
  exact hn

/-! ## `PORT_CONFIG` -/

section
variable (hn : fieldOf (k.params.getD 0 0) 0 0 = n) (hb : begins 0x50 k s = true)
include hn hb

theorem exec_portConfig_stale {w : Nat} (hlive : (s.port n).live = true) (h : portStale k.x k.params n s = some w) :
    exec (.portConfig k) s = .next (replied 0x50 k .staleWrite w [] false s (fresh s)) :=
  exec_commit_fail (i := .portConfig k) (t := fresh s) rfl hb (by decide) nofun nofun
    ((commitOp_begun_high hb (by decide) (by decide) (by decide)).trans
      (commitPortConfig_stale (s := begun 0x50 k s) hn hlive h))

variable (h : (s.port n).live = false ∨ portStale k.x k.params n s = none)
include h

theorem commit_portConfig : commitOp s.cmd.nextOrd 0x50 k.tag k.x k.params (begun 0x50 k s)
    = portAccepted (bitOf (k.params.getD 0 0) 1) n (begun 0x50 k s) (portConfigured k.x k.params n (begun 0x50 k s)) :=
  (commitOp_begun_high hb (by decide) (by decide) (by decide)).trans
    (commitPortConfig_accepted (s := begun 0x50 k s) hn h)

variable (hlen : s.np.length = 2)
include hlen

/-- An enable of a port that is not live, or is being disabled (R296, R319). -/
theorem portConfig_up (hen : bitOf (k.params.getD 0 0) 1 = true) (hup : (s.port n).live = false ∨ (s.port n).disabling = true) :
    ∃ t, exec (.portConfig k) s = .next t
      ∧ (∀ e ∈ portConfigRegs k.x k.params n, t.reg e.1 = e.2) ∧ t.port (1 - n) = s.port (1 - n)
      ∧ (t.port n).live = true ∧ (t.port n).inReset = true ∧ (t.port n).disabling = false ∧ t.cmd.held = s.cmd.held
      ∧ ∃ f, t.cmd.flights = [f] ∧ f.fin = .portUp n ∧ f.phase = .committed ∧ f.tag = k.tag := by
  let u := portConfigured k.x k.params n (begun 0x50 k s)
  have hn2 : n < 2 := hn ▸ port_field _
  obtain ⟨hlu, hswitch, hegress⟩ := portConfigured_spec (x := k.x) (p := k.params) hn2 (begun_lt_np (op := 0x50) (k := k) hlen hn2)
  have hupu : (u.port n).live = false ∨ (u.port n).disabling = true := by
    obtain ⟨hlive, hdis⟩ := Prod.mk.inj hswitch
    rw [hlive, hdis]
    exact hup
  obtain ⟨hapart, hlive, hreset, hdis⟩ := portEnable_up hn2 hlu hupu (by rw [portConfigured_cmd]; exact begun_started)
  obtain ⟨hcmd, hother, hregs⟩ := hapart.configured hn2
  obtain ⟨body, g, hres⟩ := portAccepted_up (begun 0x50 k s) u n hup
  have hcommit := commit_portConfig hn hb h
  rw [hen, hres] at hcommit
  refine ⟨_, (exec_dadin (op := 0x50) (k := k) rfl).trans
    (congrArg Host.Outcome.next (commit_later hb (by decide) hcommit hcmd nofun)), ?_⟩
  simp only [inFlight_reg, inFlight_port]
  exact ⟨hregs, hother, hlive, hreset, hdis, inFlight_held, _, inFlight_flights, rfl, rfl, rfl⟩

/-- A disable of a live port (R296, R319). -/
theorem portConfig_down (hen : bitOf (k.params.getD 0 0) 1 = false) (hlive : (s.port n).live = true) :
    ∃ t, exec (.portConfig k) s = .next t
      ∧ (∀ e ∈ portConfigRegs k.x k.params n, t.reg e.1 = e.2) ∧ t.port (1 - n) = s.port (1 - n)
      ∧ (t.port n).disabling = true ∧ (t.port n).egress = (s.port n).egress ∧ t.cmd.held = s.cmd.held
      ∧ ∃ f, t.cmd.flights = [f] ∧ f.fin = .portDown n ∧ f.phase = .committed ∧ f.tag = k.tag := by
  let u := portConfigured k.x k.params n (begun 0x50 k s)
  have hn2 : n < 2 := hn ▸ port_field _
  obtain ⟨hlu, hswitch, hegress⟩ := portConfigured_spec (x := k.x) (p := k.params) hn2 (begun_lt_np (op := 0x50) (k := k) hlen hn2)
  have hliveu : (u.port n).live = true := (Prod.mk.inj hswitch).1.trans hlive
  obtain ⟨hcmd, hother, hregs⟩ := ((portApart.refl n u).onPort hn2 fun np => { np with disabling := true }).configured hn2
  obtain ⟨body, g, hres⟩ := portAccepted_down (begun 0x50 k s) u n hlive
  have hcommit := commit_portConfig hn hb h
  rw [hen, hres, portEnable_down hliveu] at hcommit
  refine ⟨_, (exec_dadin (op := 0x50) (k := k) rfl).trans
    (congrArg Host.Outcome.next (commit_later hb (by decide) hcommit hcmd nofun)), ?_⟩
  simp only [inFlight_reg, inFlight_port]
  rw [onPort_port hlu]
  exact ⟨hregs, hother, rfl, hegress, inFlight_held, _, inFlight_flights, rfl, rfl, rfl⟩

/-- With EN as it is, the command completes (R319). -/
theorem portConfig_same (hen : bitOf (k.params.getD 0 0) 1 = (s.port n).live)
    (hdis : bitOf (k.params.getD 0 0) 1 = true → (s.port n).disabling = false) :
    ∃ t, exec (.portConfig k) s = .next t
      ∧ (∀ e ∈ portConfigRegs k.x k.params n, t.reg e.1 = e.2) ∧ t.port (1 - n) = s.port (1 - n)
      ∧ t.port n = (creditStep n s).port n ∧ t.cmd.flights = []
      ∧ ∃ r, t.cmd.held = s.cmd.held ++ [r] ∧ r.tag = k.tag ∧ r.status = .ok := by
  let u := portConfigured k.x k.params n (begun 0x50 k s)
  have hn2 : n < 2 := hn ▸ port_field _
  obtain ⟨-, hswitch, -⟩ := portConfigured_spec (x := k.x) (p := k.params) hn2 (begun_lt_np (op := 0x50) (k := k) hlen hn2)
  obtain ⟨hlive, hdisabling⟩ := Prod.mk.inj hswitch
  have henu : bitOf (k.params.getD 0 0) 1 = (u.port n).live := hen.trans hlive.symm
  have hdisu : bitOf (k.params.getD 0 0) 1 = true → (u.port n).disabling = false := fun h => hdisabling.trans (hdis h)
  obtain ⟨hcmd, hother, hregs⟩ := (portApart.refl n u).configured hn2
  obtain ⟨body, g, hres⟩ := portAccepted_same (begun 0x50 k s) u n hen hdis
  have hcommit := commit_portConfig hn hb h
  rw [hres, portEnable_same henu hdisu] at hcommit
  refine ⟨_, (exec_dadin (op := 0x50) (k := k) rfl).trans
    (congrArg Host.Outcome.next (commit_ok hb (by decide) hcommit hcmd)), ?_⟩
  simp only [replied_reg, replied_port, replied_flights]
  exact ⟨hregs, hother, portConfigured_port n, (begins_quiet hb).2, _, replied_held, rfl, rfl⟩
end

/-! ## `PORT_RESTART` and `PORT_STATS` -/

section
variable (hn : fieldOf (k.params.getD 0 0) 0 0 = n) (hb : begins 0x51 k s = true)
include hn hb

theorem exec_portRestart_refused (h : (s.port n).live = false) :
    exec (.portRestart k) s = .next (replied 0x51 k .badParam 1 [] false s (fresh s)) :=
  exec_commit_fail (i := .portRestart k) (t := fresh s) rfl hb (by decide) nofun nofun
    ((commitOp_begun_high hb (by decide) (by decide) (by decide)).trans
      (commitPortRestart_refused (s := begun 0x51 k s) hn h))

/-- The restart of a live port (R320). -/
theorem portRestart_restarts (hlen : s.np.length = 2) (h : (s.port n).live = true) : ∃ t f, exec (.portRestart k) s = .next t
    ∧ (t.port n).live = true ∧ (t.port n).inReset = true ∧ (t.port n).link = false ∧ (t.port n).sending = none
    ∧ (t.port n).egress = (s.port n).egress ∧ t.port (1 - n) = s.port (1 - n) ∧ t.cmd.flights = [f]
    ∧ f.fin = .portUp n ∧ f.phase = .committed ∧ f.tag = k.tag ∧ t.cmd.gen = s.cmd.gen := by
  have hn2 : n < 2 := hn ▸ port_field _
  have hl : n < (begun 0x51 k s).np.length := begun_lt_np hlen hn2
  have hkept := sameButPort_portRestart hn2 hl
  obtain ⟨hbeside, hreset, hlink, hlive, hsending⟩ := portRestart_port hn2 hl
  have hcommit := (commitOp_begun_high hb (by decide) (by decide) (by decide)).trans
    (commitPortRestart_starts (s := begun 0x51 k s) hn h)
  refine ⟨_, flightIn 0x51 k .committed (.portUp n) [] (dueOf s (.portUp n)) s, (exec_dadin (op := 0x51) (k := k) rfl).trans
    (congrArg Host.Outcome.next (commit_later hb (by decide) hcommit hkept.cmd nofun)), ?_⟩
  simp only [inFlight_port]
  exact ⟨hlive.trans h, hreset, hlink, hsending, hkept.egress, congrArg Prod.fst hbeside, inFlight_flights, rfl, rfl, rfl,
    inFlight_gen⟩
end

section
variable (hn : fieldOf (k.params.getD 0 0) 0 0 = n) (hb : begins 0x52 k s = true)
include hn hb

theorem exec_portStats_reads (h : (k.x && bitOf (k.params.getD 0 0) 2) = false) : exec (.portStats k) s
    = .next (replied 0x52 k .ok 0 (statsBody (k.x && bitOf (k.params.getD 0 0) 1) n s) false s (fresh s)) :=
  exec_commit_ok (i := .portStats k) (t := fresh s) rfl hb (by decide)
    ((commitOp_begun_high hb (by decide) (by decide) (by decide)).trans (commitPortStats_reads (s := begun 0x52 k s) hn h))

/-- With CLEAR the counters that are answered are zero afterwards (R321). -/
theorem portStats_clears (h : (k.x && bitOf (k.params.getD 0 0) 2) = true) : ∃ t r, exec (.portStats k) s = .next t
    ∧ t.cmd.held = s.cmd.held ++ [r] ∧ r.status = .ok ∧ r.body = statsBody (k.x && bitOf (k.params.getD 0 0) 1) n s
    ∧ (∀ i, i < 48 → t.reg (Reg.NP_STAT n i) = 0 ∧ t.reg (Reg.NP_STAT_EXT n i) = 0) ∧ t.np = s.np := by
  have hclear : sameButQueues (begun 0x52 k s) (clearStats n (begun 0x52 k s)) := sameButQueues_clearStats
  have hcommit := (commitOp_begun_high hb (by decide) (by decide) (by decide)).trans
    (commitPortStats_clears (s := begun 0x52 k s) hn h)
  refine ⟨_, _, (exec_dadin (op := 0x52) (k := k) rfl).trans
    (congrArg Host.Outcome.next (commit_ok hb (by decide) hcommit hclear.cmd)), replied_held, rfl, rfl, fun i hi => ?_,
    replied_np.trans hclear.np⟩
  rw [replied_reg, replied_reg]
  exact clearStats_reg hi
end

end Sys2Proof.Machine
end

section
/-! The statement of the port commands, links and resets. -/
open Sys2Proof Sys2Proof.Machine

/-- Settles O47: the commands by what each comes to at an idle Command Processor, a `PORT_CONFIG` that is accepted by whether EN
rises, falls or stays (`portConfig_up`, `portConfig_down`, `portConfig_same`); and the links, resets and timers by the instruction
of each, which changes nothing but its port (`onlyPort`). -/
theorem portCommandsAndLinks : Obligations.PortCommandsAndLinks := by
  refine ⟨fun k s hlen => ?_, fun n s hn hlen => ?_⟩
  · intro n
    refine ⟨fun hb => ?_, fun hb => ?_, fun hb => ?_⟩
    · intro en
      refine ⟨fun w hlive hstale => exec_portConfig_stale rfl hb hlive hstale, fun h => ?_⟩
      have hswitch : en = false ∨ en = true := by cases en <;> simp
      obtain hen | hen := hswitch
      · cases hlive : (s.port n).live with
        | true =>
          obtain ⟨t, hexec, hregs, hother, hdown⟩ := portConfig_down rfl hb h hlen hen hlive
          exact ⟨t, hexec, hregs, hother, fun h1 => absurd h1 (by simp [hen]), fun _ _ => hdown,
            fun h1 => absurd h1 (by simp [hen])⟩
        | false =>
          obtain ⟨t, hexec, hregs, hother, hsame⟩ :=
            portConfig_same rfl hb h hlen (hen.trans hlive.symm) (fun h1 => absurd h1 (ne_true_of_eq_false hen))
          exact ⟨t, hexec, hregs, hother, fun h1 => absurd h1 (by simp [hen]), nofun, fun _ _ => hsame⟩
      · by_cases hup : (s.port n).live = false ∨ (s.port n).disabling = true
        · obtain ⟨t, hexec, hregs, hother, hrises⟩ := portConfig_up rfl hb h hlen hen hup
          refine ⟨t, hexec, hregs, hother, fun _ _ => hrises, fun h1 => absurd h1 (by simp [hen]), fun hsame hdis => ?_⟩
          obtain hlive | hdisabling := hup
          · exact absurd (hsame.symm.trans hen) (ne_true_of_eq_false hlive)
          · exact absurd hdisabling (ne_true_of_eq_false (hdis hen))
        · obtain ⟨hlive, hdis⟩ := not_or.mp hup
          obtain ⟨t, hexec, hregs, hother, hsame⟩ := portConfig_same rfl hb h hlen
            (hen.trans (Bool.eq_true_of_not_eq_false hlive).symm) (fun _ => Bool.eq_false_of_not_eq_true hdis)
          exact ⟨t, hexec, hregs, hother, fun _ h1 => absurd h1 hup, fun h1 => absurd h1 (by simp [hen]), fun _ _ => hsame⟩
    · exact ⟨fun hlive => exec_portRestart_refused rfl hb hlive, fun hlive => portRestart_restarts rfl hb hlen hlive⟩
    · exact ⟨fun hclear => exec_portStats_reads rfl hb hclear, fun hclear => portStats_clears rfl hb hclear⟩
  · have hl : n < s.np.length := by rw [hlen]; exact hn
    exact ⟨fun hlive hreset han hmode =>
        ⟨autoNegotiation_agrees hn hl hlive hreset han hmode, autoNegotiation_fails hn hl hlive hreset han hmode⟩,
      portLinkUp_rises hn hl, portLinkDown_falls hn hl, portDisable_ends hn hl, portReset_ends hn hl, pauseTimer_runsOut hn hl,
      fun _ => pfcTimer_runsOut hn hl, fun _ _ => exec_pauseTimerExpired_early⟩
end

section
/-! SUPPORT. The number that a load of the Rudder assembles, byte by byte (R331). -/
namespace Sys2Proof.Machine

/-! ## Digits to the base 256 -/

/-- The number of the digits `g 0` to `g (n - 1)`, the first one the most significant. -/
def networkNat (g : Nat → Nat) (n : Nat) : Nat := ((List.range n).map g).foldl (fun v b => v * 256 + b) 0

theorem networkNat_succ (g : Nat → Nat) (n : Nat) : networkNat g (n + 1) = networkNat g n * 256 + g n := by
  simp [networkNat, List.range_succ]

theorem networkNat_lt {g : Nat → Nat} (hg : ∀ i, g i < 256) (n : Nat) : networkNat g n < 256 ^ n := by
  induction n with
  | zero => exact Nat.one_pos
  | succ n ih =>
    have := hg n
    rw [networkNat_succ, Nat.pow_succ]
    omega

/-- Digit `j`, counted from the most significant one. -/
theorem networkNat_digit {g : Nat → Nat} (hg : ∀ i, g i < 256) {n j : Nat} (hj : j < n) :
    networkNat g n / 256 ^ (n - 1 - j) % 256 = g j := by
  induction n with
  | zero => omega
  | succ n ih =>
    have hn := hg n
    rw [networkNat_succ]
    obtain rfl | hlt := Nat.eq_or_lt_of_le (Nat.le_of_lt_succ hj)
    · rw [Nat.add_sub_cancel, Nat.sub_self, Nat.pow_zero, Nat.div_one]
      omega
    · have hpow : 256 ^ (n + 1 - 1 - j) = 256 * 256 ^ (n - 1 - j) := by
        rw [← Nat.pow_succ']
        congr 1
        omega
      have hdiv : (networkNat g n * 256 + g n) / 256 = networkNat g n := by omega
      rw [hpow, ← Nat.div_div_eq_div_mul, hdiv]
      exact ih hlt

/-! ## A load -/

variable {d : Dispatched}

theorem beAt_one {bs : List Byte} {i : Nat} (h : i < bs.length) : beAt bs i 1 = (bs.getD i 0).toNat := by
  simp [beAt, beNat, slice, List.take_one, h]

/-- A byte that a load finds in the frame: within its first 256 and before its FCS. -/
def headerByte (d : Dispatched) (i : Nat) : Bool := decide (i < 256) && decide (i + 4 < d.frame.bytes.length)

theorem headerByte_iff {i : Nat} : headerByte d i = true ↔ i < 256 ∧ i < d.frame.bytes.length - 4 := by
  simp only [headerByte, Bool.and_eq_true, decide_eq_true_eq]
  omega

/-- The byte that a load takes from offset `i`. -/
def loadedByte (d : Dispatched) (i : Nat) : Nat := if headerByte d i then beAt d.frame.bytes i 1 else 0

theorem loadedByte_inside {i : Nat} (h : headerByte d i = true) : loadedByte d i = (d.frame.bytes.getD i 0).toNat := by
  have hlen := (headerByte_iff.mp h).2
  rw [loadedByte, if_pos h, beAt_one (by omega)]

theorem loadedByte_outside {i : Nat} (h : ¬headerByte d i = true) : loadedByte d i = 0 := if_neg h

theorem loadedByte_lt (i : Nat) : loadedByte d i < 256 := by
  by_cases h : headerByte d i = true
  · rw [loadedByte_inside h]
    exact BitVec.isLt _
  · rw [loadedByte_outside h]
    decide

theorem rudLoad_eq (o n : Nat) (e : Engine) : rudLoad d o n e
    = (w32 (networkNat (fun i => loadedByte d (o + i)) n),
      { e with oob := e.oob || !((List.range n).all fun i => headerByte d (o + i)) }) := rfl

/-- A load of up to four bytes fills its word with their number. -/
theorem rudLoad_word {n : Nat} (h : n ≤ 4) (o : Nat) (e : Engine) :
    (rudLoad d o n e).1.toNat = networkNat (fun i => loadedByte d (o + i)) n := by
  have hlt : networkNat (fun i => loadedByte d (o + i)) n < 2 ^ 32 :=
    Nat.lt_of_lt_of_le (networkNat_lt (fun i => loadedByte_lt (o + i)) n) (Nat.pow_le_pow_right (by decide) h)
  rw [rudLoad_eq]
  exact (BitVec.toNat_ofNat ..).trans (Nat.mod_eq_of_lt hlt)

theorem rudLoad_oob (o n : Nat) (e : Engine) : (rudLoad d o n e).2.oob = true
    ↔ e.oob = true ∨ ∃ j, j < n ∧ ¬headerByte d (o + j) = true := by
  simp [rudLoad_eq]

end Sys2Proof.Machine
end

section
/-! The statement of what a load of the Rudder gives. -/
open Sys2Proof Sys2Proof.Machine

/-- Settles O60: the word by its digits (`rudLoad_word`, `networkNat_digit`), each of which is a byte of the frame or zero, and
OOB by `rudLoad_oob`. -/
theorem rudderLoads : Obligations.RudderLoads := by
  intro d o n e hn inside r
  have hdigit := fun {j : Nat} (hj : j < n) =>
    networkNat_digit (g := fun i => loadedByte d (o + i)) (fun i => loadedByte_lt (o + i)) hj
  have hword : r.1.toNat = networkNat (fun i => loadedByte d (o + i)) n := rudLoad_word hn o e
  refine ⟨?_, fun j hj => ⟨fun hin => ?_, fun hout => ?_⟩, ?_, rfl⟩
  · rw [hword]
    exact networkNat_lt (fun i => loadedByte_lt (o + i)) n
  · rw [hword, hdigit hj]
    exact loadedByte_inside (headerByte_iff.mpr hin)
  · rw [hword, hdigit hj]
    exact loadedByte_outside (mt headerByte_iff.mp hout)
  · rw [rudLoad_oob]
    simp only [headerByte_iff]
    rfl
end

section
/-! SUPPORT. What the commands of the Rudder share: the rewriting of a unit memory, the entries that a filter of a table drops,
what a command leaves in the Rudder as it completes or fails at its commit point, and the body of `FLOW_SET`. -/
namespace Sys2Proof.Machine

variable {s t : State} {op : Nat} {k : Pkt}

/-! ## Unit memories (R647) -/

/-- A memory that is rewritten changes what the Umpire holds of it, and nothing else. -/
theorem memRewritten_eq (s : State) (m : Nat) (p : Nat → Bool) : ∃ u, s.memRewritten m p = { s with ump := u } := by
  unfold State.memRewritten State.setCond
  dsimp only
  split_ifs <;> exact ⟨_, rfl⟩

@[simp] theorem memRewritten_rud (m : Nat) (p : Nat → Bool) : (s.memRewritten m p).rud = s.rud := by
  obtain ⟨_, h⟩ := memRewritten_eq s m p
  rw [h]

@[simp] theorem memRewritten_cmd (m : Nat) (p : Nat → Bool) : (s.memRewritten m p).cmd = s.cmd := by
  obtain ⟨_, h⟩ := memRewritten_eq s m p
  rw [h]

/-! ## Tables -/

/-- An entry whose key a filter drops. -/
theorem tget_filter_dropped {α : Type} (t : Table α) (p : Nat → Bool) {k : Nat} (h : p k = false) :
    tget (t.filter fun e => p e.1) k = none := by
  induction t with
  | nil => rfl
  | cons e t ih =>
    obtain ⟨a, v⟩ := e
    by_cases ha : a = k
    · subst ha
      simpa [h] using ih
    · cases hp : p a <;> simp [hp, ha, tget, ih]

theorem mem_of_tget {α : Type} {t : Table α} {k : Nat} {v : α} (h : tget t k = some v) : (k, v) ∈ t := by
  induction t with
  | nil => simp [tget] at h
  | cons e t ih =>
    obtain ⟨a, u⟩ := e
    by_cases ha : a = k
    · subst ha
      obtain rfl : u = v := by simpa [tget] using h
      exact List.mem_cons_self
    · exact List.mem_cons_of_mem _ (ih (by simpa [tget, ha] using h))

/-! ## A field of one bit -/

theorem fieldOf_bit_lt (w : Word) (i : Nat) : fieldOf w i i < 2 := by
  unfold fieldOf
  rw [Nat.add_sub_cancel_left]
  exact Nat.mod_lt _ (by decide)

/-! ## What a command leaves in the Rudder -/

section
variable {st : Status} {word : Nat} {body : List Word} {g : Bool} {ph : CmdPhase} {fin : Fin} {due : Nat}

theorem replied_rud : (replied op k st word body g s t).rud = t.rud := settle_rud _

theorem inFlight_rud : (inFlight op k ph fin body due g s t).rud = t.rud := settle_rud _
end

/-- A command that completes at its commit, whose effect `t` leaves the Command Processor as the commit found it. -/
theorem exec_commit_ok_kept {i : Instr} {body : List Word} {g : Bool} (hrow : dadinRow op k = some i)
    (hb : begins op k s = true) (h5 : 5 < op)
    (hc : commitOp s.cmd.nextOrd op k.tag k.x k.params (begun op k s) = (t, .ok body g)) (ht : t.cmd = (begun op k s).cmd) :
    exec i s = .next (replied op k .ok 0 body g s t) :=
  (exec_dadin hrow).trans (congrArg Host.Outcome.next (commit_ok hb h5 hc ht))

/-- A command that fails at its commit point, where the state `t` that its failure leaves still holds the replies it held. -/
theorem exec_commit_fail_held {i : Instr} {st : Status} {word : Nat} {body : List Word} (hrow : dadinRow op k = some i)
    (hb : begins op k s = true) (h5 : 5 < op)
    (hc : commitOp s.cmd.nextOrd op k.tag k.x k.params (begun op k s) = (t, .fail st word body))
    (hheld : t.cmd.held = s.cmd.held) (hr : t.cmd.restarting = s.cmd.restarting) :
    ∃ u q, exec i s = .next u ∧ u.rud = t.rud ∧ u.cmd.held = s.cmd.held ++ [q] ∧ q.tag = k.tag ∧ q.status = st
      ∧ q.body = body := by
  have hcommit : commitUnit (started op k s) (begun op k s) = t.answer (started op k s) st word body := by
    have hop : commitOp (started op k s).ord (started op k s).op (started op k s).tag (started op k s).x
        (started op k s).params (begun op k s) = (t, .fail st word body) := hc
    unfold commitUnit
    rw [hop]
    rfl
  obtain ⟨rs, m, hanswer⟩ := answer_path_eq (s := t) (f := started op k s) (pa := k.path) st word body rfl
    (hr.trans (begins_quiet hb).1)
  refine ⟨_, answerOf t.cmd.gen (started op k s) st word body, exec_dadin hrow, ?_⟩
  rw [arrive_begun hb h5, hcommit, hanswer, settle_rud, settle_cmd]
  exact ⟨rfl, congrArg (· ++ _) hheld, rfl, rfl, rfl⟩

/-! ## The body of `FLOW_SET` and of its scan (R346) -/

theorem flowBody_plain (i : Nat) (found : Bool) :
    flowBody s i found false = [w32 (i + 2 ^ 14 * b2n found + 2 ^ 16 * s.rud.flows.length)] := rfl

theorem flowBody_absent : flowBody s 0 false false = [w32 (2 ^ 16 * s.rud.flows.length)] := by
  simp [flowBody, b2n]

end Sys2Proof.Machine
end

section
/-! SUPPORT. The instructions that `RUD_LOAD` writes (R344), and its commit (R333, R339). -/
namespace Sys2Proof.Machine

variable {s : State} {x : Bool} {p : List Word} {b start e : Nat} {clear : Bool} {ins : List (BitVec 64)}

/-! ## Entries written one after another -/

/-- A table with `vs` at the keys from `base + o` on; an unlisted key reads as zero. -/
def placed (base o : Nat) (vs : List (BitVec 64)) (t : Table (BitVec 64)) : Table (BitVec 64) :=
  (vs.zipIdx o).foldl (fun t v => tput t (base + v.2) v.1 0) t

theorem placed_cons (base o : Nat) (v : BitVec 64) (vs : List (BitVec 64)) (t : Table (BitVec 64)) :
    placed base o (v :: vs) t = placed base (o + 1) vs (tput t (base + o) v 0) := rfl

theorem tgetD_placed_outside {base o a : Nat} {vs : List (BitVec 64)} (t : Table (BitVec 64))
    (h : a < base + o ∨ base + o + vs.length ≤ a) : tgetD (placed base o vs t) a 0 = tgetD t a 0 := by
  induction vs generalizing o t with
  | nil => rfl
  | cons v vs ih =>
    rw [List.length_cons] at h
    rw [placed_cons, ih _ (by omega), tgetD_tput_ne _ _ _ _ (by omega)]

theorem tgetD_placed_inside {base o i : Nat} {vs : List (BitVec 64)} {v : BitVec 64} (t : Table (BitVec 64))
    (h : vs[i]? = some v) : tgetD (placed base o vs t) (base + o + i) 0 = v := by
  induction vs generalizing o t i with
  | nil => simp at h
  | cons u vs ih =>
    rw [placed_cons]
    cases i with
    | zero =>
      obtain rfl : u = v := by simpa using h
      rw [tgetD_placed_outside _ (by omega), Nat.add_zero, tgetD_tput_self]
    | succ i =>
      have hi := ih (o := o + 1) (tput t (base + o) u 0) (by simpa using h)
      rwa [show base + (o + 1) + i = base + o + (i + 1) by omega] at hi

/-! ## One engine's instructions (R344) -/

/-- The key in the program of the instruction of engine `e` of bank `b` at address `a`. -/
def insKey (b e a : Nat) : Nat := 4096 * b + 512 * e + a

/-- The keys of the instructions of engine `e` of bank `b`. -/
def ofEngine (b e key : Nat) : Bool := decide (insKey b e 0 ≤ key) && decide (key < insKey b e 0 + 512)

theorem ofEngine_iff {key : Nat} : ofEngine b e key = true ↔ insKey b e 0 ≤ key ∧ key < insKey b e 0 + 512 := by
  simp [ofEngine]

/-- The program with the instructions of one engine cleared, where `clear` asks for it. -/
def clearedProg (b e : Nat) (clear : Bool) (t : Table (BitVec 64)) : Table (BitVec 64) :=
  if clear then t.filter fun x => !(ofEngine b e x.1) else t

theorem rudWrite_rud : (rudWrite b start clear ins e s).rud
    = { s.rud with prog := placed (insKey b e start) 0 ins (clearedProg b e clear s.rud.prog) } := by
  unfold rudWrite
  exact memRewritten_rud _ _

theorem rudWrite_cmd : (rudWrite b start clear ins e s).cmd = s.cmd := memRewritten_cmd _ _

theorem tgetD_clearedProg_inside {a : Nat} (t : Table (BitVec 64)) (ha : a < 512) :
    tgetD (clearedProg b e clear t) (insKey b e a) 0 = if clear then 0 else tgetD t (insKey b e a) 0 := by
  have hkey : ofEngine b e (insKey b e a) = true := ofEngine_iff.mpr (by unfold insKey; omega)
  unfold clearedProg
  split
  · rw [tgetD, tget_filter_dropped _ (fun j => !(ofEngine b e j)) (by rw [hkey]; rfl)]
    rfl
  · rfl

theorem tgetD_clearedProg_outside {key : Nat} (t : Table (BitVec 64)) (h : key < insKey b e 0 ∨ insKey b e 0 + 512 ≤ key) :
    tgetD (clearedProg b e clear t) key 0 = tgetD t key 0 := by
  have hkey : ofEngine b e key = false := Bool.eq_false_of_not_eq_true (mt ofEngine_iff.mp (by omega))
  unfold clearedProg
  split
  · rw [tgetD, tget_filter_key _ (fun j => !(ofEngine b e j)) (by rw [hkey]; rfl)]
    rfl
  · rfl

theorem rudIns_rudWrite (b' e' a : Nat) : (rudWrite b start clear ins e s).rudIns b' e' a
    = tgetD (placed (insKey b e start) 0 ins (clearedProg b e clear s.rud.prog)) (insKey b' e' a) 0 := by
  unfold State.rudIns
  rw [rudWrite_rud]
  rfl

theorem rudIns_rudWrite_given {i : Nat} {v : BitVec 64} (h : ins[i]? = some v) :
    (rudWrite b start clear ins e s).rudIns b e (start + i) = v := by
  rw [rudIns_rudWrite, show insKey b e (start + i) = insKey b e start + 0 + i by unfold insKey; omega]
  exact tgetD_placed_inside _ h

theorem rudIns_rudWrite_beside {a : Nat} (ha : a < 512) (h : a < start ∨ start + ins.length ≤ a) :
    (rudWrite b start clear ins e s).rudIns b e a = if clear then 0 else s.rudIns b e a := by
  rw [rudIns_rudWrite, tgetD_placed_outside _ (by unfold insKey; omega)]
  exact tgetD_clearedProg_inside _ ha

/-- No two engines share a key. -/
theorem rudIns_rudWrite_other {b' e' a : Nat} (he : e < 8) (he' : e' < 8) (ha : a < 512)
    (hlen : start + ins.length ≤ 512) (h : b' ≠ b ∨ e' ≠ e) :
    (rudWrite b start clear ins e s).rudIns b' e' a = s.rudIns b' e' a := by
  have hkey : insKey b' e' a < insKey b e 0 ∨ insKey b e 0 + 512 ≤ insKey b' e' a := by
    unfold insKey
    omega
  rw [rudIns_rudWrite, tgetD_placed_outside _ (by unfold insKey at hkey ⊢; omega)]
  exact tgetD_clearedProg_outside _ hkey

/-! ## Seals (R333) -/

theorem rudSealed_of_rud {t : State} (h : t.rud = s.rud) (j : Nat) : t.rudSealed j = s.rudSealed j := by
  unfold State.rudSealed
  rw [h]

theorem rudSealed_setSealed (b : Nat) (v : Bool) : (s.setSealed b v).rudSealed b = v := by
  unfold State.setSealed State.rudSealed
  split <;> rfl

/-- The seal of the other bank. -/
theorem rudSealed_setSealed_other {n : Nat} (hn : n < 2) (v : Bool) :
    (s.setSealed n v).rudSealed (1 - n) = s.rudSealed (1 - n) := by
  obtain rfl | rfl : n = 0 ∨ n = 1 := by omega
  · rfl
  · rfl

theorem setSealed_prog (b : Nat) (v : Bool) : (s.setSealed b v).rud.prog = s.rud.prog := by
  unfold State.setSealed
  split <;> rfl

theorem rudWrite_rudSealed (j : Nat) : (rudWrite b start clear ins e s).rudSealed j = s.rudSealed j := by
  unfold State.rudSealed
  rw [rudWrite_rud]

/-! ## `RUD_LOAD` at its commit point -/

/-- The generation counter may advance beside a refusal (R232): nothing else changes. -/
theorem genUp_unless (t : State) (c : Prop) [Decidable c] : (if c then t else t.genUp).rud = t.rud
    ∧ (if c then t else t.genUp).cmd.held = t.cmd.held ∧ (if c then t else t.genUp).cmd.restarting = t.cmd.restarting := by
  split
  · exact ⟨rfl, rfl, rfl⟩
  · exact ⟨rfl, rfl, rfl⟩

theorem rudLoaded_cmd : (rudLoaded x p s).cmd = s.cmd := by
  unfold rudLoaded
  dsimp only
  split
  · exact foldl_keeps State.cmd _ (fun _ _ => rudWrite_cmd) _ _
  · rfl

/-- A load unseals no bank but the one it writes. -/
theorem rudLoaded_other {n : Nat} (hn : fieldOf (p.getD 0 0) 0 0 = n) :
    (rudLoaded x p s).rudSealed (1 - n) = s.rudSealed (1 - n) := by
  have hlt : n < 2 := hn ▸ fieldOf_bit_lt _ 0
  unfold rudLoaded
  dsimp only
  rw [hn]
  split
  · exact (foldl_keeps (fun t : State => t.rudSealed (1 - n)) _ (fun _ _ => rudWrite_rudSealed _) _ _).trans
      (rudSealed_setSealed_other hlt false)
  · rfl

/-- The state in which the bank `b` that a `RUD_LOAD` has written is sealed (R333, R341). -/
def bankSealed (b : Nat) (s : State) : State :=
  let t := s.setSealed b true
  { t with rud := { t.rud with loaded := b, heldBank := t.rud.heldBank.map fun _ => b } }

theorem bankSealed_prog : (bankSealed b s).rud.prog = s.rud.prog := setSealed_prog (s := s) b true

/-- Whether a seal has changed what is stored: the instructions or the seal (R232). -/
def sealChanges (b : Nat) (s t : State) : Bool :=
  decide (t.rud.prog ≠ s.rud.prog) || t.rudSealed b != s.rudSealed b

section
variable {n : Nat} (hn : fieldOf (p.getD 0 0) 0 0 = n)
include hn

theorem commitRudLoad_stale (hw : rudWrites x p = true) (hon : s.rudBankOn n = true) :
    commitRudLoad x p s = (s, .fail .staleWrite 1) := by
  subst hn
  exact if_pos (by rw [hw, hon]; rfl)

variable (h : rudWrites x p = false ∨ s.rudBankOn n = false)
include h

/-- A load that may be written, by whether it seals and by what the seal finds. -/
theorem commitRudLoad_permitted : commitRudLoad x p s =
    let s1 := rudLoaded x p s
    let r := sealBank s1 n 8 0 0
    if !(bitOf (p.getD 0 0) 1) then
      (s1, .ok (rudLoadBody n (s1.rudSealed n) 0 0 0 0) (decide (s1.rud ≠ s.rud)))
    else if r.2.2.1 ≠ 0 then
      (if s1.rud = s.rud then s1 else s1.genUp,
        .fail .refused 0 (rudLoadBody n (s1.rudSealed n) r.1 r.2.1 r.2.2.1 r.2.2.2))
    else (bankSealed n s1, .ok (rudLoadBody n true 0 0 0 r.2.2.2) (sealChanges n s (bankSealed n s1))) := by
  subst hn
  have hmay : ¬(rudWrites x p && s.rudBankOn (fieldOf (p.getD 0 0) 0 0)) = true := by
    rw [Bool.and_eq_true]
    rintro ⟨hw, hon⟩
    obtain h | h := h
    · exact absurd hw (ne_true_of_eq_false h)
    · exact absurd hon (ne_true_of_eq_false h)
  exact if_neg hmay

theorem commitRudLoad_written (hseal : bitOf (p.getD 0 0) 1 = false) : commitRudLoad x p s = (rudLoaded x p s,
    .ok (rudLoadBody n ((rudLoaded x p s).rudSealed n) 0 0 0 0) (decide ((rudLoaded x p s).rud ≠ s.rud))) :=
  (commitRudLoad_permitted hn h).trans (if_pos (by rw [hseal]; rfl))

variable {r : Nat × Nat × Nat × Nat} (hseal : bitOf (p.getD 0 0) 1 = true) (hr : sealBank (rudLoaded x p s) n 8 0 0 = r)
include hseal hr

theorem commitRudLoad_sealed (hok : r.2.2.1 = 0) : commitRudLoad x p s = (bankSealed n (rudLoaded x p s),
    .ok (rudLoadBody n true 0 0 0 r.2.2.2) (sealChanges n s (bankSealed n (rudLoaded x p s)))) := by
  subst hr
  exact (commitRudLoad_permitted hn h).trans ((if_neg (by rw [hseal]; decide)).trans (if_neg (not_not.mpr hok)))

theorem commitRudLoad_refused (hbad : r.2.2.1 ≠ 0) : commitRudLoad x p s
    = (if (rudLoaded x p s).rud = s.rud then rudLoaded x p s else (rudLoaded x p s).genUp,
        .fail .refused 0 (rudLoadBody n ((rudLoaded x p s).rudSealed n) r.1 r.2.1 r.2.2.1 r.2.2.2)) := by
  subst hr
  exact (commitRudLoad_permitted hn h).trans ((if_neg (by rw [hseal]; decide)).trans (if_pos hbad))
end

end Sys2Proof.Machine
end

section
/-! The statement of `RUD_LOAD`. -/
open Sys2Proof Sys2Proof.Machine

/-- Settles O27: the command by the outcomes of its commit (`commitRudLoad_stale`, `commitRudLoad_written`,
`commitRudLoad_sealed`, `commitRudLoad_refused`), and a write of instructions by what an address reads after it
(`rudIns_rudWrite_given`, `rudIns_rudWrite_beside`, `rudIns_rudWrite_other`). -/
theorem rudLoadCompletes : Obligations.RudLoadCompletes := by
  refine ⟨fun k s hb => ?_, fun b start e clear ins s he hlen => ?_⟩
  · intro b w n s1 found
    have hcommit : commitOp s.cmd.nextOrd 0x40 k.tag k.x k.params b = commitRudLoad k.x k.params b :=
      commitOp_begun_mid hb (by decide) (by decide)
    have hcmd : s1.cmd = b.cmd := rudLoaded_cmd
    refine ⟨fun ⟨hw, hon⟩ => ?_, fun h => ⟨fun hseal => ?_, fun hseal hok => ?_, fun hseal hbad => ?_⟩⟩
    · exact exec_commit_fail (t := fresh s) rfl hb (by decide) nofun nofun
        (hcommit.trans (commitRudLoad_stale (s := b) rfl hw hon))
    · exact exec_commit_ok_kept rfl hb (by decide) (hcommit.trans (commitRudLoad_written (s := b) rfl h hseal)) hcmd
    · have hnext := exec_commit_ok_kept (i := .rudLoad k) (t := bankSealed n s1) rfl hb (by decide)
        (hcommit.trans (commitRudLoad_sealed (s := b) rfl h hseal rfl hok)) hcmd
      refine ⟨_, _, hnext, (rudSealed_of_rud replied_rud n).trans (rudSealed_setSealed n true),
        congrArg Rud.loaded replied_rud, (congrArg Rud.prog replied_rud).trans bankSealed_prog,
        (rudSealed_of_rud replied_rud (1 - n)).trans ?_, replied_held, rfl, rfl, rfl⟩
      exact (rudSealed_setSealed_other (fieldOf_bit_lt _ 0) true).trans (rudLoaded_other rfl)
    · obtain ⟨hrud, hheld, hquiet⟩ := genUp_unless s1 (s1.rud = b.rud)
      obtain ⟨t, q, hexec, ht, hreply⟩ := exec_commit_fail_held (i := .rudLoad k) rfl hb (by decide)
        (hcommit.trans (commitRudLoad_refused (s := b) rfl h hseal rfl hbad))
        (by rw [hheld, hcmd]; rfl) (by rw [hquiet, hcmd]; rfl)
      exact ⟨t, q, hexec, ht.trans hrud, hreply⟩
  · exact ⟨fun i v hi => rudIns_rudWrite_given hi, fun a ha h => rudIns_rudWrite_beside ha h,
      fun b' e' a he' ha h => rudIns_rudWrite_other he he' ha hlen h, by rw [rudWrite_rud], by rw [rudWrite_rud]⟩
end

section
/-! SUPPORT. `RUD_SWAP` at its commit point (R345), and the ends of a swap and of a removal scan (R340, R346). -/
namespace Sys2Proof.Machine

variable {s : State} {x : Bool} {p : List Word} {n : Nat} {c : Cmd}

/-! ## The active bank and the counters -/

/-- The state in which bank `b` is the active one (R342). -/
theorem rudBank_setField {b : Nat} (hb : b < 2) : (s.setField Reg.RUD_CTRL 1 1 b).rudBank = b := by
  unfold State.rudBank State.regField
  rw [State.reg_setField, if_pos rfl, fieldOf_withField _ _ (by decide)]
  exact Nat.mod_eq_of_lt hb

theorem rudBank_rudSwapTo {b : Nat} (hb : b < 2) : (s.rudSwapTo b).rudBank = b := rudBank_setField (s := s) hb

/-- Clearing the counters changes nothing beside the registers. -/
theorem sameButQueues_clearDrops : sameButQueues s s.clearDrops :=
  sameButQueues_foldl (fun t i => sameButQueues_setReg t (Reg.RUD_DROP i) 0) _ s

theorem rudBank_clearDrops : s.clearDrops.rudBank = s.rudBank := by
  have hreg : s.clearDrops.reg Reg.RUD_CTRL = s.reg Reg.RUD_CTRL :=
    foldl_keeps (fun t : State => t.reg Reg.RUD_CTRL) _
      (fun t i => t.reg_setReg_ne 0 (by unfold Reg.RUD_CTRL Reg.RUD_DROP; omega)) _ s
  unfold State.rudBank State.regField
  rw [hreg]

/-- The counters are cleared where the expert form asks for it (R345). -/
def dropsCleared (x : Bool) (p : List Word) (s : State) : State := if x && bitOf (p.getD 0 0) 1 then s.clearDrops else s

theorem dropsCleared_rud : (dropsCleared x p s).rud = s.rud := by
  unfold dropsCleared
  split
  · obtain ⟨_, _, _, h⟩ := sameButQueues_clearDrops (s := s)
    rw [h]
  · rfl

theorem dropsCleared_rudBank : (dropsCleared x p s).rudBank = s.rudBank := by
  unfold dropsCleared
  split
  · exact rudBank_clearDrops
  · rfl

theorem dropsCleared_withCmd : dropsCleared x p (s.withCmd c) = (dropsCleared x p s).withCmd c := by
  unfold dropsCleared
  split
  · exact List.foldl_hom (State.withCmd · c) (fun _ _ => rfl)
  · rfl

/-- The body of a swap that has taken effect, to a bank that is sealed. -/
theorem rudSwapBody_active (hbank : s.rudBank = n) (h : s.rudSealed n = true) : rudSwapBody s n = [w32 (n + 2)] := by
  unfold rudSwapBody
  rw [hbank, h]
  rfl

theorem rudSwapBody_unsealed (h : s.rudSealed n = false) : rudSwapBody s n = [w32 s.rudBank] := by
  unfold rudSwapBody
  rw [h]
  rfl

/-! ## `RUD_SWAP` at its commit point -/

theorem commitRudSwap_boot (h : s.rud.bootProg = true) : commitRudSwap x p s = (s, .fail .wrongMode) := if_pos h

section
variable (hn : fieldOf (p.getD 0 0) 0 0 = n) (hboot : s.rud.bootProg = false)
include hn hboot

theorem commitRudSwap_unsealed (h : s.rudSealed n = false) :
    commitRudSwap x p s = (s, .fail .refused 0 [w32 s.rudBank]) := by
  subst hn
  rw [← rudSwapBody_unsealed h]
  exact (if_neg (ne_true_of_eq_false hboot)).trans (if_pos (by rw [h]; rfl))

variable (hsealed : s.rudSealed n = true)
include hsealed

/-- A swap to a sealed bank turns on whether the bank is active, the Rudder runs and a swap is in progress. -/
theorem commitRudSwap_cases : commitRudSwap x p s =
    if s.rudBank = n then (s, .ok (rudSwapBody s n))
    else if !s.rudEn then
      let t := dropsCleared x p (s.setField Reg.RUD_CTRL 1 1 n)
      (t, .ok (rudSwapBody t n) true)
    else if s.rud.swapTo.isSome then (s, .start .rudSwap)
    else (dropsCleared x p (s.rudSwapTo n), .later .rudSwap [] true) := by
  subst hn
  exact (if_neg (ne_true_of_eq_false hboot)).trans (if_neg (by rw [hsealed]; decide))

theorem commitRudSwap_active (hbank : s.rudBank = n) : commitRudSwap x p s = (s, .ok [w32 (n + 2)]) := by
  rw [commitRudSwap_cases hn hboot hsealed, if_pos hbank, rudSwapBody_active hbank hsealed]

variable (hbank : s.rudBank ≠ n)
include hbank

theorem commitRudSwap_stopped (hen : s.rudEn = false) : commitRudSwap x p s
    = (dropsCleared x p (s.setField Reg.RUD_CTRL 1 1 n), .ok [w32 (n + 2)] true) := by
  have hlt : n < 2 := hn ▸ fieldOf_bit_lt _ 0
  have hbody : rudSwapBody (dropsCleared x p (s.setField Reg.RUD_CTRL 1 1 n)) n = [w32 (n + 2)] :=
    rudSwapBody_active (dropsCleared_rudBank.trans (rudBank_setField hlt))
      ((rudSealed_of_rud dropsCleared_rud n).trans hsealed)
  rw [commitRudSwap_cases hn hboot hsealed, if_neg hbank, if_pos (by rw [hen]; rfl), ← hbody]

theorem commitRudSwap_waits (hen : s.rudEn = true) (hswap : s.rud.swapTo.isSome = true) :
    commitRudSwap x p s = (s, .start .rudSwap) := by
  rw [commitRudSwap_cases hn hboot hsealed, if_neg hbank, if_neg (by rw [hen]; decide), if_pos hswap]

theorem commitRudSwap_commits (hen : s.rudEn = true) (hswap : s.rud.swapTo = none) :
    commitRudSwap x p s = (dropsCleared x p (s.rudSwapTo n), .later .rudSwap [] true) := by
  rw [commitRudSwap_cases hn hboot hsealed, if_neg hbank, if_neg (by rw [hen]; decide), if_neg (by rw [hswap]; decide)]
end

/-! ## The ends of a swap and of a scan -/

section
variable {f : Flight} {pa : Path} (hf : s.cmd.flights = [f]) (hph : f.phase = .committed) (hsrc : f.src = .path pa)
  (hr : s.cmd.restarting = false)
include hf hsrc hr

/-- An answer OK to the only command in flight makes its reply, and changes nothing beside the Command Processor. -/
theorem answer_ok_alone (body : List Word) : s.answer f .ok 0 body
    = s.withCmd { s.cmd with flights := [], held := s.cmd.held ++ [answerOf s.cmd.gen f .ok 0 body] } := by
  have hnone : [f].filter (fun g => decide (g.ord ≠ f.ord)) = [] := by simp
  rw [answer_flagged .ok 0 body hsrc hr, ← hnone, ← hf]
  rfl

include hph

theorem rudSwapDone_alone (hfin : f.fin = .rudSwap) : ∃ body, rudSwapDone s
    = (({ s with rud := { s.rud with swapTo := none } } : State).flag Reg.RUD_EVENT 0).withCmd
        { s.cmd with flights := [], held := s.cmd.held ++ [answerOf s.cmd.gen f .ok 0 body] } := by
  let t : State := ({ s with rud := { s.rud with swapTo := none } } : State).flag Reg.RUD_EVENT 0
  exact ⟨_, (finish_alone (s := t) hf hph hfin).trans (answer_ok_alone (s := t) hf hsrc hr _)⟩

theorem flowScanned_alone {m : Nat} {rest : List (Byte × Nat)} (hfin : f.fin = .flowScan) : flowScanned m rest s
    = ({ s with rud := { s.rud with scan := rest } } : State).withCmd { s.cmd with
        flights := [], held := s.cmd.held ++ [answerOf s.cmd.gen f .ok 0 (flowBody s m (decide (m ≠ 0)) false)] } := by
  let t : State := { s with rud := { s.rud with scan := rest } }
  have hfind : t.cmd.flights.find? (fun f => decide (f.phase = .committed) && decide (f.fin = .flowScan)) = some f := by
    rw [show t.cmd.flights = [f] from hf, List.find?_cons_of_pos (by simp [hph, hfin])]
  refine Eq.trans ?_ (answer_ok_alone (s := t) hf hsrc hr _)
  unfold flowScanned
  dsimp only
  rw [hfind]
  rfl
end

end Sys2Proof.Machine
end

section
/-! The statement of `RUD_SWAP`, and of the ends of a swap and of a scan. -/
open Sys2Proof Sys2Proof.Machine

/-- Settles O28: the command by the outcomes of its commit (`commitRudSwap_unsealed`, `commitRudSwap_active`,
`commitRudSwap_stopped`, `commitRudSwap_waits`, `commitRudSwap_commits`), and the ends by the answer to the only command in
flight (`rudSwapDone_alone`, `flowScanned_alone`). -/
theorem rudSwapAndScanComplete : Obligations.RudSwapAndScanComplete := by
  refine ⟨fun k s hb => ?_, fun s f p hf hph hsrc hr =>
    ⟨fun b hswap hdrained hfin => ?_, fun typ n rest hscan hfin => ?_⟩⟩
  · intro w n clear
    have hcommit : commitOp s.cmd.nextOrd 0x41 k.tag k.x k.params (begun 0x41 k s)
        = commitRudSwap k.x k.params (begun 0x41 k s) := commitOp_begun_mid hb (by decide) (by decide)
    have hlt : n < 2 := fieldOf_bit_lt _ 0
    refine ⟨fun hboot => ?_, fun hboot => ⟨fun hs => ?_, fun hs hbank hen hswap => ?_, fun hs hbank => ?_,
      fun hs hbank hen => ?_, fun hs hbank hen hswap => ⟨?_, rudBank_rudSwapTo hlt⟩⟩⟩
    · exact exec_commit_fail (t := fresh s) rfl hb (by decide) nofun nofun
        (hcommit.trans (commitRudSwap_boot (s := begun 0x41 k s) hboot))
    · exact exec_commit_fail (t := fresh s) rfl hb (by decide) nofun nofun
        (hcommit.trans (commitRudSwap_unsealed (s := begun 0x41 k s) rfl hboot hs))
    · have hwaits := hcommit.trans (commitRudSwap_waits (s := begun 0x41 k s) rfl hboot hs hbank hen hswap)
      exact (exec_dadin (op := 0x41) (k := k) rfl).trans
        (congrArg Host.Outcome.next (commit_start (s1 := begun 0x41 k s) hb (by decide) hwaits rfl))
    · exact exec_commit_ok (t := fresh s) rfl hb (by decide)
        (hcommit.trans (commitRudSwap_active (s := begun 0x41 k s) rfl hboot hs hbank))
    · let t : State := clear ((fresh s).setField Reg.RUD_CTRL 1 1 n)
      have hclear : clear ((begun 0x41 k s).setField Reg.RUD_CTRL 1 1 n) = t.withCmd (begun 0x41 k s).cmd :=
        dropsCleared_withCmd (s := (fresh s).setField Reg.RUD_CTRL 1 1 n)
      have hnext := exec_commit_ok (i := .rudSwap k) (t := t) rfl hb (by decide)
        ((hcommit.trans (commitRudSwap_stopped (s := begun 0x41 k s) rfl hboot hs hbank hen)).trans
          (congrArg (·, Res.ok [w32 (n + 2)] true) hclear))
      have hbank' : t.rudBank = n := dropsCleared_rudBank.trans (rudBank_setField hlt)
      exact ⟨_, _, hnext, (congrArg (fieldOf · 1 1) (replied_reg ..)).trans hbank', replied_rud.trans dropsCleared_rud,
        replied_held, rfl, rfl, replied_gen⟩
    · have hclear : clear ((begun 0x41 k s).rudSwapTo n) = (clear ((fresh s).rudSwapTo n)).withCmd (begun 0x41 k s).cmd :=
        dropsCleared_withCmd (s := (fresh s).rudSwapTo n)
      exact exec_commit_later rfl hb (by decide) nofun
        ((hcommit.trans (commitRudSwap_commits (s := begun 0x41 k s) rfl hboot hs hbank hen hswap)).trans
          (congrArg (·, Res.later .rudSwap [] true) hclear))
  · obtain ⟨body, hdone⟩ := rudSwapDone_alone (s := fresh s) hf hph hsrc hr hfin
    have hexec : exec .rudSwapComplete s = .next (settle (rudSwapDone (fresh s))) := by
      refine congrArg (fun t => Host.Outcome.next (settle t)) ?_
      rw [fresh_rud, hswap]
      exact if_pos hdrained
    refine ⟨_, answerOf s.cmd.gen f .ok 0 body, hexec, ?_⟩
    rw [hdone, settle_rud, settle_bit, settle_cmd]
    exact ⟨rfl, State.bit_flag_self _ _ _ (by decide), rfl, rfl, rfl, rfl⟩
  · have hexec : exec .flowScanComplete s = .next (settle (flowScanned n rest (fresh s))) := by
      refine congrArg (fun t => Host.Outcome.next (settle t)) ?_
      rw [hscan]
    refine ⟨_, answerOf s.cmd.gen f .ok 0 (flowBody (fresh s) n (decide (n ≠ 0)) false), hexec, ?_⟩
    rw [flowScanned_alone (s := fresh s) hf hph hsrc hr hfin, settle_rud, settle_regs, settle_cmd]
    exact ⟨rfl, rfl, rfl, rfl, rfl, rfl, flowBody_plain n _⟩
end

section
/-! SUPPORT. `FLOW_SET` at its commit point, and the entries that it puts and removes (R335, R346). -/
namespace Sys2Proof.Machine

variable {s : State} {x : Bool} {p : List Word} {i : Nat} {e : FlowEntry}

/-! ## Entries of the flow table -/

theorem flowPut_flows : (s.flowPut i e).rud.flows = tset s.rud.flows i e := congrArg Rud.flows (memRewritten_rud _ _)

theorem flowPut_cmd : (s.flowPut i e).cmd = s.cmd := memRewritten_cmd _ _

theorem flowDrop_rud (q : Nat → Bool) :
    (s.flowDrop q).rud = { s.rud with flows := s.rud.flows.filter fun x => !(q x.1) } := memRewritten_rud _ _

theorem flowDrop_cmd (q : Nat → Bool) : (s.flowDrop q).cmd = s.cmd := memRewritten_cmd _ _

theorem flowDrop_dropped {q : Nat → Bool} (h : q i = true) : tget (s.flowDrop q).rud.flows i = none := by
  rw [flowDrop_rud]
  exact tget_filter_dropped _ (fun j => !(q j)) (by simp [h])

theorem flowDrop_kept {q : Nat → Bool} (h : q i = false) : tget (s.flowDrop q).rud.flows i = tget s.rud.flows i := by
  rw [flowDrop_rud]
  exact tget_filter_key _ (fun j => !(q j)) (by simp [h])

/-- The indices of the entries of a type. -/
def flowKeys (typ : Byte) (s : State) : List Nat := tkeys s.rud.flows fun f => decide (f.typ = typ)

theorem mem_flowKeys {typ : Byte} (h : (i, e) ∈ s.rud.flows) (ht : e.typ = typ) : i ∈ flowKeys typ s :=
  List.mem_map.mpr ⟨(i, e), List.mem_filter.mpr ⟨h, decide_eq_true ht⟩, rfl⟩

/-- No entry of a type stands once all of them are removed. -/
theorem flowDrop_flowKeys {typ : Byte} (h : tget (s.flowDrop fun j => has (flowKeys typ s) j).rud.flows i = some e) :
    e.typ ≠ typ := by
  intro ht
  rw [flowDrop_rud] at h
  obtain ⟨hmem, hkept⟩ := List.mem_filter.mp (mem_of_tget h)
  have hgone : has (flowKeys typ s) i = true := (has_iff _ _).mpr (mem_flowKeys hmem ht)
  simp [hgone] at hkept

/-! ## `FLOW_SET` at its commit point -/

section
variable {noReplace : Bool} {old : FlowEntry}

theorem flowAdd_refused (hfind : s.flowFind e.typ e.key = some (i, old)) :
    flowAdd e true s = (s, .fail .refused 0 (flowBody s i true false)) := by
  unfold flowAdd
  rw [hfind]
  rfl

theorem flowAdd_replaces (hfind : s.flowFind e.typ e.key = some (i, old)) : flowAdd e false s
    = (s.flowPut i e, .ok (flowBody (s.flowPut i e) i true false) (decide (old ≠ e))) := by
  unfold flowAdd
  rw [hfind]
  rfl

variable (hnone : s.flowFind e.typ e.key = none)
include hnone

theorem flowAdd_inserts (hfree : (flowSlots e.typ e.key).find? (fun i => !(thas s.rud.flows i)) = some i) :
    flowAdd e noReplace s = (s.flowPut i e, .ok (flowBody (s.flowPut i e) i false true) true) := by
  unfold flowAdd
  rw [hnone]
  dsimp only
  rw [hfree]

theorem flowAdd_full (hfull : ∀ i ∈ flowSlots e.typ e.key, thas s.rud.flows i = true) :
    flowAdd e noReplace s = (s, .fail .noResource 2) := by
  have hfree : (flowSlots e.typ e.key).find? (fun i => !(thas s.rud.flows i)) = none :=
    List.find?_eq_none.mpr fun i hi => by simp [hfull i hi]
  unfold flowAdd
  rw [hnone]
  dsimp only
  rw [hfree]
end

/-- The type, the key and the entry that `FLOW_SET` names. -/
def flowTyp (p : List Word) : Byte := BitVec.ofNat 8 (fieldOf (p.getD 0 0) 7 0)
def flowKey (p : List Word) : BitVec 128 := BitVec.ofNat 128 (leNat (wordBytes ((p.drop 1).take 4)))
def flowGiven (p : List Word) : FlowEntry := {
  key := flowKey p, typ := flowTyp p, action := BitVec.ofNat 2 (fieldOf (p.getD 0 0) 11 10)
  cls := BitVec.ofNat 2 (fieldOf (p.getD 0 0) 13 12), target := BitVec.ofNat 9 (fieldOf (p.getD 0 0) 24 16)
  user := BitVec.ofNat 8 (fieldOf (p.getD 5 0) 7 0), dropCtr := BitVec.ofNat 4 (fieldOf (p.getD 5 0) 11 8) }

theorem commitFlowSet_adds (h : fieldOf (p.getD 0 0) 9 8 = 0) :
    commitFlowSet x p s = flowAdd (flowGiven p) (x && bitOf (p.getD 6 0) 0) s := by
  unfold commitFlowSet
  dsimp only
  rw [h]
  rfl

section
variable (h : fieldOf (p.getD 0 0) 9 8 = 1)
include h

theorem commitFlowSet_absent (hnone : s.flowFind (flowTyp p) (flowKey p) = none) :
    commitFlowSet x p s = (s, .ok (flowBody s 0 false false)) := by
  unfold flowTyp flowKey at hnone
  unfold commitFlowSet
  dsimp only
  rw [h, hnone]
  rfl

theorem commitFlowSet_removes {old : FlowEntry} (hfind : s.flowFind (flowTyp p) (flowKey p) = some (i, old)) :
    commitFlowSet x p s = (s.flowDrop fun j => decide (j = i),
      .ok (flowBody (s.flowDrop fun j => decide (j = i)) i true false) true) := by
  unfold flowTyp flowKey at hfind
  unfold commitFlowSet
  dsimp only
  rw [h, hfind]
  rfl
end

/-- The state in which every entry of a type is removed, and its scan is in progress. -/
def flowSwept (typ : Byte) (s : State) : State :=
  let t := s.flowDrop fun j => has (flowKeys typ s) j
  { t with rud := { t.rud with scan := t.rud.scan ++ [(typ, (flowKeys typ s).length)] } }

theorem commitFlowSet_sweeps (h : fieldOf (p.getD 0 0) 9 8 = 2) : commitFlowSet x p s
    = (flowSwept (flowTyp p) s, .later .flowScan [] (decide (flowKeys (flowTyp p) s ≠ []))) := by
  unfold commitFlowSet
  dsimp only
  rw [h]
  rfl

theorem flowSwept_rud (typ : Byte) : (flowSwept typ s).rud = { s.rud with
    flows := (s.flowDrop fun j => has (flowKeys typ s) j).rud.flows
    scan := s.rud.scan ++ [(typ, (flowKeys typ s).length)] } := by
  unfold flowSwept
  dsimp only
  rw [flowDrop_rud]

theorem flowSwept_cmd (typ : Byte) : (flowSwept typ s).cmd = s.cmd := flowDrop_cmd _

end Sys2Proof.Machine
end

section
/-! The statement of `FLOW_SET`. -/
open Sys2Proof Sys2Proof.Machine

/-- Settles O29: OP 0 by what it finds (`flowAdd_refused`, `flowAdd_replaces`, `flowAdd_inserts`, `flowAdd_full`), OP 1 by the
same (`commitFlowSet_absent`, `commitFlowSet_removes`), and OP 2 by what it leaves (`flowDrop_flowKeys`). -/
theorem flowSetCompletes : Obligations.FlowSetCompletes := by
  intro k s hb b w v typ key e noReplace n
  have hcommit : commitOp s.cmd.nextOrd 0x42 k.tag k.x k.params b = commitFlowSet k.x k.params b :=
    commitOp_begun_mid hb (by decide) (by decide)
  have hok : ∀ {t : State} {body : List Word} {g : Bool}, commitFlowSet k.x k.params b = (t, .ok body g) → t.cmd = b.cmd →
      exec (.flowSet k) s = .next (replied 0x42 k .ok 0 body g s t) := fun h ht =>
    exec_commit_ok_kept rfl hb (by decide) (hcommit.trans h) ht
  refine ⟨fun hop => ?_, fun hop => ?_, fun hop => ?_⟩
  · have hadd : commitFlowSet k.x k.params b = flowAdd e noReplace b := commitFlowSet_adds hop
    refine ⟨fun i old hfind => ⟨fun hno => ?_, fun hno => ?_⟩,
      fun hnone => ⟨fun i hfree => ⟨?_, ?_, fun j hj => ?_⟩, fun hfull => ?_⟩⟩
    · rw [hno] at hadd
      exact exec_commit_fail (t := fresh s) rfl hb (by decide) nofun nofun
        (hcommit.trans (hadd.trans (flowAdd_refused (s := b) hfind)))
    · rw [hno] at hadd
      exact hok (hadd.trans (flowAdd_replaces (s := b) hfind)) flowPut_cmd
    · exact hok (hadd.trans (flowAdd_inserts (s := b) hnone hfree)) flowPut_cmd
    · rw [flowPut_flows]
      exact tget_tset_self _ i e
    · rw [flowPut_flows]
      exact tget_tset_ne _ e hj
    · exact exec_commit_fail (t := fresh s) rfl hb (by decide) nofun nofun
        (hcommit.trans (hadd.trans (flowAdd_full (s := b) hnone hfull)))
  · refine ⟨fun hnone => ?_, fun i old hfind => ?_⟩
    · have habsent : commitFlowSet k.x k.params b = (b, .ok [w32 (2 ^ 16 * n)]) :=
        (commitFlowSet_absent (s := b) hop hnone).trans (congrArg (b, Res.ok ·) flowBody_absent)
      exact exec_commit_ok (t := fresh s) rfl hb (by decide) (hcommit.trans habsent)
    · exact ⟨hok (commitFlowSet_removes (s := b) hop hfind) (flowDrop_cmd _), flowDrop_dropped (decide_eq_true rfl),
        fun j hj => flowDrop_kept (decide_eq_false hj)⟩
  · have hnext := commit_later hb (by decide) (hcommit.trans (commitFlowSet_sweeps hop)) (flowSwept_cmd _) nofun
    refine ⟨_, (exec_dadin (op := 0x42) (k := k) rfl).trans (congrArg Host.Outcome.next hnext), ?_⟩
    rw [inFlight_rud, inFlight_flights, flowSwept_rud]
    exact ⟨fun i f => flowDrop_flowKeys (s := b), rfl, rfl, rfl⟩
end

section
/-! SUPPORT. Tables whose entries are changed or left out where they stand, and what an evaluation of the Start List makes of
its entries (R378). -/
namespace Sys2Proof.Machine

/-! ## Tables -/

section
variable {α : Type} {t : Table α} {k : Nat} {v : α}

theorem tmod_tmod_self (t : Table α) (k : Nat) (f g : α → α) : tmod (tmod t k f) k g = tmod t k fun v => g (f v) := by
  unfold tmod
  rw [List.map_map]
  refine List.map_congr_left fun e _ => ?_
  by_cases h : e.1 = k <;> simp [h]

/-- A listed key reads as some entry. -/
theorem exists_tget_of_mem (h : (k, v) ∈ t) : ∃ u, tget t k = some u := by
  induction t with
  | nil => exact absurd h List.not_mem_nil
  | cons e t ih =>
    obtain ⟨a, w⟩ := e
    by_cases ha : a = k
    · exact ⟨w, by simp [tget, ha]⟩
    · have hmem : (k, v) ∈ t := (List.mem_cons.mp h).resolve_left fun heq => ha (congrArg Prod.fst heq).symm
      obtain ⟨u, hu⟩ := ih hmem
      exact ⟨u, by simpa [tget, ha] using hu⟩

theorem pairwise_of_trising (h : trising t = true) : t.Pairwise fun a b => a.1 < b.1 := by
  induction t with
  | nil => exact List.Pairwise.nil
  | cons e t ih =>
    cases t with
    | nil => exact List.pairwise_singleton _ _
    | cons d t =>
      simp only [trising, Bool.and_eq_true, decide_eq_true_eq] at h
      obtain ⟨hed, htail⟩ := h
      have hrest := ih htail
      refine List.pairwise_cons.mpr ⟨fun b hb => ?_, hrest⟩
      rcases List.mem_cons.mp hb with rfl | hb
      · exact hed
      · exact hed.trans ((List.pairwise_cons.mp hrest).1 b hb)

/-- With rising keys, every listed entry is the one that its key reads as. -/
theorem tget_of_mem (h : trising t = true) (hm : (k, v) ∈ t) : tget t k = some v := by
  have hp := pairwise_of_trising h
  clear h
  induction t with
  | nil => exact absurd hm List.not_mem_nil
  | cons e t ih =>
    obtain ⟨hlt, htail⟩ := List.pairwise_cons.mp hp
    rcases List.mem_cons.mp hm with rfl | hm
    · simp [tget]
    · have hne : e.1 ≠ k := (hlt _ hm).ne
      simpa [tget, hne] using ih hm htail

/-- A key none of whose entries a filter drops. -/
theorem tget_filter_kept {p : Nat × α → Bool} (t : Table α) (h : ∀ v, p (k, v) = true) :
    tget (t.filter p) k = tget t k := by
  induction t with
  | nil => rfl
  | cons e t ih =>
    obtain ⟨a, w⟩ := e
    by_cases ha : a = k
    · subst ha
      simp [h w, tget]
    · cases hp : p (a, w) <;> simp [hp, tget, ha, ih]

/-- The entries whose keys `c` holds of, changed by `f`. -/
theorem tget_map_where (c : Nat → Bool) (f : α → α) (t : Table α) (k : Nat) :
    tget (t.map fun e => if c e.1 then (e.1, f e.2) else e) k = if c k then (tget t k).map f else tget t k := by
  induction t with
  | nil => simp [tget]
  | cons e t ih =>
    obtain ⟨a, w⟩ := e
    by_cases ha : a = k
    · subst ha
      cases hc : c a <;> simp [hc, tget]
    · cases hc : c a <;> simp [hc, tget, ha, ih]

end

/-! ## The evaluation of entries (R378) -/

section
variable {s : State} {i : Nat} {e : SlEntry}

/-- Everything but the contents of the registers and of the Start List is as it was. -/
def sameButEntries (s t : State) : Prop :=
  ∃ r m l, t = { s with regs := r, misparity := m, ntu := { s.ntu with list := l } }

theorem sameButEntries.refl (s : State) : sameButEntries s s := ⟨s.regs, s.misparity, s.ntu.list, rfl⟩

theorem sameButEntries.trans {s t u : State} (h : sameButEntries s t) (h' : sameButEntries t u) : sameButEntries s u := by
  obtain ⟨_, _, _, rfl⟩ := h
  obtain ⟨_, _, _, rfl⟩ := h'
  exact ⟨_, _, _, rfl⟩

theorem sameButEntries.cmd_eq {s t : State} (h : sameButEntries s t) : t.cmd = s.cmd := by
  obtain ⟨_, _, _, rfl⟩ := h
  rfl

theorem sameButEntries.ntu_eq {s t : State} (h : sameButEntries s t) : t.ntu = { s.ntu with list := t.ntu.list } := by
  obtain ⟨_, _, _, rfl⟩ := h
  rfl

theorem sameButEntries_slDone (s : State) (i : Nat) (st : SlState) (status : Nat) :
    sameButEntries s (s.slDone i st status) := by
  obtain ⟨r, m, h⟩ := s.slDone_eq i st status
  exact ⟨r, m, _, h⟩

/-- An entry that is not ARMED stays as it is. -/
theorem slEvaluateOne_idle (h : ∀ e, tget s.ntu.list i = some e → e.state ≠ .armed) : slEvaluateOne s i = s := by
  unfold slEvaluateOne
  cases he : tget s.ntu.list i with
  | none => rfl
  | some e => exact if_pos (h e he)

/-- The record of an ARMED entry whose TIME has passed. -/
def State.slPassed (s : State) (e x : SlEntry) : SlEntry :=
  { x with lateness := s.lateness e, isLate := s.beyondWin (s.lateness e), due := true }

section
variable (he : tget s.ntu.list i = some e) (ha : e.state = .armed)
include he ha

/-- An ARMED entry whose TIME lies in the future waits. -/
theorem slEvaluateOne_future (hl : s.lateness e < 0) :
    slEvaluateOne s i = s.onEntry i fun x => { x with isLate := false, due := false } := by
  unfold slEvaluateOne
  rw [he]
  dsimp only
  rw [if_neg (not_not_intro ha), if_pos hl]
  rfl

/-- One whose TIME has passed is due, or dropped where it is too late and asks so. -/
theorem slEvaluateOne_passed (hl : 0 ≤ s.lateness e) : slEvaluateOne s i
    = if s.beyondWin (s.lateness e) && e.lateDrop then (s.onEntry i (s.slPassed e)).slDone i .dropped 0
      else s.onEntry i (s.slPassed e) := by
  unfold slEvaluateOne
  rw [he]
  dsimp only
  rw [if_neg (not_not_intro ha), if_neg hl.not_gt]
  rfl
end

/-- An evaluation changes entry `i` or nothing, and may drop the entry. -/
theorem slEvaluateOne_cases (s : State) (i : Nat) : slEvaluateOne s i = s
    ∨ ∃ f, slEvaluateOne s i = s.onEntry i f ∨ slEvaluateOne s i = (s.onEntry i f).slDone i .dropped 0 := by
  by_cases h : ∃ e, tget s.ntu.list i = some e ∧ e.state = .armed
  · obtain ⟨e, he, ha⟩ := h
    rcases lt_or_ge (s.lateness e) 0 with hl | hl
    · exact .inr ⟨_, .inl (slEvaluateOne_future he ha hl)⟩
    · refine .inr ⟨s.slPassed e, ?_⟩
      rw [slEvaluateOne_passed he ha hl]
      split
      · exact .inr rfl
      · exact .inl rfl
  · exact .inl (slEvaluateOne_idle fun e he ha => h ⟨e, he, ha⟩)

theorem sameButEntries_slEvaluateOne (s : State) (i : Nat) : sameButEntries s (slEvaluateOne s i) := by
  have hentry (f : SlEntry → SlEntry) : sameButEntries s (s.onEntry i f) := ⟨_, _, _, rfl⟩
  rcases slEvaluateOne_cases s i with h | ⟨f, h | h⟩ <;> rw [h]
  · exact .refl s
  · exact hentry f
  · exact (hentry f).trans (sameButEntries_slDone ..)

theorem tget_slEvaluateOne_ne (s : State) {j : Nat} (h : j ≠ i) :
    tget (slEvaluateOne s i).ntu.list j = tget s.ntu.list j := by
  have hentry (t : State) (f : SlEntry → SlEntry) : tget (t.onEntry i f).ntu.list j = tget t.ntu.list j :=
    (tget_tmod ..).trans (if_neg h)
  rcases slEvaluateOne_cases s i with hi | ⟨f, hi | hi⟩ <;> rw [hi]
  · exact hentry s f
  · rw [State.slDone_ntu]
    exact (hentry (s.onEntry i f) _).trans (hentry s f)

/-- An ARMED entry that is evaluated keeps its content; it is dropped just where it is too late and asks so, and else it stays
ARMED. -/
theorem slEvaluateOne_armed (he : tget s.ntu.list i = some e) (ha : e.state = .armed) :
    ∃ x, tget (slEvaluateOne s i).ntu.list i = some x ∧ x.content = e.content ∧ (x.state = .armed ∨ x.state = .dropped)
      ∧ (x.state = .dropped ↔ 0 ≤ s.lateness e ∧ s.beyondWin (s.lateness e) = true ∧ e.lateDrop = true) := by
  have hmod (f : SlEntry → SlEntry) : tget (s.onEntry i f).ntu.list i = some (f e) := by
    rw [State.onEntry, tget_tmod_self, he]
    rfl
  have hstays {x : SlEntry} (hx : x.state = .armed) : x.state ≠ .dropped := by simp [hx]
  rcases lt_or_ge (s.lateness e) 0 with hl | hl
  · rw [slEvaluateOne_future he ha hl]
    exact ⟨_, hmod _, rfl, .inl ha, fun h => absurd h (hstays ha), fun h => absurd h.1 hl.not_ge⟩
  · rw [slEvaluateOne_passed he ha hl]
    split
    · next hdrop =>
      have hboth : s.beyondWin (s.lateness e) = true ∧ e.lateDrop = true := by simpa using hdrop
      refine ⟨{ s.slPassed e e with state := .dropped, status := 0 }, ?_, rfl, .inr rfl,
        fun _ => ⟨hl, hboth⟩, fun _ => rfl⟩
      rw [State.slDone_ntu, tget_tmod_self, hmod]
      rfl
    · next hkeep =>
      refine ⟨_, hmod _, rfl, .inl ha, fun h => absurd h (hstays ha), fun h => absurd ?_ hkeep⟩
      obtain ⟨_, hlate, hdrop⟩ := h
      rw [hlate, hdrop]
      rfl

/-! ### Many entries -/

theorem sameButEntries_slEvaluate (p : Nat → Bool) (s : State) : sameButEntries s (slEvaluate p s) :=
  List.foldlRecOn (motive := sameButEntries s) _ _ (.refl s) fun t ht i _ => ht.trans (sameButEntries_slEvaluateOne t i)

theorem tget_slEvaluate_unnamed {p : Nat → Bool} {j : Nat} (h : p j = false) (s : State) :
    tget (slEvaluate p s).ntu.list j = tget s.ntu.list j :=
  List.foldlRecOn (motive := fun t : State => tget t.ntu.list j = tget s.ntu.list j) _ _ rfl fun t ht i hi => by
    have hp : p i = true := (List.mem_filter.mp hi).2
    have hne : j ≠ i := fun hji => by simp [hji, hp] at h
    exact (tget_slEvaluateOne_ne t hne).trans ht

/-- An ARMED entry, however often it is evaluated, keeps its content, and is ARMED or was dropped as it asks. -/
theorem tget_slEvaluate_armed (p : Nat → Bool) (he : tget s.ntu.list i = some e) (ha : e.state = .armed) :
    ∃ x, tget (slEvaluate p s).ntu.list i = some x ∧ x.content = e.content
      ∧ (x.state = .armed ∨ (x.state = .dropped ∧ e.lateDrop = true)) :=
  List.foldlRecOn (motive := fun t : State => ∃ x, tget t.ntu.list i = some x ∧ x.content = e.content
      ∧ (x.state = .armed ∨ (x.state = .dropped ∧ e.lateDrop = true))) _ _ ⟨e, he, rfl, .inl ha⟩ fun t ht j _ => by
    obtain ⟨x, hx, hcontent, hstate⟩ := ht
    have hdrop : x.content.lateDrop = e.content.lateDrop := congrArg SlEntry.lateDrop hcontent
    by_cases hji : i = j
    · subst hji
      rcases hstate with harmed | ⟨hdropped, hasks⟩
      · obtain ⟨y, hy, hycontent, hystate, hydropped⟩ := slEvaluateOne_armed hx harmed
        refine ⟨y, hy, hycontent.trans hcontent, hystate.imp_right fun h => ⟨h, ?_⟩⟩
        exact hdrop.symm.trans (hydropped.mp h).2.2
      · have hidle : slEvaluateOne t i = t := slEvaluateOne_idle fun y hy => by
          obtain rfl : x = y := Option.some.inj (hx.symm.trans hy)
          simp [hdropped]
        exact ⟨x, by rw [hidle, hx], hcontent, .inr ⟨hdropped, hasks⟩⟩
    · exact ⟨x, (tget_slEvaluateOne_ne t hji).trans hx, hcontent, hstate⟩
end

end Sys2Proof.Machine
end

section
/-! SUPPORT. `STARTLIST_LOAD` at its commit point (R375, R385). -/
namespace Sys2Proof.Machine

variable {s : State} {x : Bool} {p : List Word} {op : Nat} {k : Pkt}

/-! ## What a command that has answered leaves -/

theorem replied_ntu {st : Status} {word : Nat} {body : List Word} {g : Bool} {t : State} :
    (replied op k st word body g s t).ntu = t.ntu := settle_ntu _

/-- The entry that `STARTLIST_LOAD` names is ARMED or HANDED. -/
def slBusy (p : List Word) (s : State) : Bool :=
  match tget s.ntu.list (fieldOf (p.getD 0 0) 9 0) with
  | some o => o.state = .armed || o.state = .handed
  | none => false

/-- The words of the pool that the entry's old packet gives back. -/
def slFreed (p : List Word) (s : State) : Nat :=
  match tget s.ntu.list (fieldOf (p.getD 0 0) 9 0) with
  | some o => o.packet.length
  | none => 0

/-- ARM and LATE_OK, which the expert form alone carries. -/
def slArms (x : Bool) (p : List Word) : Bool := x && bitOf (p.getD 4 0) 0
def slLateOk (x : Bool) (p : List Word) : Bool := x && bitOf (p.getD 4 0) 1

/-- The entry is put as it is given, or ARMED and evaluated. -/
def slLoaded (x : Bool) (p : List Word) (s : State) : State :=
  let s1 := s.slPut (fieldOf (p.getD 0 0) 9 0) (if slArms x p then { slEntryOf x p with state := .armed } else slEntryOf x p)
  if slArms x p then slEvaluateOne s1 (fieldOf (p.getD 0 0) 9 0) else s1

theorem slLoaded_armed (h : slArms x p = true) : slLoaded x p s
    = slEvaluateOne (s.slPut (fieldOf (p.getD 0 0) 9 0) { slEntryOf x p with state := .armed }) (fieldOf (p.getD 0 0) 9 0) := by
  simp [slLoaded, h]

theorem slLoaded_unarmed (h : slArms x p = false) :
    slLoaded x p s = s.slPut (fieldOf (p.getD 0 0) 9 0) (slEntryOf x p) := by
  simp [slLoaded, h]

theorem commitStartlistLoad_busy (h : slBusy p s = true) : commitStartlistLoad x p s = (s, .fail .staleWrite 1) := if_pos h

section
variable (hbusy : slBusy p s = false)
include hbusy

theorem commitStartlistLoad_full (h : 16384 < s.slPool - slFreed p s + (slEntryOf x p).packet.length) :
    commitStartlistLoad x p s = (s, .fail .noResource (if x then 6 else 5)) :=
  (if_neg (ne_true_of_eq_false hbusy)).trans (if_pos h)

variable (hroom : s.slPool - slFreed p s + (slEntryOf x p).packet.length ≤ 16384)
include hroom

theorem commitStartlistLoad_refused (ha : slArms x p = true) (hv : s.ntu.valid = false) :
    commitStartlistLoad x p s = (s, .fail .refused) := by
  have hrefuses : (slArms x p && !s.ntu.valid) = true := by simp [ha, hv]
  exact (if_neg (ne_true_of_eq_false hbusy)).trans <| (if_neg hroom.not_gt).trans (if_pos hrefuses)

theorem commitStartlistLoad_late (ha : slArms x p = true) (hv : s.ntu.valid = true) (hok : slLateOk x p = false)
    (hl : s.beyondWin (s.lateness (slEntryOf x p)) = true) : commitStartlistLoad x p s = (s, .fail .late) := by
  have hpasses : ¬(slArms x p && !s.ntu.valid) = true := by simp [hv]
  have hlate : (slArms x p && !slLateOk x p && s.beyondWin (s.lateness (slEntryOf x p))) = true := by simp [ha, hok, hl]
  exact (if_neg (ne_true_of_eq_false hbusy)).trans <| (if_neg hroom.not_gt).trans <| (if_neg hpasses).trans (if_pos hlate)

theorem commitStartlistLoad_done (h : slArms x p = false ∨ (s.ntu.valid = true
      ∧ (slLateOk x p = true ∨ s.beyondWin (s.lateness (slEntryOf x p)) = false))) :
    ∃ body g, commitStartlistLoad x p s = (slLoaded x p s, .ok body g) := by
  have hpasses : ¬(slArms x p && !s.ntu.valid) = true := by
    rcases h with h | ⟨h, _⟩ <;> simp [h]
  have htimely : ¬(slArms x p && !slLateOk x p && s.beyondWin (s.lateness (slEntryOf x p))) = true := by
    rcases h with h | ⟨_, h | h⟩ <;> simp [h]
  exact ⟨_, _, (if_neg (ne_true_of_eq_false hbusy)).trans <| (if_neg hroom.not_gt).trans <| (if_neg hpasses).trans
    (if_neg htimely)⟩
end

/-! ## The entry that it leaves -/

/-- An entry that is put changes the list, and what the Umpire holds of its memory. -/
theorem slPut_eq (s : State) (i : Nat) (e : SlEntry) :
    ∃ u, s.slPut i e = { s with ntu := { s.ntu with list := tset s.ntu.list i e }, ump := u } :=
  memRewritten_eq _ _ _

theorem tget_slPut_self (s : State) (i : Nat) (e : SlEntry) : tget (s.slPut i e).ntu.list i = some e := by
  obtain ⟨u, h⟩ := slPut_eq s i e
  rw [h]
  exact tget_tset_self ..

/-- What STARTLIST_LOAD leaves beside entry `i`. -/
def loadKeeps (i : Nat) (s t : State) : Prop :=
  t.cmd = s.cmd ∧ (∀ j, j ≠ i → tget t.ntu.list j = tget s.ntu.list j) ∧ t.ntu.nt40 = s.ntu.nt40
    ∧ t.ntu.evtOut = s.ntu.evtOut

theorem loadKeeps_slPut (s : State) (i : Nat) (e : SlEntry) : loadKeeps i s (s.slPut i e) := by
  obtain ⟨u, h⟩ := slPut_eq s i e
  rw [h]
  exact ⟨rfl, fun j hj => tget_tset_ne _ _ hj, rfl, rfl⟩

theorem loadKeeps_slEvaluateOne {i : Nat} {t : State} (h : loadKeeps i s t) : loadKeeps i s (slEvaluateOne t i) := by
  obtain ⟨hcmd, hlist, hnt, hout⟩ := h
  have hsame := sameButEntries_slEvaluateOne t i
  refine ⟨hsame.cmd_eq.trans hcmd, fun j hj => (tget_slEvaluateOne_ne t hj).trans (hlist j hj), ?_, ?_⟩
  · rw [hsame.ntu_eq]
    exact hnt
  · rw [hsame.ntu_eq]
    exact hout

/-- An entry that is put ARMED and evaluated is dropped just where it is too late and asks so. -/
theorem slPut_evaluated (s : State) (i : Nat) {e : SlEntry} (hfresh : e.content = e) :
    ∃ y, tget (slEvaluateOne (s.slPut i { e with state := .armed }) i).ntu.list i = some y ∧ y.content = e
      ∧ (y.state = .armed ∨ y.state = .dropped)
      ∧ (y.state = .dropped ↔ 0 ≤ s.lateness e ∧ s.beyondWin (s.lateness e) = true ∧ e.lateDrop = true) := by
  obtain ⟨y, hy, hcontent, hstate, hdropped⟩ := slEvaluateOne_armed (tget_slPut_self s i { e with state := .armed }) rfl
  refine ⟨y, hy, hcontent.trans hfresh, hstate, ?_⟩
  obtain ⟨u, h⟩ := slPut_eq s i { e with state := .armed }
  rw [h] at hdropped
  exact hdropped

end Sys2Proof.Machine
end

section
/-! The statement of `STARTLIST_LOAD`. -/
open Sys2Proof Sys2Proof.Machine

/-- Settles O22: the failures by `commitStartlistLoad_busy`, `_full`, `_refused` and `_late`; else the entry that is put stays
LOADED, or is what its evaluation makes of it (`slPut_evaluated`). -/
theorem startlistLoadCompletes : Obligations.StartlistLoadCompletes := by
  intro k s hb i e arm lateOk held busy
  have hfail {st : Status} {word : Nat}
      (h : commitStartlistLoad k.x k.params (begun 0x3B k s) = (begun 0x3B k s, .fail st word))
      (h1 : st ≠ .lost) (h2 : st ≠ .aborted) :
      exec (.startlistLoad k) s = .next (replied 0x3B k st word [] false s (fresh s)) :=
    exec_commit_fail (t := fresh s) rfl hb (by decide) h1 h2 ((commitOp_begun_mid hb (by decide) (by decide)).trans h)
  have hbusy : busy ↔ slBusy k.params s = true := by
    unfold busy slBusy
    cases tget s.ntu.list i with
    | none => simp
    | some o => simp
  have hnotBusy (hn : ¬busy) : slBusy k.params (begun 0x3B k s) = false := eq_false_of_ne_true fun h => hn (hbusy.mpr h)
  refine ⟨fun h => ?_, fun hn hfull => ?_, fun hn hroom => ⟨fun ha hv => ?_, fun ha hv hok hl => ?_, fun h => ?_⟩⟩
  · exact hfail (commitStartlistLoad_busy (hbusy.mp h)) nofun nofun
  · exact hfail (commitStartlistLoad_full (hnotBusy hn) hfull) nofun nofun
  · exact hfail (commitStartlistLoad_refused (hnotBusy hn) hroom ha hv) nofun nofun
  · exact hfail (commitStartlistLoad_late (hnotBusy hn) hroom ha hv hok hl) nofun nofun
  · obtain ⟨body, g, hdone⟩ := commitStartlistLoad_done (s := begun 0x3B k s) (hnotBusy hn) hroom h
    have hcommit := (commitOp_begun_mid hb (by decide) (by decide)).trans hdone
    have hput := loadKeeps_slPut (begun 0x3B k s) i
    cases harm : slArms k.x k.params with
    | true =>
      rw [slLoaded_armed harm] at hcommit
      obtain ⟨hcmd, hkeeps⟩ := loadKeeps_slEvaluateOne (hput { e with state := .armed })
      obtain ⟨y, hy, hcontent, hstate⟩ := slPut_evaluated (begun 0x3B k s) i (e := e) rfl
      refine ⟨_, _, y, exec_commit_ok_kept rfl hb (by decide) hcommit hcmd, replied_held, rfl, rfl, ?_⟩
      rw [replied_ntu]
      exact ⟨hy, hcontent, fun ha => absurd harm (ne_true_of_eq_false ha), fun _ => hstate, hkeeps⟩
    | false =>
      rw [slLoaded_unarmed harm] at hcommit
      obtain ⟨hcmd, hkeeps⟩ := hput e
      refine ⟨_, _, e, exec_commit_ok_kept rfl hb (by decide) hcommit hcmd, replied_held, rfl, rfl, ?_⟩
      rw [replied_ntu]
      exact ⟨tget_slPut_self .., rfl, fun _ => rfl, fun ha => absurd ha (ne_true_of_eq_false harm), hkeeps⟩
end

section
/-! SUPPORT. `STARTLIST_ARM` and `STARTLIST_CANCEL` at their commit points (R378, R386, R387). -/
namespace Sys2Proof.Machine

variable {s : State} {x : Bool} {p : List Word} {w : Word} {i : Nat} {e : SlEntry}

/-! ## `STARTLIST_ARM` -/

/-- The LOADED entries of a range. -/
def slToArm (w : Word) (s : State) : Table SlEntry :=
  s.ntu.list.filter fun e => slInRange w e.1 && decide (e.2.state = .loaded)

/-- Their indices, as `STARTLIST_ARM` goes by them. -/
def slArming (w : Word) (s : State) (i : Nat) : Bool := has ((slToArm w s).map Prod.fst) i

/-- One of them is later than LATE_WIN. -/
def slSomeLate (w : Word) (s : State) : Bool := ((slToArm w s).map Prod.fst).any fun i =>
  match tget s.ntu.list i with | some e => s.beyondWin (s.lateness e) | none => false

/-- An entry that is armed anew. -/
def SlEntry.rearmed (e : SlEntry) : SlEntry := { e with state := .armed, due := false }

/-- The Start List with the LOADED entries of the range ARMED, before their evaluation. -/
def slRangeArmed (w : Word) (s : State) : State := { s with ntu := { s.ntu with
  list := s.ntu.list.map fun e => if slArming w s e.1 then (e.1, e.2.rearmed) else e } }

theorem slArming_iff : slArming w s i = true ↔ ∃ e ∈ slToArm w s, e.1 = i := by
  rw [slArming, has_iff, List.mem_map]

theorem tget_of_slToArm (hr : trising s.ntu.list = true) {e : Nat × SlEntry} (he : e ∈ slToArm w s) :
    tget s.ntu.list e.1 = some e.2 := tget_of_mem hr (List.mem_filter.mp he).1

theorem slSomeLate_iff (hr : trising s.ntu.list = true) :
    slSomeLate w s = true ↔ ∃ e ∈ slToArm w s, s.beyondWin (s.lateness e.2) = true := by
  unfold slSomeLate
  rw [List.any_map, List.any_eq_true]
  refine exists_congr fun e => and_congr_right fun he => ?_
  simp only [Function.comp_apply, tget_of_slToArm hr he]

theorem commitStartlistArm_refused (hv : s.ntu.valid = false) : commitStartlistArm x p s = (s, .fail .refused) :=
  if_pos (by simp [hv])

section
variable (hv : s.ntu.valid = true)
include hv

theorem commitStartlistArm_late (hx : (x && bitOf (p.getD 0 0) 21) = false) (hl : slSomeLate (p.getD 0 0) s = true) :
    commitStartlistArm x p s = (s, .fail .late) := by
  have hlate : (!(x && bitOf (p.getD 0 0) 21) && slSomeLate (p.getD 0 0) s) = true := by rw [hx, hl]; rfl
  exact (if_neg (by simp [hv])).trans (if_pos hlate)

theorem commitStartlistArm_done (h : (x && bitOf (p.getD 0 0) 21) = true ∨ slSomeLate (p.getD 0 0) s = false) :
    commitStartlistArm x p s = (slEvaluate (slArming (p.getD 0 0) s) (slRangeArmed (p.getD 0 0) s),
      .ok [w32 ((slToArm (p.getD 0 0) s).length
        + 2 ^ 11 * (fieldOf (p.getD 0 0) 20 10 - (slToArm (p.getD 0 0) s).length))]) := by
  have htimely : ¬(!(x && bitOf (p.getD 0 0) 21) && slSomeLate (p.getD 0 0) s) = true := by
    rcases h with h | h
    · rw [h]; exact Bool.false_ne_true
    · rw [h, Bool.and_false]; exact Bool.false_ne_true
  have hcount : ((slToArm (p.getD 0 0) s).map Prod.fst).length = (slToArm (p.getD 0 0) s).length := List.length_map ..
  rw [← hcount]
  exact (if_neg (by simp [hv])).trans (if_neg htimely)
end

/-- A LOADED entry of the range is ARMED, or dropped as it asks. -/
theorem slRangeArmed_evaluated (hr : trising s.ntu.list = true) {e : Nat × SlEntry} (he : e ∈ slToArm w s) :
    ∃ y, tget (slEvaluate (slArming w s) (slRangeArmed w s)).ntu.list e.1 = some y ∧ y.content = e.2.content
      ∧ (y.state = .armed ∨ (y.state = .dropped ∧ e.2.lateDrop = true)) := by
  have harmed : tget (slRangeArmed w s).ntu.list e.1 = some e.2.rearmed := by
    refine (tget_map_where ..).trans ?_
    rw [slArming_iff.mpr ⟨e, he, rfl⟩, tget_of_slToArm hr he]
    rfl
  exact tget_slEvaluate_armed (e := e.2.rearmed) _ harmed rfl

theorem slRangeArmed_unnamed (h : slArming w s i = false) :
    tget (slEvaluate (slArming w s) (slRangeArmed w s)).ntu.list i = tget s.ntu.list i := by
  rw [tget_slEvaluate_unnamed h]
  exact (tget_map_where ..).trans (if_neg (ne_true_of_eq_false h))

/-! ## `STARTLIST_CANCEL` -/

/-- The entries that `STARTLIST_CANCEL` names. -/
def slNamed (x : Bool) (w : Word) (i : Nat) : Bool := (x && bitOf w 22) || slInRange w i

/-- The indices of those that it cancels. -/
def slGone (x : Bool) (w : Word) (s : State) : List Nat :=
  ((s.ntu.list.filter fun e => slNamed x w e.1).filter fun e => e.2.cancels).map Prod.fst

/-- A packet that is with the Command Processor. -/
def SlEntry.withProcessor (e : SlEntry) : Bool := e.state = .handed && e.action ≠ 2

/-- The entries that stay: with CLEAR, of those named only packets that are with the Command Processor. -/
def slKept (x : Bool) (w : Word) (s : State) : Table SlEntry :=
  s.ntu.list.filter fun e => !(bitOf w 21 && slNamed x w e.1 && !e.2.withProcessor)

/-- The Start List after a cancel. -/
def slLeft (x : Bool) (w : Word) (s : State) : Table SlEntry :=
  (slKept x w s).map fun e => if has (slGone x w s) e.1 then (e.1, e.2.content) else e

/-- The output pins after a cancel. -/
def pinsLeft (x : Bool) (w : Word) (s : State) : List EvtOut :=
  s.ntu.evtOut.map fun o => { o with handed := o.handed.filter fun h => !(has (slGone x w s) h.entry) }

theorem commitStartlistCancel_done (x : Bool) (p : List Word) (s : State) : ∃ u body g,
    commitStartlistCancel x p s = ({ s with
      ntu := { s.ntu with list := slLeft x (p.getD 0 0) s, evtOut := pinsLeft x (p.getD 0 0) s }, ump := u }, .ok body g) := by
  unfold commitStartlistCancel
  dsimp only
  split
  · obtain ⟨u, h⟩ := memRewritten_eq { s with
      ntu := { s.ntu with list := slLeft x (p.getD 0 0) s, evtOut := pinsLeft x (p.getD 0 0) s } } 5
      fun i => slNamed x (p.getD 0 0) i && !(thas (slLeft x (p.getD 0 0) s) i)
    exact ⟨u, _, _, congrArg (·, _) h⟩
  · exact ⟨s.ump, _, _, rfl⟩

theorem slGone_iff : has (slGone x w s) i = true
    ↔ ∃ e, (i, e) ∈ s.ntu.list ∧ slNamed x w i = true ∧ e.cancels = true := by
  simp [has_iff, slGone, and_comm]

theorem tget_slLeft (i : Nat) : tget (slLeft x w s) i
    = if has (slGone x w s) i then (tget (slKept x w s) i).map SlEntry.content else tget (slKept x w s) i :=
  tget_map_where ..

theorem content_not_cancels (e : SlEntry) : e.content.cancels = false := rfl

/-- What a cancel names is no longer armed nor handed to a pin. -/
theorem slLeft_cancels (hn : slNamed x w i = true) (h : tget (slLeft x w s) i = some e) : e.cancels = false := by
  rw [tget_slLeft] at h
  split at h
  · obtain ⟨v, _, rfl⟩ := Option.map_eq_some_iff.mp h
    exact content_not_cancels v
  · next hgone =>
    refine eq_false_of_ne_true fun hc => hgone (slGone_iff.mpr ⟨e, ?_, hn, hc⟩)
    exact (List.mem_filter.mp (mem_of_tget h)).1

/-- With CLEAR it stays only as a packet that is with the Command Processor. -/
theorem slLeft_cleared (hr : trising s.ntu.list = true) (hclear : bitOf w 21 = true) (hn : slNamed x w i = true)
    (h : tget (slLeft x w s) i = some e) : e.state = .handed ∧ e.action ≠ 2 := by
  have hkept {v : SlEntry} (hv : tget (slKept x w s) i = some v) :
      tget s.ntu.list i = some v ∧ v.state = .handed ∧ v.action ≠ 2 := by
    obtain ⟨hmem, hstays⟩ := List.mem_filter.mp (mem_of_tget hv)
    have hwith : v.withProcessor = true := by simpa [hclear, hn] using hstays
    exact ⟨tget_of_mem hr hmem, by simpa [SlEntry.withProcessor] using hwith⟩
  rw [tget_slLeft] at h
  split at h
  · next hgone =>
    obtain ⟨v, hv, rfl⟩ := Option.map_eq_some_iff.mp h
    obtain ⟨hlist, hhanded, haction⟩ := hkept hv
    obtain ⟨v', hmem, _, hc⟩ := slGone_iff.mp hgone
    obtain rfl : v = v' := Option.some.inj (hlist.symm.trans (tget_of_mem hr hmem))
    simp [SlEntry.cancels, hhanded, haction] at hc
  · exact (hkept h).2

theorem slLeft_unnamed (hn : slNamed x w i = false) : tget (slLeft x w s) i = tget s.ntu.list i := by
  have hstays : ¬has (slGone x w s) i = true := fun h => by
    obtain ⟨_, _, hnamed, _⟩ := slGone_iff.mp h
    simp [hn] at hnamed
  rw [tget_slLeft, if_neg hstays]
  exact tget_filter_kept _ fun v => by simp [hn]

/-- No edge of an entry that is cancelled stands at a pin. -/
theorem pinsLeft_cancels {o : EvtOut} (ho : o ∈ pinsLeft x w s) {h : HandedEdge} (hh : h ∈ o.handed)
    (he : tget s.ntu.list h.entry = some e) : (slNamed x w h.entry && e.cancels) = false := by
  obtain ⟨o', _, rfl⟩ := List.mem_map.mp ho
  have hstays : has (slGone x w s) h.entry = false := by simpa using (List.mem_filter.mp hh).2
  refine eq_false_of_ne_true fun hboth => ?_
  rw [Bool.and_eq_true] at hboth
  exact ne_true_of_eq_false hstays (slGone_iff.mpr ⟨e, mem_of_tget he, hboth⟩)

end Sys2Proof.Machine
end

section
/-! The statement of `STARTLIST_ARM` and `STARTLIST_CANCEL`. -/
open Sys2Proof Sys2Proof.Machine

/-- Settles O23: `STARTLIST_ARM` fails by `commitStartlistArm_refused` and `_late`, and else leaves what
`slRangeArmed_evaluated` and `slRangeArmed_unnamed` say; `STARTLIST_CANCEL` leaves the list `slLeft` and the pins `pinsLeft`. -/
theorem startlistArmAndCancelComplete : Obligations.StartlistArmAndCancelComplete := by
  intro k s w
  refine ⟨fun hb => ?_, fun hb hr => ?_⟩
  · intro l
    have hcommit : commitOp s.cmd.nextOrd 0x3C k.tag k.x k.params (begun 0x3C k s)
        = commitStartlistArm k.x k.params (begun 0x3C k s) := commitOp_begun_mid hb (by decide) (by decide)
    refine ⟨fun hv => ?_, fun hv hr hx hlate => ?_, fun hv hr htimely => ?_⟩
    · exact exec_commit_fail (t := fresh s) rfl hb (by decide) nofun nofun
        (hcommit.trans (commitStartlistArm_refused (s := begun 0x3C k s) hv))
    · exact exec_commit_fail (t := fresh s) rfl hb (by decide) nofun nofun
        (hcommit.trans (commitStartlistArm_late (s := begun 0x3C k s) hv hx
          ((slSomeLate_iff (s := begun 0x3C k s) hr).mpr hlate)))
    · have hok : (k.x && bitOf w 21) = true ∨ slSomeLate w (begun 0x3C k s) = false :=
        htimely.imp_right fun h => eq_false_of_ne_true fun hl => by
          obtain ⟨e, he, hbeyond⟩ := (slSomeLate_iff (s := begun 0x3C k s) hr).mp hl
          exact ne_true_of_eq_false (h e he) hbeyond
      have hsame := sameButEntries_slEvaluate (slArming w (begun 0x3C k s)) (slRangeArmed w (begun 0x3C k s))
      refine ⟨_, _, exec_commit_ok_kept rfl hb (by decide)
        (hcommit.trans (commitStartlistArm_done (s := begun 0x3C k s) hv hok)) hsame.cmd_eq, replied_held, rfl, rfl, rfl, ?_⟩
      rw [replied_ntu]
      refine ⟨fun e he => slRangeArmed_evaluated (s := begun 0x3C k s) hr he, fun j hj => ?_, ?_⟩
      · refine slRangeArmed_unnamed (s := begun 0x3C k s) (eq_false_of_ne_true fun h => ?_)
        obtain ⟨e, he, hej⟩ := slArming_iff.mp h
        exact hj e he hej
      · rw [hsame.ntu_eq]
        rfl
  · intro named
    obtain ⟨u, body, g, hdone⟩ := commitStartlistCancel_done k.x k.params (begun 0x3D k s)
    have hcommit := (commitOp_begun_mid hb (by decide) (by decide)).trans hdone
    refine ⟨_, _, exec_commit_ok_kept rfl hb (by decide) hcommit rfl, replied_held, rfl, rfl, ?_⟩
    rw [replied_ntu]
    refine ⟨fun i y hn hy => slLeft_cancels (s := begun 0x3D k s) hn hy, fun o ho h hh => ?_,
      fun hclear i y hn hy => slLeft_cleared (s := begun 0x3D k s) hr hclear hn hy,
      fun i hn => slLeft_unnamed (s := begun 0x3D k s) hn, rfl⟩
    split
    · next y hy => exact pinsLeft_cancels (s := begun 0x3D k s) ho hh hy
    · rfl
end

section
/-! SUPPORT. The Start List as it fires: which entry is next, and what becomes of it (R368, R375 to R378). -/
namespace Sys2Proof.Machine

variable {s : State} {i : Nat} {e : SlEntry}

/-! ## The edges of a pin (R368) -/

/-- A handed edge is put among the others. -/
theorem handEdge_perm (h : HandedEdge) (l : List HandedEdge) : (handEdge h l).Perm (h :: l) := by
  induction l with
  | nil => exact .refl _
  | cons x l ih =>
    unfold handEdge
    split
    · exact .refl _
    · exact (ih.cons x).trans (.swap h x l)

theorem handEdge_ascending (h : HandedEdge) {l : List HandedEdge} (hl : l.Pairwise fun a b => a.time ≤ b.time) :
    (handEdge h l).Pairwise fun a b => a.time ≤ b.time := by
  induction l with
  | nil => exact List.pairwise_singleton _ _
  | cons x l ih =>
    obtain ⟨hx, htail⟩ := List.pairwise_cons.mp hl
    unfold handEdge
    split
    · next hlt =>
      refine List.pairwise_cons.mpr ⟨fun b hb => ?_, hl⟩
      rcases List.mem_cons.mp hb with rfl | hb
      · exact hlt.le
      · exact hlt.le.trans (hx b hb)
    · next hge =>
      refine List.pairwise_cons.mpr ⟨fun b hb => ?_, ih htail⟩
      rcases List.mem_cons.mp ((handEdge_perm h l).mem_iff.mp hb) with rfl | hb
      · exact not_lt.mp hge
      · exact hx b hb

/-! ## The next entry (R377) -/

/-- The next entry is listed, and no entry that is due has an earlier TIME. -/
theorem slNext_earliest (h : slNext s = some (i, e)) :
    (i, e) ∈ s.ntu.list ∧ ∀ j x, (j, x) ∈ s.ntu.list → slDue s x = true → e.time ≤ x.time := by
  have hmem := List.mem_of_find?_eq_some h
  have hall := List.find?_some h
  refine ⟨(List.mem_filter.mp hmem).1, fun j x hx hdue => ?_⟩
  exact of_decide_eq_true (List.all_eq_true.mp hall (j, x) (List.mem_filter.mpr ⟨hx, hdue⟩))

/-- While Network Time is valid the Start List fires what is next, if anything is. -/
theorem exec_startListFire {dt : Nat} {u : State} (hu : (fresh s).advance dt = u) (hm : clocked s.mode = true)
    (hv : s.ntu.valid = true) : exec (.startListFire dt) s
      = .next (settle (match slNext u with | some (i, e) => fireEntry i e u | none => u)) := by
  subst hu
  have hruns : ¬(!((fresh s).advance dt).ntu.valid || !clocked ((fresh s).advance dt).mode) = true := by
    simp [hm, hv]
  exact congrArg (fun t => Host.Outcome.next (settle t)) (if_neg hruns)

/-! ## An entry that fires (R377, R378) -/

/-- The entry with the lateness that it fires with. -/
def State.slFiring (s : State) (e : SlEntry) : SlEntry :=
  { e with
    isLate := if e.due then e.isLate else decide (0 ≤ s.lateness e) && s.beyondWin (s.lateness e)
    lateness := if e.due = true ∨ s.lateness e < 0 then e.lateness else s.lateness e }

/-- Entry `i` as it fires. -/
def State.slFired (s : State) (i : Nat) (e : SlEntry) : State := s.onEntry i fun _ => s.slFiring e

theorem onEntry_onEntry (s : State) (i : Nat) (f g : SlEntry → SlEntry) :
    (s.onEntry i f).onEntry i g = s.onEntry i fun x => g (f x) :=
  congrArg (fun l => { s with ntu := { s.ntu with list := l } }) (tmod_tmod_self s.ntu.list i f g)

/-- What becomes of entry `i` that fires as `e`, by its action. -/
def fireAs (i : Nat) (e : SlEntry) (s : State) : State :=
  let s1 := s.onEntry i fun _ => e
  if e.isLate && e.lateDrop then s1.slDone i .dropped 0
  else match e.action with
    | 1 => takeWords (.starter i) .host e.packet (s1.onEntry i fun x => { x with state := .handed })
    | 2 => fireEdge i e s1
    | _ => fireAction i e s1

section
variable (h : (e.isLate && e.lateDrop) = false)
include h

theorem fireAs_packet (ha : e.action = 1) : fireAs i e s
    = takeWords (.starter i) .host e.packet (s.onEntry i fun _ => { e with state := .handed }) := by
  simp [fireAs, h, ha, onEntry_onEntry]

theorem fireAs_edge (ha : e.action = 2) : fireAs i e s = fireEdge i e (s.onEntry i fun _ => e) := by
  simp [fireAs, h, ha]

theorem fireAs_action (h1 : e.action ≠ 1) (h2 : e.action ≠ 2) : fireAs i e s = fireAction i e (s.onEntry i fun _ => e) := by
  rw [fireAs, if_neg (ne_true_of_eq_false h)]
  split
  · next ha => exact absurd ha h1
  · next ha => exact absurd ha h2
  · rfl
end

theorem fireEntry_eq (i : Nat) (e : SlEntry) (s : State) : fireEntry i e s = fireAs i (s.slFiring e) s :=
  congrArg (fireAs i · s) (show { s.slFiring e with
    lateness := if e.due || decide (s.lateness e < 0) then e.lateness else s.lateness e } = s.slFiring e by
      simp [State.slFiring])

theorem tget_slFired (h : (i, e) ∈ s.ntu.list) : tget (s.slFired i e).ntu.list i = some (s.slFiring e) := by
  obtain ⟨v, hv⟩ := exists_tget_of_mem h
  rw [State.slFired, State.onEntry, tget_tmod_self, hv]
  rfl

/-- An entry that is too late and asks so is dropped. -/
theorem fireEntry_dropped (hmem : (i, e) ∈ s.ntu.list) (h : ((s.slFiring e).isLate && e.lateDrop) = true) :
    ∃ x, tget (fireEntry i e s).ntu.list i = some x ∧ x.state = .dropped := by
  have hdrops : fireAs i (s.slFiring e) s = (s.slFired i e).slDone i .dropped 0 := if_pos h
  rw [fireEntry_eq, hdrops, State.slDone_ntu, tget_tmod_self, tget_slFired hmem]
  exact ⟨_, rfl, rfl⟩

/-- An edge is handed to its pin, and its entry is HANDED. -/
theorem fireEntry_hands (hmem : (i, e) ∈ s.ntu.list) (h : ((s.slFiring e).isLate && e.lateDrop) = false)
     (ha : e.action = 2) (hpin : e.pin < s.ntu.evtOut.length) :
    (∃ x, tget (fireEntry i e s).ntu.list i = some x ∧ x.state = .handed ∧ x.isLate = (s.slFiring e).isLate)
      ∧ ((fireEntry i e s).ntu.evtOut.getD e.pin {}).handed
        = handEdge { entry := i, time := e.time, level := e.level, since := s.ntu.course }
            (s.ntu.evtOut.getD e.pin {}).handed := by
  have hedge : fireEntry i e s = fireEdge i (s.slFiring e) (s.slFired i e) := (fireEntry_eq i e s).trans (fireAs_edge h ha)
  rw [hedge]
  refine ⟨⟨{ s.slFiring e with state := .handed }, ?_, rfl, rfl⟩, ?_⟩
  · show tget (tmod (s.slFired i e).ntu.list i fun x => { x with state := .handed }) i = _
    rw [tget_tmod_self, tget_slFired hmem]
    rfl
  · exact congrArg EvtOut.handed (getD_listMod_self s.ntu.evtOut e.pin _ {} hpin)

/-! ## An action of a unit (R377) -/

section
variable {r : State × Res}
  (hr : commitOp 0 (actionCmd e).1 0 false (actionCmd e).2 (abortNamed e s) = r)
include hr

theorem fireAction_fails {st : Status} {word : Nat} {body : List Word} (h : r.2 = .fail st word body) :
    fireAction i e s = r.1.slDone i .failed (statusCode st) := by
  unfold fireAction
  simp only [hr, h]

theorem fireAction_commits {body : List Word} {g : Bool} (h : r.2 = .ok body g ∨ ∃ fin, r.2 = .later fin body g) :
    fireAction i e s = (genIf g r.1).slDone i (if e.isLate then .late else .fired) 0 := by
  unfold fireAction
  rcases h with h | ⟨fin, h⟩
  · simp only [hr, h]
  · simp only [hr, h]
end

end Sys2Proof.Machine
end

section
/-! The statement of the Start List's firing. -/
open Sys2Proof Sys2Proof.Machine

/-- Settles O25: the pins by `handEdge_ascending` and `handEdge_perm`, the entry by `slNext_earliest`, and what becomes of it by
`fireEntry_dropped`, `fireEntry_hands`, `fireAs_packet` and `fireAs_action`. -/
theorem startListFires : Obligations.StartListFires := by
  intro dt s u hm hv
  have hexec := exec_startListFire (dt := dt) (u := u) rfl hm hv
  refine ⟨fun h l hl => ⟨handEdge_ascending h hl, (handEdge_perm h l).length_eq,
      (handEdge_perm h l).mem_iff.mpr List.mem_cons_self⟩, fun hnone => ?_, fun i e hnext => ?_⟩
  · rw [hexec, hnone]
  · obtain ⟨hmem, hearliest⟩ := slNext_earliest hnext
    refine ⟨by rw [hexec, hnext], hearliest, ?_⟩
    intro late e1 done
    have hfires : fireEntry i e u = fireAs i (u.slFiring e) u := fireEntry_eq i e u
    refine ⟨fireEntry_dropped hmem, fun hkeep => ⟨fun ha hpin hl => ?_, fun ha => ?_, fun h1 h2 => ?_⟩⟩
    · exact fireEntry_hands hmem hkeep ha (hl ▸ hpin)
    · exact hfires.trans (fireAs_packet hkeep ha)
    · intro r
      rw [hfires, fireAs_action (e := u.slFiring e) hkeep h1 h2]
      exact ⟨fun st word body h => fireAction_fails (e := u.slFiring e) rfl h,
        fun body g h => fireAction_commits (e := u.slFiring e) rfl (.inl h),
        fun fin body g h => fireAction_commits (e := u.slFiring e) rfl (.inr ⟨fin, h⟩)⟩
end

section
/-! SUPPORT. `PTP_CONFIG` and `PTP_PORT` at their commit points (R356, R381 to R383). -/
namespace Sys2Proof.Machine

variable {s : State} {x : Bool} {p : List Word}

/-! ## What a command that has answered leaves -/

section
variable {op word : Nat} {k : Pkt} {st : Status} {body : List Word} {g : Bool} {t : State}

theorem replied_ptpPort (j : Nat) : (replied op k st word body g s t).ptpPort j = t.ptpPort j := settle_ptpPort j

theorem replied_tick64 : (replied op k st word body g s t).tick64 = t.tick64 := by
  unfold State.tick64
  rw [replied_ntu]

theorem replied_bit (a i : Nat) : (replied op k st word body g s t).bit a i = t.bit a i := settle_bit _ a i

theorem replied_regs : (replied op k st word body g s t).regs = t.regs := settle_regs _
end

/-! ## `PTP_CONFIG` (R382) -/

theorem trackRefs_withCmd (s : State) (c : Cmd) : (s.withCmd c).trackRefs = s.trackRefs.withCmd c := by
  unfold State.trackRefs
  dsimp only
  rw [apply_ite (State.withCmd · c)]
  rfl

theorem trackRefs_ptpStatus : s.trackRefs.ptpStatus = s.ptpStatus := by
  unfold State.ptpStatus State.ptpPort
  rw [State.trackRefs_ntu]

/-- NTU under the configuration of the command; a re-route hold goes on only under basic control. -/
def ptpConfigured (x : Bool) (p : List Word) (n : Ntu) : Ntu :=
  { n with ptp := ptpConfigOf x p, reroute := if (ptpConfigOf x p).ctrl = 1 then n.reroute else none }

/-- CTRL, PROFILE and DOMAIN stay. -/
def ptpFixed (x : Bool) (p : List Word) (n : Ntu) : Bool :=
  (ptpConfigOf x p).ctrl = n.ptp.ctrl && (ptpConfigOf x p).profile = n.ptp.profile && (ptpConfigOf x p).domain = n.ptp.domain

theorem ptpFixed_iff {n : Ntu} : ptpFixed x p n = true ↔ (ptpConfigOf x p).ctrl = n.ptp.ctrl
    ∧ (ptpConfigOf x p).profile = n.ptp.profile ∧ (ptpConfigOf x p).domain = n.ptp.domain := by
  simp [ptpFixed, and_assoc]

theorem commitPtpConfig_stale (hon : s.ptpOn = true) (h : ptpFixed x p s.ntu = false) :
    commitPtpConfig x p s = (s, .fail .staleWrite 1) :=
  if_pos (show (s.ptpOn && !ptpFixed x p s.ntu) = true by simp [hon, h])

theorem commitPtpConfig_done (h : s.ptpOn = false ∨ ptpFixed x p s.ntu = true) : commitPtpConfig x p s
    = (({ s with ntu := ptpConfigured x p s.ntu } : State).trackRefs,
      .ok [({ s with ntu := ptpConfigured x p s.ntu } : State).ptpStatus] (decide (ptpConfigOf x p ≠ s.ntu.ptp))) := by
  have hfixed : ¬(s.ptpOn && !ptpFixed x p s.ntu) = true := by
    rcases h with h | h <;> simp [h]
  rw [← trackRefs_ptpStatus]
  exact if_neg hfixed

/-! ## `PTP_PORT` (R383) -/

/-- The PTP port that `PTP_PORT` names, and its settings by the command. -/
def ptpNamed (p : List Word) : Nat := fieldOf (p.getD 0 0) 0 0
def ptpGiven (x : Bool) (p : List Word) (s : State) : PtpPort := s.ptpPortOf x p (s.ptpPort (ptpNamed p))

/-- The profile does not permit the transport or the delay mechanism (R356). -/
def ptpForbids (x : Bool) (p : List Word) (s : State) : Bool :=
  !profileTransport s.ntu.ptp.profile (ptpGiven x p s).transport || (ptpGiven x p s).p2p != profileP2p s.ntu.ptp.profile

theorem ptpForbids_iff : ptpForbids x p s = false ↔ profileTransport s.ntu.ptp.profile (ptpGiven x p s).transport = true
    ∧ (ptpGiven x p s).p2p = profileP2p s.ntu.ptp.profile := by
  simp [ptpForbids]

/-- The transport, mechanism, tag and VLAN stay. -/
def ptpSame (x : Bool) (p : List Word) (s : State) : Bool :=
  let q := s.ptpPort (ptpNamed p)
  let new := ptpGiven x p s
  q.transport = new.transport && q.p2p == new.p2p && q.tagged == new.tagged && q.vid = new.vid

theorem ptpSame_iff : ptpSame x p s = true ↔ (s.ptpPort (ptpNamed p)).transport = (ptpGiven x p s).transport
    ∧ (s.ptpPort (ptpNamed p)).p2p = (ptpGiven x p s).p2p ∧ (s.ptpPort (ptpNamed p)).tagged = (ptpGiven x p s).tagged
    ∧ (s.ptpPort (ptpNamed p)).vid = (ptpGiven x p s).vid := by
  simp [ptpSame, and_assoc]

/-- The PTP port with the settings of the command. -/
def ptpPut (x : Bool) (p : List Word) (s : State) : State := s.onPtp (ptpNamed p) fun _ =>
  if (s.ptpPort (ptpNamed p)).en && (ptpGiven x p s).en then ptpGiven x p s else (ptpGiven x p s).cleared

/-- It enters LISTENING where it is enabled, and is DISABLED where it is not. -/
def ptpPortSet (x : Bool) (p : List Word) (s : State) : State :=
  if !(ptpGiven x p s).en then (ptpPut x p s).ptpState (ptpNamed p) 0
  else if !(s.ptpPort (ptpNamed p)).en then (ptpPut x p s).ptpState (ptpNamed p) 4
  else ptpPut x p s

theorem commitPtpPort_forbidden (h : ptpForbids x p s = true) : commitPtpPort x p s = (s, .fail .badParam 1) := if_pos h

theorem ptpAddress_stays (h : (s.ptpPort (ptpNamed p)).en = false ∨ (s.ptpPort (ptpNamed p)).ipv4 = (ptpGiven x p s).ipv4) :
    ¬((s.ptpPort (ptpNamed p)).en && decide ((s.ptpPort (ptpNamed p)).ipv4 ≠ (ptpGiven x p s).ipv4)) = true := by
  rcases h with h | h <;> simp [h]

section
variable (hpermits : ptpForbids x p s = false)
include hpermits

theorem commitPtpPort_stale (hen : (s.ptpPort (ptpNamed p)).en = true) (h : ptpSame x p s = false) :
    commitPtpPort x p s = (s, .fail .staleWrite 1) :=
  (if_neg (ne_true_of_eq_false hpermits)).trans <|
    if_pos (show ((s.ptpPort (ptpNamed p)).en && !ptpSame x p s) = true by simp [hen, h])

variable (hsame : (s.ptpPort (ptpNamed p)).en = false ∨ ptpSame x p s = true)
include hsame

theorem commitPtpPort_rest : commitPtpPort x p s
    = if (s.ptpPort (ptpNamed p)).en && decide ((s.ptpPort (ptpNamed p)).ipv4 ≠ (ptpGiven x p s).ipv4) then
        (s, .fail .staleWrite 2)
      else if s.ntu.ptp.ctrl ≠ 1 then (s, .fail .refused)
      else (ptpPortSet x p s, .ok [w32 (((ptpPortSet x p s).ptpPort (ptpNamed p)).state
        + 2 ^ 4 * b2n (decide ((ptpPortSet x p s).timePort = some (ptpNamed p)))), (ptpPortSet x p s).mpdWord (ptpNamed p)]
        (decide (ptpGiven x p s ≠ s.ptpPort (ptpNamed p)))) := by
  have hstays : ¬((s.ptpPort (ptpNamed p)).en && !ptpSame x p s) = true := by
    rcases hsame with h | h <;> simp [h]
  exact (if_neg (ne_true_of_eq_false hpermits)).trans (if_neg hstays)

theorem commitPtpPort_moved (hen : (s.ptpPort (ptpNamed p)).en = true)
    (h : (s.ptpPort (ptpNamed p)).ipv4 ≠ (ptpGiven x p s).ipv4) : commitPtpPort x p s = (s, .fail .staleWrite 2) :=
  (commitPtpPort_rest hpermits hsame).trans (if_pos (by simp [hen, h]))

variable (hstays : (s.ptpPort (ptpNamed p)).en = false ∨ (s.ptpPort (ptpNamed p)).ipv4 = (ptpGiven x p s).ipv4)
include hstays

theorem commitPtpPort_refused (h : s.ntu.ptp.ctrl ≠ 1) : commitPtpPort x p s = (s, .fail .refused) :=
  (commitPtpPort_rest hpermits hsame).trans <| (if_neg (ptpAddress_stays hstays)).trans (if_pos h)

theorem commitPtpPort_done (h : s.ntu.ptp.ctrl = 1) : ∃ body g, commitPtpPort x p s = (ptpPortSet x p s, .ok body g) :=
  ⟨_, _, (commitPtpPort_rest hpermits hsame).trans <| (if_neg (ptpAddress_stays hstays)).trans (if_neg (not_not_intro h))⟩
end

/-! ### What it leaves -/

/-- Everything of the NTU but its PTP ports, the network ports and the Command Processor are as they were. -/
def sameButPtp (s t : State) : Prop :=
  t.ntu = { s.ntu with ports := t.ntu.ports } ∧ t.np = s.np ∧ t.cmd = s.cmd

theorem sameButPtp_ptpState (n st : Nat) : sameButPtp s (s.ptpState n st) := by
  unfold State.ptpState
  split
  · exact ⟨rfl, rfl, rfl⟩
  · rw [sameButPtp, State.trackRefs_ntu, State.trackRefs_np, State.trackRefs_cmd, State.flag_ntu,
      State.flag_np, State.flag_cmd]
    exact ⟨rfl, rfl, rfl⟩

theorem sameButPtp_ptpPortSet : sameButPtp s (ptpPortSet x p s) := by
  have hput (st : Nat) : sameButPtp s ((ptpPut x p s).ptpState (ptpNamed p) st) :=
    sameButPtp_ptpState (s := ptpPut x p s) (ptpNamed p) st
  unfold ptpPortSet
  split
  · exact hput 0
  · split
    · exact hput 4
    · exact ⟨rfl, rfl, rfl⟩

section
variable (hn : ptpNamed p < s.ntu.ports.length)
include hn

theorem ptpPut_named : (ptpPut x p s).ptpPort (ptpNamed p)
    = if (s.ptpPort (ptpNamed p)).en && (ptpGiven x p s).en then ptpGiven x p s else (ptpGiven x p s).cleared :=
  onPtp_ptpPort hn

theorem ptpPut_length : ptpNamed p < (ptpPut x p s).ntu.ports.length :=
  (length_listMod ..).symm ▸ hn

theorem ptpPortSet_other {j : Nat} (hj : j ≠ ptpNamed p) : (ptpPortSet x p s).ptpPort j = s.ptpPort j := by
  have hput : (ptpPut x p s).ptpPort j = s.ptpPort j := onPtp_ptpPort_ne hj
  have hstate (st : Nat) := (ptpState_spec (st := st) (ptpPut_length (x := x) hn)).2.1 j hj
  unfold ptpPortSet
  split
  · rw [hstate, hput]
  · split
    · rw [hstate, hput]
    · exact hput

theorem ptpPortSet_disabled (h : (ptpGiven x p s).en = false) :
    (ptpPortSet x p s).ptpPort (ptpNamed p) = { (ptpGiven x p s).cleared with state := 0 } := by
  have hset : ptpPortSet x p s = (ptpPut x p s).ptpState (ptpNamed p) 0 := if_pos (by simp [h])
  rw [hset, (ptpState_spec (ptpPut_length hn)).1, ptpPut_named hn, if_neg (by simp [h])]

variable (hen : (ptpGiven x p s).en = true)
include hen

theorem ptpPortSet_enabled (h : (s.ptpPort (ptpNamed p)).en = false) :
    (ptpPortSet x p s).ptpPort (ptpNamed p) = { (ptpGiven x p s).cleared with state := 4 } := by
  have hset : ptpPortSet x p s = (ptpPut x p s).ptpState (ptpNamed p) 4 := by simp [ptpPortSet, hen, h]
  rw [hset, (ptpState_spec (ptpPut_length hn)).1, ptpPut_named hn, if_neg (by simp [h])]

theorem ptpPortSet_kept (h : (s.ptpPort (ptpNamed p)).en = true) :
    (ptpPortSet x p s).ptpPort (ptpNamed p) = ptpGiven x p s := by
  have hset : ptpPortSet x p s = ptpPut x p s := by simp [ptpPortSet, hen, h]
  rw [hset, ptpPut_named hn, if_pos (by simp [hen, h])]
end

end Sys2Proof.Machine
end

section
/-! SUPPORT. What a step of Network Time leaves, and `TIME_SET` at its commit point (R371, R384). -/
namespace Sys2Proof.Machine

variable {s : State} {x : Bool} {p : List Word}

/-! ## Steps (R371) -/

/-- After a step Start List and pins are as its evaluation leaves them; the rest of the NTU is as it was. -/
theorem slReevaluate_spec (s : State) : (∃ l o, (slReevaluate s).ntu = { s.ntu with list := l, evtOut := o })
    ∧ (slReevaluate s).cmd = s.cmd := by
  have hsame := sameButEntries_slEvaluate (fun _ => true) { s with ntu := { s.ntu with
    list := tmap s.ntu.list slWithdraw, evtOut := s.ntu.evtOut.map fun p => { p with handed := [] } } }
  exact ⟨⟨_, _, hsame.ntu_eq⟩, hsame.cmd_eq⟩

/-- What a step of NTU `n` leaves: it counts, begins a new epoch and makes time valid; the Start List is evaluated. -/
def stepped (n : Ntu) (c : Cmd) (t : State) : Prop :=
  (∃ l o, t.ntu = { n with
    steps := satNat 65535 (n.steps + 1), epoch := (n.epoch + 1) % 16, valid := true, list := l, evtOut := o })
  ∧ t.cmd = c ∧ t.bit Reg.NTU_EVENT 1 = true

theorem stepped_slReevaluate {n : Ntu} {c : Cmd} {t : State} (h : stepped n c t) : stepped n c (slReevaluate t) := by
  obtain ⟨⟨_, _, hntu⟩, hcmd, hbit⟩ := h
  obtain ⟨⟨l, o, hlist⟩, hkeeps⟩ := slReevaluate_spec t
  refine ⟨⟨l, o, ?_⟩, hkeeps.trans hcmd, (keepsPmu_slReevaluate t).2 _ _ hbit⟩
  rw [hlist, hntu]

theorem stepDone_stepped (old : Nat) (s : State) : stepped s.ntu s.cmd (stepDone old s) := by
  refine stepped_slReevaluate ?_
  split
  · exact ⟨⟨_, _, rfl⟩, rfl, keepsBits_flag _ _ _ _ _ (State.bit_flag_self _ _ _ (by decide))⟩
  · exact ⟨⟨_, _, rfl⟩, rfl, State.bit_flag_self _ _ _ (by decide)⟩

theorem tick64_moveNt (s : State) (d : Int) : ((s.moveNt (d * 2 ^ 40)).tick64 : Int) = ((s.tick64 : Int) + d) % 2 ^ 64 := by
  unfold State.tick64 State.moveNt
  dsimp only
  omega

theorem tick64_stepTo (v : Nat) (s : State) : (stepTo v s).tick64 = v % 2 ^ 64 := by
  obtain ⟨⟨_, _, hntu⟩, _⟩ := stepDone_stepped s.tick64 { s with ntu := { s.ntu with nt40 := v % 2 ^ 64 * 2 ^ 40 } }
  have hnt : (stepTo v s).ntu.nt40 = v % 2 ^ 64 * 2 ^ 40 := congrArg Ntu.nt40 hntu
  rw [State.tick64, hnt]
  omega

theorem tick64_stepBy (d : Int) (s : State) : ((stepBy d s).tick64 : Int) = ((s.tick64 : Int) + d) % 2 ^ 64 := by
  obtain ⟨⟨_, _, hntu⟩, _⟩ := stepDone_stepped s.tick64 (s.moveNt (d * 2 ^ 40))
  have hnt : (stepBy d s).ntu.nt40 = (s.moveNt (d * 2 ^ 40)).ntu.nt40 :=
    (congrArg Ntu.nt40 hntu :)
  rw [← tick64_moveNt, State.tick64, hnt]
  rfl

/-! ## `TIME_SET` (R384) -/

/-- The value and the rate of slewing that `TIME_SET` gives. -/
def timeValue (p : List Word) : Nat := (p.getD 1 0).toNat + 2 ^ 32 * (p.getD 2 0).toNat
def timeRate (x : Bool) (p : List Word) (s : State) : Nat := if x then fieldOf (p.getD 3 0) 15 0 else s.ntu.ptp.slewMax

/-- The state after the operation that it names. -/
def timeSet (x : Bool) (p : List Word) (s : State) : State :=
  timeOp (fieldOf (p.getD 0 0) 1 0) (timeValue p) (timeRate x p s) s

/-- Network Time with no slew going on. -/
def State.unslewed (s : State) : State := { s with ntu := { s.ntu with slew := none } }

theorem timeSet_op {op : Nat} (h : fieldOf (p.getD 0 0) 1 0 = op) :
    timeSet x p s = timeOp op (timeValue p) (timeRate x p s) s := by
  rw [timeSet, h]

theorem timeSet_sets (h : fieldOf (p.getD 0 0) 1 0 = 0) : timeSet x p s = stepTo (timeValue p) s.unslewed := timeSet_op h

theorem timeSet_steps (h : fieldOf (p.getD 0 0) 1 0 = 1) (hv : timeValue p ≠ 0) :
    timeSet x p s = stepBy (sgn 64 (timeValue p)) s.unslewed := (timeSet_op h).trans (if_neg hv)

theorem timeSet_stays (h : fieldOf (p.getD 0 0) 1 0 = 1) (hv : timeValue p = 0) : timeSet x p s = s :=
  (timeSet_op h).trans (if_pos hv)

theorem timeSet_slews (h : fieldOf (p.getD 0 0) 1 0 = 2) : timeSet x p s = { s with ntu := { s.ntu with
    slew := if timeValue p = 0 then none
      else some { left := sgn 64 (timeValue p) * 2 ^ 40, rate := slewRate (timeRate x p s) } } } := timeSet_op h

theorem timeSet_rates (h : fieldOf (p.getD 0 0) 1 0 = 3) : timeSet x p s = { s with ntu := { s.ntu with
    rate := sgn 32 (timeValue p % 2 ^ 32) } } := timeSet_op h

theorem commitTimeSet_refused (h : s.ntu.ptp.ctrl = 1 ∨ s.timeFollow = true) : commitTimeSet x p s = (s, .fail .refused) :=
  if_pos (by simpa using h)

theorem commitTimeSet_done (hctrl : s.ntu.ptp.ctrl ≠ 1) (hfollow : s.timeFollow = false) :
    commitTimeSet x p s = (timeSet x p s, .ok [w32 (s.tick64 % 2 ^ 32), w32 (s.tick64 / 2 ^ 32),
      w32 ((timeSet x p s).tick64 % 2 ^ 32), w32 ((timeSet x p s).tick64 / 2 ^ 32), w32 (timeSet x p s).ntu.steps]) :=
  if_neg (by simp [hctrl, hfollow])

/-- What every operation leaves alone: Course Time and the Command Processor. -/
theorem timeOp_keeps (op v rate : Nat) (s : State) :
    (timeOp op v rate s).ntu.course = s.ntu.course ∧ (timeOp op v rate s).cmd = s.cmd := by
  have hstep (old : Nat) (t : State) (ht : t.ntu.course = s.ntu.course) (hc : t.cmd = s.cmd) :
      (stepDone old t).ntu.course = s.ntu.course ∧ (stepDone old t).cmd = s.cmd := by
    obtain ⟨⟨_, _, hntu⟩, hcmd, _⟩ := stepDone_stepped old t
    exact ⟨(congrArg Ntu.course hntu).trans ht, hcmd.trans hc⟩
  unfold timeOp
  split
  · exact hstep _ _ rfl rfl
  · split
    · exact ⟨rfl, rfl⟩
    · exact hstep _ _ rfl rfl
  · exact ⟨rfl, rfl⟩
  · exact ⟨rfl, rfl⟩

/-- A step ends a slew, makes time valid, begins a new epoch, and has its event. -/
theorem stepDone_unslewed {old : Nat} {t : State} (hslew : t.ntu.slew = none) : (stepDone old t).ntu.slew = none
    ∧ (stepDone old t).ntu.valid = true ∧ (stepDone old t).ntu.epoch = (t.ntu.epoch + 1) % 16
    ∧ (stepDone old t).bit Reg.NTU_EVENT 1 = true := by
  obtain ⟨⟨_, _, hntu⟩, _, hbit⟩ := stepDone_stepped old t
  exact ⟨(congrArg Ntu.slew hntu).trans hslew, congrArg Ntu.valid hntu, congrArg Ntu.epoch hntu, hbit⟩

end Sys2Proof.Machine
end

section
/-! The statement of `PTP_CONFIG`, `PTP_PORT` and `TIME_SET`. -/
open Sys2Proof Sys2Proof.Machine

/-- Settles O21: `PTP_CONFIG` by `commitPtpConfig_stale` and `_done`; `PTP_PORT` by its failures and the PTP port that it
leaves (`ptpPortSet_kept`, `_enabled`, `_disabled`); `TIME_SET` by its operations (`tick64_stepTo`, `tick64_stepBy`). -/
theorem ptpAndTimeCommandsComplete : Obligations.PtpAndTimeCommandsComplete := by
  refine ⟨fun k s hb => ?_, fun k s hb hl => ?_, fun k s hb => ?_⟩
  · intro c old fixed ntu
    have hcommit : commitOp s.cmd.nextOrd 0x38 k.tag k.x k.params (begun 0x38 k s)
        = commitPtpConfig k.x k.params (begun 0x38 k s) := commitOp_begun_mid hb (by decide) (by decide)
    refine ⟨fun hon hn => ?_, fun h => ?_⟩
    · have hchanges : ptpFixed k.x k.params s.ntu = false := eq_false_of_ne_true (mt ptpFixed_iff.mp hn)
      exact exec_commit_fail (t := fresh s) rfl hb (by decide) nofun nofun
        (hcommit.trans (commitPtpConfig_stale (s := begun 0x38 k s) hon hchanges))
    · have hdone := commitPtpConfig_done (s := begun 0x38 k s) (h.imp_right ptpFixed_iff.mpr)
      refine exec_commit_ok (t := ({ fresh s with ntu := ntu } : State).trackRefs) rfl hb (by decide) ?_
      rw [← trackRefs_withCmd]
      exact hcommit.trans hdone
  · intro n q new permits same
    have hcommit : commitOp s.cmd.nextOrd 0x39 k.tag k.x k.params (begun 0x39 k s)
        = commitPtpPort k.x k.params (begun 0x39 k s) := commitOp_begun_mid hb (by decide) (by decide)
    have hfail {st : Status} {word : Nat} (h : commitPtpPort k.x k.params (begun 0x39 k s) = (begun 0x39 k s, .fail st word))
        (h1 : st ≠ .lost) (h2 : st ≠ .aborted) :
        exec (.ptpPort k) s = .next (replied 0x39 k st word [] false s (fresh s)) :=
      exec_commit_fail (t := fresh s) rfl hb (by decide) h1 h2 (hcommit.trans h)
    have hpermits (h : permits) : ptpForbids k.x k.params (begun 0x39 k s) = false := ptpForbids_iff.mpr h
    have hsame (h : same) : ptpSame k.x k.params (begun 0x39 k s) = true := ptpSame_iff.mpr h
    refine ⟨fun h => ?_, fun hp hen h => ?_, fun hp hen hs h => ?_, fun hp h => ?_⟩
    · refine hfail (commitPtpPort_forbidden (eq_true_of_ne_false fun hf => h ?_)) nofun nofun
      exact ptpForbids_iff.mp hf
    · refine hfail (commitPtpPort_stale (hpermits hp) hen (eq_false_of_ne_true fun hs => h ?_)) nofun nofun
      exact ptpSame_iff.mp hs
    · exact hfail (commitPtpPort_moved (hpermits hp) (.inr (hsame hs)) hen h) nofun nofun
    · have hset : (q.en = false ∨ ptpSame k.x k.params (begun 0x39 k s) = true) := h.imp_right fun h => hsame h.1
      have haddress : q.en = false ∨ q.ipv4 = new.ipv4 := h.imp_right And.right
      refine ⟨fun hctrl => hfail (commitPtpPort_refused (hpermits hp) hset haddress hctrl) nofun nofun, fun hctrl => ?_⟩
      obtain ⟨body, g, hdone⟩ := commitPtpPort_done (hpermits hp) hset haddress hctrl
      have hn : ptpNamed k.params < (begun 0x39 k s).ntu.ports.length := hl ▸ fieldOf_bit_lt _ 0
      have hother : 1 - n ≠ n := by omega
      obtain ⟨hntu, hnp, hcmd⟩ := sameButPtp_ptpPortSet (s := begun 0x39 k s) (x := k.x) (p := k.params)
      refine ⟨_, _, exec_commit_ok_kept rfl hb (by decide) (hcommit.trans hdone) hcmd, replied_held, rfl, rfl, ?_⟩
      rw [replied_ptpPort, replied_ptpPort, replied_ntu, replied_np]
      refine ⟨fun hen hnew => ptpPortSet_kept hn hnew hen, fun hen hnew => ptpPortSet_enabled hn hnew hen,
        fun hnew => ptpPortSet_disabled hn hnew, ptpPortSet_other hn hother, ?_, ?_, hnp⟩
      · rw [hntu]
        rfl
      · rw [hntu]
        rfl
  · intro op v ok
    have hcommit : commitOp s.cmd.nextOrd 0x3A k.tag k.x k.params (begun 0x3A k s)
        = commitTimeSet k.x k.params (begun 0x3A k s) := commitOp_begun_mid hb (by decide) (by decide)
    refine ⟨fun h => ?_, fun hctrl hfollow => ?_⟩
    · exact exec_commit_fail (t := fresh s) rfl hb (by decide) nofun nofun
        (hcommit.trans (commitTimeSet_refused (s := begun 0x3A k s) h))
    · have hdone := commitTimeSet_done (s := begun 0x3A k s) (x := k.x) (p := k.params) hctrl hfollow
      have hkeeps := timeOp_keeps op v (timeRate k.x k.params s) (begun 0x3A k s)
      refine ⟨_, exec_commit_ok_kept rfl hb (by decide) (hcommit.trans hdone) hkeeps.2,
        ⟨_, replied_held, rfl, rfl, ?_, ?_⟩, ?_⟩
      · rw [replied_tick64, replied_ntu]
        rfl
      · rw [replied_ntu]
        exact hkeeps.1
      · rw [replied_tick64, replied_ntu, replied_bit, replied_regs]
        refine ⟨fun h => ?_, fun h hv => ?_, fun h hv => ?_, fun h => ?_, fun h => ?_⟩
        · rw [timeSet_sets h]
          exact ⟨tick64_stepTo .., stepDone_unslewed rfl⟩
        · rw [timeSet_steps h hv]
          exact ⟨tick64_stepBy .., stepDone_unslewed rfl⟩
        · rw [timeSet_stays h hv]
          exact ⟨rfl, rfl⟩
        · rw [timeSet_slews h]
          exact ⟨rfl, rfl⟩
        · rw [timeSet_rates h]
          exact ⟨rfl, rfl⟩
end

section
/-! SUPPORT. The commits of `HOLDOVER_CONFIG` and `ALIGN_OUTPUTS` (R409, R414, R417, R424, R425). -/
namespace Sys2Proof.Machine

variable {s : State} {x : Bool} {p : List Word}

/-! ## The report of holdover -/

/-- The report neither reads nor changes the Command Processor. -/
theorem holdoverReport_withCmd (s : State) (c : Cmd) :
    holdoverReport (s.withCmd c) = (holdoverReport s).withCmd c := by
  unfold holdoverReport
  rw [apply_ite (State.withCmd · c)]
  rfl

/-- In HOLDOVER an estimate beyond the limit is reported. -/
theorem holdoverReport_exceeded (hstate : s.mck.state = .holdover)
    (hlimit : 2000000000000000000000 * s.mck.hoLimit < timeError s.mck.fe0 s.mck.drift s.holdoverNs) : holdoverReport s
      = ({ s with mck := { s.mck with state := .hoExpired } } : State).flag Reg.MCK_REF_EVENT 6 :=
  if_pos (by simp [hstate, hlimit])

/-! ## `ALIGN_OUTPUTS` at its commit point -/

/-- A Seat that follows the Cox's time. -/
def alignsCox (s : State) : Prop := s.role = 2 ∧ s.mck.sel = some 4

theorem commitAlignOutputs_boot (h : s.mode = .boot) : commitAlignOutputs x p s = (s, .fail .wrongMode) := if_pos h

section
variable (hboot : s.mode ≠ .boot)
include hboot

theorem commitAlignOutputs_follows (h : alignsCox s) : commitAlignOutputs x p s = (s, .fail .notCox) :=
  (if_neg hboot).trans (if_pos (by simpa [alignsCox] using h))

variable (hown : ¬alignsCox s)
include hown

theorem commitAlignOutputs_rest : commitAlignOutputs x p s = if !s.hasTarget then (s, .fail .refused)
    else (alignAccept (x && bitOf (p.getD 0 0) 0) s, .later .align []) :=
  (if_neg hboot).trans (if_neg (by simpa [alignsCox] using hown))

theorem commitAlignOutputs_targetless (h : s.hasTarget = false) : commitAlignOutputs x p s = (s, .fail .refused) :=
  (commitAlignOutputs_rest hboot hown).trans (if_pos (by simp [h]))

theorem commitAlignOutputs_accepts (h : s.hasTarget = true) :
    commitAlignOutputs x p s = (alignAccept (x && bitOf (p.getD 0 0) 0) s, .later .align []) :=
  (commitAlignOutputs_rest hboot hown).trans (if_neg (by simp [h]))
end

/-- The moves that wait once one is asked for now: one for all that the same boundary serves (R417). -/
def State.alignsAsked (s : State) : List Align :=
  if s.mck.aligns.any fun a => decide (a.wait = s.alignWait) then s.mck.aligns
  else s.mck.aligns ++ [{ wait := s.alignWait, lead := b2n s.seatsFollow }]

/-- Accepting an alignment, with CLEAR_ABSORB or without, changes the moves that wait and the absorbed phase. -/
theorem alignAccept_eq (clear : Bool) (s : State) : alignAccept clear s = { s with mck := { s.mck with
    absorb := if clear then 0 else s.mck.absorb, aligns := s.alignsAsked } } := by
  have hasked (v : Int) : (if s.mck.aligns.any fun a => decide (a.wait = s.alignWait) then
        { s with mck := { s.mck with absorb := v } }
      else { s with mck := { s.mck with
        absorb := v, aligns := s.mck.aligns ++ [{ wait := s.alignWait, lead := b2n s.seatsFollow }] } })
      = { s with mck := { s.mck with absorb := v, aligns := s.alignsAsked } } := by
    unfold State.alignsAsked
    split
    · rfl
    · rfl
  cases clear with
  | false => exact hasked s.mck.absorb
  | true => exact hasked 0

end Sys2Proof.Machine
end

section
/-! The statement of `REF_RANK`, `HOLDOVER_CONFIG`, `ALIGN_OUTPUTS` and `MCK_QUERY`. -/
open Sys2Proof Sys2Proof.Machine

/-- Settles O19: each command by the outcome of its commit; `REF_RANK` leaves the Command Processor as it was
(`selectNow_control`), the report of `HOLDOVER_CONFIG` does not see it (`holdoverReport_withCmd`), and `ALIGN_OUTPUTS` changes
what `alignAccept_eq` says. -/
theorem rankHoldoverAlignQuery : Obligations.RankHoldoverAlignQuery := by
  refine ⟨fun k s => ⟨fun hb => ?_, fun hb => ?_⟩, fun k s => ⟨fun hb => ?_, fun hb => ?_⟩⟩
  · exact exec_commit_ok_kept rfl hb (by decide) (commitOp_begun_mid hb (by decide) (by decide))
      (congrArg Prod.fst (selectNow_control _))
  · refine exec_commit_ok rfl hb (by decide) ((commitOp_begun_mid hb (by decide) (by decide)).trans ?_)
    rw [← holdoverReport_withCmd]
    rfl
  · have hcommit : commitOp s.cmd.nextOrd 0x33 k.tag k.x k.params (begun 0x33 k s)
        = commitAlignOutputs k.x k.params (begun 0x33 k s) := commitOp_begun_mid hb (by decide) (by decide)
    have hfail {st : Status} (h : commitAlignOutputs k.x k.params (begun 0x33 k s) = (begun 0x33 k s, .fail st))
        (h1 : st ≠ .lost) (h2 : st ≠ .aborted) :
        exec (.alignOutputs k) s = .next (replied 0x33 k st 0 [] false s (fresh s)) :=
      exec_commit_fail (t := fresh s) rfl hb (by decide) h1 h2 (hcommit.trans h)
    refine ⟨fun hboot => ?_, fun hboot hf => ?_, fun hboot hf ht => ?_, fun hboot hf ht => ?_⟩
    · exact hfail (commitAlignOutputs_boot hboot) nofun nofun
    · exact hfail (commitAlignOutputs_follows (s := begun 0x33 k s) hboot hf) nofun nofun
    · exact hfail (commitAlignOutputs_targetless (s := begun 0x33 k s) hboot hf ht) nofun nofun
    · refine exec_commit_later rfl hb (by decide) nofun (hcommit.trans ?_)
      rw [commitAlignOutputs_accepts (s := begun 0x33 k s) hboot hf ht, alignAccept_eq]
      rfl
  · exact exec_commit_ok (t := fresh s) rfl hb (by decide) (commitOp_begun_mid hb (by decide) (by decide))
end

section
/-! SUPPORT. What the selection of a reference is (R397, R398). -/
namespace Sys2Proof.Machine

variable {s : State} {i : Nat}

/-! ## The candidates of the best rank -/

theorem le_foldl_min {α : Type} (f : α → Nat) (c : Nat) (l : List α) (b : Nat) :
    c ≤ l.foldl (fun b a => min b (f a)) b ↔ c ≤ b ∧ ∀ a ∈ l, c ≤ f a := by
  induction l generalizing b with
  | nil => simp
  | cons a l ih => simp [ih, and_assoc]

/-- The best rank is below 8, as every rank is; so it is the least rank of a candidate. -/
theorem mem_bestRank (hr : ∀ i, (s.refClock i).rank < 8) :
    i ∈ s.bestRank ↔ i ∈ s.candidates ∧ ∀ j ∈ s.candidates, (s.refClock i).rank ≤ (s.refClock j).rank := by
  have hbest (c : Nat) := le_foldl_min (fun j => (s.refClock j).rank) c s.candidates 8
  unfold State.bestRank
  rw [List.mem_filter, decide_eq_true_eq]
  refine and_congr_right fun hi => ⟨fun h => ((hbest _).mp h.le).2, fun h => le_antisymm ?_ ?_⟩
  · exact (hbest _).mpr ⟨(hr i).le, h⟩
  · exact ((hbest _).mp le_rfl).2 i hi

theorem bestRank_ne_nil (hr : ∀ i, (s.refClock i).rank < 8) (h : s.candidates ≠ []) : s.bestRank ≠ [] := by
  obtain ⟨i, hi, hleast⟩ := s.candidates.toFinset.exists_min_image (fun j => (s.refClock j).rank)
    (List.toFinset_nonempty_iff _ |>.mpr h)
  simp only [List.mem_toFinset] at hi hleast
  exact List.ne_nil_of_mem ((mem_bestRank hr).mpr ⟨hi, hleast⟩)

/-! ## The choice among them -/

theorem closest_eq_none {m2 : Int} {l : List Nat} : s.closest m2 l = none ↔ l = [] := by
  cases l with
  | nil => simp [State.closest]
  | cons i l =>
    unfold State.closest
    split
    · simp
    · split <;> simp

theorem mem_of_closest {m2 : Int} {l : List Nat} (h : s.closest m2 l = some i) : i ∈ l := by
  induction l with
  | nil => cases h
  | cons j l ih =>
    unfold State.closest at h
    split at h
    · cases h
      exact List.mem_cons_self
    · next k hk =>
      split at h
      · exact List.mem_cons_of_mem _ (ih (hk.trans h))
      · cases h
        exact List.mem_cons_self

/-- With no disagreement the current one of the best rank is chosen, else the one of the lowest index (R397). -/
def State.topChoice (s : State) : Option Nat := if s.mck.sel.any (has s.bestRank) then s.mck.sel else s.bestRank.head?

theorem topChoice_current (hsel : s.mck.sel = some i) (h : i ∈ s.bestRank) : s.topChoice = some i := by
  simp [State.topChoice, hsel, has_iff, h]

theorem topChoice_lowest (h : ∀ i, s.mck.sel = some i → i ∉ s.bestRank) : s.topChoice = s.bestRank.head? := by
  refine if_neg fun hcur => ?_
  obtain ⟨i, hsel, htop⟩ := (Option.any_eq_true _ _).mp hcur
  exact h i hsel ((has_iff _ _).mp htop)

/-- The average frequencies of references. -/
def State.avgs (s : State) (l : List Nat) : List Int := l.map fun i => (s.refClock i).avg

/-- The qualified references beside those of the best rank, which judge a disagreement (R398). -/
def State.judges (s : State) : List Nat :=
  (List.range 5).filter fun i => s.refQualified i && s.takesPart i && !(has s.bestRank i)

/-- On a disagreement the one closest to a median is chosen, where there is one to take (R398). -/
theorem choose_eq (s : State) : s.choose = if s.disagreeing = [] then s.topChoice
    else if s.judges ≠ [] then s.closest (median2 (s.avgs s.judges)) s.bestRank
    else if 3 ≤ s.bestRank.length then s.closest (median2 (s.avgs s.bestRank)) s.bestRank
    else s.topChoice := by
  unfold State.choose State.topChoice
  cases s.mck.sel with
  | none => rfl
  | some i => rfl

theorem choose_agreed (h : s.disagreeing = []) : s.choose = s.topChoice := (choose_eq s).trans (if_pos h)

/-- The choice is of the best rank, and there is one where a reference has it. -/
theorem choose_topChoice_or_closest (s : State) :
    s.choose = s.topChoice ∨ ∃ m2, s.choose = s.closest m2 s.bestRank := by
  rw [choose_eq]
  split
  · exact .inl rfl
  · split
    · exact .inr ⟨_, rfl⟩
    · split
      · exact .inr ⟨_, rfl⟩
      · exact .inl rfl

theorem topChoice_eq_none (h : s.topChoice = none) : s.bestRank = [] := by
  by_contra hne
  have hnone : ∀ i, s.mck.sel = some i → i ∉ s.bestRank := fun i hsel htop => by
    cases (topChoice_current hsel htop).symm.trans h
  rw [topChoice_lowest hnone, List.head?_eq_none_iff] at h
  exact hne h

theorem mem_of_topChoice (h : s.topChoice = some i) : i ∈ s.bestRank := by
  unfold State.topChoice at h
  split at h
  · next hcur => simpa [h, has_iff] using hcur
  · exact List.mem_of_head? h

theorem choose_eq_none (h : s.choose = none) : s.bestRank = [] := by
  obtain htop | ⟨m2, hclosest⟩ := choose_topChoice_or_closest s
  · exact topChoice_eq_none (htop.symm.trans h)
  · exact closest_eq_none.mp (hclosest.symm.trans h)

theorem mem_of_choose (h : s.choose = some i) : i ∈ s.bestRank := by
  obtain htop | ⟨m2, hclosest⟩ := choose_topChoice_or_closest s
  · exact mem_of_topChoice (htop.symm.trans h)
  · exact mem_of_closest (hclosest.symm.trans h)

/-! ## The selection -/

/-- With REVERT = 0 the current one stays while it is a candidate (R397). -/
theorem selection_kept (hrevert : s.mck.revert = false) (hsel : s.mck.sel = some i) (h : i ∈ s.candidates) :
    s.selection = some i := by
  simp [State.selection, hsel, hrevert, has_iff, h]

/-- Else the choice is selected. -/
theorem selection_chosen (h : s.mck.revert = true ∨ ∀ i, s.mck.sel = some i → i ∉ s.candidates) :
    s.selection = s.choose := by
  unfold State.selection
  cases hsel : s.mck.sel with
  | none => rfl
  | some i =>
    have hleft : ¬(!s.mck.revert && has s.candidates i) = true := by
      simp only [Bool.and_eq_true, Bool.not_eq_true', has_iff]
      rintro ⟨hkeep, hi⟩
      obtain hrevert | hgone := h
      · cases hrevert.symm.trans hkeep
      · exact hgone i hsel hi
    exact if_neg hleft

/-- The current one stays by REVERT = 0, or the choice is selected. -/
theorem selection_cases (s : State) : (s.mck.revert = false ∧ ∃ i ∈ s.candidates, s.selection = some i)
    ∨ s.selection = s.choose := by
  by_cases h : s.mck.revert = true ∨ ∀ i, s.mck.sel = some i → i ∉ s.candidates
  · exact .inr (selection_chosen h)
  · push Not at h
    obtain ⟨hrevert, i, hsel, hi⟩ := h
    have hkeep := eq_false_of_ne_true hrevert
    exact .inl ⟨hkeep, i, hi, selection_kept hkeep hsel hi⟩

section
variable (hr : ∀ i, (s.refClock i).rank < 8)
include hr

theorem selection_mem (h : s.selection = some i) : i ∈ s.candidates := by
  obtain ⟨-, j, hj, hsel⟩ | hsel := selection_cases s
  · cases hsel.symm.trans h
    exact hj
  · exact ((mem_bestRank hr).mp (mem_of_choose (hsel.symm.trans h))).1

theorem selection_eq_none : s.selection = none ↔ s.candidates = [] := by
  constructor
  · intro h
    obtain ⟨-, j, -, hsel⟩ | hsel := selection_cases s
    · cases hsel.symm.trans h
    · by_contra hne
      exact bestRank_ne_nil hr hne (choose_eq_none (hsel.symm.trans h))
  · intro h
    cases hsel : s.selection with
    | none => rfl
    | some i => cases h ▸ selection_mem hr hsel

theorem selection_best (hrevert : s.mck.revert = true) (h : s.selection = some i) :
    ∀ j ∈ s.candidates, (s.refClock i).rank ≤ (s.refClock j).rank :=
  ((mem_bestRank hr).mp (mem_of_choose ((selection_chosen (.inl hrevert)).symm.trans h))).2
end

end Sys2Proof.Machine
end

section
/-! SUPPORT. What the events of the references and of the media clock leave (R392 to R395, R399 to R401, R409). -/
namespace Sys2Proof.Machine

variable (s : State)

/-! ## What MCK's evaluation and servo leave alone -/

/-- The selection, the number of the stroke, and the units and processors that MCK's evaluation and servo leave alone. -/
def State.besideMck (s : State) : Option Nat × Nat × Cmd × Ntu × Drv × Srx :=
  (s.mck.sel, s.mck.stroke, s.cmd, s.ntu, s.drv, s.srx)

theorem State.trackRefs_besideMck : s.trackRefs.besideMck = s.besideMck := by
  simp [State.besideMck, trackRefs_refs]

theorem State.flag_besideMck (a i : Nat) : (s.flag a i).besideMck = s.besideMck := rfl

theorem State.setFreq_besideMck (f : Int) : (s.setFreq f).besideMck = s.besideMck := by
  unfold State.setFreq
  split <;> rfl

theorem State.measurePhase_besideMck (i : Nat) : (s.measurePhase i).besideMck = s.besideMck := by
  unfold State.measurePhase
  split
  · rfl
  · split <;> rfl

theorem mckServo_besideMck : (mckServo s).besideMck = s.besideMck := by
  unfold mckServo
  dsimp only
  split
  · rfl
  · split
    · exact State.setFreq_besideMck ..
    · exact State.setFreq_besideMck ..
    · rfl

theorem noteDisagree_besideMck : (noteDisagree s).besideMck = s.besideMck := by
  unfold noteDisagree
  dsimp only
  split <;> rfl

/-- The state with another selection. -/
def State.select (s : State) (sel : Option Nat) : State := { s with mck := { s.mck with sel := sel } }

theorem switchTo_besideMck (i : Nat) : (switchTo i s).besideMck = (s.select (some i)).besideMck := by
  refine Eq.trans ?_ ((s.select (some i)).measurePhase_besideMck i)
  unfold switchTo
  split
  · rfl
  · rfl

theorem loseAll_besideMck : (loseAll s).besideMck = (s.select none).besideMck := by
  unfold loseAll
  split
  · rw [State.setFreq_besideMck]
    rfl
  · rw [State.flag_besideMck, State.setFreq_besideMck]
    rfl
  · rfl

theorem select_besideMck {s t : State} (h : t.besideMck = s.besideMck) (sel : Option Nat) :
    (t.select sel).besideMck = (s.select sel).besideMck := by
  simp only [State.besideMck, Prod.mk.injEq] at h
  obtain ⟨-, hstroke, hcmd, hntu, hdrv, hsrx⟩ := h
  simp [State.besideMck, State.select, hstroke, hcmd, hntu, hdrv, hsrx]

/-- MCK selects what the rules give, once the references are as they are now. -/
theorem selectNow_besideMck :
    (selectNow s).besideMck = (s.select (noteDisagree s.trackRefs).selection).besideMck := by
  have hnoted : (noteDisagree s.trackRefs).besideMck = s.besideMck :=
    (noteDisagree_besideMck _).trans s.trackRefs_besideMck
  rw [← select_besideMck hnoted]
  unfold selectNow
  dsimp only
  split
  · next hsame =>
    rw [hsame]
    rfl
  · split
    · next i hi =>
      rw [hi]
      exact switchTo_besideMck ..
    · next hnone =>
      rw [hnone]
      exact loseAll_besideMck _

/-! ## References as they are present -/

variable {s} {i : Nat}

theorem trackRef_avg (course : Nat) (present : Bool) (r : RefClock) : (trackRef course present r).avg = r.avg := by
  unfold trackRef
  split <;> rfl

theorem trackRef_qualified (course : Nat) (present : Bool) (r : RefClock) :
    (trackRef course present r).qualified = (r.en && present && r.qualified) := by
  unfold trackRef
  split
  · next h => rw [h, Bool.true_and]
  · next h => rw [eq_false_of_ne_true h, Bool.false_and]

/-- A reference that loses its qualification has its event (R394). -/
theorem trackRefs_fell (hi : i < s.mck.refs.length) (hq : (s.refClock i).qualified = true)
    (hf : (s.trackRefs.refClock i).qualified = false) : s.trackRefs.bit Reg.MCK_REF_EVENT 2 = true := by
  have hfell : ((s.mck.refs.zip s.trackRefs.mck.refs).any fun e => e.1.qualified && !e.2.qualified) = true := by
    have hi' : i < s.trackRefs.mck.refs.length := by simpa [trackRefs_refs] using hi
    have hold : s.refClock i = s.mck.refs[i] := by simp [State.refClock, List.getD, hi]
    have hnew : s.trackRefs.refClock i = s.trackRefs.mck.refs[i] := by simp [State.refClock, List.getD, hi']
    refine List.any_eq_true.mpr ⟨(s.mck.refs[i], s.trackRefs.mck.refs[i]), ?_, by rw [← hold, ← hnew, hq, hf]; rfl⟩
    rw [← List.getElem_zip (h := by simp [hi, hi'])]
    exact List.getElem_mem _
  have hflag : s.trackRefs = _ := if_pos (by rw [trackRefs_refs] at hfell; exact hfell)
  rw [hflag]
  exact State.bit_flag_self _ _ _ (by decide)

/-- Reference 2 or 3 is present as its edges were seen last (R390). -/
theorem refPresent_seen (hm : clocked s.mode = true) (hi : i = 2 ∨ i = 3) : s.refPresent i = (s.refClock i).seen := by
  have hwatch : s.mode ≠ .watch := by rintro h; simp [h, clocked] at hm
  refine (if_neg hwatch).trans ?_
  obtain rfl | rfl := hi <;> rfl

/-- An event of the references does not change which is present. -/
theorem refPresent_flag (i n : Nat) (s : State) : (s.flag Reg.MCK_REF_EVENT n).refPresent i = s.refPresent i := by
  have hhost : ∀ j, (s.flag Reg.MCK_REF_EVENT n).bit Reg.MCK_HOST_REF j = s.bit Reg.MCK_HOST_REF j :=
    fun j => s.bit_flag_ne n j (by decide)
  have hobl : ∀ j, (s.flag Reg.MCK_REF_EVENT n).bit Reg.OBL_CFG j = s.bit Reg.OBL_CFG j :=
    fun j => s.bit_flag_ne n j (by decide)
  unfold State.refPresent State.timeFollow State.coxSwitches
  rw [hhost, hobl]
  rfl

/-- Whether another is present does not rest on what is measured (R390). -/
theorem refPresent_onRef (j : Nat) (f : RefClock → RefClock) (hi : i < 5) (h : ¬(i = 2 ∨ i = 3)) :
    (s.onRef j f).refPresent i = s.refPresent i := by
  obtain rfl | rfl | rfl : i = 0 ∨ i = 1 ∨ i = 4 := by omega
  · rfl
  · rfl
  · rfl

theorem settle_refClock (s : State) (i : Nat) : (settle s).refClock i = s.refClock i := by
  simp [State.refClock]

/-- The selection, the state of MCK and time stand where references alone change and flags are set. -/
theorem sameButLinks_selection {t : State} (h : sameButLinks s t) :
    t.mck.sel = s.mck.sel ∧ t.mck.state = s.mck.state ∧ t.ntu = s.ntu := by
  obtain ⟨⟨_, _, _, _, rfl⟩, -⟩ := h
  exact ⟨rfl, rfl, rfl⟩

/-! ## A reference that qualifies (R393, R395) -/

/-- Reference `i` as it passes its tests: edges of reference 2 or 3 are seen. -/
def State.refSeen (s : State) (i : Nat) : State :=
  if i = 2 || i = 3 then s.onRef i fun r => { r with seen := true } else s

theorem sameButLinks_refSeen : sameButLinks s (s.refSeen i) := by
  unfold State.refSeen
  split
  · exact sameButLinks_refs ..
  · exact .refl s

theorem refClock_refSeen_ne {j : Nat} (h : j ≠ i) : (s.refSeen i).refClock j = s.refClock j := by
  unfold State.refSeen
  split
  · exact refClock_onRef_ne _ h
  · rfl

theorem refClock_refSeen_self (hlen : i < s.mck.refs.length) :
    ∃ b, (s.refSeen i).refClock i = { s.refClock i with seen := b } := by
  unfold State.refSeen
  split
  · exact ⟨true, refClock_onRef_self _ hlen⟩
  · exact ⟨_, rfl⟩

theorem length_refSeen : (s.refSeen i).mck.refs.length = s.mck.refs.length := by
  unfold State.refSeen
  split
  · exact length_listMod ..
  · rfl

theorem refPresent_refSeen (hm : clocked s.mode = true) (hlen : i < s.mck.refs.length)
    (h : i = 2 ∨ i = 3 ∨ s.refPresent i = true) : (s.refSeen i).refPresent i = true := by
  by_cases hi : i = 2 ∨ i = 3
  · have hseen : s.refSeen i = s.onRef i fun r => { r with seen := true } := if_pos (by simpa using hi)
    rw [hseen, refPresent_seen (s := s.onRef i _) hm hi, refClock_onRef_self _ hlen]
  · have hsame : s.refSeen i = s := if_neg (by simpa using hi)
    rw [hsame]
    tauto

/-- The reference once it is qualified at the average `freq`. -/
def State.qualifiedAs (s : State) (i : Nat) (freq phase : Int) (r : RefClock) : RefClock :=
  { r with qualified := true, avg := freq, phase := s.reducePhase i phase, since := some (r.since.getD s.ntu.course) }

section
variable {raw phase : Int} {pp : Nat}

theorem refQualifies_passing (hi : i < 5) (hm : clocked s.mode = true) (hlen : i < s.mck.refs.length)
    (hen : (s.refClock i).en = true) (hpresent : i = 2 ∨ i = 3 ∨ s.refPresent i = true)
    (hunqualified : (s.refClock i).qualified = false)
    (hfreq : (s.refClock i).freqOk (((s.refClock i).hyst : Int) * 10000) (s.corrected raw) = true)
    (hphase : (s.refClock i).phaseOk pp = true) : refQualifies i raw phase pp s
      = ((s.refSeen i).onRef i (s.qualifiedAs i (s.corrected raw) phase)).flag Reg.MCK_REF_EVENT 3 := by
  obtain ⟨b, hseen⟩ := refClock_refSeen_self (i := i) hlen
  have hp := refPresent_refSeen hm hlen hpresent
  refine if_pos (show (decide (i < 5) && ((s.refSeen i).refClock i).en && (s.refSeen i).refPresent i
    && !((s.refSeen i).refClock i).qualified
    && ((s.refSeen i).refClock i).freqOk ((((s.refSeen i).refClock i).hyst : Int) * 10000) (s.corrected raw)
    && ((s.refSeen i).refClock i).phaseOk pp) = true from ?_)
  rw [hp, hseen]
  simp only [Bool.and_eq_true]
  exact ⟨⟨⟨⟨⟨decide_eq_true hi, hen⟩, trivial⟩, congrArg (!·) hunqualified⟩, hfreq⟩, hphase⟩
end

/-! ## A reference that is measured (R393, R394) -/

/-- A measurement fails a test of the reference. -/
def RefClock.fails (r : RefClock) (freq : Int) (pp : Nat) : Bool := !(r.freqOk 0 freq) || !(r.phaseOk pp)

theorem RefClock.fails_iff {r : RefClock} {freq : Int} {pp : Nat} : r.fails freq pp = true
    ↔ (r.freqWin : Int) * 100000 < (freq.natAbs : Int) ∨ r.phaseWin * 10 < pp := by
  simp only [RefClock.fails, RefClock.freqOk, RefClock.phaseOk, Bool.or_eq_true, Bool.not_eq_true',
    decide_eq_false_iff_not, not_le, Int.sub_zero]

/-- The reference with what a measurement shows; one that fails loses its qualification. -/
def RefClock.measured (i : Nat) (present fails : Bool) (freq : Int) (course : Nat) (r : RefClock) : RefClock :=
  { r with qualified := r.qualified && !fails, avg := freq, seen := if i = 2 || i = 3 then present else r.seen,
           since := if fails && r.since.isSome then some course else r.since }

/-- A measurement of reference `i`, before its presence is looked at. -/
def State.refNoted (s : State) (i : Nat) (present : Bool) (freq : Int) (pp : Nat) : State :=
  let fails := (s.refClock i).fails freq pp
  let s1 := s.onRef i (RefClock.measured i present fails freq s.ntu.course)
  if (s.refClock i).qualified && fails then s1.flag Reg.MCK_REF_EVENT 2 else s1

theorem refMeasured_eq {present : Bool} {raw : Int} {pp : Nat} (hi : i < 5) :
    refMeasured i present raw pp s = (s.refNoted i present (s.corrected raw) pp).trackRefs := if_neg (not_le.mpr hi)

section
variable {present : Bool} {freq : Int} {pp : Nat}

theorem sameButLinks_refNoted : sameButLinks s (s.refNoted i present freq pp) := by
  unfold State.refNoted
  dsimp only
  split
  · exact (sameButLinks_refs s _).trans (sameButLinks_flag ..)
  · exact sameButLinks_refs ..

theorem length_refNoted : (s.refNoted i present freq pp).mck.refs.length = s.mck.refs.length := by
  unfold State.refNoted
  dsimp only
  split
  · exact length_listMod ..
  · exact length_listMod ..

theorem refClock_refNoted (j : Nat) : (s.refNoted i present freq pp).refClock j
    = (s.onRef i (RefClock.measured i present ((s.refClock i).fails freq pp) freq s.ntu.course)).refClock j := by
  unfold State.refNoted
  dsimp only
  split
  · rfl
  · rfl

theorem refClock_refNoted_self (hlen : i < s.mck.refs.length) : (s.refNoted i present freq pp).refClock i
    = (s.refClock i).measured i present ((s.refClock i).fails freq pp) freq s.ntu.course :=
  (refClock_refNoted i).trans (refClock_onRef_self _ hlen)

theorem refClock_refNoted_ne {j : Nat} (h : j ≠ i) : (s.refNoted i present freq pp).refClock j = s.refClock j :=
  (refClock_refNoted j).trans (refClock_onRef_ne _ h)

theorem settings_refNoted (hlen : i < s.mck.refs.length) (j : Nat) :
    ((s.refNoted i present freq pp).refClock j).settings = (s.refClock j).settings := by
  by_cases h : j = i
  · rw [h, refClock_refNoted_self hlen]
    rfl
  · rw [refClock_refNoted_ne h]

theorem refPresent_refNoted (hi : i < 5) (hm : clocked s.mode = true) (hlen : i < s.mck.refs.length) :
    (s.refNoted i present freq pp).refPresent i = if i = 2 ∨ i = 3 then present else s.refPresent i := by
  have hput : (s.refNoted i present freq pp).refPresent i
      = (s.onRef i (RefClock.measured i present ((s.refClock i).fails freq pp) freq s.ntu.course)).refPresent i := by
    unfold State.refNoted
    dsimp only
    split
    · exact refPresent_flag i 2 _
    · rfl
  rw [hput]
  split
  · next h =>
    rw [refPresent_seen (s := s.onRef i _) hm h, refClock_onRef_self _ hlen]
    exact if_pos (by simpa using h)
  · next h => exact refPresent_onRef i _ hi h

/-- A qualified reference that fails a test has its event (R394). -/
theorem refNoted_event (hq : (s.refClock i).qualified = true) (hf : (s.refClock i).fails freq pp = true) :
    (s.refNoted i present freq pp).bit Reg.MCK_REF_EVENT 2 = true := by
  have hflag : s.refNoted i present freq pp = _ := if_pos (by rw [hq, hf]; rfl)
  rw [hflag]
  exact State.bit_flag_self _ _ _ (by decide)

theorem refMeasured_qualified (hi : i < 5) (hm : clocked s.mode = true) (hlen : i < s.mck.refs.length) :
    ((s.refNoted i present freq pp).trackRefs.refClock i).qualified = ((s.refClock i).en
      && (if i = 2 ∨ i = 3 then present else s.refPresent i)
      && ((s.refClock i).qualified && !(s.refClock i).fails freq pp)) := by
  rw [refClock_trackRefs (length_refNoted.symm ▸ hlen), trackRef_qualified, refPresent_refNoted hi hm hlen,
    refClock_refNoted_self hlen]
  rfl

/-- A measurement that fails a test or finds no edges of reference 2 or 3 leaves it unqualified (R394). -/
theorem refMeasured_lost (hi : i < 5) (hm : clocked s.mode = true) (hlen : i < s.mck.refs.length)
    (h : (s.refClock i).fails freq pp = true ∨ (i = 2 ∨ i = 3) ∧ present = false) :
    ((s.refNoted i present freq pp).trackRefs.refClock i).qualified = false := by
  rw [refMeasured_qualified hi hm hlen]
  obtain hf | ⟨h23, habsent⟩ := h
  · rw [hf, Bool.not_true, Bool.and_false, Bool.and_false]
  · rw [if_pos h23, habsent, Bool.and_false, Bool.false_and]

/-- One that an enabled and present reference passes leaves it qualified. -/
theorem refMeasured_kept (hi : i < 5) (hm : clocked s.mode = true) (hlen : i < s.mck.refs.length)
    (hen : (s.refClock i).en = true) (hq : (s.refClock i).qualified = true)
    (hpresent : i = 2 ∨ i = 3 ∨ s.refPresent i = true)
    (h : ¬((s.refClock i).fails freq pp = true ∨ (i = 2 ∨ i = 3) ∧ present = false)) :
    ((s.refNoted i present freq pp).trackRefs.refClock i).qualified = true := by
  push Not at h
  obtain ⟨hpasses, hseen⟩ := h
  have hthere : (if i = 2 ∨ i = 3 then present else s.refPresent i) = true := by
    split
    · next h23 => exact eq_true_of_ne_false (hseen h23)
    · tauto
  rw [refMeasured_qualified hi hm hlen, hthere, hen, hq, eq_false_of_ne_true hpasses]
  rfl

/-- The event of a qualified reference that a measurement disqualifies, by a test or by its presence (R394). -/
theorem refMeasured_event (hlen : i < s.mck.refs.length) (hq : (s.refClock i).qualified = true)
    (hlost : ((s.refNoted i present freq pp).trackRefs.refClock i).qualified = false) :
    (s.refNoted i present freq pp).trackRefs.bit Reg.MCK_REF_EVENT 2 = true := by
  cases hf : (s.refClock i).fails freq pp with
  | true => exact (sameButLinks_trackRefs _).2 _ _ (refNoted_event hq hf)
  | false =>
    refine trackRefs_fell (length_refNoted.symm ▸ hlen) ?_ hlost
    rw [refClock_refNoted_self hlen, hf]
    exact (Bool.and_true _).trans hq
end

/-! ## The lock test (R401) -/

/-- MCK enters LOCKED at Course Time now, with no phase absorbed. -/
theorem lockNow_locked (i : Nat) (s : State) : (lockNow i s).mck.state = .locked ∧ (lockNow i s).mck.absorb = 0
    ∧ (lockNow i s).mck.lockedAt = (lockNow i s).ntu.course := by
  unfold lockNow
  generalize mckServo s = t
  exact ⟨rfl, rfl, rfl⟩

theorem lockNow_besideMck (i : Nat) (s : State) : (lockNow i s).besideMck = s.besideMck := by
  rw [← mckServo_besideMck s]
  unfold lockNow
  generalize mckServo s = t
  dsimp only
  split
  · rfl
  · rfl

/-- The lock has its event (R401). -/
theorem lockNow_event (i : Nat) (s : State) : (lockNow i s).bit Reg.MCK_REF_EVENT 4 = true := by
  unfold lockNow
  exact State.bit_flag_self _ _ _ (by decide)

end Sys2Proof.Machine
end

section
/-! The statement of the selection and of the events of the references. -/
open Sys2Proof Sys2Proof.Machine

/-- Settles O20: the selection by its cases (`selection_kept`, `selection_chosen`) and those of the choice (`choose_eq`); its
evaluation by what it selects (`selectNow_besideMck`), a reference that qualifies by `refQualifies_passing`, one that is
measured by what presence and tests leave of it (`refMeasured_lost`, `refMeasured_kept`, `refMeasured_event`), the lock test by
`lockNow_locked`, and the end of holdover by `holdoverReport_exceeded`. -/
theorem selectionAndReferenceEvents : Obligations.SelectionAndReferenceEvents := by
  refine ⟨fun s hr => ⟨fun i => selection_mem hr, selection_eq_none hr, fun i => selection_best hr, fun i => selection_kept,
    fun hagree hrevert => ?_⟩, fun s hm => ⟨?_, ?_, ?_, ?_, ?_⟩⟩
  · rw [selection_chosen (.inl hrevert), choose_agreed hagree]
    exact ⟨fun i => topChoice_current, topChoice_lowest⟩
  · have hbeside := selectNow_besideMck (fresh s)
    simp only [State.besideMck, Prod.mk.injEq] at hbeside
    obtain ⟨hsel, hstroke, hcmd, -, hdrv, hsrx⟩ := hbeside
    refine ⟨_, congrArg (fun t => Host.Outcome.next (settle t)) (if_pos hm), ?_⟩
    rw [settle_mck, settle_cmd, settle_drv, settle_srx]
    exact ⟨hsel, hstroke, hcmd, hdrv, hsrx⟩
  · intro i raw phase pp hi hlen hen hpresent hunqualified freq hfreq hphase
    have hl : i < (fresh s).mck.refs.length := by
      show i < s.mck.refs.length
      omega
    have hlseen : i < ((fresh s).refSeen i).mck.refs.length := length_refSeen.symm ▸ hl
    have hqualifies := refQualifies_passing (s := fresh s) (phase := phase) hi hm hl hen hpresent hunqualified
      (decide_eq_true hfreq) (decide_eq_true hphase)
    obtain ⟨b, hseen⟩ := refClock_refSeen_self hl
    obtain ⟨hsel, hstate, hntu⟩ := sameButLinks_selection (sameButLinks_refSeen (s := fresh s) (i := i))
    refine ⟨_, congrArg (fun t => Host.Outcome.next (settle t)) ((if_pos hm).trans hqualifies), ?_⟩
    simp only [settle_refClock, settle_mck, settle_bit, settle_ntu, refClock_flag, refClock_onRef_self _ hlseen, hseen]
    refine ⟨rfl, rfl, rfl, fun j hj => ?_, State.bit_flag_self _ _ _ (by decide), hsel, hstate, hntu⟩
    rw [refClock_onRef_ne _ hj]
    exact refClock_refSeen_ne hj
  · intro i present raw pp hi hlen hq freq fails
    have hl : i < (fresh s).mck.refs.length := by
      show i < s.mck.refs.length
      omega
    have hfails : ((fresh s).refClock i).fails freq pp = true ∨ (i = 2 ∨ i = 3) ∧ present = false ↔ fails :=
      (or_congr_left RefClock.fails_iff).trans or_assoc
    have hsame : sameButLinks (fresh s) ((fresh s).refNoted i present freq pp).trackRefs :=
      sameButLinks_refNoted.trans (sameButLinks_trackRefs _)
    obtain ⟨hsel, hstate, hntu⟩ := sameButLinks_selection hsame
    refine ⟨_, congrArg (fun t => Host.Outcome.next (settle t)) ((if_pos hm).trans (refMeasured_eq hi)), ?_⟩
    simp only [settle_refClock, settle_mck, settle_bit, settle_ntu]
    refine ⟨?_, fun hf => ?_, fun hpass hen hpresent => ?_, fun j => ?_, hsel, hstate, hntu⟩
    · rw [refClock_trackRefs (length_refNoted.symm ▸ hl), trackRef_avg, refClock_refNoted_self hl]
      rfl
    · have hlost := refMeasured_lost (s := fresh s) hi hm hl (hfails.mpr hf)
      exact ⟨hlost, refMeasured_event hl hq hlost⟩
    · exact refMeasured_kept (s := fresh s) hi hm hl hen hq hpresent (mt hfails.mp hpass)
    · exact (settings_trackRefs _ j).trans (settings_refNoted hl j)
  · intro i hsel hstate hreached
    have hbeside := lockNow_besideMck i (fresh s)
    simp only [State.besideMck, Prod.mk.injEq] at hbeside
    obtain ⟨hkept, -, -, hntu, -, -⟩ := hbeside
    obtain ⟨hlocked, habsorb, hat⟩ := lockNow_locked i (fresh s)
    have hexec : exec .lockTestPass s = .next (settle (lockNow i (fresh s))) := by
      show execLockTestPass s = _
      simp only [execLockTestPass, hsel, hstate, hm, hreached, decide_true, Bool.and_true, if_true]
    refine ⟨_, hexec, ?_⟩
    rw [settle_mck, settle_bit, settle_ntu]
    exact ⟨hlocked, hkept.trans hsel, habsorb, lockNow_event i _, hat.trans (congrArg Ntu.course hntu), hntu⟩
  · intro hstate hlimit
    refine ⟨_, congrArg (fun t => Host.Outcome.next (settle t))
      ((if_pos hm).trans (holdoverReport_exceeded (s := fresh s) hstate hlimit)), ?_⟩
    rw [settle_mck, settle_bit, settle_ntu, settle_cmd]
    exact ⟨rfl, State.bit_flag_self _ _ _ (by decide), rfl, rfl⟩
end

section
/-! SUPPORT. `BUS_DEFINE` at its commit point (R568). -/
namespace Sys2Proof.Machine

variable {s : State} {x : Bool} {p : List Word}

/-- The Command Processor apart, where it is as it was. -/
theorem State.withCmd_of_eq {c : Cmd} (h : s.cmd = c) : s.withCmd c = s := by
  subst h
  rfl

/-! ## What leaves the active bank (R555, R568) -/

/-- What leaves the active bank is forgotten in the Drive engine alone. -/
theorem State.forget_eq (s : State) (act : Bool) (f : Nat → Bool) (bus : Nat) (whole : Bool) :
    ∃ dets dyns, s.forget act f bus whole = { s with drv := { s.drv with dets := dets, dyns := dyns } } := by
  cases act
  · exact ⟨_, _, rfl⟩
  · exact ⟨_, _, rfl⟩

theorem State.forget_cmd (act : Bool) (f : Nat → Bool) (bus : Nat) (whole : Bool) :
    (s.forget act f bus whole).cmd = s.cmd := by
  obtain ⟨_, _, h⟩ := s.forget_eq act f bus whole
  rw [h]

theorem membersOf_dropBus (b : Bank) (bus : Nat) : membersOf (dropBus b bus) bus = [] := by
  simp [membersOf, dropBus, List.filter_filter]

/-! ## `BUS_DEFINE` -/

section
variable {w : Word} {inact : Bool} {b : Bank} (hw : pw p 1 = w) (hx : bankBit x w 11 = inact)
  (hbank : s.bank (s.bankIx inact) = b)
include hw hx hbank

theorem commitBusDefine_drops (h9 : bitOf w 9 = false) :
    commitBusDefine x p s
      = ((s.setBank (s.bankIx inact) (dropBus b (fieldOf w 8 0))).forget (!inact)
          (fun m => decide (m / 4096 = fieldOf w 8 0)) (fieldOf w 8 0) true,
        .ok [w32 (dropBus b (fieldOf w 8 0)).buses.length] (s.writeBank (s.bankIx inact) (dropBus b (fieldOf w 8 0))).2) := by
  subst hw hx hbank
  exact if_pos (by rw [h9]; rfl)

variable (h9 : bitOf w 9 = true)
include h9

theorem commitBusDefine_solo (hc : (bitOf w 10 && decide (s.role = 0)) = true) :
    commitBusDefine x p s = (s, .fail .badParam 1) := by
  subst hw hx hbank
  exact (if_neg (by rw [h9]; exact nofun)).trans (if_pos hc)

variable (hc : (bitOf w 10 && decide (s.role = 0)) = false)
include hc

variable {o : Bus} (ho : (tget b.buses (fieldOf w 8 0)).getD {} = o)
include ho

/-- CASCADE of a bus of the active bank differs (R560, R568). -/
theorem commitBusDefine_stale (h : inact = false ∧ thas b.buses (fieldOf w 8 0) = true ∧ o.cascade ≠ bitOf w 10) :
    commitBusDefine x p s = (s.flag Reg.DRV_ERR 0, .fail .staleWrite 1) := by
  subst hw hx hbank ho
  obtain ⟨ha, hb, hd⟩ := h
  obtain ⟨old, hold⟩ := Option.isSome_iff_exists.mp hb
  rw [hold] at hd
  refine (if_neg (by rw [h9]; exact nofun)).trans <| (if_neg (ne_true_of_eq_false hc)).trans (if_pos ?_)
  rw [ha] at hold ⊢
  rw [hold]
  exact decide_eq_true hd

theorem commitBusDefine_sets (h : inact = true ∨ thas b.buses (fieldOf w 8 0) = false ∨ o.cascade = bitOf w 10) :
    let new := { b with buses := tset b.buses (fieldOf w 8 0) { o with cascade := bitOf w 10 } }
    commitBusDefine x p s = (s.setBank (s.bankIx inact) new,
      .ok [w32 new.buses.length] (s.writeBank (s.bankIx inact) new).2) := by
  subst hw hx hbank ho
  intro new
  refine (if_neg (by rw [h9]; exact nofun)).trans <| (if_neg (ne_true_of_eq_false hc)).trans ((if_neg ?_).trans ?_)
  · cases hold : tget (s.bank (s.bankIx (bankBit x (pw p 1) 11))).buses (fieldOf (pw p 1) 8 0) with
    | none => simp
    | some old => rw [thas, hold] at h; simpa [or_iff_not_imp_left] using h
  · unfold new
    cases tget (s.bank (s.bankIx (bankBit x (pw p 1) 11))).buses (fieldOf (pw p 1) 8 0) with
    | none => rfl
    | some old => rfl
end

end Sys2Proof.Machine
end

section
/-! The statement of `BUS_DEFINE`. -/
open Sys2Proof Sys2Proof.Machine

/-- Settles O12: by the outcomes of its commit, `commitBusDefine_drops`, `_solo`, `_stale` and `_sets`. -/
theorem busDefineCompletes : Obligations.BusDefineCompletes := by
  intro k s hb b w bus inact i old o new
  have hcommit : commitOp s.cmd.nextOrd 0x20 k.tag k.x k.params b = commitBusDefine k.x k.params b :=
    commitOp_begun_low hb (by decide)
  refine ⟨fun h9 => ⟨?_, tget_terase_self _ _, membersOf_dropBus _ _⟩, fun h9 hc => ?_,
    fun h9 hc => ⟨fun h => ?_, fun h => ?_⟩⟩
  · exact exec_commit_ok_kept rfl hb (by decide) (hcommit.trans (commitBusDefine_drops (s := b) rfl rfl rfl h9))
      (State.forget_cmd ..)
  · exact exec_commit_fail (t := fresh s) rfl hb (by decide) nofun nofun
      (hcommit.trans (commitBusDefine_solo (s := b) rfl rfl rfl h9 hc))
  · exact exec_commit_fail (t := (fresh s).flag Reg.DRV_ERR 0) rfl hb (by decide) nofun nofun
      (hcommit.trans (commitBusDefine_stale (s := b) rfl rfl rfl h9 hc rfl h))
  · exact exec_commit_ok (t := (fresh s).setBank i new) rfl hb (by decide)
      (hcommit.trans (commitBusDefine_sets (s := b) rfl rfl rfl h9 hc rfl h))
end

section
/-! SUPPORT. `MEMBER_SET` at its commit point (R569). -/
namespace Sys2Proof.Machine

variable {s t : State} {x : Bool} {p : List Word}

/-! ## Words at fault -/

theorem firstBad_eq_none {l : List (Nat × Bool)} (h : ∀ e ∈ l, e.2 = false) : firstBad l = none := by
  induction l with
  | nil => rfl
  | cons e l ih =>
    obtain ⟨n, b⟩ := e
    obtain rfl : b = false := h (n, b) List.mem_cons_self
    exact ih fun e he => h e (List.mem_cons_of_mem _ he)

/-- No word of a range is at fault. -/
theorem firstBad_range_eq_none {n : Nat} (word : Nat → Nat) {bad : Nat → Bool} (h : ∀ j, j < n → bad j = false) :
    firstBad ((List.range n).map fun j => (word j, bad j)) = none := by
  refine firstBad_eq_none fun e he => ?_
  obtain ⟨j, hj, rfl⟩ := List.mem_map.mp he
  exact h j (List.mem_range.mp hj)

/-- No word of a list of items is at fault. -/
theorem firstBad_items_eq_none {α : Type} {items : List α} (d : α) (word : Nat → Nat) {bad : α → Bool}
    (h : ∀ e ∈ items, bad e = false) :
    firstBad ((List.range items.length).map fun j => (word j, bad (items.getD j d))) = none := by
  refine firstBad_range_eq_none word fun j hj => h _ ?_
  rw [List.getD_eq_getElem _ _ hj]
  exact List.getElem_mem hj

/-! ## A bank that is put -/

theorem State.bank_setBank_self {i : Nat} (b : Bank) (h : i < s.drv.banks.length) : (s.setBank i b).bank i = b :=
  getD_listMod_self _ _ _ _ h

theorem State.bank_setBank_ne {i j : Nat} (b : Bank) (h : j ≠ i) : (s.setBank i b).bank j = s.bank j :=
  getD_listMod_ne _ _ _ h

theorem State.bankIx_lt {b : Bool} (h : s.drv.active < 2) : s.bankIx b < 2 := by
  cases b
  · exact h
  · exact Nat.lt_succ_of_le (Nat.sub_le 1 _)

/-- Bank `i` is put as `b`, beside what the engine keeps of detectors and talkers, and what the Umpire holds of its memory. -/
def bankPut (i : Nat) (b : Bank) (s t : State) : Prop :=
  ∃ dets dyns u, t = { s.setBank i b with drv := { (s.setBank i b).drv with dets := dets, dyns := dyns }, ump := u }

theorem bankPut_setBank (i : Nat) (b : Bank) (s : State) : bankPut i b s (s.setBank i b) := ⟨_, _, _, rfl⟩

theorem bankPut_forget {i : Nat} {b : Bank} (h : bankPut i b s t) (act : Bool) (f : Nat → Bool) (bus : Nat) (whole : Bool) :
    bankPut i b s (t.forget act f bus whole) := by
  obtain ⟨_, _, _, rfl⟩ := h
  obtain ⟨_, _, h⟩ := State.forget_eq _ act f bus whole
  exact ⟨_, _, _, h⟩

theorem bankPut_memRewritten {i : Nat} {b : Bank} (h : bankPut i b s t) (m : Nat) (q : Nat → Bool) :
    bankPut i b s (t.memRewritten m q) := by
  obtain ⟨_, _, _, rfl⟩ := h
  obtain ⟨_, h⟩ := memRewritten_eq _ m q
  exact ⟨_, _, _, h⟩

/-- The members of items are rewritten in the memory `m` of a bank. -/
def membersRewritten (m : Nat) (items : List (Nat × Int)) (s : State) : State :=
  items.foldl (fun s e => s.memRewritten m fun k => decide (k = e.1)) s

theorem bankPut_membersRewritten {i : Nat} {b : Bank} (m : Nat) (items : List (Nat × Int)) (h : bankPut i b s t) :
    bankPut i b s (membersRewritten m items t) := by
  induction items generalizing t with
  | nil => exact h
  | cons e items ih => exact ih (bankPut_memRewritten h m fun k => decide (k = e.1))

/-! ## `MEMBER_SET` -/

/-- One member set in a bank, and one removed from it. -/
def memberPut (act : Bool) (sz n : Nat) (b : Bank) (e : Nat × Int) : Bank :=
  { b with members := setTerm act sz n b.members e.1 e.2 }
def memberCut (act : Bool) (sz n : Nat) (b : Bank) (e : Nat × Int) : Bank :=
  { b with members := dropTerm act sz n b.members e.1 }

theorem foldl_memberPut (act : Bool) (sz n : Nat) (items : List (Nat × Int)) (b : Bank) :
    items.foldl (memberPut act sz n) b
      = { b with members := items.foldl (fun t e => setTerm act sz n t e.1 e.2) b.members } := by
  induction items generalizing b with
  | nil => rfl
  | cons e items ih => exact ih _

theorem foldl_memberCut (act : Bool) (sz n : Nat) (items : List (Nat × Int)) (b : Bank) :
    items.foldl (memberCut act sz n) b
      = { b with members := items.foldl (fun t e => dropTerm act sz n t e.1) b.members } := by
  induction items generalizing b with
  | nil => rfl
  | cons e items ih => exact ih _

theorem applyUntil_fits {α : Type} {fits : Bank → Bool} {f : Bank → α → Bank} {items : List α} {b : Bank} (i : Nat)
    (h : ∀ n, 0 < n → fits ((items.take n).foldl f b) = true) :
    applyUntil fits f i items b = (items.foldl f b, none) := by
  induction items generalizing b i with
  | nil => rfl
  | cons e items ih =>
    have hfirst : fits (f b e) = true := h 1 Nat.one_pos
    exact (if_pos hfirst).trans (ih (i + 1) fun n hn => h (n + 1) n.succ_pos)

/-- The members that `MEMBER_SET` names, by their keys, with their gains (R569). -/
def memberItems (p : List Word) : List (Nat × Int) :=
  (p.drop 1).map fun v => (memKey (fieldOf (pw p 1) 8 0) (fieldOf v 11 0), sgn 18 (fieldOf v 29 12))

section
variable {inact act : Bool} {i : Nat} {b : Bank} (hx : bankBit x (pw p 1) 10 = inact) (ha : (!inact) = act)
  (hi : s.bankIx inact = i) (hbank : s.bank i = b) (hbus : thas b.buses (fieldOf (pw p 1) 8 0) = true)
include hx ha hi hbank hbus

theorem commitMemberSet_removes (h9 : bitOf (pw p 1) 9 = true)
    (hall : ∀ e ∈ memberItems p, hasTerm b.members e.1 = true) :
    let new := { b with members :=
      (memberItems p).foldl (fun t e => dropTerm act s.strokeSize (fieldOf (pw p 1) 18 11) t e.1) b.members }
    ∃ t, commitMemberSet x p s = (t, .ok [w32 new.members.length] (s.writeBank i new).2) ∧ bankPut i new s t := by
  subst hx ha hi hbank
  intro new
  have hnone : firstBad _ = none := firstBad_items_eq_none (items := memberItems p) (0, 0) (· + 2)
    (bad := fun e => !(hasTerm (s.bank (s.bankIx (bankBit x (pw p 1) 10))).members e.1))
    fun e he => by rw [hall e he]; rfl
  have hnew := foldl_memberCut (!(bankBit x (pw p 1) 10)) s.strokeSize (fieldOf (pw p 1) 18 11) (memberItems p)
    (s.bank (s.bankIx (bankBit x (pw p 1) 10)))
  refine ⟨membersRewritten (1 + s.bankIx (bankBit x (pw p 1) 10)) (memberItems p)
      ((s.setBank (s.bankIx (bankBit x (pw p 1) 10)) new).forget (!(bankBit x (pw p 1) 10))
        (fun k => decide (k / 4096 = fieldOf (pw p 1) 8 0) && !(thas new.members k)) (fieldOf (pw p 1) 8 0) false),
    (if_neg (by rw [hbus]; exact nofun)).trans ((if_pos h9).trans ?_),
    bankPut_membersRewritten _ _ (bankPut_forget (bankPut_setBank _ _ s) _ _ _ _)⟩
  dsimp only
  split
  · next n hn => exact absurd (hnone.symm.trans hn) nofun
  · unfold new
    rw [← hnew]
    rfl

theorem commitMemberSet_sets (h9 : bitOf (pw p 1) 9 = false)
    (hfits : ∀ n, 0 < n →
      let ms := ((memberItems p).take n).foldl
        (fun t e => setTerm act s.strokeSize (fieldOf (pw p 1) 18 11) t e.1 e.2) b.members
      ms.length ≤ s.memberLimit ∧ selfFits { b with members := ms } = true) :
    let new := { b with members :=
      (memberItems p).foldl (fun t e => setTerm act s.strokeSize (fieldOf (pw p 1) 18 11) t e.1 e.2) b.members }
    ∃ t, commitMemberSet x p s = (t, .ok [w32 new.members.length] (s.writeBank i new).2) ∧ bankPut i new s t := by
  subst hx ha hi hbank
  intro new
  have hnew (items : List (Nat × Int)) := foldl_memberPut (!(bankBit x (pw p 1) 10)) s.strokeSize
    (fieldOf (pw p 1) 18 11) items (s.bank (s.bankIx (bankBit x (pw p 1) 10)))
  have happly := applyUntil_fits (fits := fun b => decide (b.members.length ≤ s.memberLimit) && selfFits b)
    (f := memberPut (!(bankBit x (pw p 1) 10)) s.strokeSize (fieldOf (pw p 1) 18 11))
    (b := s.bank (s.bankIx (bankBit x (pw p 1) 10))) (items := memberItems p) 0 fun n hn => by
      rw [hnew]
      exact Bool.and_eq_true_iff.mpr ((hfits n hn).imp_left decide_eq_true)
  refine ⟨membersRewritten (1 + s.bankIx (bankBit x (pw p 1) 10)) (memberItems p)
      (s.setBank (s.bankIx (bankBit x (pw p 1) 10)) new),
    (if_neg (by rw [hbus]; exact nofun)).trans ((if_neg (ne_true_of_eq_false h9)).trans ?_),
    bankPut_membersRewritten _ _ (bankPut_setBank _ _ s)⟩
  dsimp only
  split
  · next hsome => exact absurd (congrArg Prod.snd (happly.symm.trans hsome)) nofun
  · next b' hdone =>
    obtain rfl : b' = new := (congrArg Prod.fst (hdone.symm.trans happly)).trans (hnew _)
    rfl
end

end Sys2Proof.Machine
end

section
/-! The statement of `MEMBER_SET`. -/
open Sys2Proof Sys2Proof.Machine

/-- Settles O13: both forms put the bank with other members (`commitMemberSet_sets`, `commitMemberSet_removes`), which
`bankPut` says to be all that changes. -/
theorem memberSetCompletes : Obligations.MemberSetCompletes := by
  intro k s hb w bus act i old ramp items hbus hactive hbanks done
  have hact : act = !(bankBit k.x (pw k.params 1) 10) := rfl
  have hput {b' : Bank} (h : ∃ t, commitMemberSet k.x k.params (begun 0x21 k s)
        = (t, .ok [w32 b'.members.length] (s.writeBank i b').2) ∧ bankPut i b' (begun 0x21 k s) t) : done b' := by
    obtain ⟨_, hcommit, dets, dyns, u, rfl⟩ := h
    have hi : i < s.drv.banks.length := hbanks ▸ State.bankIx_lt hactive
    refine ⟨_, exec_commit_ok_kept rfl hb (by decide) ((commitOp_begun_low hb (by decide)).trans hcommit) rfl,
      replied_held, ?_⟩
    simp only [State.bank, replied_drv, replied_srx, replied_mck]
    refine ⟨State.bank_setBank_self b' hi, State.bank_setBank_ne b' ?_, rfl, rfl, settle_stx _, settle_tdm _, rfl,
      settle_buf _, fun _ => replied_regs⟩
    omega
  have hi : s.bankIx (bankBit k.x (pw k.params 1) 10) = i := congrArg s.bankIx (Bool.not_not _).symm
  refine ⟨fun h9 hfits => hput ?_, fun h9 hall => hput ?_⟩
  · exact commitMemberSet_sets (s := begun 0x21 k s) rfl rfl hi rfl hbus h9 hfits
  · exact commitMemberSet_removes (s := begun 0x21 k s) rfl rfl hi rfl hbus h9 hall
end

section
/-! SUPPORT. Terms as they are set and removed, the samples of a ramp, and the banks after a swap (R552, R553, R559). -/
namespace Sys2Proof.Machine

/-! ## Terms (R552, R553, R559) -/

section
variable {act : Bool} {sz n : Nat} {t : Table Term} {j m : Nat} {g : Int}

/-- A term set in the active bank ramps from where it stands, or from zero. -/
theorem setTerm_active (t : Table Term) (j : Nat) (g : Int) :
    setTerm true sz n t j g = tset t j { gain := rampTo ((tget t j).elim (rampAt 0) Term.gain) g (n * sz) } := by
  unfold setTerm
  cases tget t j with
  | none => rfl
  | some x => rfl

theorem setTerm_inactive : setTerm false sz n t j g = tset t j { gain := rampAt g } := rfl

theorem dropTerm_ramps (hn : 0 < n) : dropTerm true sz n t j
    = tmod t j fun x => { gain := rampTo x.gain 0 (n * sz), leaving := true } := if_pos (decide_eq_true hn)

theorem dropTerm_now (h : act = false ∨ n = 0) : dropTerm act sz n t j = terase t j := by
  refine if_neg ?_
  rcases h with rfl | rfl
  · exact nofun
  · cases act <;> exact nofun

theorem tget_setTerm_ne (h : m ≠ j) : tget (setTerm act sz n t j g) m = tget t m := by
  cases act
  · exact tget_tset_ne _ _ h
  · rw [setTerm_active]
    exact tget_tset_ne _ _ h

theorem tget_dropTerm_ne (h : m ≠ j) : tget (dropTerm act sz n t j) m = tget t m := by
  unfold dropTerm
  split
  · rw [tget_tmod, if_neg h]
  · exact tget_terase_ne _ h
end

/-! ## Ramps (R552) -/

theorem rampRun_succ_snd (n : Nat) (r : Ramp) : (rampRun (n + 1) r).2 = (rampRun n (rampNext r)).2 := rfl

/-- Before its end a ramp stands on its line. -/
theorem rampRun_within (n : Nat) (r : Ramp) (h : r.j + (n + 1) < r.len) : (rampRun (n + 1) r).2
    = { r with cur := r.a + roundDiv ((r.b - r.a) * ((r.j + (n + 1) : Nat) : Int)) r.len, j := r.j + (n + 1) } := by
  induction n generalizing r with
  | zero => exact if_neg (by omega)
  | succ n ih =>
    have hnext : rampNext r
        = { r with cur := r.a + roundDiv ((r.b - r.a) * ((r.j + 1 : Nat) : Int)) r.len, j := r.j + 1 } := if_neg (by omega)
    have hj : r.j + 1 + (n + 1) = r.j + (n + 1 + 1) := by omega
    rw [rampRun_succ_snd, hnext, ih _ (by dsimp only; omega), hj]

/-- From its end on a ramp stands at its target. -/
theorem rampRun_ended (n : Nat) (r : Ramp) (h : r.len ≤ r.j + (n + 1)) : ((rampRun (n + 1) r).2).cur = r.b := by
  induction n generalizing r with
  | zero => exact congrArg Ramp.cur (if_pos h)
  | succ n ih =>
    rw [rampRun_succ_snd]
    by_cases hend : r.len ≤ r.j + 1
    · have hnext : rampNext r = { r with cur := r.b, j := r.len } := if_pos hend
      rw [hnext]
      exact ih _ (by dsimp only; omega)
    · have hnext : rampNext r
          = { r with cur := r.a + roundDiv ((r.b - r.a) * ((r.j + 1 : Nat) : Int)) r.len, j := r.j + 1 } := if_neg hend
      rw [hnext]
      exact ih _ (by dsimp only; omega)

/-! ## A swap of the banks (R559) -/

section
variable {s : State} (copy : Bool) (hb : s.drv.banks.length = 2) (ha : s.drv.active < 2)
include hb ha

theorem drvSwap_activeBank : (drvSwap copy s).activeBank = bankSettings (s.bank (1 - s.drv.active)) := by
  have hne : 1 - s.drv.active ≠ s.drv.active := by omega
  refine (State.bank_setBank_ne _ hne).trans (State.bank_setBank_self _ ?_)
  omega

theorem drvSwap_inactiveBank : (drvSwap copy s).bank s.drv.active
    = if copy then bankSettings (s.bank (1 - s.drv.active)) else bankSettings s.activeBank := by
  refine State.bank_setBank_self _ ?_
  rw [State.setBank, length_listMod]
  omega

/-- The detectors of the members of the new bank go on, and the others' are gone. -/
theorem drvSwap_dets (m : Nat) : tget (drvSwap copy s).drv.dets m
    = if thas (drvSwap copy s).activeBank.members m = true then tget s.drv.dets m else none := by
  rw [drvSwap_activeBank copy hb ha]
  split
  · next h => exact tget_filter_key _ (fun k => thas (bankSettings (s.bank (1 - s.drv.active))).members k) h
  · next h =>
    exact tget_filter_dropped _ (fun k => thas (bankSettings (s.bank (1 - s.drv.active))).members k) (eq_false_of_ne_true h)
end

end Sys2Proof.Machine
end

section
/-! The statement of terms, ramps and bank swaps. -/
open Sys2Proof Sys2Proof.Machine

/-- Settles O14: terms by the laws of `setTerm` and `dropTerm`, the samples of a ramp by `rampRun_within` and
`rampRun_ended`, and a swap by the banks that it leaves. -/
theorem termsRampAndBanksSwap : Obligations.TermsRampAndBanksSwap := by
  refine ⟨fun act sz n t j m g => ⟨?_, ?_, ?_, fun h => ?_, fun h => ⟨tget_setTerm_ne h, tget_dropTerm_ne h⟩⟩,
    fun a b len j hj => ⟨?_, fun n => ?_⟩, fun copy s hb ha => ?_⟩
  · rintro rfl
    rw [setTerm_active, tget_tset_self]
    cases tget t j with
    | none => rfl
    | some x => rfl
  · rintro rfl
    exact tget_tset_self _ _ _
  · rintro ⟨rfl, hn⟩
    rw [dropTerm_ramps hn, tget_tmod_self]
    rfl
  · rw [dropTerm_now h]
    exact tget_terase_self _ _
  · split
    · next hend => exact rampRun_ended j _ (by dsimp only; omega)
    · rw [rampRun_within j _ (by dsimp only; omega)]
      simp
  · obtain ⟨i, hi⟩ : ∃ i, len + n = i + 1 := ⟨len + n - 1, by omega⟩
    rw [hi]
    exact rampRun_ended i _ (by dsimp only; omega)
  · refine ⟨rfl, drvSwap_activeBank copy hb ha, drvSwap_inactiveBank copy hb ha, fun m hm => ?_, fun m hm => ?_,
      rfl, rfl, rfl, rfl⟩
    · exact (drvSwap_dets copy hb ha m).trans (if_pos hm)
    · exact (drvSwap_dets copy hb ha m).trans (if_neg (ne_true_of_eq_false hm))
end

section
/-! SUPPORT. `LISTEN_SET` at its commit point (R570). -/
namespace Sys2Proof.Machine

variable {s : State} {x : Bool} {p : List Word}

theorem pw_eq {i j : Nat} (h : i = j + 1) : pw p i = p.getD j 0 := by
  rw [h]
  rfl

/-- The subscriptions that `LISTEN_SET` names, with their gains. -/
def listenSubs (p : List Word) : List (Nat × Int) :=
  (List.range (fieldOf (pw p 1) 20 16)).map fun j => (fieldOf (pw p (3 + j)) 8 0, sgn 18 (fieldOf (pw p (3 + j)) 26 9))

/-- The self list that it names, two sources to a word. -/
def listenSelfs (p : List Word) : List Nat :=
  (List.range (fieldOf (pw p 1) 25 21)).map fun j =>
    let v := pw p (3 + fieldOf (pw p 1) 20 16 + j / 2)
    if j % 2 = 0 then fieldOf v 11 0 else fieldOf v 27 16

/-- The standing subscriptions that a command does not name leave, as removed terms do. -/
def listenLeft (act : Bool) (sz ramp : Nat) (subs : List (Nat × Int)) (t : Table Term) : Table Term :=
  ((t.map Prod.fst).filter fun m => !(subs.any fun e => decide (e.1 = m))).foldl (fun t m => match tget t m with
    | some y => if y.leaving then t else dropTerm act sz ramp t m
    | none => t) t

/-- The listener mix that it leaves where `was` stood. -/
def listenGiven (act : Bool) (sz : Nat) (p : List Word) (was : Listener) : Listener :=
  { was with
    eqLat := bitOf (pw p 1) 12, out24 := bitOf (pw p 1) 13, selfs := listenSelfs p
    subs := (listenSubs p).foldl (fun t e => setTerm act sz (fieldOf (pw p 2) 7 0) t e.1 e.2)
      (listenLeft act sz (fieldOf (pw p 2) 7 0) (listenSubs p) was.subs) }

theorem listenSubs_eq : listenSubs p = (List.range (fieldOf (p.getD 0 0) 20 16)).map fun j =>
    (fieldOf (p.getD (2 + j) 0) 8 0, sgn 18 (fieldOf (p.getD (2 + j) 0) 26 9)) :=
  List.map_congr_left fun j _ => by rw [pw_eq (show 3 + j = 2 + j + 1 by omega)]

theorem listenSelfs_eq : listenSelfs p = (List.range (fieldOf (p.getD 0 0) 25 21)).map fun j =>
    let v := p.getD (2 + fieldOf (p.getD 0 0) 20 16 + j / 2) 0
    if j % 2 = 0 then fieldOf v 11 0 else fieldOf v 27 16 :=
  List.map_congr_left fun j _ => by
    rw [pw_eq (show 3 + fieldOf (pw p 1) 20 16 + j / 2 = 2 + fieldOf (pw p 1) 20 16 + j / 2 + 1 by omega)]
    rfl

theorem commitListenSet_limited (h : s.listenerLimit ≤ fieldOf (pw p 1) 10 0) :
    commitListenSet x p s = (s, .fail .badParam 1) := if_pos h

section
variable {inact act : Bool} {i : Nat} {b : Bank} (hx : bankBit x (pw p 1) 14 = inact) (ha : (!inact) = act)
  (hi : s.bankIx inact = i) (hbank : s.bank i = b) (hnum : fieldOf (pw p 1) 10 0 < s.listenerLimit)
include hx ha hi hbank hnum

theorem commitListenSet_removes (h11 : bitOf (pw p 1) 11 = false) :
    let new := { b with listeners := terase b.listeners (fieldOf (pw p 1) 10 0) }
    commitListenSet x p s = (s.setBank i new, .ok [w32 (2 ^ 5 * new.listeners.length)] (s.writeBank i new).2) := by
  subst hx ha hi hbank
  exact (if_neg hnum.not_ge).trans (if_pos (by rw [h11]; rfl))

variable {l : Listener}
  (hl : listenGiven act s.strokeSize p ((tget b.listeners (fieldOf (pw p 1) 10 0)).getD {}) = l)
include hl

theorem commitListenSet_gives (h11 : bitOf (pw p 1) 11 = true) (hbus : ∀ e ∈ listenSubs p, thas b.buses e.1 = true)
    (hlat : act = false ∨ thas b.listeners (fieldOf (pw p 1) 10 0) = false
      ∨ ((tget b.listeners (fieldOf (pw p 1) 10 0)).getD {}).eqLat = bitOf (pw p 1) 12)
    (hsubs : l.subs.length ≤ 16) :
    let new := { b with listeners := tset b.listeners (fieldOf (pw p 1) 10 0) l }
    selfTerms new l ≤ 16 → commitListenSet x p s
      = (s.setBank i new, .ok [w32 (selfTerms new l + 2 ^ 5 * new.listeners.length)] (s.writeBank i new).2) := by
  subst hx ha hi hbank hl
  intro new hself
  have hnone : firstBad ((List.range (fieldOf (pw p 1) 20 16)).map fun j => (3 + j,
      !(thas (s.bank (s.bankIx (bankBit x (pw p 1) 14))).buses ((listenSubs p).getD j (0, 0)).1))) = none :=
    firstBad_range_eq_none _ fun j hj => by
      have hlen : j < (listenSubs p).length := by rwa [listenSubs, List.length_map, List.length_range]
      rw [List.getD_eq_getElem _ _ hlen, hbus _ (List.getElem_mem hlen)]
      rfl
  refine (if_neg hnum.not_ge).trans ((if_neg (by rw [h11]; exact nofun)).trans ?_)
  dsimp only
  split
  · next n hn => exact absurd (hnone.symm.trans hn) nofun
  · refine (if_neg ?_).trans ((if_neg hsubs.not_gt).trans ((if_neg hself.not_gt).trans rfl))
    rw [Bool.and_eq_true, not_and_or]
    obtain ha | hnew | heq := hlat
    · exact .inl (ne_true_of_eq_false ha)
    · rw [thas, Option.isSome_eq_false_iff, Option.isNone_iff_eq_none] at hnew
      exact .inr (by rw [hnew]; exact nofun)
    · cases hold : tget (s.bank (s.bankIx (bankBit x (pw p 1) 14))).listeners (fieldOf (pw p 1) 10 0) with
      | none => exact .inr nofun
      | some o =>
        rw [hold] at heq
        exact .inr (by simpa using heq)
end

end Sys2Proof.Machine
end

section
/-! The statement of `LISTEN_SET`. -/
open Sys2Proof Sys2Proof.Machine

/-- Settles O15: by the outcomes of its commit, `commitListenSet_limited`, `_removes` and `_gives`. -/
theorem listenSetCompletes : Obligations.ListenSetCompletes := by
  intro k s hb b w num act i old nsub ramp subs selfs was gone left l new without
  have hcommit : commitOp s.cmd.nextOrd 0x22 k.tag k.x k.params b = commitListenSet k.x k.params b :=
    commitOp_begun_low hb (by decide)
  have hi : b.bankIx (bankBit k.x (pw k.params 1) 14) = i := congrArg s.bankIx (Bool.not_not _).symm
  have hsubs' : subs = listenSubs k.params := listenSubs_eq.symm
  have hselfs : selfs = listenSelfs k.params := listenSelfs_eq.symm
  have hl : listenGiven act s.strokeSize k.params was = l := by
    unfold l left gone
    rw [hsubs', hselfs]
    rfl
  refine ⟨fun hnum => ?_, fun hnum h11 => ?_, fun hnum h11 hbus hlat hsubs hself => ?_⟩
  · exact exec_commit_fail (t := fresh s) rfl hb (by decide) nofun nofun
      (hcommit.trans (commitListenSet_limited (s := b) hnum))
  · exact exec_commit_ok (t := (fresh s).setBank i without) rfl hb (by decide)
      (hcommit.trans (commitListenSet_removes (s := b) rfl rfl hi rfl hnum h11))
  · exact exec_commit_ok (t := (fresh s).setBank i new) rfl hb (by decide)
      (hcommit.trans (commitListenSet_gives (s := b) rfl rfl hi rfl hnum hl h11 (hsubs' ▸ hbus) hlat hsubs hself))
end

section
/-! SUPPORT. `XPOINT_SET` and `GAIN_SET` at their commit points (R571, R572). -/
namespace Sys2Proof.Machine

variable {s : State} {x : Bool} {p : List Word}

/-! ## Feeds (R571) -/

/-- A word feeds a sink from a listener mix that the core rate does not allow (R565). -/
def farFeed (s : State) (v : Word) : Bool := decide (fieldOf v 27 26 = 1) && decide (s.listenerLimit ≤ fieldOf v 23 12)

theorem farFeed_iff {v : Word} : farFeed s v = true ↔ fieldOf v 27 26 = 1 ∧ s.listenerLimit ≤ fieldOf v 23 12 := by
  simp [farFeed]

/-- The feeds that the command names. -/
def feedItems (p : List Word) : List (Nat × Nat) := (p.drop 1).map fun v => (fieldOf v 11 0, storedFeed (fieldOf v 27 12))

theorem idxOf_true_of_first {l : List Bool} {i : Nat} (hi : i < l.length) (h : l.getD i false = true)
    (hfirst : ∀ j, j < i → l.getD j false = false) : l.idxOf true = i := by
  induction l generalizing i with
  | nil => exact absurd hi (Nat.not_lt_zero _)
  | cons a l ih =>
    cases i with
    | zero =>
      obtain rfl : a = true := h
      exact List.idxOf_cons_self
    | succ i =>
      obtain rfl : a = false := hfirst 0 i.succ_pos
      rw [List.idxOf_cons_ne l Bool.false_ne_true,
        ih (Nat.lt_of_succ_lt_succ hi) h fun j hj => hfirst (j + 1) (Nat.succ_lt_succ hj)]

theorem no_farFeed (hnear : ∀ v ∈ p.drop 1, ¬farFeed s v = true) : ¬((p.drop 1).map (farFeed s)).any id = true := by
  rw [List.any_map, List.any_eq_true]
  rintro ⟨v, hv, hfar⟩
  exact hnear v hv hfar

section
variable (h0 : bitOf (pw p 1) 0 = true)
include h0

/-- The first word that names such a feed is at fault. -/
theorem commitXpointSet_far {i : Nat} (hi : i < (p.drop 1).length) (h : farFeed s ((p.drop 1).getD i 0) = true)
    (hfirst : ∀ j, j < i → ¬farFeed s ((p.drop 1).getD j 0) = true) :
    commitXpointSet x p s = (s, .fail .badParam (2 + i)) := by
  have hget {j : Nat} (hj : j < (p.drop 1).length) :
      ((p.drop 1).map (farFeed s)).getD j false = farFeed s ((p.drop 1).getD j 0) := by
    rw [List.getD_eq_getElem _ _ hj, List.getD_eq_getElem _ _ (by rwa [List.length_map]), List.getElem_map]
  have hidx : ((p.drop 1).map (farFeed s)).idxOf true = i :=
    idxOf_true_of_first (by rwa [List.length_map]) ((hget hi).trans h) fun j hj =>
      (hget (hj.trans hi)).trans (eq_false_of_ne_true (hfirst j hj))
  have hany : ((p.drop 1).map (farFeed s)).any id = true := by
    rw [List.any_map, List.any_eq_true]
    refine ⟨_, ?_, h⟩
    rw [List.getD_eq_getElem _ _ hi]
    exact List.getElem_mem hi
  refine (if_pos h0).trans ((if_pos hany).trans ?_)
  rw [← hidx]
  rfl

variable (hnear : ∀ v ∈ p.drop 1, ¬farFeed s v = true)
include hnear

variable {inact : Bool} {i : Nat} {b : Bank} (hx : bankBit x (pw p 1) 2 = inact) (hi : s.bankIx inact = i)
  (hbank : s.bank i = b)
include hx hi hbank

theorem commitXpointSet_feeds_inactive (ha : inact = true) :
    let new := (feedItems p).foldl (fun c e => setFeed c e.1 e.2) b
    commitXpointSet x p s = (s.setBank i new, .ok [0] (s.writeBank i new).2) := by
  subst hx hi hbank
  exact (if_pos h0).trans ((if_neg (no_farFeed hnear)).trans (if_pos ha))

/-- The feeds of the active bank wait for the boundary (R571). -/
theorem commitXpointSet_feeds_active (ha : inact = false) : commitXpointSet x p s
    = ({ s with drv := { s.drv with
          feedsNext := s.drv.feedsNext ++ (feedItems p).map fun e => (s.boundaryWait, e.1, e.2) } },
      .later .boundary [] ((feedItems p).any fun e => decide (tgetD b.feeds e.1 0 ≠ e.2))) := by
  subst hx hi hbank
  exact (if_pos h0).trans ((if_neg (no_farFeed hnear)).trans (if_neg (ne_true_of_eq_false ha)))
end

/-! ## Crosspoints (R571) -/

/-- A bank with other crosspoints of the listener mix `l`. -/
def xptsPut (b : Bank) (num : Nat) (l : Listener) (t : Table Term) : Bank :=
  { b with listeners := tset b.listeners num { l with xpts := t } }

/-- The crosspoints that the command names, with their gains. -/
def xpointItems (p : List Word) : List (Nat × Int) := (p.drop 1).map fun v => (fieldOf v 11 0, sgn 18 (fieldOf v 29 12))

section
variable {inact act : Bool} {i : Nat} {b : Bank} {l : Listener} (hx : bankBit x (pw p 1) 2 = inact)
  (ha : (!inact) = act) (hi : s.bankIx inact = i) (hbank : s.bank i = b) (h0 : bitOf (pw p 1) 0 = false)
  (hl : tget b.listeners (fieldOf (pw p 1) 13 3) = some l)
include hx ha hi hbank h0 hl

theorem commitXpointSet_sets (h1 : bitOf (pw p 1) 1 = false) :
    let t := (xpointItems p).foldl (fun t e => setTerm act s.strokeSize (fieldOf (pw p 1) 21 14) t e.1 e.2) l.xpts
    let new := xptsPut b (fieldOf (pw p 1) 13 3) l t
    t.length ≤ 16 → commitXpointSet x p s
      = (s.setBank i new, .ok [w32 (tcount t termLive)] (s.writeBank i new).2) := by
  subst hx ha hi hbank
  intro t new hlen
  refine (if_neg (ne_true_of_eq_false h0)).trans ?_
  dsimp only
  rw [hl]
  exact (if_neg (ne_true_of_eq_false h1)).trans (if_neg hlen.not_gt)

theorem commitXpointSet_removes (h1 : bitOf (pw p 1) 1 = true)
    (hall : ∀ e ∈ xpointItems p, hasTerm l.xpts e.1 = true) :
    let t := (xpointItems p).foldl (fun t e => dropTerm act s.strokeSize (fieldOf (pw p 1) 21 14) t e.1) l.xpts
    let new := xptsPut b (fieldOf (pw p 1) 13 3) l t
    commitXpointSet x p s = (s.setBank i new, .ok [w32 (tcount t termLive)] (s.writeBank i new).2) := by
  subst hx ha hi hbank
  intro t new
  have hnone : firstBad _ = none := firstBad_items_eq_none (items := xpointItems p) (0, 0) (· + 2)
    (bad := fun e => !(hasTerm l.xpts e.1)) fun e he => by rw [hall e he]; rfl
  refine (if_neg (ne_true_of_eq_false h0)).trans ?_
  dsimp only
  rw [hl]
  refine (if_pos h1).trans ?_
  split
  · next n hn => exact absurd (hnone.symm.trans hn) nofun
  · rfl
end

/-! ## `GAIN_SET` (R572) -/

section
variable {inact act : Bool} {i : Nat} {b : Bank} (hx : bankBit x (pw p 1) 13 = inact) (ha : (!inact) = act)
  (hi : s.bankIx inact = i) (hbank : s.bank i = b)
include hx ha hi hbank

theorem commitGainSet_sets
    (hall : ∀ j, j < fieldOf (pw p 1) 12 8 → gainTermExists b (gainItem (p.getD (2 * j + 1) 0)) = true) :
    let new := (List.range (fieldOf (pw p 1) 12 8)).foldl (fun c j =>
      setGainTerm act (fieldOf (pw p 1) 7 0 * s.strokeSize) c (gainItem (p.getD (2 * j + 1) 0))
        (sgn 18 (fieldOf (p.getD (2 * j + 2) 0) 17 0))) b
    commitGainSet x p s = (s.setBank i new, .ok [] (s.writeBank i new).2) := by
  subst hx ha hi hbank
  intro new
  have hnone := firstBad_range_eq_none (fun j => 2 * j + 2) (bad := fun j =>
    !(gainTermExists (s.bank (s.bankIx (bankBit x (pw p 1) 13))) (gainItem (pw p (2 * j + 2)))))
    fun j hj => congrArg (!·) (hall j hj)
  unfold commitGainSet
  dsimp only
  split
  · next n hn => exact absurd (hnone.symm.trans hn) nofun
  · rfl
end

end Sys2Proof.Machine
end

section
/-! The statement of `XPOINT_SET` and `GAIN_SET`. -/
open Sys2Proof Sys2Proof.Machine

/-- Settles O16: `XPOINT_SET` by its forms, feeds (`commitXpointSet_far`, `_feeds_inactive`, `_feeds_active`) and
crosspoints (`_sets`, `_removes`), and `GAIN_SET` by `commitGainSet_sets`. -/
theorem xpointAndGainSetComplete : Obligations.XpointAndGainSetComplete := by
  refine ⟨fun k s hb => ?_, fun k s hb => ?_⟩
  · intro b w inact i old feeds fed num ramp items far
    have hcommit : commitOp s.cmd.nextOrd 0x23 k.tag k.x k.params b = commitXpointSet k.x k.params b :=
      commitOp_begun_low hb (by decide)
    have hfar (v : Word) : farFeed b v = true ↔ far v := farFeed_iff
    refine ⟨fun h0 j hj h hfirst => ?_, fun ⟨h0, hi⟩ hnear => ?_, fun ⟨h0, hi⟩ hnear => ?_, fun h0 l hl => ?_⟩
    · exact exec_commit_fail (t := fresh s) rfl hb (by decide) nofun nofun
        (hcommit.trans (commitXpointSet_far (s := b) h0 hj ((hfar _).mpr h) fun j' hj' => mt (hfar _).mp (hfirst j' hj')))
    · exact exec_commit_ok (t := (fresh s).setBank i fed) rfl hb (by decide)
        (hcommit.trans (commitXpointSet_feeds_inactive (s := b) h0 (fun v hv => mt (hfar v).mp (hnear v hv)) rfl rfl rfl hi))
    · exact exec_commit_later (t := { fresh s with drv := { s.drv with
          feedsNext := s.drv.feedsNext ++ feeds.map fun e => (s.boundaryWait, e.1, e.2) } }) rfl hb (by decide) nofun
        (hcommit.trans (commitXpointSet_feeds_active (s := b) h0 (fun v hv => mt (hfar v).mp (hnear v hv)) rfl rfl rfl hi))
    · intro put
      have hput {x : Table Term} (h : commitXpointSet k.x k.params b = (b.setBank i (xptsPut old num l x),
          .ok [w32 (tcount x termLive)] (b.writeBank i (xptsPut old num l x)).2)) : put x :=
        exec_commit_ok (t := (fresh s).setBank i (xptsPut old num l x)) rfl hb (by decide) (hcommit.trans h)
      constructor
      · intro h1 x hlen
        exact hput (commitXpointSet_sets (s := b) rfl rfl rfl rfl h0 hl h1 hlen)
      · exact fun h1 hall => hput (commitXpointSet_removes (s := b) rfl rfl rfl rfl h0 hl h1 hall)
  · intro w n act i new hall
    have hi : s.bankIx (bankBit k.x (pw k.params 1) 13) = i := congrArg s.bankIx (Bool.not_not _).symm
    exact exec_commit_ok (t := (fresh s).setBank i new) rfl hb (by decide)
      ((commitOp_begun_low hb (by decide)).trans (commitGainSet_sets (s := begun 0x24 k s) rfl rfl hi rfl hall))
end

section
/-! SUPPORT. `GATE_CONFIG`, `DUCK_SET`, `DRV_BANK_SWAP` and `DRV_QUERY` at their commit points (R573 to R576). -/
namespace Sys2Proof.Machine

variable {s : State} {x : Bool} {p : List Word}

/-! ## `GATE_CONFIG` and `DUCK_SET` (R573, R574) -/

/-- The gate settings of the command, HOLD and GATE_RAMP with their defaults in the basic form (R573). -/
def gateGiven (x : Bool) (p : List Word) (o : Bus) : Bus :=
  { o with
    gating := bitOf (pw p 1) 9, share := bitOf (pw p 1) 10, lastHold := bitOf (pw p 1) 11, nomMax := fieldOf (pw p 1) 17 13
    openTh := sgn 16 (fieldOf (pw p 2) 15 0), hyst := fieldOf (pw p 2) 23 16, atten := fieldOf (pw p 2) 31 24
    holdMs := if x then fieldOf (pw p 3) 15 0 else 500
    gateRamp := if x then fieldOf (pw p 3) 23 16 else 60 }

theorem commitGateConfig_sets {i : Nat} {o : Bus} (hi : s.bankIx (bankBit x (pw p 1) 12) = i)
    (ho : tget (s.bank i).buses (fieldOf (pw p 1) 8 0) = some o) :
    let new := { s.bank i with buses := tset (s.bank i).buses (fieldOf (pw p 1) 8 0) (gateGiven x p o) }
    commitGateConfig x p s = (s.setBank i new, .ok [] (s.writeBank i new).2) := by
  subst hi
  intro new
  unfold commitGateConfig
  dsimp only
  rw [ho]
  rfl

/-- The duck relations of a bank with those of the command (R574). -/
def ducksGiven (p : List Word) (ducks : Table Duck) : Table Duck :=
  if fieldOf (pw p 1) 14 10 = 0 then terase ducks (fieldOf (pw p 1) 8 0)
  else tset ducks (fieldOf (pw p 1) 8 0) { targets := duckTargets p (fieldOf (pw p 1) 14 10), attack := fieldOf (pw p 1) 22 15,
                                           release := fieldOf (pw p 1) 30 23, depth := fieldOf (pw p 2) 7 0 }

theorem commitDuckSet_sets {i : Nat} (hi : s.bankIx (bankBit x (pw p 1) 9) = i)
    (hbus : thas (s.bank i).buses (fieldOf (pw p 1) 8 0) = true)
    (hall : ∀ t ∈ duckTargets p (fieldOf (pw p 1) 14 10), thas (s.bank i).buses t = true) :
    let new := { s.bank i with ducks := ducksGiven p (s.bank i).ducks }
    commitDuckSet x p s = (s.setBank i new, .ok [] (s.writeBank i new).2) := by
  subst hi
  intro new
  have htargets : (duckTargets p (fieldOf (pw p 1) 14 10)).length = fieldOf (pw p 1) 14 10 := by
    rw [duckTargets, List.length_map, List.length_range]
  have hnone := firstBad_range_eq_none (fun j => 3 + j / 2) (bad := fun j =>
    !(thas (s.bank (s.bankIx (bankBit x (pw p 1) 9))).buses ((duckTargets p (fieldOf (pw p 1) 14 10)).getD j 0)))
    (n := fieldOf (pw p 1) 14 10) fun j hj => by
      rw [List.getD_eq_getElem _ _ (htargets.symm ▸ hj), hall _ (List.getElem_mem _)]
      rfl
  have hfirst : firstBad ((1, !(thas (s.bank (s.bankIx (bankBit x (pw p 1) 9))).buses (fieldOf (pw p 1) 8 0)))
      :: _) = none := (if_neg (by rw [hbus]; exact nofun)).trans hnone
  unfold commitDuckSet
  dsimp only
  split
  · next n hn => exact absurd (hfirst.symm.trans hn) nofun
  · rfl

/-! ## `DRV_BANK_SWAP` (R575) -/

theorem commitDrvBankSwap_next (h : (x && bitOf (pw p 1) 1) = false) : commitDrvBankSwap x p s
    = (s.addSwap { id := s.drv.swapSeq, copy := !x || bitOf (pw p 1) 0, wait := s.boundaryWait },
      .later (.driveSwap s.drv.swapSeq) [] true) := by
  have hcopy : (!x || bitOf (pw p 1) 0) = if x then bitOf (pw p 1) 0 else true := by cases x <;> rfl
  rw [hcopy]
  exact if_neg (ne_true_of_eq_false h)

section
variable {n : Nat} {d : Int} (h : (x && bitOf (pw p 1) 1) = true) (hn : (pw p 2).toNat = n)
  (hd : strokeDist n s.mck.stroke = d)
include h hn hd

theorem commitDrvBankSwap_late (hg : s.mck.grid = true) (hlate : d ≤ 0 ∨ d = 1 ∧ s.boundaryWait = 2) :
    commitDrvBankSwap x p s = (s, .fail .late) := by
  subst hn hd
  refine (if_pos h).trans (if_pos ?_)
  simpa [hg] using hlate

theorem commitDrvBankSwap_stroke (htimely : s.mck.grid = false ∨ 1 < d ∨ d = 1 ∧ s.boundaryWait = 1) :
    commitDrvBankSwap x p s
      = (s.addSwap { id := s.drv.swapSeq, copy := !x || bitOf (pw p 1) 0, at_ := some n, wait := 0, unsure := !s.mck.grid },
        .later (.driveSwap s.drv.swapSeq) [] s.mck.grid) := by
  subst hn hd
  have hcopy : (!x || bitOf (pw p 1) 0) = if x then bitOf (pw p 1) 0 else true := by cases x <;> rfl
  rw [hcopy]
  refine (if_pos h).trans (if_neg ?_)
  simp only [Bool.and_eq_true, Bool.or_eq_true, decide_eq_true_eq]
  rintro ⟨hg, hlate⟩
  obtain hstopped | hearly := htimely
  · exact absurd (hg.symm.trans hstopped) nofun
  · omega
end

/-! ## `DRV_QUERY` (R576) -/

/-- The clip count of listener mix `i` is cleared where the query asks so. -/
def clipsCleared (clear : Bool) (i : Nat) (s : State) : State :=
  if clear then { s with drv := { s.drv with clips := terase s.drv.clips i } } else s

theorem clipsCleared_withCmd (clear : Bool) (i : Nat) (c : Cmd) :
    clipsCleared clear i (s.withCmd c) = (clipsCleared clear i s).withCmd c := by
  cases clear <;> rfl

theorem commitDrvQuery_basic (hx : x = false) : commitDrvQuery x p s = (s, .ok (drvQueryBody s 0 0 0 0)) :=
  if_pos (by rw [hx]; rfl)

section
variable (hx : x = true)
include hx

theorem commitDrvQuery_limited (h2 : fieldOf (pw p 1) 2 0 = 2) (h : s.listenerLimit ≤ fieldOf (pw p 1) 27 16) :
    commitDrvQuery x p s = (s, .fail .badParam 1) := by
  refine (if_neg (by rw [hx]; exact nofun)).trans (if_pos ?_)
  rw [decide_eq_true h2, decide_eq_true h]
  rfl

theorem commitDrvQuery_answers (h : fieldOf (pw p 1) 2 0 = 2 → fieldOf (pw p 1) 27 16 < s.listenerLimit) :
    commitDrvQuery x p s = (clipsCleared (bitOf (pw p 1) 4) (fieldOf (pw p 1) 27 16) s,
      .ok (drvQueryBody s (fieldOf (pw p 1) 2 0) (s.bankIx (bitOf (pw p 1) 3)) (fieldOf (pw p 1) 27 16)
        (fieldOf (pw p 2) 8 0))) := by
  refine (if_neg (by rw [hx]; exact nofun)).trans ((if_neg ?_).trans rfl)
  rw [Bool.and_eq_true, decide_eq_true_eq, decide_eq_true_eq]
  exact fun ⟨h2, hlimit⟩ => (h h2).not_ge hlimit
end

end Sys2Proof.Machine
end

section
/-! The statement of `GATE_CONFIG`, `DUCK_SET`, `DRV_BANK_SWAP` and `DRV_QUERY`. -/
open Sys2Proof Sys2Proof.Machine

/-- Settles O17: each command by the outcomes of its commit. -/
theorem gateDuckSwapQueryComplete : Obligations.GateDuckSwapQueryComplete := by
  refine ⟨fun k s => ?_, fun k s hb => ?_, fun k s hb => ?_⟩
  · intro w v bus
    constructor
    · intro hb i o ho new
      exact exec_commit_ok (t := (fresh s).setBank i new) rfl hb (by decide)
        ((commitOp_begun_low hb (by decide)).trans (commitGateConfig_sets (s := begun 0x25 k s) rfl ho))
    · intro hb i n ts hbus hall d ducks new
      exact exec_commit_ok (t := (fresh s).setBank i new) rfl hb (by decide)
        ((commitOp_begun_low hb (by decide)).trans (commitDuckSet_sets (s := begun 0x26 k s) rfl hbus hall))
  · intro w copy n d
    have hcommit : commitOp s.cmd.nextOrd 0x27 k.tag k.x k.params (begun 0x27 k s) = _ :=
      commitOp_begun_low hb (by decide)
    refine ⟨fun h => ?_, fun h htimely => ?_, fun h hg hlate => ?_⟩
    · exact exec_commit_later (t := (fresh s).addSwap _) rfl hb (by decide) nofun
        (hcommit.trans (commitDrvBankSwap_next (s := begun 0x27 k s) h))
    · exact exec_commit_later (t := (fresh s).addSwap _) rfl hb (by decide) nofun
        (hcommit.trans (commitDrvBankSwap_stroke (s := begun 0x27 k s) h rfl rfl htimely))
    · exact exec_commit_fail (t := fresh s) rfl hb (by decide) nofun nofun
        (hcommit.trans (commitDrvBankSwap_late (s := begun 0x27 k s) h rfl rfl hg hlate))
  · intro w
    have hcommit : commitOp s.cmd.nextOrd 0x28 k.tag k.x k.params (begun 0x28 k s) = _ :=
      commitOp_begun_low hb (by decide)
    refine ⟨fun hx => ?_, fun hx h2 hlimit => ?_, fun hx h => ?_⟩
    · exact exec_commit_ok (t := fresh s) rfl hb (by decide) (hcommit.trans (commitDrvQuery_basic hx))
    · exact exec_commit_fail (t := fresh s) rfl hb (by decide) nofun nofun
        (hcommit.trans (commitDrvQuery_limited (s := begun 0x28 k s) hx h2 hlimit))
    · have hclear := clipsCleared_withCmd (s := fresh s) (bitOf w 4) (fieldOf w 27 16) (begun 0x28 k s).cmd
      exact exec_commit_ok rfl hb (by decide) (hcommit.trans
        ((commitDrvQuery_answers (s := begun 0x28 k s) hx h).trans (congrArg (·, _) hclear)))
end

section
/-! SUPPORT. `SRX_DEFINE`, `STX_DEFINE` and a refused `STX_TEMPLATE` at their commit points (R481, R482, R515 to R517). -/
namespace Sys2Proof.Machine

variable {s : State} {x : Bool} {p : List Word} {n : Nat}

/-! ## `SRX_DEFINE` -/

theorem rxUndefined_cmd : (s.rxUndefined n).cmd = s.cmd := (sameCfg_ralEvaluate _).1

theorem ralEvaluate_rxDefined_cmd (r : RxStream) : (ralEvaluate (s.rxDefined n r)).cmd = s.cmd := (sameCfg_ralEvaluate _).1

section
variable {new : RxStream} (hn : fieldOf (p.getD 0 0) 8 0 = n) (hnew : newRxStream s x p = new)
include hn

theorem commitSrxDefine_removes (h0 : fieldOf (p.getD 0 0) 22 16 = 0) (hoff : (s.rxStream n).enabled = false) :
    commitSrxDefine x p s
      = (s.rxUndefined n, .ok [w32 ((s.rxUndefined n).freeKib % 65536)] (thas s.srx.streams n)) := by
  subst hn
  exact (if_pos h0).trans (if_neg (ne_true_of_eq_false hoff))

include hnew

theorem commitSrxDefine_enabled (hon : (s.rxStream n).enabled = true)
    (h : fieldOf (p.getD 0 0) 22 16 = 0
      ∨ s.latencyOk (fieldOf (p.getD 1 0) 25 16) = true ∧ s.rxBindWord n new = none) :
    commitSrxDefine x p s = (s, .fail .staleWrite 1) := by
  subst hn hnew
  by_cases h0 : fieldOf (p.getD 0 0) 22 16 = 0
  · exact (if_pos h0).trans (if_pos hon)
  · obtain ⟨hlat, hbind⟩ := h.resolve_left h0
    refine (if_neg h0).trans ((if_neg (by rw [hlat]; exact nofun)).trans ?_)
    dsimp only
    rw [hbind]
    exact if_pos hon

theorem commitSrxDefine_defines (h0 : fieldOf (p.getD 0 0) 22 16 ≠ 0) (hoff : (s.rxStream n).enabled = false)
    (hlat : s.latencyOk (fieldOf (p.getD 1 0) 25 16) = true) (hbind : s.rxBindWord n new = none)
    (hfits : s.rxFits n new = true) :
    commitSrxDefine x p s = (ralEvaluate (s.rxDefined n new),
      .ok [w32 ((ralEvaluate (s.rxDefined n new)).freeKib % 65536)] (!(s.rxSame n new))) := by
  subst hn hnew
  refine (if_neg h0).trans ((if_neg (by rw [hlat]; exact nofun)).trans ?_)
  dsimp only
  rw [hbind]
  exact (if_neg (ne_true_of_eq_false hoff)).trans (if_neg (by rw [hfits]; exact nofun))
end

/-! ## `STX_DEFINE` -/

section
variable {new : TxStream} {tb : Table Template} (hn : fieldOf (p.getD 0 0) 8 0 = n) (hnew : newTxStream s x p n = new)
  (htb : txTemplates s n new = tb)
include hn

theorem commitStxDefine_removes (h0 : fieldOf (p.getD 0 0) 18 12 = 0) (hoff : (s.txStream n).enabled = false) :
    commitStxDefine x p s
      = (s.txUndefined n, .ok [w32 ((s.txUndefined n).freeKib % 65536)] (thas s.stx.streams n)) := by
  subst hn
  exact (if_pos h0).trans (if_neg (ne_true_of_eq_false hoff))

include hnew htb

theorem commitStxDefine_enabled (hon : (s.txStream n).enabled = true)
    (h : fieldOf (p.getD 0 0) 18 12 = 0 ∨ stxDefineBad s n new tb = none) :
    commitStxDefine x p s = (s, .fail .staleWrite 1) := by
  subst hn hnew htb
  by_cases h0 : fieldOf (p.getD 0 0) 18 12 = 0
  · exact (if_pos h0).trans (if_pos hon)
  · refine (if_neg h0).trans ?_
    dsimp only
    rw [h.resolve_left h0]
    exact if_pos hon

theorem commitStxDefine_defines (h0 : fieldOf (p.getD 0 0) 18 12 ≠ 0) (hoff : (s.txStream n).enabled = false)
    (hbad : stxDefineBad s n new tb = none) (hfits : s.txFits n new tb = true) :
    commitStxDefine x p s = (s.txDefined n new tb,
      .ok [w32 ((s.txDefined n new tb).freeKib % 65536)] (!(s.txSame n new tb))) := by
  subst hn hnew htb
  refine (if_neg h0).trans ?_
  dsimp only
  rw [hbad]
  exact (if_neg (ne_true_of_eq_false hoff)).trans (if_neg (by rw [hfits]; exact nofun))
end

/-! ## `STX_TEMPLATE` -/

/-- A template that an enabled or SERVING stream names is kept (R515). -/
theorem commitStxTemplate_used
    (h : ∃ e ∈ s.stx.streams, e.2.names (fieldOf (p.getD 0 0) 8 0) = true ∧ (e.2.enabled = true ∨ e.2.state = .serving)) :
    commitStxTemplate x p s = (s, .fail .staleWrite 1) := by
  obtain ⟨e, he, hnames, hused⟩ := h
  refine if_pos (List.any_eq_true.mpr ⟨e, List.mem_filter.mpr ⟨he, hnames⟩, ?_⟩)
  rwa [Bool.or_eq_true, decide_eq_true_eq]

end Sys2Proof.Machine
end

section
/-! The statement of the stream definitions. -/
open Sys2Proof Sys2Proof.Machine

/-- Settles O9: each definition by the outcome of its commit, which leaves the Command Processor alone, and the refusals by
`commitSrxDefine_enabled`, `commitStxDefine_enabled` and `commitStxTemplate_used`. -/
theorem streamDefinitionsComplete : Obligations.StreamDefinitionsComplete := by
  refine ⟨fun k s hb => ?_, fun k s hb => ?_, fun k s => ?_⟩
  · intro b n new hoff
    have hcommit : commitOp s.cmd.nextOrd 0x10 k.tag k.x k.params b = commitSrxDefine k.x k.params b :=
      commitOp_begun_low hb (by decide)
    refine ⟨fun h0 => ⟨?_, tget_terase_self _ _⟩, fun h0 hlat hbind hfits =>
      ⟨?_, rfl, rfl, tget_tset_self _ _ _, fun j hj => tget_tset_ne _ _ hj⟩⟩
    · exact exec_commit_ok_kept rfl hb (by decide) (hcommit.trans (commitSrxDefine_removes rfl h0 hoff)) rxUndefined_cmd
    · exact exec_commit_ok_kept rfl hb (by decide)
        (hcommit.trans (commitSrxDefine_defines rfl rfl h0 hoff hlat hbind hfits)) (ralEvaluate_rxDefined_cmd new)
  · intro b n new tb hoff
    have hcommit : commitOp s.cmd.nextOrd 0x18 k.tag k.x k.params b = commitStxDefine k.x k.params b :=
      commitOp_begun_low hb (by decide)
    refine ⟨fun h0 => ⟨?_, tget_terase_self _ _⟩, fun h0 hbad hfits => ⟨?_, rfl, rfl, tget_tset_self _ _ _⟩⟩
    · exact exec_commit_ok_kept rfl hb (by decide) (hcommit.trans (commitStxDefine_removes rfl h0 hoff)) rfl
    · exact exec_commit_ok_kept rfl hb (by decide)
        (hcommit.trans (commitStxDefine_defines rfl rfl rfl h0 hoff hbad hfits)) rfl
  · intro n
    refine ⟨fun hb hon h => ?_, fun hb hon h => ?_, fun hb h => ?_⟩
    · exact exec_commit_fail (t := fresh s) rfl hb (by decide) nofun nofun
        ((commitOp_begun_low hb (by decide)).trans (commitSrxDefine_enabled (s := begun 0x10 k s) rfl rfl hon h))
    · exact exec_commit_fail (t := fresh s) rfl hb (by decide) nofun nofun
        ((commitOp_begun_low hb (by decide)).trans (commitStxDefine_enabled (s := begun 0x18 k s) rfl rfl rfl hon h))
    · exact exec_commit_fail (t := fresh s) rfl hb (by decide) nofun nofun
        ((commitOp_begun_low hb (by decide)).trans (commitStxTemplate_used (s := begun 0x1C k s) h))
end

section
/-! SUPPORT. Receive streams: what checking, placing and counting a frame leaves alone: the state and the SSRC of every
stream, and the units that no frame reaches. -/
namespace Sys2Proof.Machine

/-! ## What a frame leaves alone -/

/-- The state and the learned SSRC of a receive stream. -/
def RxStream.ident (r : RxStream) : SrxState × Option Nat := (r.state, r.ssrc)

/-- The parts of the state that no frame at a receive stream reaches once it is taken. -/
def State.besideRx (s : State) : List Delivered × Stx × Drv × Cmd × List NetPort :=
  (s.srx.inq, s.stx, s.drv, s.cmd, s.np)

/-- Stream `n` as those who watch it from outside know it, and the rest of the state that its frames leave alone. -/
def State.heard (s : State) (n : Nat) : Option (SrxState × Option Nat) × List Delivered × Stx × Drv × Cmd × List NetPort :=
  ((tget s.srx.streams n).map RxStream.ident, s.besideRx)

variable {s t : State} {n : Nat}

theorem State.besideRx_of_heard (h : t.heard n = s.heard n) : t.besideRx = s.besideRx := congrArg Prod.snd h

theorem State.rxStream_of_tget {r : RxStream} (h : tget s.srx.streams n = some r) : s.rxStream n = r := by
  simp [State.rxStream, tgetD, h]

theorem State.rxStream_ident {x : SrxState × Option Nat} (h : (s.heard n).1 = some x) : (s.rxStream n).ident = x := by
  simp only [State.heard, Option.map_eq_some_iff] at h
  obtain ⟨r, hr, rfl⟩ := h
  rw [State.rxStream_of_tget hr]

theorem settle_heard (s : State) (n : Nat) : (settle s).heard n = s.heard n := by simp [State.heard, State.besideRx]

/-- A view that the event flag does not show is that of the change alone. -/
theorem State.withPend_view {γ : Type} (p : State → γ) (hp : ∀ (t : State) (a i : Nat), p (t.flag a i) = p t) (s : State)
    (pend : State → Bool) (ev i : Nat) (f : State → State) : p (s.withPend pend ev i f) = p (f s) := by
  unfold State.withPend
  dsimp only
  split
  · exact hp _ _ _
  · rfl

/-- A change of stream `j` that keeps its state and SSRC. -/
theorem State.onRx_heard {f : RxStream → RxStream} {j : Nat} (s : State) (n : Nat)
    (h : ∀ r, tget s.srx.streams j = some r → (f r).ident = r.ident) : (s.onRx j f).heard n = s.heard n := by
  have h1 : (tget (tmod s.srx.streams j f) n).map RxStream.ident = (tget s.srx.streams n).map RxStream.ident := by
    rw [tget_tmod]
    split
    next hj =>
      subst hj
      cases hr : tget s.srx.streams n with
      | none => rfl
      | some r => exact congrArg some (h r hr)
    next => rfl
  exact Prod.ext h1 rfl

/-- Stream `n` replaced whole. -/
theorem State.onRx_put_heard {r r1 : RxStream} (h : tget s.srx.streams n = some r) :
    (s.onRx n fun _ => r1).heard n = (some r1.ident, s.besideRx) := by
  simp [State.heard, State.onRx, h, State.besideRx]

theorem State.rxFlag_heard (s : State) (j i n : Nat) : (s.rxFlag j i).heard n = s.heard n := by
  unfold State.rxFlag
  rw [State.withPend_view (fun t => t.heard n) (fun _ _ _ => rfl)]
  exact s.onRx_heard n fun _ _ => rfl

theorem State.rxCount_heard (s : State) (j i k n : Nat) : (s.rxCount j i k).heard n = s.heard n := by
  unfold State.rxCount
  split
  · rfl
  · exact s.onRx_heard n fun _ _ => rfl

theorem State.ralFlag_heard (s : State) (j i n : Nat) : (s.ralFlag j i).heard n = s.heard n :=
  State.withPend_view (fun t => t.heard n) (fun _ _ _ => rfl) _ _ _ _ _

theorem State.stat_heard (s : State) (p i k n : Nat) : (s.stat p i k).heard n = s.heard n := by
  unfold State.stat
  dsimp only
  split_ifs <;> rfl

theorem State.ralAnchor_heard (s : State) (j : Nat) (a : Bool) (n : Nat) : (s.ralAnchor j a).heard n = s.heard n := by
  unfold State.ralAnchor
  split <;> rfl

theorem State.ralAccepted_heard (s : State) (j : Nat) (a : Bool) (n : Nat) : (s.ralAccepted j a).heard n = s.heard n := by
  unfold State.ralAccepted
  dsimp only
  split
  case h_1 => rfl
  case h_4 => rfl
  all_goals
    split_ifs
    · rfl
    · exact (State.ralFlag_heard ..).trans (State.onRx_heard _ n fun _ _ => rfl)
    · exact State.onRx_heard _ n fun _ _ => rfl

/-! ### Missing blocks -/

theorem State.rrSkipped_heard (s : State) (k n : Nat) : (s.rrSkipped k).heard n = s.heard n := by
  unfold State.rrSkipped
  split <;> rfl

theorem State.onMissing_heard (s : State) (j seq : Nat) (f : Missing → Missing) (n : Nat) :
    (s.onMissing j seq f).heard n = s.heard n := s.onRx_heard n fun _ _ => rfl

theorem State.rrDetect_heard (s : State) (j seq n : Nat) : (s.rrDetect j seq).heard n = s.heard n := by
  unfold State.rrDetect
  dsimp only
  split
  · rfl
  · split_ifs
    · rfl
    · exact State.onMissing_heard ..
    · exact (State.rrSkipped_heard ..).trans (State.onMissing_heard ..)
    · exact (State.onMissing_heard ..).trans (State.onMissing_heard ..)

theorem State.rrMark_heard (s : State) (j p seq : Nat) (pos : Int) (n : Nat) : (s.rrMark j p seq pos).heard n = s.heard n := by
  unfold State.rrMark
  extract_lets r bit r1 s1
  have h1 : s1.heard n = s.heard n := by
    refine (State.onMissing_heard ..).trans (s.onRx_heard n fun x hx => ?_)
    have hr : r = x := State.rxStream_of_tget hx
    unfold r1
    split
    · rw [hr]
    · rw [← hr]
      rfl
  split
  · rfl
  · split
    · split
      · exact (State.rrDetect_heard ..).trans h1
      · exact h1
    · exact h1

/-! ### Placing a frame -/

theorem placeBlock_ident (s : State) (m : MediaIn) (p : Placed) (i : Nat) : (placeBlock s m p i).r.ident = p.r.ident := by
  unfold placeBlock
  dsimp only
  split
  · rfl
  · split_ifs <;> rfl

theorem writeSample_ident (r : RxStream) (g i c : Nat) (x : Int) (prov disc : Bool) :
    (writeSample r g i c x prov disc).1.ident = r.ident := by
  unfold writeSample
  dsimp only
  split_ifs <;> rfl

theorem placeFrame_ident (s : State) (m : MediaIn) (disc : Bool) (p : Placed) (i : Nat) :
    (placeFrame s m disc p i).r.ident = p.r.ident := by
  unfold placeFrame
  dsimp only
  split
  · rfl
  · refine foldl_keeps (fun a : RxStream × Bool => a.1.ident) _ (fun a w => ?_) _ (p.r, false)
    exact writeSample_ident ..

theorem encodeReady_ident (groups : Nat) (r : RxStream) : (encodeReady groups r).ident = r.ident := by
  unfold encodeReady
  refine foldl_keeps RxStream.ident _ (fun a k => ?_) _ r
  rfl

theorem placeMedia_ident (s : State) (r : RxStream) (m : MediaIn) : (placeMedia s r m).r.ident = r.ident := by
  unfold placeMedia
  split
  · exact foldl_keeps (fun p : Placed => p.r.ident) _ (placeBlock_ident s m) _ _
  · exact (encodeReady_ident ..).trans (foldl_keeps (fun p : Placed => p.r.ident) _ (placeFrame_ident s m _) _ _)

theorem anchorAt_ident (s : State) (r : RxStream) (m : MediaIn) :
    (anchorAt s r m).ident = (.running, if r.learn then some m.ssrc else r.ssrc) := rfl

/-- An accepted frame leaves its stream as the placing did. -/
theorem State.rxAccept_heard {r : RxStream} (h : tget s.srx.streams n = some r) (r0 : RxStream) (m : MediaIn) (p : Placed) :
    (s.rxAccept n r0 m p).heard n = (some p.r.ident, s.besideRx) := by
  unfold State.rxAccept
  extract_lets r1 gap now r2 r3 anchored s1 s2 s3 s4 s5 s6 s7 lost
  have hr3 : r3.ident = p.r.ident := by
    show r2.ident = p.r.ident
    unfold r2
    split <;> rfl
  have h1 : s1.heard n = (some p.r.ident, s.besideRx) := hr3 ▸ State.onRx_put_heard h
  have h2 : s2.heard n = s1.heard n := by
    unfold s2
    split
    · exact State.ralAnchor_heard ..
    · rfl
  have h3 : s3.heard n = s2.heard n := State.ralAccepted_heard ..
  have h4 : s4.heard n = s3.heard n := by
    unfold s4
    split
    · exact State.rxFlag_heard ..
    · rfl
  have h5 : s5.heard n = s4.heard n := State.rxCount_heard ..
  have h6 : s6.heard n = s5.heard n := by
    unfold s6
    split
    · rfl
    · exact (State.rxFlag_heard ..).trans (State.rxCount_heard ..)
  have h7 : s7.heard n = s6.heard n := by
    unfold s7
    simp only [State.stat_heard, State.rxCount_heard]
  have hfinal : s7.heard n = (some p.r.ident, s.besideRx) := by rw [h7, h6, h5, h4, h3, h2, h1]
  split
  · exact hfinal
  · exact (foldl_keeps (fun t : State => t.heard n) _ (fun _ _ => State.rrMark_heard ..) _ _).trans hfinal

/-! ## A frame, case by case (R460, R461) -/

variable {r : RxStream} {d : RxFrame} {m : MediaIn}

/-- The state in which the frame at the head of SRX's queue is checked. -/
def State.frameTaken (s : State) (rest : List Delivered) : State := { fresh s with srx := { s.srx with inq := rest } }

theorem exec_mediaFrameAccept {e : Delivered} {rest : List Delivered} (h : s.srx.inq = e :: rest) :
    exec .mediaFrameAccept s = .next (settle (srxDeliver e.stream e.frame (s.frameTaken rest))) := by
  show execMediaFrameAccept s = _
  unfold execMediaFrameAccept
  rw [h]
  rfl

theorem srxDeliver_idle (h : tget s.srx.streams n = some r) (hc : r.accepting = false ∨ s.mode = .island ∨ r.shut = true) :
    srxDeliver n d s = (s.bump Reg.SRX_DROP_IDLE).flag Reg.SRX_EVENT 2 := by
  unfold srxDeliver
  rw [State.rxStream_of_tget h]
  refine if_pos ?_
  obtain h | h | h := hc <;> simp [h]

theorem srxDeliver_accepting (h : tget s.srx.streams n = some r) (ha : r.accepting = true) (hi : s.mode ≠ .island)
    (hs : r.shut = false) : srxDeliver n d s = rxFrameIn n d s := by
  unfold srxDeliver
  rw [State.rxStream_of_tget h]
  exact if_neg (by simp [ha, hi, hs])

theorem rxFrameIn_malformed (h : tget s.srx.streams n = some r) (hc : r.onPort d.port = false ∨ readMedia s r d = none) :
    rxFrameIn n d s = s.rxFormatErr n := by
  unfold rxFrameIn
  dsimp only
  rw [State.rxStream_of_tget h]
  split
  · rfl
  next hp =>
    have hm : readMedia s r d = none := hc.resolve_left fun hq => hp (by simp [hq])
    rw [hm]

theorem rxFrameIn_wrongSsrc (h : tget s.srx.streams n = some r) (hp : r.onPort d.port = true) (hm : readMedia s r d = some m)
    (hs : ssrcOk r m = false) : rxFrameIn n d s = s.rxWrongSsrc n m.ssrc := by
  unfold rxFrameIn
  simp [State.rxStream_of_tget h, hp, hm, hs]

/-- The first good frame of a waiting stream that is in time and of which some is written. -/
theorem rxFrameIn_anchors (h : tget s.srx.streams n = some r) (hp : r.onPort d.port = true) (hm : readMedia s r d = some m)
    (hs : ssrcOk r m = true) (hgood : (d.fcsErr || d.alignErr || d.symErr) = false) (hw : r.state = .waiting)
    (he : tooEarly s (anchorAt s r m) m = false) (hf : (placeMedia s (anchorAt s r m) m).first.isSome = true) :
    rxFrameIn n d s = s.rxAccept n r m (placeMedia s (anchorAt s r m) m) := by
  have hn : (placeMedia s (anchorAt s r m) m).first.isNone = false := by simpa [Option.isNone_eq_false_iff] using hf
  unfold rxFrameIn
  simp [State.rxStream_of_tget h, hp, hm, hs, hgood, hw, he, hn]

/-! ## A relearn (R461, R477) -/

theorem State.ralFlag_srx (s : State) (j i : Nat) : (s.ralFlag j i).srx = s.srx :=
  State.withPend_view State.srx (fun _ _ _ => rfl) _ _ _ _ _

theorem State.ralRelease_srx (s : State) (j : Nat) : (s.ralRelease j).srx = s.srx := by
  unfold State.ralRelease
  split
  · exact State.ralFlag_srx ..
  · rfl
  · rfl
  · rfl

theorem State.rxFlag_streams (s : State) (j i : Nat) :
    (s.rxFlag j i).srx.streams = tmod s.srx.streams j fun r => { r with event := r.event ||| (1 <<< i) } :=
  State.withPend_view (fun t => t.srx.streams) (fun _ _ _ => rfl) _ _ _ _ _

/-- What a stream is once it has re-anchored. -/
theorem State.rxReanchor_streams (s : State) (h : tget s.srx.streams n = some r) (hl : r.learn = true) :
    ∃ x, tget (s.rxReanchor n).srx.streams n = some x ∧ x.state = .waiting ∧ x.slots = [] ∧ x.ssrc = none := by
  unfold State.rxReanchor State.rxFlush
  rw [State.rxFlag_streams, State.ralRelease_srx, tget_tmod_self]
  simp [State.onRx, h, hl]

theorem State.ralRelease_heard (s : State) (j n : Nat) : (s.ralRelease j).heard n = s.heard n := by
  unfold State.ralRelease
  split
  · exact State.ralFlag_heard ..
  · rfl
  · rfl
  · rfl

theorem State.rxReanchor_besideRx (s : State) (n : Nat) : (s.rxReanchor n).besideRx = s.besideRx :=
  calc (s.rxReanchor n).besideRx = (s.rxFlush n).besideRx := State.besideRx_of_heard (n := n) (State.rxFlag_heard ..)
    _ = s.besideRx := (State.besideRx_of_heard (n := n) (State.ralRelease_heard ..)).trans rfl

/-- SSRC_RELEARN where its guard holds. -/
theorem exec_ssrcRelearn (h : tget s.srx.streams n = some r) (ha : r.accepting = true) (hl : r.learn = true)
    (hs : r.ssrc.isSome = true) (ho : r.other.isSome = true) (h1 : r.otherMany = false ∨ r.otherAt + r.relearnNs ≤ s.ntu.course) :
    exec (.ssrcRelearn n) s = .next (settle (((fresh s).rxReanchor n).onRx n fun r => { r with relearn := true })) := by
  show execSsrcRelearn n s = _
  unfold execSsrcRelearn
  simp [State.rxStream_of_tget h, ha, hl, hs, ho, h1]

theorem exec_ssrcRelearn_held (h : tget s.srx.streams n = some r) (hm : r.otherMany = true)
    (ht : s.ntu.course < r.otherAt + r.relearnNs) : exec (.ssrcRelearn n) s = .next (settle (fresh s)) := by
  show execSsrcRelearn n s = _
  unfold execSsrcRelearn
  simp [State.rxStream_of_tget h, hm, Nat.not_le.mpr ht]

/-- SRX_PORT_LOST of one of two selected ports while the other accepts (R466). -/
theorem exec_srxPortLost {p : Nat} (h : tget s.srx.streams n = some r) (hp : p < 2) (ha : r.accepting = true)
    (h2 : r.ports = 3) (ho : (if p = 0 then r.accB else r.accA).isSome = true) :
    exec (.srxPortLost n p) s = .next (settle ((fresh s).rxFlag n 8)) := by
  show execSrxPortLost n p s = _
  unfold execSrxPortLost
  simp [State.rxStream_of_tget h, ha, h2, hp, ho]

/-- A frame that anchors a waiting stream: the stream runs with the SSRC learned, and nothing else that it reaches changes. -/
theorem anchored_heard {rest : List Delivered} (h : tget s.srx.streams n = some r) :
    let u := s.frameTaken rest
    (u.rxAccept n r m (placeMedia u (anchorAt u r m) m)).heard n
      = (some (.running, if r.learn then some m.ssrc else r.ssrc), rest, s.stx, s.drv, s.cmd, s.np) := by
  intro u
  rw [State.rxAccept_heard (s := u) h, placeMedia_ident, anchorAt_ident]
  rfl

end Sys2Proof.Machine
end

section
/-! The statement of frames at a receive stream. -/
open Sys2Proof Sys2Proof.Machine

/-- Settles O49: each branch of the frame check by its own guard; the accepted frame by what placing and counting leave alone. -/
theorem mediaFramesComplete : Obligations.MediaFramesComplete := by
  unfold Obligations.MediaFramesComplete
  intro s n r hr
  refine ⟨fun d rest hq hd => ?_, fun ha hl hs ho => ⟨fun h1 => ?_, fun hm ht => exec_ssrcRelearn_held hr hm ht⟩,
    fun p hp ha h2 ho => exec_srxPortLost hr hp ha h2 ho⟩
  · subst hd
    have hu : tget (s.frameTaken rest).srx.streams d.stream = some r := hr
    intro u
    refine ⟨fun hc => ?_, fun ha hi hsh => ?_⟩
    · rw [exec_mediaFrameAccept hq, srxDeliver_idle hu hc]
      rfl
    · have hstep : exec .mediaFrameAccept s = .next (settle (rxFrameIn d.stream d.frame (s.frameTaken rest))) := by
        rw [exec_mediaFrameAccept hq, srxDeliver_accepting hu ha hi hsh]
      refine ⟨fun hc => ?_, fun m hp hm => ⟨fun hs => ?_, fun hs h1 h2 h3 hw he hf => ?_⟩⟩
      · rw [hstep, rxFrameIn_malformed hu hc]
        rfl
      · rw [hstep, rxFrameIn_wrongSsrc hu hp hm hs]
        rfl
      · have hgood : (d.frame.fcsErr || d.frame.alignErr || d.frame.symErr) = false := by simp [h1, h2, h3]
        have hheard := (settle_heard _ _).trans (anchored_heard (m := m) (rest := rest) hr)
        have hid := State.rxStream_ident (congrArg Prod.fst hheard)
        have hrest := congrArg Prod.snd hheard
        simp only [RxStream.ident, State.heard, State.besideRx, Prod.mk.injEq] at hid hrest
        obtain ⟨hstate, hssrc⟩ := hid
        obtain ⟨hinq, hstx, hdrv, hcmd, -⟩ := hrest
        exact ⟨_, hstep.trans (by rw [rxFrameIn_anchors hu hp hm hs hgood hw he hf]), hstate, hinq, hssrc, hstx, hdrv, hcmd⟩
  · obtain ⟨x, hx, hstate, hslots, hssrc⟩ := State.rxReanchor_streams (fresh s) hr hl
    have hstream : ((((fresh s).rxReanchor n).onRx n fun r => { r with relearn := true }).rxStream n)
        = { x with relearn := true } := State.rxStream_of_tget (by simp [State.onRx, hx])
    have hbeside := State.rxReanchor_besideRx (fresh s) n
    simp only [State.besideRx, Prod.mk.injEq] at hbeside
    obtain ⟨-, hstx, -, hcmd, -⟩ := hbeside
    refine ⟨_, exec_ssrcRelearn hr ha hl hs ho h1, ?_⟩
    have hset : ∀ t : State, (settle t).rxStream n = t.rxStream n := fun t => by simp [State.rxStream]
    rw [hset, hstream]
    exact ⟨hstate, hslots, hssrc, rfl, by simpa using hstx, by simpa using hcmd⟩
end

section
/-! SUPPORT. Re-row: a frame that an egress queue takes, the blocks that a receive stream asks for, and the answer to a request
that no store serves. -/
namespace Sys2Proof.Machine

variable {s t : State} {n p : Nat}

/-! ## A frame that an egress queue takes (R301, R315) -/

/-- The state once frame `f` has entered egress queue `q` of port `p`. -/
def State.entered (s : State) (p q : Nat) (f : TxFrame) : State :=
  (creditStep p s).onPort p fun np => { np with egress := listMod np.egress q fun l => l ++ [f] }

/-- Egress queue `q` of port `p` takes frames of kind `k`. -/
def State.takesAt (s : State) (p q : Nat) (k : TxKind) : Prop :=
  (s.port p).live = true ∧ ((s.port p).egress.getD q []).length < egressDepth q ∧ s.takesFrame k = true

theorem State.egress_takes {q : Nat} {f : TxFrame} (h : s.takesAt p q f.kind) : s.egress p q f = (s.entered p q f, true) := by
  obtain ⟨hlive, hroom, hk⟩ := h
  exact if_neg (by rw [hlive, hk]; simpa using hroom)

theorem State.entered_queue {q : Nat} {f : TxFrame} (hp : p < 2) (hl : s.np.length = 2) (hq : q < (s.port p).egress.length) :
    ((s.entered p q f).port p).egress.getD q [] = (s.port p).egress.getD q [] ++ [f] := by
  have hlt : p < s.np.length := hl ▸ hp
  have hsame := sameButPort_creditStep (s := s) hp
  unfold State.entered
  rw [onPort_port (hsame.lt_np hlt), ← hsame.egress]
  exact getD_listMod_self _ _ _ _ (hsame.egress ▸ hq)

theorem State.entered_other {q : Nat} {f : TxFrame} (hp : p < 2) : (s.entered p q f).port (1 - p) = s.port (1 - p) :=
  congrArg Prod.fst ((onPort_besidePort hp _).trans (sameButPort_creditStep hp).beside)

/-! ## The blocks of a receive stream -/

variable {r : RxStream} {q : Nat} {m : Missing}

/-- The missing block with sequence number `q`. -/
def RxStream.block (r : RxStream) (q : Nat) : Option Missing := r.missing.find? fun m => decide (m.seq = q)

theorem State.rxStream_onRx (h : tget s.srx.streams n = some r) (f : RxStream → RxStream) : (s.onRx n f).rxStream n = f r :=
  State.rxStream_of_tget (by simp [State.onRx, h])

theorem find?_map_seq {f : Missing → Missing} (hf : ∀ m, (f m).seq = m.seq) (q : Nat) (l : List Missing) :
    (l.map fun m => if m.seq = q then f m else m).find? (fun m => decide (m.seq = q))
      = (l.find? fun m => decide (m.seq = q)).map f := by
  induction l with
  | nil => rfl
  | cons m l ih => by_cases h : m.seq = q <;> simp [h, hf, ih]

/-- A change of the block with a sequence number changes the block that is found under it. -/
theorem State.onMissing_block {f : Missing → Missing} (hf : ∀ m, (f m).seq = m.seq) (h : tget s.srx.streams n = some r) :
    ((s.onMissing n q f).rxStream n).block q = (r.block q).map f := by
  unfold State.onMissing
  rw [State.rxStream_onRx h]
  exact find?_map_seq hf q r.missing

theorem State.rrSkipped_srx (s : State) (k : Nat) : (s.rrSkipped k).srx = s.srx := by
  unfold State.rrSkipped
  split <;> rfl

/-- A block that has been detected missing. -/
def Missing.found (m : Missing) : Missing := { m with detected := true }

/-- A block that waits to be asked. -/
def Missing.awaiting (m : Missing) : Missing := { m with toAsk := true }

theorem RxStream.find_of_block (h : tget s.srx.streams n = some r) (hm : r.block q = some m) :
    ((s.rxStream n).missing.find? fun x => decide (x.seq = q)) = some m := by
  rw [State.rxStream_of_tget h]
  exact hm

/-- What detecting a block comes to. -/
theorem State.rrDetect_eq (h : tget s.srx.streams n = some r) (hm : r.block q = some m) (hd : m.detected = false) :
    s.rrDetect n q = if s.rrMayAsk r m.pos = false then s.onMissing n q Missing.found
      else if 1024 ≤ s.rrOutstanding then (s.onMissing n q Missing.found).rrSkipped
      else (s.onMissing n q Missing.found).onMissing n q Missing.awaiting := by
  unfold State.rrDetect
  dsimp only
  rw [RxStream.find_of_block h hm, State.rxStream_of_tget h]
  simp only [hd, Bool.false_eq_true, if_false, Bool.not_eq_true']
  rfl

theorem State.onMissing_tget (h : tget s.srx.streams n = some r) (f : Missing → Missing) :
    ∃ r1, tget (s.onMissing n q f).srx.streams n = some r1 := by simp [State.onMissing, State.onRx, h]

/-- A block detected missing is to be asked for where R471 and the limit of R473 permit. -/
theorem State.rrDetect_block (h : tget s.srx.streams n = some r) (hm : r.block q = some m) (hd : m.detected = false) :
    ∃ x, ((s.rrDetect n q).rxStream n).block q = some x ∧ x.detected = true
      ∧ (s.rrMayAsk r m.pos = true → s.rrOutstanding < 1024 → x.toAsk = true)
      ∧ (s.rrMayAsk r m.pos = false → x.toAsk = m.toAsk) := by
  have hfound : ((s.onMissing n q Missing.found).rxStream n).block q = some m.found := by
    rw [State.onMissing_block (f := Missing.found) (fun _ => rfl) h, hm]
    rfl
  rw [State.rrDetect_eq h hm hd]
  split
  next hno => exact ⟨m.found, hfound, rfl, fun hyes => absurd (hno.symm.trans hyes) (by decide), fun _ => rfl⟩
  next hask =>
    split
    next hfull =>
      refine ⟨m.found, ?_, rfl, fun _ hl => absurd hfull (Nat.not_le.mpr hl), fun hno => absurd hno hask⟩
      simpa only [State.rxStream, State.rrSkipped_srx] using hfound
    next =>
      obtain ⟨r1, hr1⟩ := State.onMissing_tget (q := q) h Missing.found
      rw [State.rxStream_of_tget hr1] at hfound
      refine ⟨m.found.awaiting, ?_, rfl, fun _ _ => rfl, fun hno => absurd hno hask⟩
      rw [State.onMissing_block (f := Missing.awaiting) (fun _ => rfl) hr1, hfound]
      rfl

/-- A block still missing after its first ask is to be asked for once more (R473). -/
theorem exec_rrRetryExpired (h : tget s.srx.streams n = some r) (hm : r.block q = some m) (h1 : m.asks = 1)
    (hg : m.gone = false) (ht : m.toAsk = false) (hask : s.rrMayAsk r m.pos = true) :
    exec (.rrRetryExpired n q) s = .next (settle ((fresh s).onMissing n q Missing.awaiting)) := by
  show execRrRetryExpired n q s = _
  unfold execRrRetryExpired
  dsimp only
  rw [RxStream.find_of_block h hm, State.rxStream_of_tget h]
  simp only [h1, hg, ht, hask]
  rfl

/-! ## A request that is sent (R472, R473) -/

/-- The blocks that a request names no longer wait to be asked. -/
def RxStream.askTaken (rs : List (Nat × Nat)) (r : RxStream) : RxStream :=
  r.onMiss fun m => if m.toAsk && inRanges rs m.seq then { m with toAsk := false } else m

/-- The blocks that a request of stream `r` names have been asked for once more. -/
def RxStream.askCounted (r : RxStream) (rs : List (Nat × Nat)) (x : RxStream) : RxStream :=
  x.onMiss fun m => if r.missing.any fun y => y.toAsk && decide (y.seq = m.seq) && inRanges rs m.seq
    then { m with asks := m.asks + 1 } else m

/-- The requests sent on port `p` in this stroke, and its next token. -/
def State.askNoted (s : State) (p sent token : Nat) : State :=
  { s with srx := if p = 0 then { s.srx with sentA := sent, tokenA := token } else { s.srx with sentB := sent, tokenB := token } }

/-- The requests sent on port `p` in this stroke. -/
def State.asksSent (s : State) (p : Nat) : Nat := if p = 0 then s.srx.sentA else s.srx.sentB

theorem State.asksSent_askNoted (s : State) (p sent token : Nat) : (s.askNoted p sent token).asksSent p = sent := by
  unfold State.askNoted State.asksSent
  by_cases h : p = 0 <;> simp [h]

theorem srxAsk_sends {h : PeerHdr} (hr : tget s.srx.streams n = some r) (hrs : (askBlocks r).2 ≠ [])
    (hp : s.askPort r (askBlocks r).1 = p) (hh : (if p = 0 then r.hdrA else r.hdrB) = some h) (hsrc : s.rrSource p h.ip6 ≠ 0)
    (hsent : s.asksSent p < 32) (htake : s.takesAt p 6 .rerowAsk) :
    ∃ x token blocks, x.kind = .rerowAsk ∧ srxAsk n s
      = (((((s.onRx n (RxStream.askTaken (askBlocks r).2)).entered p 6 x).onRx n (r.askCounted (askBlocks r).2)).rxCount n 6
          blocks).askNoted p (s.asksSent p + 1) token) := by
  have hentered : ∀ x : TxFrame, x.kind = .rerowAsk →
      (s.onRx n fun r1 => r1.onMiss fun m =>
        if m.toAsk && inRanges (askBlocks r).2 m.seq then { m with toAsk := false } else m).egress p 6 x
        = ((s.onRx n (RxStream.askTaken (askBlocks r).2)).entered p 6 x, true) := fun x hx =>
    State.egress_takes (s := s.onRx n (RxStream.askTaken (askBlocks r).2)) (hx ▸ htake)
  have hroom : ¬ (decide (s.rrSource p h.ip6 = 0) || decide (32 ≤ if p = 0 then s.srx.sentA else s.srx.sentB)) = true := by
    simpa [hsrc, State.asksSent] using hsent
  unfold srxAsk
  simp only [State.rxStream_of_tget hr, hrs, if_false, hp, hh]
  rw [if_neg hroom, hentered _ rfl]
  exact ⟨_, _, _, rfl, rfl⟩

theorem State.rxCount_np (s : State) (j i k : Nat) : (s.rxCount j i k).np = s.np := by
  unfold State.rxCount
  split <;> rfl

theorem State.rxStream_onRx_missing (s : State) (n : Nat) {f : RxStream → RxStream} (hf : ∀ r, (f r).missing = r.missing) :
    ((s.onRx n f).rxStream n).missing = (s.rxStream n).missing := by
  cases h : tget s.srx.streams n with
  | none => simp [State.rxStream, State.onRx, tgetD, h]
  | some r => rw [State.rxStream_onRx h, State.rxStream_of_tget h, hf]

theorem State.rxCount_missing (s : State) (n i k : Nat) :
    ((s.rxCount n i k).rxStream n).missing = (s.rxStream n).missing := by
  unfold State.rxCount
  split
  · rfl
  · exact s.rxStream_onRx_missing n fun _ => rfl

theorem State.rxFlag_missing (s : State) (n i : Nat) : ((s.rxFlag n i).rxStream n).missing = (s.rxStream n).missing :=
  (State.withPend_view (fun t => (t.rxStream n).missing) (fun _ _ _ => rfl) _ _ _ _ _).trans
    (s.rxStream_onRx_missing n fun _ => rfl)

theorem RxStream.askTaken_toAsk (rs : List (Nat × Nat)) (r : RxStream) :
    ∀ m ∈ (r.askTaken rs).missing, inRanges rs m.seq = true → m.toAsk = false := by
  intro m hm hin
  simp only [RxStream.askTaken, RxStream.onMiss, List.mem_map] at hm
  obtain ⟨y, -, hy⟩ := hm
  split at hy
  next => exact hy ▸ rfl
  next hno =>
    subst hy
    simpa [hin] using hno

/-- A block that a request names waits no longer once the request has been sent. -/
theorem RxStream.askCounted_toAsk (r x : RxStream) (rs qs : List (Nat × Nat))
    (hx : ∀ m ∈ x.missing, inRanges qs m.seq = true → m.toAsk = false) :
    ∀ m ∈ (r.askCounted rs x).missing, inRanges qs m.seq = true → m.toAsk = false := by
  intro m hm hin
  simp only [RxStream.askCounted, RxStream.onMiss, List.mem_map] at hm
  obtain ⟨y, hy, heq⟩ := hm
  split at heq
  · subst heq
    exact hx y hy hin
  · exact heq ▸ hx y hy (heq ▸ hin)

/-! ## A GONE reply (R475, R511) -/

/-- The blocks of a GONE reply are gone. -/
def RxStream.goneMarked (rs : List (Nat × Nat)) (r : RxStream) : RxStream :=
  r.onMiss fun m => if inRanges rs m.seq then { m with gone := true, toAsk := false } else m

theorem RxStream.goneMarked_gone (rs : List (Nat × Nat)) (r : RxStream) :
    ∀ m ∈ (r.goneMarked rs).missing, inRanges rs m.seq = true → m.gone = true ∧ m.toAsk = false := by
  intro m hm hin
  simp only [RxStream.goneMarked, RxStream.onMiss, List.mem_map] at hm
  obtain ⟨y, -, rfl⟩ := hm
  by_cases hy : inRanges rs y.seq = true
  · simp [hy]
  · simp [hy] at hin

theorem srxGone_eq (h : tget s.srx.streams n = some r) (he : r.enabled = true) (rs : List (Nat × Nat)) :
    srxGone n rs s = ((s.onRx n (RxStream.goneMarked rs)).rxCount n 7 (rangeSeqs rs).length).rxFlag n 5 := by
  unfold srxGone
  rw [State.rxStream_of_tget h]
  exact if_neg (by simp [he])

theorem exec_goneReceived {d : Delivered} {rest : List Delivered} {typ : Nat} {q : RrReq} (h : s.stx.gones = d :: rest)
    (hq : readRerow d.frame = some (typ, q)) :
    exec .goneReceived s = .next (settle (srxGone q.rx q.ranges { fresh s with stx := { s.stx with gones := rest } })) := by
  show execGoneReceived s = _
  unfold execGoneReceived
  simp only [h, hq]
  rfl

/-! ## A request at the transmit streams (R504, R506) -/

/-- The state in which the frame at the head of STX's queue is checked. -/
def State.rerowTaken (s : State) (rest : List Delivered) : State := { fresh s with stx := { s.stx with inq := rest } }

theorem exec_rerowRequestReceived {d : Delivered} {rest : List Delivered} (h : s.stx.inq = d :: rest) :
    exec .rerowRequestReceived s = .next (settle (rerowIn d (s.rerowTaken rest))) := by
  show execRerowRequestReceived s = _
  unfold execRerowRequestReceived
  rw [h]
  rfl

theorem rerowIn_bad {d : Delivered} (h : readRerow d.frame = none) : rerowIn d s = s.rrBad := by
  unfold rerowIn
  rw [h]

theorem rerowIn_gone {d : Delivered} {q : RrReq} (h : readRerow d.frame = some (2, q)) :
    rerowIn d s = { s with stx := { s.stx with gones := s.stx.gones ++ [d] } } := by
  unfold rerowIn
  simp [h]

theorem rerowIn_request {d : Delivered} {q : RrReq} (h : readRerow d.frame = some (1, q)) :
    rerowIn d s = if s.rrPortOk q then rrAdmit d.frame.port q s else s.rrBad := by
  unfold rerowIn
  simp [h]

/-! ## A request that no store serves (R505, R506, R511) -/

/-- The egress queues, the streams received, the power state and the budgets of answers are as before, and so is every register
but the event register of STX. -/
def sameForAnswers (s t : State) : Prop :=
  (t.np = s.np ∧ t.pmu = s.pmu ∧ t.srx = s.srx ∧ t.stx.usedA = s.stx.usedA ∧ t.stx.usedB = s.stx.usedB)
    ∧ ∀ a, a ≠ Reg.STX_EVENT → t.reg a = s.reg a

theorem sameForAnswers.trans {u : State} (h : sameForAnswers s t) (h' : sameForAnswers t u) : sameForAnswers s u := by
  obtain ⟨⟨h1, h2, h3, h4, h5⟩, hr⟩ := h
  obtain ⟨⟨k1, k2, k3, k4, k5⟩, hk⟩ := h'
  exact ⟨⟨k1.trans h1, k2.trans h2, k3.trans h3, k4.trans h4, k5.trans h5⟩, fun a ha => (hk a ha).trans (hr a ha)⟩

theorem sameForAnswers_txCount (s : State) (n i k : Nat) : sameForAnswers s (s.txCount n i k) := by
  unfold State.txCount
  split <;> exact ⟨⟨rfl, rfl, rfl, rfl, rfl⟩, fun _ _ => rfl⟩

theorem sameForAnswers_txFlag (s : State) (n i : Nat) : sameForAnswers s (s.txFlag n i) := by
  unfold State.txFlag State.withPend
  dsimp only
  split
  · exact ⟨⟨rfl, rfl, rfl, rfl, rfl⟩, fun a ha => by rw [State.reg_flag, if_neg ha]; rfl⟩
  · exact ⟨⟨rfl, rfl, rfl, rfl, rfl⟩, fun _ _ => rfl⟩

theorem sameForAnswers.rrFits (h : sameForAnswers s t) (hp : p < 2) (k : Nat) : t.rrFits p k = s.rrFits p k := by
  obtain ⟨⟨-, -, -, hA, hB⟩, hr⟩ := h
  have h1 := hr Reg.STX_RR_CFG (by decide)
  have h2 := hr Reg.MCK_CORE_CFG (by decide)
  have h3 := hr (Reg.NP_CFG p) (by unfold Reg.NP_CFG Reg.STX_EVENT; omega)
  have hrate : t.coreRate = s.coreRate := by simp only [State.coreRate, State.rateCode, State.regField, h2]
  have hport : t.portRate p = s.portRate p := by simp only [State.portRate, State.portMode, State.regField, h3]
  have hs16 : t.s16 = s.s16 := by simp only [State.s16, State.bit, h2]
  have hsize : t.strokeSize = s.strokeSize := by rw [State.strokeSize, State.strokeSize, hs16]
  unfold State.rrFits State.regField
  rw [h1, hA, hB, hrate, hport, hsize]

theorem sameForAnswers.takesAt (h : sameForAnswers s t) {q : Nat} {k : TxKind} (ht : s.takesAt p q k) : t.takesAt p q k := by
  obtain ⟨⟨hnp, hpmu, -⟩, -⟩ := h
  have hport : t.port p = s.port p := by simp [State.port, hnp]
  obtain ⟨h1, h2, h3⟩ := ht
  exact ⟨hport ▸ h1, hport ▸ h2, by simpa [State.takesFrame, State.goingDown, hpmu] using h3⟩

/-- A request decided with all of its blocks gone, whose GONE frame is `bs`. -/
def RrReq.allGone (q : RrReq) (bs : List Byte) (via : Nat) : RrReq :=
  { q with decided := true, goneFrame := some bs, blocks := [], via := via }

/-- What deciding a request that no store serves comes to: all its blocks go into a GONE frame. -/
theorem rrDecide_unserved {q : RrReq} (hs : s.rrServes q = none) (hne : firstOnly (rangeSeqs q.ranges) ≠ []) :
    ∃ t via, sameForAnswers s t
      ∧ rrDecide p q s = (t, q.allGone (goneFrameOf s p q (firstOnly (rangeSeqs q.ranges))) via) := by
  have hall : ((firstOnly (rangeSeqs q.ranges)).filter fun x => !(has [] x)) = firstOnly (rangeSeqs q.ranges) := by simp [has]
  have hnone : ((firstOnly (rangeSeqs q.ranges)).filter fun x => has [] x) = [] := by simp [has]
  unfold rrDecide
  simp only [hs, hall, hnone, hne, ne_eq, not_true_eq_false, decide_false, Bool.false_and, Bool.false_eq_true, if_false, ite_self]
  exact ⟨_, _, ((sameForAnswers_txCount ..).trans (sameForAnswers_txCount ..)).trans (sameForAnswers_txFlag ..), rfl⟩

/-- A frame of an answer that fits the budget and enters its queue is charged. -/
theorem rrOffer_enters {bs : List Byte} (hf : s.rrFits p (wireSize bs) = true) (ht : s.takesAt p 6 (.rerowAnswer n)) :
    rrOffer s p n bs
      = ((s.entered p 6 { bytes := bs, kind := .rerowAnswer n }).rrCharge p (wireSize bs), true, false) := by
  unfold rrOffer
  simp only [hf, Bool.not_true, Bool.false_eq_true, if_false]
  rw [State.egress_takes ht]
  rfl

/-- A decided request with a GONE frame alone is done once that frame has entered its queue. -/
theorem rrSend_gone {q : RrReq} {bs : List Byte} (hd : q.decided = true) (hg : q.goneFrame = some bs) (hb : q.blocks = [])
    (hf : s.rrFits p (wireSize bs) = true) (ht : s.takesAt p 6 (.rerowAnswer q.tx)) :
    rrSend p s [q] = ((s.entered p 6 { bytes := bs, kind := .rerowAnswer q.tx }).rrCharge p (wireSize bs), []) := by
  have hgone : rrSendGone p s q
      = ((s.entered p 6 { bytes := bs, kind := .rerowAnswer q.tx }).rrCharge p (wireSize bs), { q with goneFrame := none }, true) := by
    unfold rrSendGone
    simp only [hg, rrOffer_enters hf ht, if_true]
  simp [rrSend, hd, hgone, hb, rrSendBlocks]

theorem rrAnswer_unserved {q : RrReq} (hp : p < 2) (hl : s.rrList p = [q]) (hd : q.decided = false) (hs : s.rrServes q = none)
    (hne : firstOnly (rangeSeqs q.ranges) ≠ []) (ht : s.takesAt p 6 (.rerowAnswer q.tx))
    (hf : s.rrFits p (wireSize (goneFrameOf s p q (firstOnly (rangeSeqs q.ranges)))) = true) :
    ∃ t, sameForAnswers s t ∧ rrAnswer p s = ((t.entered p 6
      { bytes := goneFrameOf s p q (firstOnly (rangeSeqs q.ranges)), kind := .rerowAnswer q.tx }).rrCharge p
        (wireSize (goneFrameOf s p q (firstOnly (rangeSeqs q.ranges))))).setRrList p [] := by
  obtain ⟨t, via, hsame, hdec⟩ := rrDecide_unserved (p := p) hs hne
  refine ⟨t, hsame, ?_⟩
  unfold rrAnswer
  simp only [hl, rrDecideFirst, hd, hdec, Bool.false_eq_true, if_false]
  rw [rrSend_gone (q := q.allGone _ via) rfl rfl rfl ((hsame.rrFits hp _).trans hf) (hsame.takesAt ht)]
  rfl

/-! ## The two ends, event by event -/

theorem settle_rxStream (s : State) (n : Nat) : (settle s).rxStream n = s.rxStream n := by simp [State.rxStream]

/-- What the receive stream's side of the statement says of the blocks that it asks for. -/
theorem rerowBlocks {s : State} {n : Nat} {r : RxStream} (hr : tget s.srx.streams n = some r) {m : Missing}
    (hm : r.block m.seq = some m) :
    (m.detected = false → ∃ t, exec (.rrWaitExpired n m.seq) s = .next t ∧ t.np = s.np ∧ t.stx = s.stx
      ∧ ∃ x, (t.rxStream n).block m.seq = some x ∧ x.detected = true
        ∧ ((fresh s).rrMayAsk r m.pos = true → s.rrOutstanding < 1024 → x.toAsk = true)
        ∧ ((fresh s).rrMayAsk r m.pos = false → x.toAsk = m.toAsk))
    ∧ (m.asks = 1 → m.gone = false → m.toAsk = false → s.rrMayAsk r m.pos = true → ∃ t x,
        exec (.rrRetryExpired n m.seq) s = .next t ∧ x.toAsk = true ∧ (t.rxStream n).block m.seq = some x) := by
  have hf : tget (fresh s).srx.streams n = some r := hr
  refine ⟨fun hd => ?_, fun h1 hg ht hask => ?_⟩
  · have hbeside := State.besideRx_of_heard (State.rrDetect_heard (fresh s) n m.seq n)
    simp only [State.besideRx, Prod.mk.injEq] at hbeside
    obtain ⟨-, hstx, -, -, hnp⟩ := hbeside
    refine ⟨_, rfl, by simpa using hnp, by simpa using hstx, ?_⟩
    rw [settle_rxStream]
    exact State.rrDetect_block hf hm hd
  · refine ⟨_, m.awaiting, exec_rrRetryExpired hr hm h1 hg ht hask, rfl, ?_⟩
    rw [settle_rxStream, State.onMissing_block (f := Missing.awaiting) (fun _ => rfl) hf, hm]
    rfl

/-- REROW_REQUEST_SEND where the port takes the request: the frame stands in queue 6, and its blocks wait no longer. -/
theorem rerowRequestSent {h : PeerHdr} (hr : tget s.srx.streams n = some r) (hl : s.np.length = 2)
    (hrs : (askBlocks r).2 ≠ []) (hask : (fresh s).askPort r (askBlocks r).1 = p)
    (hh : (if p = 0 then r.hdrA else r.hdrB) = some h) (hsrc : (fresh s).rrSource p h.ip6 ≠ 0) (hsent : s.asksSent p < 32)
    (hp : p < 2) (hq : (s.port p).egress.length = 8) (htake : s.takesAt p 6 .rerowAsk) :
    ∃ t x, exec (.rerowRequestSend n) s = .next t ∧ (t.port p).egress.getD 6 [] = (s.port p).egress.getD 6 [] ++ [x]
      ∧ x.kind = .rerowAsk ∧ t.port (1 - p) = s.port (1 - p) ∧ t.asksSent p = s.asksSent p + 1
      ∧ ∀ m ∈ (t.rxStream n).missing, inRanges (askBlocks r).2 m.seq = true → m.toAsk = false := by
  have hf : tget (fresh s).srx.streams n = some r := hr
  obtain ⟨x, token, blocks, hk, heq⟩ := srxAsk_sends hf hrs hask hh hsrc hsent htake
  let s0 := (fresh s).onRx n (RxStream.askTaken (askBlocks r).2)
  let s1 := (s0.entered p 6 x).onRx n (r.askCounted (askBlocks r).2)
  have hport : ∀ j, ((s1.rxCount n 6 blocks).askNoted p (s.asksSent p + 1) token).port j = (s0.entered p 6 x).port j := fun j =>
    congrArg (fun l : List NetPort => l.getD j {}) (s1.rxCount_np n 6 blocks)
  have hmiss : (((s1.rxCount n 6 blocks).askNoted p (s.asksSent p + 1) token).rxStream n).missing
      = (r.askCounted (askBlocks r).2 (RxStream.askTaken (askBlocks r).2 r)).missing := by
    have hs0 : tget (s0.entered p 6 x).srx.streams n = some (RxStream.askTaken (askBlocks r).2 r) := by
      show tget (tmod s.srx.streams n _) n = _
      rw [tget_tmod_self, hr]
      rfl
    have hnoted : ∀ u : State, (u.askNoted p (s.asksSent p + 1) token).srx.streams = u.srx.streams := fun u => by
      unfold State.askNoted
      dsimp only
      split <;> rfl
    rw [State.rxStream, hnoted, ← State.rxStream, State.rxCount_missing, State.rxStream_onRx hs0]
  refine ⟨_, x, congrArg (fun t => Host.Outcome.next (settle t)) heq, ?_, hk, ?_, ?_, ?_⟩
  · rw [settle_port]
    exact (congrArg (fun np : NetPort => np.egress.getD 6 []) (hport p)).trans
      (State.entered_queue (s := s0) hp hl (by rw [show s0.port p = s.port p from rfl, hq]; decide))
  · rw [settle_port]
    exact (hport (1 - p)).trans (State.entered_other (s := s0) hp)
  · rw [show ∀ u : State, (settle u).asksSent p = u.asksSent p from fun u => by simp [State.asksSent]]
    exact State.asksSent_askNoted _ p _ token
  · rw [settle_rxStream]
    refine fun m hm => RxStream.askCounted_toAsk r _ (askBlocks r).2 _ (RxStream.askTaken_toAsk _ r) m ?_
    rw [← hmiss]
    exact hm

/-- GONE_RECEIVED for a stream that is enabled: the blocks of the reply are not asked again. -/
theorem goneHandedOn {d : Delivered} {rest : List Delivered} {typ : Nat} {q : RrReq} (hr : tget s.srx.streams n = some r)
    (hg : s.stx.gones = d :: rest) (hq : readRerow d.frame = some (typ, q)) (hn : q.rx = n) (he : r.enabled = true) :
    ∃ t, exec .goneReceived s = .next t ∧ t.stx.gones = rest ∧ t.np = s.np
      ∧ ∀ m ∈ (t.rxStream n).missing, inRanges q.ranges m.seq = true → m.gone = true ∧ m.toAsk = false := by
  subst hn
  let s0 : State := { fresh s with stx := { s.stx with gones := rest } }
  have hs0 : tget s0.srx.streams q.rx = some r := hr
  have hheard : (srxGone q.rx q.ranges s0).heard q.rx = s0.heard q.rx := by
    rw [srxGone_eq hs0 he, State.rxFlag_heard, State.rxCount_heard]
    exact s0.onRx_heard q.rx fun _ _ => rfl
  have hbeside := State.besideRx_of_heard hheard
  simp only [State.besideRx, Prod.mk.injEq] at hbeside
  obtain ⟨-, hstx, -, -, hnp⟩ := hbeside
  refine ⟨_, exec_goneReceived hg hq, by rw [settle_stx]; exact congrArg Stx.gones hstx, by rw [settle_np]; exact hnp, ?_⟩
  rw [settle_rxStream, srxGone_eq hs0 he, State.rxFlag_missing, State.rxCount_missing, State.rxStream_onRx hs0]
  exact r.goneMarked_gone q.ranges

/-- REROW_REQUEST_RECEIVED, by what the frame at the head of the queue reads as. -/
theorem rerowRequestTaken {d : Delivered} {rest : List Delivered} (h : s.stx.inq = d :: rest) :
    let u := s.rerowTaken rest
    (readRerow d.frame = none → exec .rerowRequestReceived s = .next (settle u.rrBad))
    ∧ (∀ q, readRerow d.frame = some (2, q) → exec .rerowRequestReceived s
        = .next (settle { u with stx := { u.stx with gones := s.stx.gones ++ [d] } }))
    ∧ (∀ q, readRerow d.frame = some (1, q) →
      (u.rrPortOk q = false → exec .rerowRequestReceived s = .next (settle u.rrBad))
      ∧ (u.rrPortOk q = true → (s.rrList d.frame.port).length < 256 → exec .rerowRequestReceived s
          = .next (settle (u.setRrList d.frame.port (s.rrList d.frame.port ++ [q]))))
      ∧ (u.rrPortOk q = true → 256 ≤ (s.rrList d.frame.port).length → exec .rerowRequestReceived s
          = .next (settle ((u.bump (Reg.STX_RR_OVERFLOW d.frame.port)).flag Reg.STX_EVENT 2)))) := by
  intro u
  rw [exec_rerowRequestReceived h]
  refine ⟨fun hn => by rw [rerowIn_bad hn], fun q hq => by rw [rerowIn_gone hq]; rfl, fun q hq => ?_⟩
  rw [rerowIn_request hq]
  refine ⟨fun hno => ?_, fun hok hroom => ?_, fun hok hfull => ?_⟩
  · rw [if_neg (by rw [hno]; exact Bool.false_ne_true)]
  · rw [if_pos hok]
    exact congrArg (fun t => Host.Outcome.next (settle t)) (if_neg (Nat.not_le.mpr hroom))
  · rw [if_pos hok]
    exact congrArg (fun t => Host.Outcome.next (settle t)) (if_pos hfull)

/-- REROW_ANSWER of a request that no store serves: its GONE frame stands in queue 6, and the request is done. -/
theorem rerowAnsweredGone {q : RrReq} (hp : p < 2) (hn : s.np.length = 2) (hl : s.rrList p = [q]) (hd : q.decided = false)
    (hs : s.rrServes q = none) (hne : firstOnly (rangeSeqs q.ranges) ≠ []) (hq : (s.port p).egress.length = 8)
    (ht : s.takesAt p 6 (.rerowAnswer q.tx)) :
    let frame := goneFrameOf s p q (firstOnly (rangeSeqs q.ranges))
    s.rrFits p (wireSize frame) = true →
    ∃ t x, exec (.rerowAnswer p) s = .next t ∧ t.rrList p = [] ∧ x.bytes = frame ∧ x.kind = .rerowAnswer q.tx
      ∧ (t.port p).egress.getD 6 [] = (s.port p).egress.getD 6 [] ++ [x] ∧ t.port (1 - p) = s.port (1 - p) ∧ t.srx = s.srx := by
  intro frame hf
  obtain ⟨u, hsame, heq⟩ := rrAnswer_unserved (s := fresh s) hp hl hd hs hne ht hf
  obtain ⟨⟨hnp, -, hsrx, -⟩, -⟩ := hsame
  let x : TxFrame := { bytes := frame, kind := .rerowAnswer q.tx }
  have hexec : exec (.rerowAnswer p) s
      = .next (settle (((u.entered p 6 x).rrCharge p (wireSize frame)).setRrList p [])) := by
    show Host.Outcome.next (settle (if p < 2 then rrAnswer p (fresh s) else fresh s)) = _
    rw [if_pos hp, heq]
    rfl
  have hport : ∀ j, u.port j = s.port j := fun j => congrArg (fun l : List NetPort => l.getD j {}) hnp
  refine ⟨_, x, hexec, ?_, rfl, rfl, ?_, ?_, ?_⟩
  · simp only [State.rrList, settle_stx, State.setRrList]
    split <;> rfl
  · rw [settle_port, ← hport p]
    exact State.entered_queue hp (by rw [hnp]; exact hn) (by rw [hport, hq]; decide)
  · rw [settle_port, ← hport (1 - p)]
    exact State.entered_other hp
  · rw [settle_srx]
    exact hsrx

end Sys2Proof.Machine
end

section
/-! The statement of re-row at both ends. -/
open Sys2Proof Sys2Proof.Machine

/-- Settles O50, event by event: the blocks asked for, the request sent, the GONE reply, and both sides of the transmit
stream. -/
theorem rerowCompletes : Obligations.RerowCompletes := by
  unfold Obligations.RerowCompletes
  refine ⟨fun s n r hr => ⟨fun m hm => rerowBlocks hr hm, ?_, fun d rest typ q hg hq hn he => goneHandedOn hr hg hq hn he⟩,
    fun s => ⟨fun d rest h => rerowRequestTaken h, ?_⟩⟩
  · intro h hl hrs rs p hh hsrc hsent hp hlive hq hroom hk
    obtain ⟨t, x, hexec, hqueue, hkind, hother, hcount, hblocks⟩ :=
      rerowRequestSent hr hl hrs rfl hh hsrc hsent hp hq ⟨hlive, hroom, hk⟩
    exact ⟨t, x, hexec, hqueue, hkind, hother, hcount, hblocks⟩
  · intro p q hp hn hl hd hs hne hlive hq hroom hk
    exact rerowAnsweredGone hp hn hl hd hs hne hq ⟨hlive, hroom, hk⟩
end

section
/-! SUPPORT. TDM ports: what time and their events leave alone, the frames of a slave port, and the commands of TDM ports and of
the Rate Aligner at their commit points. -/
namespace Sys2Proof.Machine

variable {s t : State} {n : Nat}

/-! ## The registers that time leaves alone (R148) -/

theorem State.keyError_reg (s : State) (issued : Nat) (p : Path) (bit : Nat) {a : Nat} (h1 : a ≠ Reg.GLB_ERR)
    (h2 : a ≠ Reg.GLB_ERR_ADDR) : (s.keyError issued p bit).reg a = s.reg a := by
  unfold State.keyError
  rw [State.reg_flag, if_neg h1]
  split
  · exact State.reg_setReg_ne _ _ h2
  · rfl

theorem State.trackRefs_reg (s : State) {a : Nat} (h : a ≠ Reg.MCK_REF_EVENT) : s.trackRefs.reg a = s.reg a := by
  unfold State.trackRefs
  dsimp only
  split
  · rw [State.reg_flag, if_neg h]
    rfl
  · rfl

theorem State.ageKeys_reg (s : State) (k : Nat) {a : Nat} (h1 : a ≠ Reg.GLB_ERR) (h2 : a ≠ Reg.GLB_ERR_ADDR) :
    (s.ageKeys k).reg a = s.reg a := by
  unfold State.ageKeys
  extract_lets s1 old
  refine (foldl_keeps (fun t : State => t.reg a) _ (fun t e => ?_) old s1).trans rfl
  exact t.keyError_reg _ _ _ h1 h2

/-- Time leaves every register as it is but those of a keyed sequence's error and of a reference's loss. -/
theorem State.advance_reg (s : State) (dt : Nat) {a : Nat} (h1 : a ≠ Reg.GLB_ERR) (h2 : a ≠ Reg.GLB_ERR_ADDR)
    (h3 : a ≠ Reg.MCK_REF_EVENT) : (s.advance dt).reg a = s.reg a := by
  unfold State.advance
  split
  · rfl
  · exact (State.ageKeys_reg _ _ h1 h2).trans (s.trackRefs_reg h3)

theorem State.advance_coreRate (s : State) (dt : Nat) : (s.advance dt).coreRate = s.coreRate := by
  unfold State.coreRate State.rateCode State.regField
  rw [State.advance_reg s dt (by decide) (by decide) (by decide)]

theorem State.advance_tdmPort (s : State) (dt n : Nat) : (s.advance dt).tdmPort n = s.tdmPort n := by
  unfold State.tdmPort
  rw [State.advance_tdm]

theorem State.advance_tdmCfg (s : State) (dt n : Nat) : (s.advance dt).tdmCfg n = s.tdmCfg n := by
  have hreg : ∀ a, 0x38000 ≤ a → (s.advance dt).reg a = s.reg a := fun a ha =>
    State.advance_reg s dt (by unfold Reg.GLB_ERR; omega) (by unfold Reg.GLB_ERR_ADDR; omega) (by unfold Reg.MCK_REF_EVENT; omega)
  unfold State.tdmCfg
  rw [hreg, hreg, hreg, hreg]
  all_goals
    simp only [Reg.TDM_CFG, Reg.TDM_RX_MASK, Reg.TDM_TX_MASK, Reg.TDM_X24]
    omega

/-! ## The ports -/

theorem State.tdmPort_onTdm_ne (s : State) (f : TdmPort → TdmPort) {j : Nat} (h : j ≠ n) :
    (s.onTdm n f).tdmPort j = s.tdmPort j := getD_listMod_ne _ _ _ h

theorem State.tdmPort_onTdm_self (f : TdmPort → TdmPort) (h : n < s.tdm.length) :
    (s.onTdm n f).tdmPort n = f (s.tdmPort n) := getD_listMod_self _ _ _ _ h

theorem State.tdm_onTdm_length (s : State) (f : TdmPort → TdmPort) : (s.onTdm n f).tdm.length = s.tdm.length :=
  length_listMod ..

theorem State.tdmFlag_tdm (s : State) (n i : Nat) : (s.tdmFlag n i).tdm = s.tdm :=
  State.withPend_view State.tdm (fun _ _ _ => rfl) _ _ _ _ _

theorem State.tdmFlag_tdmPort (s : State) (n i j : Nat) : (s.tdmFlag n i).tdmPort j = s.tdmPort j := by
  unfold State.tdmPort
  rw [State.tdmFlag_tdm]

theorem settle_tdmPort (s : State) (j : Nat) : (settle s).tdmPort j = s.tdmPort j := by
  unfold State.tdmPort
  rw [settle_tdm]

theorem State.keepsBits_tdmFlag (s : State) (n i : Nat) : keepsBits s (s.tdmFlag n i) := by
  unfold State.tdmFlag State.withPend
  dsimp only
  split
  · exact (keepsBits_flag _ _ _).trans (keepsBits_flag _ _ _)
  · exact keepsBits_flag _ _ _

/-- The event that is set stands in the port's event register. -/
theorem State.tdmFlag_bit (s : State) (n : Nat) {i : Nat} (h : i < 32) : (s.tdmFlag n i).bit (Reg.TDM_PORT_EVENT n) i = true := by
  have hself := s.bit_flag_self (Reg.TDM_PORT_EVENT n) i h
  unfold State.tdmFlag State.withPend
  dsimp only
  split
  · exact keepsBits_flag _ _ _ _ _ hself
  · exact hself

/-- A change of an element is what it does there. -/
theorem listMod_congr_at {α : Type} {f g : α → α} {d : α} (l : List α) (i : Nat) (h : f (l.getD i d) = g (l.getD i d)) :
    listMod l i f = listMod l i g := by
  induction l generalizing i with
  | nil => rfl
  | cons x l ih =>
    cases i with
    | zero => exact congrArg (· :: l) h
    | succ i => exact congrArg (x :: ·) (ih i h)

theorem State.onTdm_congr {f g : TdmPort → TdmPort} (h : f (s.tdmPort n) = g (s.tdmPort n)) : s.onTdm n f = s.onTdm n g :=
  congrArg (fun l => { s with tdm := l }) (listMod_congr_at s.tdm n h)

/-- A change of port `n` alone. -/
def onlyTdm (n : Nat) (s t : State) : Prop := t.tdm.length = s.tdm.length ∧ ∀ j, j ≠ n → t.tdmPort j = s.tdmPort j

theorem onlyTdm.trans {u : State} (h : onlyTdm n s t) (h' : onlyTdm n t u) : onlyTdm n s u :=
  ⟨h'.1.trans h.1, fun j hj => (h'.2 j hj).trans (h.2 j hj)⟩

theorem onlyTdm_onTdm (s : State) (n : Nat) (f : TdmPort → TdmPort) : onlyTdm n s (s.onTdm n f) :=
  ⟨s.tdm_onTdm_length f, fun _ hj => s.tdmPort_onTdm_ne f hj⟩

theorem onlyTdm_of_tdm (h : t.tdm = s.tdm) : onlyTdm n s t :=
  ⟨congrArg List.length h, fun j _ => congrArg (fun l : List TdmPort => l.getD j {}) h⟩

theorem onlyTdm_tdmFlag (s : State) (n i : Nat) : onlyTdm n s (s.tdmFlag n i) := onlyTdm_of_tdm (s.tdmFlag_tdm n i)

/-! ## The frames of a slave port (R586 to R588) -/

theorem State.tdmSeek_port (h : n < s.tdm.length) : ((s.tdmSeek n).tdmPort n).state = 1 := by
  unfold State.tdmSeek
  rw [State.tdmFlag_tdmPort, State.tdmPort_onTdm_self _ h]

theorem State.keepsBits_tdmSeek (s : State) (n : Nat) : keepsBits s (s.tdmSeek n) :=
  (keepsBits_of_regs rfl).trans (State.keepsBits_tdmFlag (s.onTdm n fun p =>
    { p with state := 1, good := 0, bad := 0, capOk := false, sdo := tmap p.sdo fun ws => ws.map fun _ => 0 }) n 1)

theorem onlyTdm_tdmSeek (s : State) (n : Nat) : onlyTdm n s (s.tdmSeek n) :=
  (onlyTdm_onTdm s n _).trans (onlyTdm_tdmFlag _ n 1)

variable {clocks : Nat} {slots : List Word}

theorem tdmFrame_drops (h1 : (s.tdmPort n).ending = true) (h2 : (s.tdmCfg n).master = false) :
    tdmFrame n clocks slots s = s.tdmDrop n := if_pos (by rw [h1, h2]; rfl)

theorem tdmFrame_goesOn (h : (s.tdmPort n).ending = false ∨ (s.tdmCfg n).master = true) :
    ¬ ((s.tdmPort n).ending && !(s.tdmCfg n).master) = true := by
  obtain h | h := h <;> simp [h]

theorem tdmFrame_unheard (h1 : (s.tdmPort n).ending = false ∨ (s.tdmCfg n).master = true)
    (h2 : (s.tdmPort n).live = false ∨ (s.tdmCfg n).master = true ∨ s.mck.grid = false) :
    tdmFrame n clocks slots s = s := by
  refine (if_neg (tdmFrame_goesOn h1)).trans (if_pos ?_)
  obtain h | h | h := h2 <;> simp [h]

/-- The edge of a frame of port `n` comes one sample period after the one before, to within 1 % (R586). -/
def State.tdmSpaced (s : State) (n : Nat) : Bool :=
  (s.tdmPort n).lastEdge.elim false fun t =>
    decide ((((s.ntu.course : Int) - t) * s.coreRate - 1000000000).natAbs ≤ 10000000)

/-- The edge of a frame of port `n` is noted. -/
def State.tdmEdge (s : State) (n : Nat) : State := s.onTdm n fun p => { p with lastEdge := some s.ntu.course }

theorem tdmFrame_listens (hlive : (s.tdmPort n).live = true) (hslave : (s.tdmCfg n).master = false)
    (hgrid : s.mck.grid = true) : ¬ (!(s.tdmPort n).live || (s.tdmCfg n).master || !s.mck.grid) = true := by
  simp [hlive, hslave, hgrid]

section
variable (hlive : (s.tdmPort n).live = true) (hend : (s.tdmPort n).ending = false) (hslave : (s.tdmCfg n).master = false)
  (hgrid : s.mck.grid = true)
include hlive hend hslave hgrid

theorem tdmFrame_stopping {e : Nat} (hstop : (s.tdmPort n).stopAt = some e) :
    tdmFrame n clocks slots s
      = s.onTdm n fun p => { p with stopAt := some (Nat.min e s.ntu.course), frameOut := [] } := by
  refine (if_neg (tdmFrame_goesOn (.inl hend))).trans ((if_neg (tdmFrame_listens hlive hslave hgrid)).trans
    ((if_pos (by rw [hstop]; rfl)).trans (State.onTdm_congr ?_)))
  rw [hstop]
  rfl

/-- A frame of a port that neither stops nor has stopped, by the state of the port. -/
theorem tdmFrame_heard (hstop : (s.tdmPort n).stopAt = none) : tdmFrame n clocks slots s
    = if (s.tdmPort n).state = 1 then
        tdmSeekFrame n (decide (clocks = (s.tdmCfg n).slots * (s.tdmCfg n).len)) (s.tdmSpaced n) (s.tdmEdge n)
      else if (s.tdmPort n).state = 2 then
        if clocks = (s.tdmCfg n).slots * (s.tdmCfg n).len then tdmLockedFrame n slots (s.tdmEdge n)
        else tdmBadFrame n (s.tdmEdge n)
      else s.tdmEdge n := by
  refine (if_neg (tdmFrame_goesOn (.inl hend))).trans ((if_neg (tdmFrame_listens hlive hslave hgrid)).trans
    ((if_neg (by rw [hstop]; exact Bool.false_ne_true)).trans ?_))
  unfold State.tdmSpaced
  cases (s.tdmPort n).lastEdge <;> simp only [decide_eq_true_eq] <;> rfl
end

/-! ### SEEK and LOCKED -/

theorem State.tdmEdge_port (h : n < s.tdm.length) :
    (s.tdmEdge n).tdmPort n = { s.tdmPort n with lastEdge := some s.ntu.course } := State.tdmPort_onTdm_self _ h

theorem State.tdmEdge_length (s : State) (n : Nat) : (s.tdmEdge n).tdm.length = s.tdm.length := s.tdm_onTdm_length _

/-- A bad frame in SEEK starts the count again. -/
theorem tdmSeekFrame_bad (spaced : Bool) (h : n < s.tdm.length) :
    onlyTdm n s (tdmSeekFrame n false spaced s)
      ∧ ((tdmSeekFrame n false spaced s).tdmPort n).state = (s.tdmPort n).state
      ∧ ((tdmSeekFrame n false spaced s).tdmPort n).good = 0 := by
  have heq : tdmSeekFrame n false spaced s
      = s.onTdm n fun p => { p with good := 0, frameOut := tdmFrameOut (s.reg (Reg.TDM_MUTE_OUT n)) (s.tdmCfg n) p none } := rfl
  rw [heq, State.tdmPort_onTdm_self _ h]
  exact ⟨onlyTdm_onTdm .., rfl, rfl⟩

/-- The fourth good frame in succession locks the port, with its event. -/
theorem tdmSeekFrame_locks (h : n < s.tdm.length) (h3 : (s.tdmPort n).good = 3) :
    onlyTdm n s (tdmSeekFrame n true true s) ∧ ((tdmSeekFrame n true true s).tdmPort n).state = 2
      ∧ ((tdmSeekFrame n true true s).tdmPort n).bad = 0
      ∧ (tdmSeekFrame n true true s).bit (Reg.TDM_PORT_EVENT n) 0 = true := by
  unfold tdmSeekFrame
  dsimp only
  rw [if_neg (by simp [h3])]
  refine ⟨((onlyTdm_onTdm ..).trans (onlyTdm_onTdm ..)).trans (onlyTdm_tdmFlag ..), ?_, ?_, State.tdmFlag_bit _ n (by decide)⟩
  · rw [State.tdmFlag_tdmPort, State.tdmPort_onTdm_self _ (by rwa [State.tdm_onTdm_length])]
  · rw [State.tdmFlag_tdmPort, State.tdmPort_onTdm_self _ (by rwa [State.tdm_onTdm_length])]

theorem tdmStore_locked (size : Nat) (ix : Int) (e : List (Option Word)) (p : TdmPort) :
    (tdmStore size ix e p).state = p.state := by
  unfold tdmStore
  split_ifs <;> rfl

theorem tdmStamp_locked (s : State) (size : Nat) (ix : Int) (p : TdmPort) :
    (tdmStamp s size ix p).state = p.state ∧ (tdmStamp s size ix p).bad = p.bad ∧ (tdmStamp s size ix p).nextIx = p.nextIx := by
  unfold tdmStamp
  split <;> exact ⟨rfl, rfl, rfl⟩

/-- How far the edge of port `n` at this instant lies from the place of its next frame, times the core rate (R587). -/
def State.tdmDev (s : State) (n : Nat) : Int :=
  s.relEdge - (s.tdmPort n).nextIx * 1000000000 - (s.tdmPort n).offset * s.coreRate

/-- A frame in its place is assigned to the next grid sample. -/
theorem tdmLockedFrame_inPlace (h : n < s.tdm.length) (hr : (s.tdmPort n).reassign = false)
    (h1 : -1000000000 ≤ 2 * s.tdmDev n) (h2 : 2 * s.tdmDev n ≤ 1000000000) :
    onlyTdm n s (tdmLockedFrame n slots s) ∧ ((tdmLockedFrame n slots s).tdmPort n).state = (s.tdmPort n).state
      ∧ ((tdmLockedFrame n slots s).tdmPort n).bad = 0
      ∧ ((tdmLockedFrame n slots s).tdmPort n).nextIx = (s.tdmPort n).nextIx + 1 := by
  have hsame : s.onTdm n (tdmReassign s) = s.onTdm n id := State.onTdm_congr (by simp [tdmReassign, hr])
  have hport : (s.onTdm n id).tdmPort n = s.tdmPort n := State.tdmPort_onTdm_self _ h
  have hdev : (s.onTdm n id).tdmDev n = s.tdmDev n := by
    unfold State.tdmDev
    rw [hport]
    rfl
  have hl : n < (s.onTdm n id).tdm.length := by rwa [State.tdm_onTdm_length]
  unfold tdmLockedFrame
  dsimp only
  rw [hsame]
  rw [if_neg (by rw [← State.tdmDev, hdev]; omega), if_neg (by rw [← State.tdmDev, hdev]; omega), State.tdmPort_onTdm_self _ hl]
  obtain ⟨hs, hb, hn⟩ := tdmStamp_locked (s.onTdm n id) (s.onTdm n id).strokeSize ((s.onTdm n id).tdmPort n).nextIx _
  rw [hs, hb, hn, hport]
  exact ⟨(onlyTdm_onTdm ..).trans (onlyTdm_onTdm ..), tdmStore_locked .., rfl, rfl⟩

/-- Port `n` after a frame of the wrong length. -/
def tdmPortBad (s : State) (n : Nat) (p : TdmPort) : TdmPort :=
  tdmStamp s s.strokeSize p.nextIx { p with
    bad := p.bad + 1, nextIx := p.nextIx + 1
    frameOut := tdmFrameOut (s.reg (Reg.TDM_MUTE_OUT n)) (s.tdmCfg n) p (some p.nextIx) }

/-- A frame of the wrong length is counted, with its event. -/
def State.tdmBadCounted (s : State) (n : Nat) : State :=
  ((s.onTdm n (tdmPortBad s n)).bumpField (Reg.TDM_CNT n) 31 16).tdmFlag n 3

theorem tdmBadFrame_eq (s : State) (n : Nat) : tdmBadFrame n s
    = if (s.tdmPort n).bad + 1 < 4 then s.tdmBadCounted n else (s.tdmBadCounted n).tdmSeek n := rfl

theorem onlyTdm_tdmBadCounted (s : State) (n : Nat) : onlyTdm n s (s.tdmBadCounted n) :=
  (onlyTdm_onTdm s n (tdmPortBad s n)).trans
    ((onlyTdm_of_tdm (State.bumpField_tdm _ _ _ _ _)).trans (onlyTdm_tdmFlag _ n 3))

theorem State.tdmBadCounted_port (h : n < s.tdm.length) : ((s.tdmBadCounted n).tdmPort n).state = (s.tdmPort n).state
    ∧ ((s.tdmBadCounted n).tdmPort n).bad = (s.tdmPort n).bad + 1 := by
  have hport : (s.tdmBadCounted n).tdmPort n = tdmPortBad s n (s.tdmPort n) :=
    (State.tdmFlag_tdmPort _ n 3 n).trans (State.tdmPort_onTdm_self _ h)
  obtain ⟨hst, hb, -⟩ := tdmStamp_locked s s.strokeSize (s.tdmPort n).nextIx { s.tdmPort n with
    bad := (s.tdmPort n).bad + 1, nextIx := (s.tdmPort n).nextIx + 1
    frameOut := tdmFrameOut (s.reg (Reg.TDM_MUTE_OUT n)) (s.tdmCfg n) (s.tdmPort n) (some (s.tdmPort n).nextIx) }
  rw [hport]
  exact ⟨hst, hb⟩

/-- A frame of the wrong length counts, with its event; the fourth in succession loses lock. -/
theorem tdmBadFrame_counts (h : n < s.tdm.length) (h2 : (s.tdmPort n).state = 2) :
    onlyTdm n s (tdmBadFrame n s)
      ∧ ((tdmBadFrame n s).tdmPort n).state = (if (s.tdmPort n).bad + 1 < 4 then 2 else 1)
      ∧ (tdmBadFrame n s).bit (Reg.TDM_PORT_EVENT n) 3 = true
      ∧ ((s.tdmPort n).bad + 1 < 4 → ((tdmBadFrame n s).tdmPort n).bad = (s.tdmPort n).bad + 1) := by
  have hbit : (s.tdmBadCounted n).bit (Reg.TDM_PORT_EVENT n) 3 = true := State.tdmFlag_bit _ n (by decide)
  have honly := onlyTdm_tdmBadCounted s n
  obtain ⟨hst, hb⟩ := State.tdmBadCounted_port h
  rw [tdmBadFrame_eq]
  by_cases hfew : (s.tdmPort n).bad + 1 < 4
  · rw [if_pos hfew, if_pos hfew]
    exact ⟨honly, hst.trans h2, hbit, fun _ => hb⟩
  · have hl : n < (s.tdmBadCounted n).tdm.length := by rwa [honly.1]
    rw [if_neg hfew, if_neg hfew]
    exact ⟨honly.trans (onlyTdm_tdmSeek _ n), State.tdmSeek_port hl, State.keepsBits_tdmSeek _ n _ _ hbit,
      fun hyes => absurd hyes hfew⟩

/-! ## Commands that fail with ABORTED (R248) -/

variable {op : Nat} {k : Pkt}

/-- A command that fails at its commit point with ABORTED, and has done nothing: its flag of CMD_EVENT is set. -/
theorem exec_commit_aborted {i : Instr} {word : Nat} (hrow : dadinRow op k = some i) (hb : begins op k s = true) (h5 : 5 < op)
    (hc : commitOp s.cmd.nextOrd op k.tag k.x k.params (begun op k s) = (begun op k s, .fail .aborted word)) :
    exec i s = .next (replied op k .aborted word [] false s ((fresh s).flag Reg.CMD_EVENT 3)) := by
  have hop : commitOp (started op k s).ord (started op k s).op (started op k s).tag (started op k s).x
      (started op k s).params (begun op k s) = (begun op k s, .fail .aborted word) := hc
  have hcommit : commitUnit (started op k s) (begun op k s) = (begun op k s).answer (started op k s) .aborted word [] := by
    unfold commitUnit
    rw [hop]
    rfl
  have hreply := settle_answer_started (t := begun op k s) (f := started op k s) .aborted word [] hb rfl rfl
  rw [← hcommit, ← arrive_begun hb h5] at hreply
  exact (exec_dadin hrow).trans (congrArg Host.Outcome.next hreply)

/-! ## `TDM_CONFIG` (R591, R597) -/

/-- The registers of port `n` as a `TDM_CONFIG` gives them. -/
def State.tdmConfigured (s : State) (n : Nat) (g : Word × Word × Word × Word) : State :=
  (((s.setReg (Reg.TDM_CFG n) g.1).setReg (Reg.TDM_RX_MASK n) g.2.1).setReg (Reg.TDM_TX_MASK n) g.2.2.1).setReg
    (Reg.TDM_X24 n) g.2.2.2

theorem State.tdmConfigured_reg (s : State) (n : Nat) (g : Word × Word × Word × Word) :
    (s.tdmConfigured n g).reg (Reg.TDM_CFG n) = g.1 ∧ (s.tdmConfigured n g).reg (Reg.TDM_RX_MASK n) = g.2.1
      ∧ (s.tdmConfigured n g).reg (Reg.TDM_TX_MASK n) = g.2.2.1 ∧ (s.tdmConfigured n g).reg (Reg.TDM_X24 n) = g.2.2.2 := by
  unfold State.tdmConfigured
  simp only [State.reg_setReg]
  simp [Reg.TDM_CFG, Reg.TDM_RX_MASK, Reg.TDM_TX_MASK, Reg.TDM_X24]

variable {x : Bool} {p : List Word}

/-- The port that a TDM command names. -/
def tdmNamed (p : List Word) : Nat := fieldOf (p.getD 0 0) 3 0

/-- The configuration that four register words give. -/
def tdmCfgGiven (g : Word × Word × Word × Word) : TdmCfg := tdmCfgOf g.1 g.2.1 g.2.2.1 g.2.2.2

/-- `TDM_CONFIG` by its checks: the core rate, the port's enable, and whether the enable changes. -/
theorem commitTdmConfig_eq {n : Nat} {g : Word × Word × Word × Word} (hn : tdmNamed p = n) (hg : tdmWords x p = g) :
    commitTdmConfig x p s = if tdmRateBad s.rateCode (tdmCfgGiven g) then (s, .fail .badParam 1)
      else if s.tdmEnabled n && (tdmDiffers x s n g).isSome then (s, .fail .staleWrite ((tdmDiffers x s n g).getD 0))
      else if bitOf g.1 0 = s.tdmWanted n then
        (s.tdmConfigured n g, .ok [(s.tdmConfigured n g).tdmStatus n, 0]
          ((tdmDiffers x s n g).isSome || decide (bitOf g.1 0 ≠ s.bit (Reg.TDM_CFG n) 0)))
      else ((s.tdmConfigured n g).tdmWant n (bitOf g.1 0), .later (.tdm n) []
          ((tdmDiffers x s n g).isSome || decide (bitOf g.1 0 ≠ s.bit (Reg.TDM_CFG n) 0))) := by
  subst hn
  obtain ⟨cfg, rx, tx, x24⟩ := g
  unfold commitTdmConfig
  rw [hg]
  rfl

/-- A configuration that is not refused is written. -/
theorem commitTdmConfig_writes {n : Nat} {g : Word × Word × Word × Word} (hn : tdmNamed p = n) (hg : tdmWords x p = g)
    (hrate : tdmRateBad s.rateCode (tdmCfgGiven g) = false) (hok : s.tdmEnabled n = false ∨ tdmDiffers x s n g = none) :
    ∃ body c, commitTdmConfig x p s = if bitOf g.1 0 = s.tdmWanted n then (s.tdmConfigured n g, .ok body c)
      else ((s.tdmConfigured n g).tdmWant n (bitOf g.1 0), .later (.tdm n) [] c) := by
  have hfail : (s.tdmEnabled n && (tdmDiffers x s n g).isSome) = false := by obtain h | h := hok <;> simp [h]
  rw [commitTdmConfig_eq hn hg, hrate, hfail]
  exact ⟨_, _, rfl⟩

/-! ## `TDM_RESTART` (R595, R598) -/

theorem commitTdmRestart_disabled (h : s.tdmEnabled (tdmNamed p) = false) :
    commitTdmRestart x p s = (s, .fail .badParam 1) := if_pos (by rw [← tdmNamed, h]; rfl)

theorem commitTdmRestart_leaving (h : s.tdmEnabled (tdmNamed p) = true)
    (he : (s.tdmPort (tdmNamed p)).ending = true ∨ ∃ e ∈ (s.tdmPort (tdmNamed p)).wants, e.2 = false) :
    commitTdmRestart x p s = (s, .fail .aborted) := by
  refine (if_neg (by rw [← tdmNamed, h]; exact Bool.false_ne_true)).trans (if_pos ?_)
  rw [← tdmNamed]
  simpa using he

theorem commitTdmRestart_halts (h : s.tdmEnabled (tdmNamed p) = true) (he : (s.tdmPort (tdmNamed p)).ending = false)
    (hw : ∀ e ∈ (s.tdmPort (tdmNamed p)).wants, e.2 = true) :
    commitTdmRestart x p s = (s.tdmHaltAt (tdmNamed p) (x && bitOf (p.getD 0 0) 4), .later (.tdm (tdmNamed p)) []) := by
  refine (if_neg (by rw [← tdmNamed, h]; exact Bool.false_ne_true)).trans (if_neg ?_)
  rw [← tdmNamed]
  simpa [he] using hw

theorem tdmHalt_stopAt (stop : Nat) (whole hold : Bool) (q : TdmPort) :
    (tdmHalt stop whole hold q).state = q.state ∧ (tdmHalt stop whole hold q).stopAt = some (q.stopAt.getD stop)
      ∧ (q.stopAt = none → (tdmHalt stop whole hold q).holdClk = hold) := by
  unfold tdmHalt
  cases h : q.stopAt <;> simp [h]

theorem tdmNamed_lt (p : List Word) : tdmNamed p < 16 := by
  unfold tdmNamed fieldOf
  exact Nat.mod_lt _ (by decide)

/-! ## The Rate Aligner's commands and events (R532, R538 to R540) -/

theorem commitRalConfig_undefined (h : tget s.srx.streams (fieldOf (p.getD 0 0) 8 0) = none) :
    commitRalConfig x p s = (s, .fail .badParam 1) := by
  unfold commitRalConfig
  simp only [h]

/-- The control word that `RAL_CONFIG` gives. -/
def ralCtrlGiven (x : Bool) (p : List Word) : Word :=
  w32 (fieldOf (p.getD 0 0) 10 9 + 2 ^ 4 * (if x then fieldOf (p.getD 1 0) 2 0 else 1)
    + 2 ^ 8 * (if x then fieldOf (p.getD 1 0) 15 8 else 50))

/-- The state once `RAL_CONFIG` has set the control of a stream. -/
def State.ralConfigured (s : State) (n : Nat) (v : Word) : State :=
  (s.goodParity (bankedKey Reg.RAL_STREAM_CTRL n)).onRal n fun l => { l with ctrl := v }

theorem commitRalConfig_defined {r : RxStream} (h : tget s.srx.streams (fieldOf (p.getD 0 0) 8 0) = some r) :
    commitRalConfig x p s
      = if r.enabled && decide (fieldOf (s.ralOf (fieldOf (p.getD 0 0) 8 0)).ctrl 1 0 ≠ fieldOf (p.getD 0 0) 10 9) then
          (s, .fail .staleWrite 1)
        else (s.ralConfigured (fieldOf (p.getD 0 0) 8 0) (ralCtrlGiven x p),
          .ok [(s.ralConfigured (fieldOf (p.getD 0 0) 8 0) (ralCtrlGiven x p)).ralStatusWord (fieldOf (p.getD 0 0) 8 0)]
            (decide (ralCtrlGiven x p ≠ (s.ralOf (fieldOf (p.getD 0 0) 8 0)).ctrl))) := by
  unfold commitRalConfig
  simp only [h]
  rfl

/-! ## A frame of a slave port, as it comes -/

/-- The state in which a frame that comes after `dt` is checked. -/
def State.later (s : State) (dt : Nat) : State := (fresh s).advance dt

theorem State.later_tdmPort (s : State) (dt j : Nat) : (s.later dt).tdmPort j = s.tdmPort j := (fresh s).advance_tdmPort dt j

theorem State.later_tdmCfg (s : State) (dt j : Nat) : (s.later dt).tdmCfg j = s.tdmCfg j := (fresh s).advance_tdmCfg dt j

theorem State.later_grid (s : State) (dt : Nat) : (s.later dt).mck.grid = s.mck.grid := (fresh s).advance_mck_grid dt

theorem State.later_coreRate (s : State) (dt : Nat) : (s.later dt).coreRate = s.coreRate := (fresh s).advance_coreRate dt

theorem State.later_length (s : State) (dt : Nat) : (s.later dt).tdm.length = s.tdm.length :=
  congrArg List.length ((fresh s).advance_tdm dt)

theorem exec_tdmSlaveFrame (dt : Nat) : exec (.tdmSlaveFrame dt n clocks slots) s
    = .next (settle (tdmFrame n clocks slots (s.later dt))) := rfl

/-- What a step says of port `n` and of the others, where it leaves a change of port `n` alone. -/
theorem onlyTdm.settled {dt : Nat} (h : onlyTdm n (s.later dt) t) : ∀ j, j ≠ n → (settle t).tdmPort j = s.tdmPort j :=
  fun j hj => (settle_tdmPort t j).trans ((h.2 j hj).trans (s.later_tdmPort dt j))

theorem later_edge (hl : n < s.tdm.length) (dt : Nat) : n < ((s.later dt).tdmEdge n).tdm.length
    ∧ ((s.later dt).tdmEdge n).tdmPort n = { s.tdmPort n with lastEdge := some (s.later dt).ntu.course }
    ∧ onlyTdm n (s.later dt) ((s.later dt).tdmEdge n) := by
  have hu : n < (s.later dt).tdm.length := by rwa [State.later_length]
  exact ⟨by rwa [State.tdmEdge_length], by rw [State.tdmEdge_port hu, State.later_tdmPort], onlyTdm_onTdm ..⟩

section
variable {dt : Nat} (hl : n < s.tdm.length) (hlive : (s.tdmPort n).live = true) (hend : (s.tdmPort n).ending = false)
  (hslave : (s.tdmCfg n).master = false) (hgrid : s.mck.grid = true) (hstop : (s.tdmPort n).stopAt = none)
include hlive hend hslave hgrid hstop

theorem later_heard : tdmFrame n clocks slots (s.later dt)
    = if (s.tdmPort n).state = 1 then tdmSeekFrame n (decide (clocks = (s.tdmCfg n).slots * (s.tdmCfg n).len))
        ((s.later dt).tdmSpaced n) ((s.later dt).tdmEdge n)
      else if (s.tdmPort n).state = 2 then
        if clocks = (s.tdmCfg n).slots * (s.tdmCfg n).len then tdmLockedFrame n slots ((s.later dt).tdmEdge n)
        else tdmBadFrame n ((s.later dt).tdmEdge n)
      else (s.later dt).tdmEdge n := by
  have h := tdmFrame_heard (s := s.later dt) (n := n) (clocks := clocks) (slots := slots) (by rwa [State.later_tdmPort])
    (by rwa [State.later_tdmPort]) (by rwa [State.later_tdmCfg]) (by rwa [State.later_grid]) (by rwa [State.later_tdmPort])
  rwa [State.later_tdmPort, State.later_tdmCfg] at h

include hl

theorem slave_seeks_bad (h1 : (s.tdmPort n).state = 1) (hbad : clocks ≠ (s.tdmCfg n).slots * (s.tdmCfg n).len) :
    ∃ t, exec (.tdmSlaveFrame dt n clocks slots) s = .next t ∧ (t.tdmPort n).state = 1 ∧ (t.tdmPort n).good = 0
      ∧ ∀ j, j ≠ n → t.tdmPort j = s.tdmPort j := by
  obtain ⟨he, hport, honly⟩ := later_edge hl dt
  obtain ⟨hframe, hstate, hgood⟩ := tdmSeekFrame_bad ((s.later dt).tdmSpaced n) he
  refine ⟨_, exec_tdmSlaveFrame dt, ?_⟩
  rw [later_heard hlive hend hslave hgrid hstop, if_pos h1, decide_eq_false hbad, settle_tdmPort]
  exact ⟨hstate.trans (by rw [hport]; exact h1), hgood, (honly.trans hframe).settled⟩

theorem slave_locks {e : Nat} (h1 : (s.tdmPort n).state = 1) (hgood : clocks = (s.tdmCfg n).slots * (s.tdmCfg n).len)
    (h3 : (s.tdmPort n).good = 3) (hedge : (s.tdmPort n).lastEdge = some e)
    (hs : ((((s.later dt).ntu.course : Int) - e) * s.coreRate - 1000000000).natAbs ≤ 10000000) :
    ∃ t, exec (.tdmSlaveFrame dt n clocks slots) s = .next t ∧ (t.tdmPort n).state = 2 ∧ (t.tdmPort n).bad = 0
      ∧ bitOf (t.reg (Reg.TDM_PORT_EVENT n)) 0 = true ∧ ∀ j, j ≠ n → t.tdmPort j = s.tdmPort j := by
  obtain ⟨he, hport, honly⟩ := later_edge hl dt
  have hspaced : (s.later dt).tdmSpaced n = true := by
    unfold State.tdmSpaced
    rw [State.later_tdmPort, hedge, State.later_coreRate]
    exact decide_eq_true hs
  obtain ⟨hframe, hstate, hbad, hbit⟩ := tdmSeekFrame_locks he (by rw [hport]; exact h3)
  refine ⟨_, exec_tdmSlaveFrame dt, ?_⟩
  rw [later_heard hlive hend hslave hgrid hstop, if_pos h1, decide_eq_true hgood, hspaced, settle_tdmPort]
  exact ⟨hstate, hbad, (settle_bit ..).trans hbit, (honly.trans hframe).settled⟩

theorem slave_assigns (h2 : (s.tdmPort n).state = 2) (hgood : clocks = (s.tdmCfg n).slots * (s.tdmCfg n).len)
    (hr : (s.tdmPort n).reassign = false) (hlo : -1000000000 ≤ 2 * (s.later dt).tdmDev n)
    (hhi : 2 * (s.later dt).tdmDev n ≤ 1000000000) :
    ∃ t, exec (.tdmSlaveFrame dt n clocks slots) s = .next t ∧ (t.tdmPort n).state = 2 ∧ (t.tdmPort n).bad = 0
      ∧ (t.tdmPort n).nextIx = (s.tdmPort n).nextIx + 1 ∧ ∀ j, j ≠ n → t.tdmPort j = s.tdmPort j := by
  obtain ⟨he, hport, honly⟩ := later_edge hl dt
  have hdev : ((s.later dt).tdmEdge n).tdmDev n = (s.later dt).tdmDev n := by
    unfold State.tdmDev
    rw [hport, State.later_tdmPort]
    rfl
  obtain ⟨hframe, hstate, hbad, hix⟩ := tdmLockedFrame_inPlace (slots := slots) he (by rw [hport]; exact hr)
    (by rwa [hdev]) (by rwa [hdev])
  refine ⟨_, exec_tdmSlaveFrame dt, ?_⟩
  rw [later_heard hlive hend hslave hgrid hstop, if_neg (by rw [h2]; decide), if_pos h2, if_pos hgood, settle_tdmPort]
  exact ⟨hstate.trans (by rw [hport]; exact h2), hbad, hix.trans (by rw [hport]), (honly.trans hframe).settled⟩

theorem slave_counts (h2 : (s.tdmPort n).state = 2) (hbad : clocks ≠ (s.tdmCfg n).slots * (s.tdmCfg n).len) :
    ∃ t, exec (.tdmSlaveFrame dt n clocks slots) s = .next t
      ∧ (t.tdmPort n).state = (if (s.tdmPort n).bad + 1 < 4 then 2 else 1) ∧ bitOf (t.reg (Reg.TDM_PORT_EVENT n)) 3 = true
      ∧ ((s.tdmPort n).bad + 1 < 4 → (t.tdmPort n).bad = (s.tdmPort n).bad + 1) ∧ ∀ j, j ≠ n → t.tdmPort j = s.tdmPort j := by
  obtain ⟨he, hport, honly⟩ := later_edge hl dt
  obtain ⟨hframe, hstate, hbit, hcount⟩ := tdmBadFrame_counts he (by rw [hport]; exact h2)
  rw [hport] at hstate hcount
  refine ⟨_, exec_tdmSlaveFrame dt, ?_⟩
  rw [later_heard hlive hend hslave hgrid hstop, if_neg (by rw [h2]; decide), if_pos h2, if_neg hbad, settle_tdmPort]
  exact ⟨hstate, (settle_bit ..).trans hbit, hcount, (honly.trans hframe).settled⟩
end

theorem exec_tdmFrameTimeout (hlive : (s.tdmPort n).live = true) (h2 : (s.tdmPort n).state = 2)
    (hslave : (s.tdmCfg n).master = false) (hstop : (s.tdmPort n).stopAt = none) :
    exec (.tdmFrameTimeout n) s = .next (settle ((fresh s).tdmSeek n)) := by
  show execTdmFrameTimeout n s = _
  unfold execTdmFrameTimeout
  simp [hlive, h2, hslave, hstop]

/-! ## The commands, as they come -/

section
variable {n : Nat} {g : Word × Word × Word × Word}

theorem replied_tdmPort {st : Status} {word : Nat} {body : List Word} {c : Bool} (j : Nat) :
    (replied op k st word body c s t).tdmPort j = t.tdmPort j := settle_tdmPort _ j

theorem inFlight_tdmPort {ph : CmdPhase} {fin : Fin} {body : List Word} {due : Nat} {c : Bool} (j : Nat) :
    (inFlight op k ph fin body due c s t).tdmPort j = t.tdmPort j := settle_tdmPort _ j

theorem State.tdmConfigured_tdmPort (s : State) (n : Nat) (g : Word × Word × Word × Word) (j : Nat) :
    (s.tdmConfigured n g).tdmPort j = s.tdmPort j := rfl

theorem State.tdmWant_wants (s : State) (en : Bool) (h : n < s.tdm.length) :
    ((s.tdmWant n en).tdmPort n).wants = (s.tdmPort n).wants ++ [(s.boundaryWait, en)] :=
  congrArg TdmPort.wants (State.tdmPort_onTdm_self _ h)

/-- `TDM_CONFIG` of a port that takes it: its registers, the ports, and the command's end or its wait. -/
theorem tdmConfig_taken (hl : n < s.tdm.length) (hb : begins 0x58 k s = true) (hn : tdmNamed k.params = n)
    (hg : tdmWords k.x k.params = g) (hrate : tdmRateBad s.rateCode (tdmCfgGiven g) = false)
    (hok : s.tdmEnabled n = false ∨ tdmDiffers k.x s n g = none) :
    ∃ t, exec (.tdmConfig k) s = .next t ∧ t.reg (Reg.TDM_CFG n) = g.1
      ∧ t.reg (Reg.TDM_RX_MASK n) = g.2.1 ∧ t.reg (Reg.TDM_TX_MASK n) = g.2.2.1 ∧ t.reg (Reg.TDM_X24 n) = g.2.2.2
      ∧ (∀ j, j ≠ n → t.tdmPort j = s.tdmPort j) ∧ t.drv = s.drv
      ∧ (bitOf g.1 0 = s.tdmWanted n → t.tdmPort n = s.tdmPort n ∧ ∃ r, t.cmd.held = s.cmd.held ++ [r] ∧ r.status = .ok)
      ∧ (bitOf g.1 0 ≠ s.tdmWanted n →
          (t.tdmPort n).wants = (s.tdmPort n).wants ++ [(s.boundaryWait, bitOf g.1 0)] ∧ ∃ f, t.cmd.flights = [f]
          ∧ f.fin = .tdm n ∧ f.phase = .committed ∧ f.due = s.boundaryWait) := by
  obtain ⟨body, c, hc⟩ := commitTdmConfig_writes (s := begun 0x58 k s) hn hg hrate hok
  have hhigh := (commitOp_begun_high hb (by decide) (by decide) (by decide)).trans hc
  obtain ⟨h1, h2, h3, h4⟩ := (fresh s).tdmConfigured_reg n g
  by_cases hen : bitOf g.1 0 = s.tdmWanted n
  · refine ⟨_, exec_commit_ok (t := (fresh s).tdmConfigured n g) rfl hb (by decide) (hhigh.trans (if_pos hen)), ?_⟩
    simp only [replied_reg, replied_tdmPort, replied_drv, replied_held]
    exact ⟨h1, h2, h3, h4, fun _ _ => rfl, rfl, fun _ => ⟨rfl, _, rfl, rfl⟩, fun hne => absurd hen hne⟩
  · refine ⟨_, exec_commit_later (fin := .tdm n) (t := ((fresh s).tdmConfigured n g).tdmWant n (bitOf g.1 0)) rfl hb (by decide)
      (fun h => nomatch h) (hhigh.trans (if_neg hen)), ?_⟩
    simp only [inFlight_reg, inFlight_tdmPort, inFlight_flights]
    exact ⟨h1, h2, h3, h4, fun j hj => State.tdmPort_onTdm_ne _ _ hj, settle_drv _, fun heq => absurd heq hen,
      fun _ => ⟨State.tdmWant_wants _ _ hl, _, rfl, rfl, rfl, rfl⟩⟩

/-- `TDM_RESTART` of a port that stays enabled: it is to stop at the end of its frame, and the command waits. -/
theorem tdmRestart_waits (hl : n < s.tdm.length) (hb : begins 0x59 k s = true) (hn : tdmNamed k.params = n)
    (hen : s.tdmEnabled n = true) (he : (s.tdmPort n).ending = false) (hw : ∀ e ∈ (s.tdmPort n).wants, e.2 = true) :
    ∃ t f, exec (.tdmRestart k) s = .next t ∧ (t.tdmPort n).state = (s.tdmPort n).state
      ∧ (t.tdmPort n).stopAt = some ((s.tdmPort n).stopAt.getD (s.tdmEndAt n))
      ∧ ((s.tdmPort n).stopAt = none → (t.tdmPort n).holdClk = (k.x && bitOf (k.params.getD 0 0) 4))
      ∧ (∀ j, j ≠ n → t.tdmPort j = s.tdmPort j)
      ∧ t.cmd.flights = [f] ∧ f.fin = .tdm n ∧ f.phase = .committed ∧ t.regs = s.regs := by
  subst hn
  have hc := commitTdmRestart_halts (s := begun 0x59 k s) (x := k.x) (p := k.params) hen he hw
  have hhigh := (commitOp_begun_high hb (by decide) (by decide) (by decide)).trans hc
  have hport := State.tdmPort_onTdm_self (s := fresh s) (tdmHalt (s.tdmEndAt (tdmNamed k.params))
    (decide ((s.strokeFrames : Int) ≤ s.tdmNextIx (tdmNamed k.params))) (k.x && bitOf (k.params.getD 0 0) 4)) hl
  obtain ⟨h1, h2, h3⟩ := tdmHalt_stopAt (s.tdmEndAt (tdmNamed k.params))
    (decide ((s.strokeFrames : Int) ≤ s.tdmNextIx (tdmNamed k.params))) (k.x && bitOf (k.params.getD 0 0) 4)
    (s.tdmPort (tdmNamed k.params))
  refine ⟨_, flightIn 0x59 k .committed (.tdm (tdmNamed k.params)) [] (dueOf s (.tdm (tdmNamed k.params))) s,
    exec_commit_later (fin := .tdm (tdmNamed k.params))
      (t := (fresh s).tdmHaltAt (tdmNamed k.params) (k.x && bitOf (k.params.getD 0 0) 4)) rfl hb (by decide)
      (fun h => nomatch h) hhigh, ?_⟩
  simp only [inFlight_tdmPort]
  exact ⟨(congrArg TdmPort.state hport).trans h1, (congrArg TdmPort.stopAt hport).trans h2,
    fun hnone => (congrArg TdmPort.holdClk hport).trans (h3 hnone), fun j hj => State.tdmPort_onTdm_ne _ _ hj,
    inFlight_flights, rfl, rfl, settle_regs _⟩
end

/-- The TDM commands' part of the statement. -/
theorem tdmCommands (k : Pkt) (s : State) :
    let n := tdmNamed k.params
    let g := tdmWords k.x k.params
    (begins 0x58 k s = true →
      (tdmRateBad s.rateCode (tdmCfgGiven g) = true →
        exec (.tdmConfig k) s = .next (replied 0x58 k .badParam 1 [] false s (fresh s)))
      ∧ (tdmRateBad s.rateCode (tdmCfgGiven g) = false → ∀ w, s.tdmEnabled n = true → tdmDiffers k.x s n g = some w →
          exec (.tdmConfig k) s = .next (replied 0x58 k .staleWrite w [] false s (fresh s))))
    ∧ (begins 0x59 k s = true →
      (s.tdmEnabled n = false → exec (.tdmRestart k) s = .next (replied 0x59 k .badParam 1 [] false s (fresh s)))
      ∧ (s.tdmEnabled n = true → ((s.tdmPort n).ending = true ∨ (∃ e ∈ (s.tdmPort n).wants, e.2 = false)) →
          exec (.tdmRestart k) s = .next (replied 0x59 k .aborted 0 [] false s ((fresh s).flag Reg.CMD_EVENT 3)))) := by
  intro n g
  refine ⟨fun hb => ⟨fun hrate => ?_, fun hrate w hen hd => ?_⟩, fun hb => ⟨fun hen => ?_, fun hen he => ?_⟩⟩
  · have hc : commitTdmConfig k.x k.params (begun 0x58 k s) = (begun 0x58 k s, .fail .badParam 1) :=
      (commitTdmConfig_eq (n := n) (g := g) rfl rfl).trans (if_pos hrate)
    exact exec_commit_fail (t := fresh s) rfl hb (by decide) (by decide) (by decide)
      ((commitOp_begun_high hb (by decide) (by decide) (by decide)).trans hc)
  · have hc : commitTdmConfig k.x k.params (begun 0x58 k s) = (begun 0x58 k s, .fail .staleWrite w) := by
      have hdiff : tdmDiffers k.x (begun 0x58 k s) n g = some w := hd
      have hgood : tdmRateBad (begun 0x58 k s).rateCode (tdmCfgGiven g) = false := hrate
      have hon : (begun 0x58 k s).tdmEnabled n = true := hen
      rw [commitTdmConfig_eq (n := n) (g := g) rfl rfl, hgood, hon, hdiff]
      rfl
    exact exec_commit_fail (t := fresh s) rfl hb (by decide) (by decide) (by decide)
      ((commitOp_begun_high hb (by decide) (by decide) (by decide)).trans hc)
  · exact exec_commit_fail (t := fresh s) rfl hb (by decide) (by decide) (by decide)
      ((commitOp_begun_high hb (by decide) (by decide) (by decide)).trans
        (commitTdmRestart_disabled (s := begun 0x59 k s) (x := k.x) hen))
  · exact exec_commit_aborted rfl hb (by decide) ((commitOp_begun_high hb (by decide) (by decide) (by decide)).trans
      (commitTdmRestart_leaving (s := begun 0x59 k s) (x := k.x) hen he))

/-- The Rate Aligner's part of the statement: its commands. -/
theorem ralCommands (k : Pkt) (s : State) :
    let n := fieldOf (k.params.getD 0 0) 8 0
    let v := (begun 0x60 k s).ralConfigured n (ralCtrlGiven k.x k.params)
    (begins 0x60 k s = true →
      (tget s.srx.streams n = none → exec (.ralConfig k) s = .next (replied 0x60 k .badParam 1 [] false s (fresh s)))
      ∧ (∀ r, tget s.srx.streams n = some r →
        (r.enabled = true → fieldOf (s.ralOf n).ctrl 1 0 ≠ fieldOf (k.params.getD 0 0) 10 9 →
          exec (.ralConfig k) s = .next (replied 0x60 k .staleWrite 1 [] false s (fresh s)))
        ∧ (r.enabled = false ∨ fieldOf (s.ralOf n).ctrl 1 0 = fieldOf (k.params.getD 0 0) 10 9 → exec (.ralConfig k) s
            = .next (replied 0x60 k .ok 0 [v.ralStatusWord n] (decide (ralCtrlGiven k.x k.params ≠ (s.ralOf n).ctrl)) s v))))
    ∧ (begins 0x61 k s = true →
        exec (.ralQuery k) s = .next (replied 0x61 k .ok 0 (ralBody (begun 0x61 k s) k.x n) false s (fresh s))) := by
  intro n v
  refine ⟨fun hb => ?_, fun hb => exec_commit_ok (t := fresh s) rfl hb (by decide)
    (commitOp_begun_high hb (by decide) (by decide) (by decide))⟩
  have hhigh : commitOp s.cmd.nextOrd 0x60 k.tag k.x k.params (begun 0x60 k s)
      = commitRalConfig k.x k.params (begun 0x60 k s) := commitOp_begun_high hb (by decide) (by decide) (by decide)
  refine ⟨fun hnone => ?_, fun r hr => ?_⟩
  · exact exec_commit_fail (t := fresh s) rfl hb (by decide) (by decide) (by decide)
      (hhigh.trans (commitRalConfig_undefined (s := begun 0x60 k s) hnone))
  · have hdef := hhigh.trans (commitRalConfig_defined (s := begun 0x60 k s) (x := k.x) hr)
    refine ⟨fun hen hq => ?_, fun hok => ?_⟩
    · exact exec_commit_fail (t := fresh s) rfl hb (by decide) (by decide) (by decide)
        (hdef.trans (if_pos (by rw [hen]; exact decide_eq_true hq)))
    · refine exec_commit_ok_kept rfl hb (by decide) (hdef.trans (if_neg fun hno => ?_)) rfl
      obtain ⟨hen, hq⟩ := Bool.and_eq_true_iff.mp hno
      obtain hoff | heq := hok
      · exact Bool.false_ne_true (hoff.symm.trans hen)
      · exact of_decide_eq_true hq heq

end Sys2Proof.Machine
end

section
/-! The statement of TDM ports and the Rate Aligner. -/
open Sys2Proof Sys2Proof.Machine

/-- Settles O51: the TDM commands, a slave port frame by frame, and the Rate Aligner's commands and events. -/
theorem tdmAndRateAlignerComplete : Obligations.TdmAndRateAlignerComplete := by
  unfold Obligations.TdmAndRateAlignerComplete
  refine ⟨fun k s hl => ?_, fun dt n clocks slots s hn hl => ?_, fun k s => ?_⟩
  · have hnamed : tdmNamed k.params < s.tdm.length := hl ▸ tdmNamed_lt _
    obtain ⟨hconfig, hrestart⟩ := tdmCommands k s
    exact ⟨fun hb => ⟨(hconfig hb).1, fun hrate => ⟨(hconfig hb).2 hrate, tdmConfig_taken hnamed hb rfl rfl hrate⟩⟩,
      fun hb => ⟨(hrestart hb).1, fun hen => ⟨(hrestart hb).2 hen, tdmRestart_waits hnamed hb rfl hen⟩⟩⟩
  · have hport : n < s.tdm.length := hl ▸ hn
    intro u p c
    refine ⟨fun he hm => ?_, fun h1 h2 => ?_, fun e hlive hend hslave hgrid hstop => ?_, fun hlive hend hslave hgrid hstop =>
      ⟨slave_seeks_bad hport hlive hend hslave hgrid hstop, fun e h1 hgood h3 hedge hs =>
          slave_locks hport hlive hend hslave hgrid hstop h1 hgood h3 hedge hs, ?_,
        slave_counts hport hlive hend hslave hgrid hstop⟩, fun hlive h2 hslave hstop => ?_⟩
    · rw [exec_tdmSlaveFrame, tdmFrame_drops (by rw [State.later_tdmPort]; exact he) (by rw [State.later_tdmCfg]; exact hm)]
      rfl
    · rw [exec_tdmSlaveFrame, tdmFrame_unheard (by rw [State.later_tdmPort, State.later_tdmCfg]; exact h1)
        (by rw [State.later_tdmPort, State.later_tdmCfg, State.later_grid]; exact h2)]
      rfl
    · rw [exec_tdmSlaveFrame, tdmFrame_stopping (by rw [State.later_tdmPort]; exact hlive)
        (by rw [State.later_tdmPort]; exact hend) (by rw [State.later_tdmCfg]; exact hslave)
        (by rw [State.later_grid]; exact hgrid) (by rw [State.later_tdmPort]; exact hstop)]
      rfl
    · intro dev h2 hgood hr hlo hhi
      have hdev : (s.later dt).tdmDev n = dev := by
        unfold State.tdmDev
        rw [State.later_tdmPort]
        rfl
      exact slave_assigns hport hlive hend hslave hgrid hstop h2 hgood hr (hdev ▸ hlo) (hdev ▸ hhi)
    · exact ⟨exec_tdmFrameTimeout hlive h2 hslave hstop, State.tdmSeek_port hport⟩
  · obtain ⟨hconfig, hquery⟩ := ralCommands k s
    refine ⟨hconfig, hquery, fun i hi => ?_, fun i hi => ?_⟩
    · exact congrArg (fun t => Host.Outcome.next (settle t)) (if_pos hi)
    · exact congrArg (fun t => Host.Outcome.next (settle t)) (if_pos hi)
end

section
/-! SUPPORT. The Obien unit: frames put on a port's line, what a port's change of state leaves alone, and the events of the
link. -/
namespace Sys2Proof.Machine

variable {s t : State} {q : Nat}

/-! ## The ports -/

theorem State.oblPort_onObl_self (f : OblPort → OblPort) (h : q < s.obl.ports.length) :
    (s.onObl q f).oblPort q = f (s.oblPort q) := getD_listMod_self _ _ _ _ h

theorem State.oblPort_onObl_ne (s : State) (f : OblPort → OblPort) {j : Nat} (h : j ≠ q) :
    (s.onObl q f).oblPort j = s.oblPort j := getD_listMod_ne _ _ _ h

theorem State.onObl_length (s : State) (q : Nat) (f : OblPort → OblPort) :
    (s.onObl q f).obl.ports.length = s.obl.ports.length := length_listMod ..

theorem settle_oblPort (s : State) (j : Nat) : (settle s).oblPort j = s.oblPort j := by
  unfold State.oblPort
  rw [settle_obl]

theorem State.trackRefs_oblPort (s : State) (j : Nat) : s.trackRefs.oblPort j = s.oblPort j := by
  unfold State.oblPort
  rw [State.trackRefs_obl]

/-- The other port, and the number of ports, are as they were. -/
def otherObl (q : Nat) (s t : State) : Prop :=
  t.obl.ports.length = s.obl.ports.length ∧ t.oblPort (1 - q) = s.oblPort (1 - q)

theorem otherObl.trans {u : State} (h : otherObl q s t) (h' : otherObl q t u) : otherObl q s u :=
  ⟨h'.1.trans h.1, h'.2.trans h.2⟩

theorem otherObl_of_ports (q : Nat) (h : t.obl.ports = s.obl.ports) : otherObl q s t :=
  ⟨congrArg List.length h, congrArg (fun l : List OblPort => l.getD (1 - q) {}) h⟩

theorem otherObl_onObl (hq : q < 2) (s : State) (f : OblPort → OblPort) : otherObl q s (s.onObl q f) :=
  ⟨s.onObl_length q f, s.oblPort_onObl_ne f (by omega)⟩

theorem otherObl_trackRefs (q : Nat) (s : State) : otherObl q s s.trackRefs :=
  otherObl_of_ports q (congrArg Obl.ports s.trackRefs_obl)

/-! ## The registers that the link leaves alone -/

/-- The registers but the events of the link and of the references are as they were. -/
def linkRegs (s t : State) : Prop := ∀ a, a ≠ Reg.OBL_EVENT → a ≠ Reg.MCK_REF_EVENT → t.reg a = s.reg a

theorem linkRegs.refl (s : State) : linkRegs s s := fun _ _ _ => rfl

theorem linkRegs.trans {u : State} (h : linkRegs s t) (h' : linkRegs t u) : linkRegs s u :=
  fun a h1 h2 => (h' a h1 h2).trans (h a h1 h2)

theorem linkRegs_of_regs (h : t.regs = s.regs) : linkRegs s t := fun a _ _ => by
  unfold State.reg
  rw [h]

theorem linkRegs_flag (s : State) (i : Nat) : linkRegs s (s.flag Reg.OBL_EVENT i) := fun a h1 _ => by
  rw [State.reg_flag, if_neg h1]

theorem linkRegs_trackRefs (s : State) : linkRegs s s.trackRefs := fun _ _ h2 => s.trackRefs_reg h2

/-! ## A frame on the line (R606, R663) -/

/-- The ports once 64 bytes have been put on the line of port `q`: with a near-end loopback its receiver has them too. -/
def State.portsPut (s : State) (q : Nat) (bs : List Byte) : List OblPort :=
  if s.nearLoop (2 + q) then listMod s.obl.ports q fun p => { p with loop := p.loop ++ [bs] } else s.obl.ports

theorem State.oblPut_eq (s : State) (q : Nat) (bs : List Byte) : s.oblPut q bs
    = { s with obl := { s.obl with sent := s.obl.sent ++ [(q, bs)], ports := s.portsPut q bs } } := by
  by_cases h : s.nearLoop (2 + q) = true
  · rw [show s.portsPut q bs = _ from if_pos h]
    exact if_pos h
  · rw [show s.portsPut q bs = _ from if_neg h]
    exact if_neg h

theorem State.oblPut_sent (s : State) (q : Nat) (bs : List Byte) : (s.oblPut q bs).obl.sent = s.obl.sent ++ [(q, bs)] := by
  rw [State.oblPut_eq]

/-- A frame put on a line shows in the loop of its port alone. -/
theorem State.oblPut_port (s : State) (q : Nat) (bs : List Byte) (j : Nat) :
    ∃ l, (s.oblPut q bs).oblPort j = { s.oblPort j with loop := l } := by
  have hport : (s.oblPut q bs).oblPort j = (s.portsPut q bs).getD j {} := by
    rw [State.oblPut_eq]
    rfl
  rw [hport]
  unfold State.portsPut
  split
  · by_cases hj : j = q
    · subst hj
      by_cases hl : j < s.obl.ports.length
      · exact ⟨_, getD_listMod_self _ _ _ _ hl⟩
      · refine ⟨(s.oblPort j).loop, ?_⟩
        simp [State.oblPort, List.getD, Nat.not_lt.mp hl]
    · exact ⟨_, getD_listMod_ne _ _ _ hj⟩
  · exact ⟨_, rfl⟩

theorem otherObl_oblPut (hq : q < 2) (s : State) (bs : List Byte) : otherObl q s (s.oblPut q bs) := by
  unfold State.oblPut
  dsimp only
  split
  · exact (otherObl_of_ports q rfl).trans (otherObl_onObl hq _ _)
  · exact otherObl_of_ports q rfl

/-- Every frame that is sent is put on the line. -/
theorem State.oblSend_put (s : State) (q typ flags index stroke : Nat) (payload : List Byte) :
    ∃ b, s.oblSend q typ flags index stroke payload = s.oblPut q b := ⟨_, rfl⟩

theorem State.sendLink_put (s : State) (q c : Nat) (leaving : Bool) : ∃ b, s.sendLink q c leaving = s.oblPut q b := ⟨_, rfl⟩

/-! ## A port leaves its state (R605, R626) -/

theorem oblBreak_ports (q : Nat) (s : State) :
    (oblBreak q s).obl.ports = (s.onObl q fun p => { p with reach := 0, heard := 0 }).obl.ports := by
  unfold oblBreak
  dsimp only
  split_ifs <;> rfl

theorem linkRegs_oblBreak (q : Nat) (s : State) : linkRegs s (oblBreak q s) := by
  unfold oblBreak
  extract_lets lost s1 _ cox seat
  have hcox : linkRegs s cox := linkRegs_of_regs (by unfold cox; split <;> rfl)
  have hseat : linkRegs s seat := linkRegs_of_regs rfl
  split
  · split
    · exact hcox
    · exact hcox.trans (linkRegs_flag cox 4)
  · split
    · split
      · exact hseat
      · exact hseat.trans (linkRegs_flag seat 9)
    · exact linkRegs_of_regs rfl

/-- A port that leaves its state: nothing of it is under way any more. -/
def OblPort.leaves (st cause : Nat) (p : OblPort) : OblPort :=
  { p with state := st, cause := cause, agree := 0, delays := [], asked := none, crcRun := 0 }

theorem State.oblLeave_eq (s : State) (q st cause : Nat) : s.oblLeave q st cause
    = if s.oblRun q then (oblBreak q (s.onObl q (OblPort.leaves st cause))).trackRefs
      else s.onObl q (OblPort.leaves st cause) := rfl

theorem linkRegs_oblLeave (s : State) (q st cause : Nat) : linkRegs s (s.oblLeave q st cause) := by
  rw [State.oblLeave_eq]
  split
  · exact ((linkRegs_of_regs (t := s.onObl q (OblPort.leaves st cause)) rfl).trans (linkRegs_oblBreak q _)).trans
      (linkRegs_trackRefs _)
  · exact linkRegs_of_regs rfl

theorem otherObl_oblLeave (hq : q < 2) (s : State) (st cause : Nat) : otherObl q s (s.oblLeave q st cause) := by
  rw [State.oblLeave_eq]
  have hleft : otherObl q s (s.onObl q (OblPort.leaves st cause)) := otherObl_onObl hq _ _
  split
  · refine (hleft.trans ?_).trans (otherObl_trackRefs q _)
    exact (otherObl_onObl hq _ _).trans (otherObl_of_ports q (oblBreak_ports q _))
  · exact hleft

/-- The port as it has left: its state, and what it reached where it left RUN. -/
theorem State.oblLeave_port (h : q < s.obl.ports.length) (st cause : Nat) :
    ((s.oblLeave q st cause).oblPort q).state = st
      ∧ (s.oblRun q = true → ((s.oblLeave q st cause).oblPort q).reach = 0) := by
  have hleft := State.oblPort_onObl_self (s := s) (OblPort.leaves st cause) h
  rw [State.oblLeave_eq]
  split
  next hrun =>
    have hbreak : ∀ t : State, (oblBreak q t).oblPort q = (t.onObl q fun p => { p with reach := 0, heard := 0 }).oblPort q :=
      fun t => congrArg (fun l : List OblPort => l.getD q {}) (oblBreak_ports q t)
    rw [State.trackRefs_oblPort, hbreak, State.oblPort_onObl_self _ (by rwa [State.onObl_length]), hleft]
    exact ⟨rfl, fun _ => rfl⟩
  next hrun =>
    rw [hleft]
    exact ⟨rfl, fun hyes => absurd hyes hrun⟩

/-! ## A loss (R605, R626) -/

/-- A port that is not OFF and loses its link trains again, and the loss is counted. -/
theorem oblLoss_trains (hq : q < 2) (h : q < s.obl.ports.length) (hs : (s.oblPort q).state ≠ 0) (leaving : Bool) :
    ((oblLoss q leaving s).oblPort q).state = 1 ∧ otherObl q s (oblLoss q leaving s)
      ∧ (oblLoss q leaving s).reg (Reg.OBL_DOWN_COUNT q)
        = w32 (satNat 0xFFFFFFFF ((s.reg (Reg.OBL_DOWN_COUNT q)).toNat + 1))
      ∧ ((s.oblPort q).state = 4 → ((oblLoss q leaving s).oblPort q).peerLeaving = leaving
          ∧ ((oblLoss q leaving s).oblPort q).reach = 0 ∧ (oblLoss q leaving s).bit Reg.OBL_EVENT 1 = true) := by
  obtain ⟨hstate, hreach⟩ := State.oblLeave_port h 1 0
  have hother := otherObl_oblLeave hq s 1 0
  have hl : q < (s.oblLeave q 1 0).obl.ports.length := by rwa [hother.1]
  have hne1 : Reg.OBL_DOWN_COUNT q ≠ Reg.OBL_EVENT := by unfold Reg.OBL_DOWN_COUNT Reg.OBL_EVENT; omega
  have hne2 : Reg.OBL_DOWN_COUNT q ≠ Reg.MCK_REF_EVENT := by unfold Reg.OBL_DOWN_COUNT Reg.MCK_REF_EVENT; omega
  have hcount : ((s.oblLeave q 1 0).bump (Reg.OBL_DOWN_COUNT q)).reg (Reg.OBL_DOWN_COUNT q)
      = w32 (satNat 0xFFFFFFFF ((s.reg (Reg.OBL_DOWN_COUNT q)).toNat + 1)) := by
    rw [State.bump, State.reg_setReg_self, linkRegs_oblLeave s q 1 0 _ hne1 hne2]
  have hbump : otherObl q s ((s.oblLeave q 1 0).bump (Reg.OBL_DOWN_COUNT q)) := hother.trans (otherObl_of_ports q rfl)
  unfold oblLoss
  extract_lets p s1 s2
  rw [if_neg hs]
  by_cases h4 : (s.oblPort q).state = 4
  · have hs2 : s2 = (s1.flag Reg.OBL_EVENT 1).onObl q fun p => { p with peerLeaving := leaving } := if_pos h4
    have hport : s2.oblPort q = { s1.oblPort q with peerLeaving := leaving } := by
      rw [hs2]
      exact State.oblPort_onObl_self (s := s1.flag Reg.OBL_EVENT 1) _ hl
    rw [hport]
    refine ⟨hstate, ?_, ?_, fun _ => ⟨rfl, hreach (decide_eq_true h4), ?_⟩⟩
    · rw [hs2]
      exact hbump.trans ((otherObl_of_ports q rfl).trans (otherObl_onObl hq _ _))
    · rw [hs2]
      exact (linkRegs_flag s1 1 _ hne1 hne2).trans hcount
    · rw [hs2]
      exact State.bit_flag_self s1 _ _ (by decide)
  · have hs2 : s2 = if leaving then s1.onObl q fun p => { p with peerLeaving := true } else s1 := if_neg h4
    rw [hs2]
    split
    · exact ⟨(congrArg OblPort.state (State.oblPort_onObl_self (s := s1) _ hl)).trans hstate,
        hbump.trans (otherObl_onObl hq _ _), hcount, fun hyes => absurd hyes h4⟩
    · exact ⟨hstate, hbump, hcount, fun hyes => absurd hyes h4⟩

/-! ## Training, DELAY requests (R605, R610) -/

theorem exec_oblTrainComplete (h1 : (s.oblPort q).state = 1) : exec (.oblTrainComplete q) s
    = .next (settle (((fresh s).onObl q fun p => { p with state := 2, agree := 0, peer := {}, crcRun := 0 }).sendLink q 0)) :=
  congrArg (fun t => Host.Outcome.next (settle t)) (if_pos h1)

/-- Training ends in LINK, with a frame sent. -/
theorem oblTrained (hq : q < 2) (h : q < s.obl.ports.length) (h1 : (s.oblPort q).state = 1) :
    ∃ t b, exec (.oblTrainComplete q) s = .next t ∧ (t.oblPort q).state = 2 ∧ (t.oblPort q).agree = 0
      ∧ t.obl.sent = [(q, b)] ∧ t.oblPort (1 - q) = s.oblPort (1 - q) := by
  let u := (fresh s).onObl q fun p => { p with state := 2, agree := 0, peer := {}, crcRun := 0 }
  obtain ⟨b, hb⟩ := u.sendLink_put q 0 false
  obtain ⟨l, hl⟩ := u.oblPut_port q b q
  have hu : u.oblPort q = { s.oblPort q with state := 2, agree := 0, peer := {}, crcRun := 0 } :=
    State.oblPort_onObl_self (s := fresh s) _ h
  refine ⟨_, b, exec_oblTrainComplete h1, ?_⟩
  rw [settle_oblPort, settle_oblPort, settle_obl, hb, hl, hu, State.oblPut_sent]
  exact ⟨rfl, rfl, rfl, (otherObl_oblPut hq u b).2.trans (otherObl_onObl hq (fresh s) _).2⟩

theorem exec_oblBlockedClear (h5 : (s.oblPort q).state = 5) (hc : (s.oblPort q).cause ≠ 3)
    (hl : s.linkConflict q (s.oblPort q).peer = false) (hp : s.posCause q (s.oblPort q).peer ≠ 2) :
    exec (.oblBlockedClear q) s
      = .next (settle ((fresh s).onObl q fun p => { p with state := 3, cause := 0, delays := [] })) :=
  congrArg (fun t => Host.Outcome.next (settle t)) (if_pos (by simp [h5, hc, hl, hp]))

theorem exec_oblDelayTimer_silent (h3 : (s.oblPort q).state ≠ 3) (h4 : (s.oblPort q).state ≠ 4) :
    exec (.oblDelayTimer q) s = .next (settle (fresh s)) :=
  congrArg (fun t => Host.Outcome.next (settle t)) (if_pos (by
    show (decide ((s.oblPort q).state ≠ 3) && decide ((s.oblPort q).state ≠ 4)) = true
    simp [h3, h4]))

theorem oblAsk_asks (h34 : (s.oblPort q).state = 3 ∨ (s.oblPort q).state = 4) : oblAsk q s
    = (s.oblSend q 3 0 (s.oblPort q).nextId 0 []).onObl q fun p => { p with
        asked := some (p.nextId, s.oblTx q), nextId := (p.nextId + 1) % 65536 } := by
  unfold oblAsk
  obtain h | h := h34 <;> simp [h]

/-- In TIME and RUN a DELAY request leaves, and its exchange is noted. -/
theorem oblAsked (h : q < s.obl.ports.length) (h34 : (s.oblPort q).state = 3 ∨ (s.oblPort q).state = 4) :
    ∃ t b, exec (.oblDelayTimer q) s = .next t ∧ t.obl.sent = [(q, b)]
      ∧ (t.oblPort q).asked = some ((s.oblPort q).nextId, s.oblTx q)
      ∧ (t.oblPort q).nextId = ((s.oblPort q).nextId + 1) % 65536 := by
  obtain ⟨b, hb⟩ := (fresh s).oblSend_put q 3 0 (s.oblPort q).nextId 0 []
  have hask : oblAsk q (fresh s) = ((fresh s).oblPut q b).onObl q fun p =>
      { p with asked := some (p.nextId, s.oblTx q), nextId := (p.nextId + 1) % 65536 } := by
    rw [← hb]
    exact oblAsk_asks h34
  have hl : q < ((fresh s).oblPut q b).obl.ports.length := by
    rw [State.oblPut_eq]
    unfold State.portsPut
    dsimp only
    split
    · rwa [length_listMod]
    · exact h
  obtain ⟨l, hport⟩ := (fresh s).oblPut_port q b q
  refine ⟨_, b, congrArg (fun t => Host.Outcome.next (settle t)) hask, ?_⟩
  rw [settle_oblPort, settle_obl, State.oblPort_onObl_self _ hl, hport]
  exact ⟨(fresh s).oblPut_sent q b, rfl, rfl⟩

/-! ## Replies that were held (R604, R623) -/

/-- What decides whether an inner reply leaves at once, with the Command Processor: the states of the ports, the Cox side, and
a conflict. -/
def State.replyPath (s : State) : (Nat × Nat) × Bool × Bool × List (Nat × List Word) × Cmd :=
  (((s.oblPort 0).state, (s.oblPort 1).state), s.obl.coxDn, s.obl.conflict, s.obl.heldReplies, s.cmd)

theorem State.oblPut_replyPath (s : State) (q : Nat) (bs : List Byte) : (s.oblPut q bs).replyPath = s.replyPath := by
  obtain ⟨_, h0⟩ := s.oblPut_port q bs 0
  obtain ⟨_, h1⟩ := s.oblPut_port q bs 1
  unfold State.replyPath
  rw [h0, h1, State.oblPut_eq]

theorem State.oblTunnel_replyPath (s : State) (q seat token : Nat) (reply : Bool) (ws : List Word) :
    (s.oblTunnel q seat token reply ws).replyPath = s.replyPath :=
  foldl_keeps State.replyPath _ (fun _ _ => State.oblPut_replyPath ..) _ s

/-- The Cox side is in RUN, and there is no conflict. -/
def State.repliesLeave (s : State) : Prop := s.oblRun s.coxSide = true ∧ s.obl.conflict = false

theorem oblRun_coxSide_of_replyPath (h : t.replyPath = s.replyPath) : t.oblRun t.coxSide = s.oblRun s.coxSide := by
  simp only [State.replyPath, Prod.mk.injEq] at h
  obtain ⟨⟨h0, h1⟩, hdn, -⟩ := h
  unfold State.oblRun State.coxSide
  rw [hdn]
  split
  · rw [h1]
  · rw [h0]

theorem repliesLeave_of_replyPath (h : t.replyPath = s.replyPath) (hs : s.repliesLeave) : t.repliesLeave :=
  ⟨(oblRun_coxSide_of_replyPath h).trans hs.1, (congrArg (fun r => r.2.2.1) h).trans hs.2⟩

theorem oblReply_leaves (token : Nat) (ws : List Word) (h : s.repliesLeave) : (oblReply token ws s).replyPath = s.replyPath := by
  obtain ⟨hrun, hno⟩ := h
  unfold oblReply
  rw [hrun, hno]
  exact State.oblTunnel_replyPath ..

/-- Where replies leave, those that were held do, and the Command Processor is as it was. -/
theorem oblFlushReplies_leave (h : s.repliesLeave) :
    (oblFlushReplies s).obl.conflict = false ∧ (oblFlushReplies s).obl.heldReplies = [] ∧ (oblFlushReplies s).cmd = s.cmd := by
  have hall : ∀ (l : List (Nat × List Word)) (u : State), u.repliesLeave →
      (l.foldl (fun s e => oblReply e.1 e.2 s) u).replyPath = u.replyPath := fun l => by
    induction l with
    | nil => exact fun _ _ => rfl
    | cons e l ih => exact fun u hu =>
        (ih _ (repliesLeave_of_replyPath (oblReply_leaves e.1 e.2 hu) hu)).trans (oblReply_leaves e.1 e.2 hu)
  have hflush := hall s.obl.heldReplies { s with obl := { s.obl with heldReplies := [] } } h
  simp only [State.replyPath, Prod.mk.injEq] at hflush
  obtain ⟨-, -, hconflict, hheld, hcmd⟩ := hflush
  exact ⟨hconflict.trans h.2, hheld, hcmd⟩

/-! ## The Cox side of a ring (R627) -/

/-- A Seat that takes port `q` for its Cox side. -/
def State.coxSideTo (s : State) (q : Nat) : State :=
  ({ s with obl := { s.obl with
    coxDn := !s.obl.coxDn, frozen := true, cut := false, coxId := (s.oblPort q).peer.cox } }.flag Reg.OBL_EVENT 6).trackRefs

theorem coxSideSwitch_toDn (hr : s.role = 2) (hdn : s.obl.coxDn = false) (hring : s.obl.ring = true)
    (hup : s.obl.cut = true ∨ (s.oblPort 0).state ≠ 4) (h1 : (s.oblPort 1).state = 4) : coxSideSwitch s = s.coxSideTo 1 := by
  unfold coxSideSwitch State.coxSideTo
  obtain hcut | h0 := hup
  · simp [hr, hdn, hring, hcut, State.oblRun, h1]
  · simp [hr, hdn, hring, h0, State.oblRun, h1]

theorem coxSideSwitch_toUp (hr : s.role = 2) (hdn : s.obl.coxDn = true) (h0 : (s.oblPort 0).state = 4)
    (hup : (s.oblPort 0).peerUp = false) (hcox : (s.oblPort 0).peer.cox ≠ 0) : coxSideSwitch s = s.coxSideTo 0 := by
  unfold coxSideSwitch State.coxSideTo
  simp [hr, hdn, State.oblRun, h0, hup, hcox]

theorem State.coxSideTo_obl (s : State) (q : Nat) : (s.coxSideTo q).obl
    = { s.obl with coxDn := !s.obl.coxDn, frozen := true, cut := false, coxId := (s.oblPort q).peer.cox } :=
  State.trackRefs_obl _

theorem State.coxSideTo_event (s : State) (q : Nat) : (s.coxSideTo q).bit Reg.OBL_EVENT 6 = true :=
  (sameButLinks_trackRefs _).2 _ _ (State.bit_flag_self _ _ _ (by decide))

end Sys2Proof.Machine
end

section
/-! SUPPORT. `CASCADE_CONFIG` and `CASCADE_STATUS` at their commit points. -/
namespace Sys2Proof.Machine

variable {s t : State} {k : Pkt} {q : Nat}

/-! ## A command that awaits something, where its effect is known with its Command Processor -/

theorem exec_commit_later_kept {op : Nat} {i : Instr} {fin : Fin} {body : List Word} {g : Bool} (hrow : dadinRow op k = some i)
    (hb : begins op k s = true) (h5 : 5 < op) (hf : fin ≠ .patchSwap)
    (hc : commitOp s.cmd.nextOrd op k.tag k.x k.params (begun op k s) = (t, .later fin body g)) (ht : t.cmd = (begun op k s).cmd) :
    exec i s = .next (inFlight op k .committed fin body (dueOf s fin) g s t) :=
  (exec_dadin hrow).trans (congrArg Host.Outcome.next (commit_later hb h5 hc ht hf))

/-! ## Where the commands go (R224, R632, R634) -/

theorem commitOp_cascadeConfig (hb : begins 0x68 k s = true) (h : cascadeNotCox k.params s = false) :
    commitOp s.cmd.nextOrd 0x68 k.tag k.x k.params (begun 0x68 k s)
      = commitCascadeConfig k.tag k.x k.params (begun 0x68 k s) :=
  commitOp_high (show modeRefuses 0x68 (begun 0x68 k s).mode = false from begins_mode (s := s) hb) (by decide)
    (fun _ => h) (fun h => absurd h (by decide))

/-- A form that a Cox alone carries out, elsewhere. -/
theorem exec_cascadeConfig_notCox (hb : begins 0x68 k s = true) (h : cascadeNotCox k.params s = true) :
    exec (.cascadeConfig k) s = .next (replied 0x68 k .notCox 0 [] false s (fresh s)) := by
  refine exec_commit_fail (t := fresh s) rfl hb (by decide) (by decide) (by decide) ?_
  have hmode : modeRefuses 0x68 (begun 0x68 k s).mode = false := begins_mode (s := s) hb
  have hcox : cascadeNotCox k.params (begun 0x68 k s) = true := h
  unfold commitOp
  rw [hmode, hcox]
  rfl

theorem cascadeNotCox_eq_false (h : s.role = 1 ∨ (cascadeForm k.params ≠ 1 ∧ cascadeForm k.params ≠ 2)) :
    cascadeNotCox k.params s = false := by
  unfold cascadeNotCox
  obtain h | ⟨h1, h2⟩ := h
  · simp [h]
  · simp [h1, h2]

section
variable (hb : begins 0x68 k s = true)
include hb

theorem commitOp_setup (hf : cascadeForm k.params = 0) :
    commitOp s.cmd.nextOrd 0x68 k.tag k.x k.params (begun 0x68 k s) = commitSetup k.x k.params (begun 0x68 k s) := by
  rw [commitOp_cascadeConfig hb (cascadeNotCox_eq_false (.inr (by omega)))]
  unfold commitCascadeConfig
  rw [hf]
  rfl

theorem commitOp_tunnel (hf : cascadeForm k.params = 1) (hr : s.role = 1) :
    commitOp s.cmd.nextOrd 0x68 k.tag k.x k.params (begun 0x68 k s) = commitTunnel k.tag k.params (begun 0x68 k s) := by
  rw [commitOp_cascadeConfig hb (cascadeNotCox_eq_false (.inl hr))]
  unfold commitCascadeConfig
  rw [hf]
  rfl

theorem commitOp_lanes (hf : cascadeForm k.params = 2) (hr : s.role = 1) :
    commitOp s.cmd.nextOrd 0x68 k.tag k.x k.params (begun 0x68 k s) = commitLanes k.params (begun 0x68 k s) := by
  rw [commitOp_cascadeConfig hb (cascadeNotCox_eq_false (.inl hr))]
  unfold commitCascadeConfig
  rw [hf]
  rfl

theorem commitOp_wake (hf : cascadeForm k.params = 3) :
    commitOp s.cmd.nextOrd 0x68 k.tag k.x k.params (begun 0x68 k s) = commitWake k.params (begun 0x68 k s) := by
  rw [commitOp_cascadeConfig hb (cascadeNotCox_eq_false (.inr (by omega)))]
  unfold commitCascadeConfig
  rw [hf]
  rfl
end

/-! ## SETUP (R601, R632) -/

theorem linkRegs_onObl (s : State) (q : Nat) (f : OblPort → OblPort) : linkRegs s (s.onObl q f) := linkRegs_of_regs rfl

theorem linkRegs_foldl {α : Type} {f : State → α → State} (hf : ∀ t a, linkRegs t (f t a)) (l : List α) (s : State) :
    linkRegs s (l.foldl f s) := by
  induction l generalizing s with
  | nil => exact .refl s
  | cons a l ih => exact (hf s a).trans (ih (f s a))

theorem linkRegs_oblPower (s : State) : linkRegs s (oblPower s) := by
  unfold oblPower
  refine (linkRegs_foldl (fun t q => ?_) [0, 1] s).trans (linkRegs_trackRefs _)
  dsimp only
  split
  · split
    · exact .refl t
    · exact linkRegs_oblLeave t q 0 0
  · split
    · exact linkRegs_onObl t q _
    · exact .refl t

theorem oblRelearn_obl_only (s : State) : sameButObl s (oblRelearn s) := by
  unfold oblRelearn
  dsimp only
  split
  · exact .refl s
  · exact ⟨_, rfl⟩

theorem oblRelearn_posValid (hr : s.role = 2) : (oblRelearn s).obl.posValid = false := by
  unfold oblRelearn
  rw [if_neg (not_not.mpr hr)]

theorem sameButObl.regs_eq (h : sameButObl s t) : t.regs = s.regs := by
  obtain ⟨_, rfl⟩ := h
  rfl

theorem sameButObl.cmd_eq (h : sameButObl s t) : t.cmd = s.cmd := by
  obtain ⟨_, rfl⟩ := h
  rfl

theorem sameButLinks.cmd_eq (h : sameButLinks s t) : t.cmd = s.cmd := by
  obtain ⟨⟨_, _, _, _, rfl⟩, -⟩ := h
  rfl

theorem sameButLinks.role_eq (h : sameButLinks s t) : t.role = s.role := by
  obtain ⟨⟨_, _, _, _, rfl⟩, -⟩ := h
  rfl

/-- What SETUP makes of the state: the configuration in force, and a position forgotten where RELEARN asks it. -/
def State.setUp (s : State) (x : Bool) (p : List Word) : State :=
  if x && bitOf (p.getD 1 0) 1 then oblRelearn (oblPower (s.setReg Reg.OBL_CFG (setupWord x p)))
  else oblPower (s.setReg Reg.OBL_CFG (setupWord x p))

theorem State.setUp_kept (s : State) (x : Bool) (p : List Word) :
    sameButObl (oblPower (s.setReg Reg.OBL_CFG (setupWord x p))) (s.setUp x p) := by
  unfold State.setUp
  split
  · exact oblRelearn_obl_only _
  · exact .refl _

theorem State.setUp_cfg (s : State) (x : Bool) (p : List Word) : (s.setUp x p).reg Reg.OBL_CFG = setupWord x p :=
  (linkRegs_of_regs (s.setUp_kept x p).regs_eq _ (by decide) (by decide)).trans
    ((linkRegs_oblPower _ _ (by decide) (by decide)).trans (State.reg_setReg_self ..))

theorem State.setUp_cmd (s : State) (x : Bool) (p : List Word) : (s.setUp x p).cmd = s.cmd := by
  rw [(s.setUp_kept x p).cmd_eq, (sameButLinks_oblPower (s.setReg Reg.OBL_CFG (setupWord x p))).cmd_eq]
  rfl

theorem State.setUp_posValid {x : Bool} {p : List Word} (hx : x = true) (h1 : bitOf (p.getD 1 0) 1 = true) (hr : s.role = 2) :
    (s.setUp x p).obl.posValid = false := by
  have hrelearn : s.setUp x p = oblRelearn (oblPower (s.setReg Reg.OBL_CFG (setupWord x p))) :=
    if_pos (by rw [hx, h1]; rfl)
  rw [hrelearn]
  exact oblRelearn_posValid ((sameButLinks.role_eq (sameButLinks_oblPower _)).trans hr)

/-- A port is enabled just where the field of the enables is not zero. -/
theorem enables_eq_field (w : Word) : (bitOf w 0 || bitOf w 1) = decide (fieldOf w 1 0 ≠ 0) := by
  have h0 : bitOf w 0 = decide (w.toNat % 2 = 1) := by
    unfold bitOf BitVec.getLsbD
    rw [Nat.testBit_eq_decide_div_mod_eq, pow_zero, Nat.div_one]
  have h1 : bitOf w 1 = decide (w.toNat / 2 % 2 = 1) := by
    unfold bitOf BitVec.getLsbD
    rw [Nat.testBit_eq_decide_div_mod_eq, pow_one]
  unfold fieldOf
  rw [h0, h1, Bool.eq_iff_iff]
  simp only [Bool.or_eq_true, decide_eq_true_eq, Nat.shiftRight_zero]
  omega

theorem commitSetup_solo {x : Bool} {p : List Word} (hr : s.role = 0) : commitSetup x p s = (s, .fail .refused 0 [3]) := if_pos hr

theorem commitSetup_stale {x : Bool} {p : List Word} (hr : s.role ≠ 0)
    (h2 : bitOf (s.reg Reg.OBL_CFG) 2 ≠ bitOf (setupWord x p) 2) (hen : s.regField Reg.OBL_CFG 1 0 ≠ 0) :
    commitSetup x p s = (s, .fail .staleWrite 1) := by
  have hon : (bitOf (s.reg Reg.OBL_CFG) 0 || bitOf (s.reg Reg.OBL_CFG) 1) = true :=
    (enables_eq_field _).trans (decide_eq_true hen)
  unfold commitSetup
  extract_lets old new
  rw [if_neg hr, if_pos (by rw [hon, Bool.and_true]; exact decide_eq_true h2)]

theorem commitSetup_sets {x : Bool} {p : List Word} (hr : s.role ≠ 0)
    (h : bitOf (s.reg Reg.OBL_CFG) 2 = bitOf (setupWord x p) 2 ∨ s.regField Reg.OBL_CFG 1 0 = 0) :
    commitSetup x p s
      = (s.setUp x p, .ok [(s.setUp x p).oblStatus] (decide (s.reg Reg.OBL_CFG ≠ setupWord x p))) := by
  have hgo : ¬ (decide (bitOf (s.reg Reg.OBL_CFG) 2 ≠ bitOf (setupWord x p) 2)
      && (bitOf (s.reg Reg.OBL_CFG) 0 || bitOf (s.reg Reg.OBL_CFG) 1)) = true := by
    rw [enables_eq_field]
    obtain h | h := h
    · simp [h]
    · simp [show fieldOf (s.reg Reg.OBL_CFG) 1 0 = 0 from h]
  unfold commitSetup
  extract_lets old new
  rw [if_neg hr, if_neg hgo]
  rfl

/-- SETUP that nothing forbids. -/
theorem setup_completes (hb : begins 0x68 k s = true) (hf : cascadeForm k.params = 0) (hr : s.role ≠ 0)
    (h : bitOf (s.reg Reg.OBL_CFG) 2 = bitOf (setupWord k.x k.params) 2 ∨ s.regField Reg.OBL_CFG 1 0 = 0) :
    ∃ t r, exec (.cascadeConfig k) s = .next t ∧ t.reg Reg.OBL_CFG = setupWord k.x k.params ∧ t.cmd.held = s.cmd.held ++ [r]
      ∧ r.tag = k.tag ∧ r.status = .ok
      ∧ (k.x = true → bitOf (k.params.getD 1 0) 1 = true → s.role = 2 → t.obl.posValid = false) := by
  have hc := (commitOp_setup hb hf).trans (commitSetup_sets (s := begun 0x68 k s) hr h)
  refine ⟨_, _, exec_commit_ok_kept rfl hb (by decide) hc (State.setUp_cmd ..), ?_, replied_held, rfl, rfl,
    fun hx h1 h2 => ?_⟩
  · rw [replied_reg]
    exact State.setUp_cfg ..
  · rw [replied, settle_obl]
    exact State.setUp_posValid (s := begun 0x68 k s) hx h1 h2

/-! ## TUNNEL (R621, R622) -/

theorem commitTunnel_none {tag : BitVec 7} {p : List Word}
    (h : s.portTo (fieldOf (p.getD 0 0) 4 2) = none ∨ s.obl.conflict = true) :
    commitTunnel tag p s = (s, .fail .refused 0 [1]) := by
  unfold commitTunnel
  dsimp only
  split
  next hport =>
    obtain h | h := h
    · rw [hport] at h
      exact nomatch h
    · rw [if_pos h]
  next => rfl

theorem commitTunnel_leaves {tag : BitVec 7} {p : List Word} (hport : s.portTo (fieldOf (p.getD 0 0) 4 2) = some q)
    (hno : s.obl.conflict = false) : commitTunnel tag p s
      = (s.oblTunnel q (fieldOf (p.getD 0 0) 4 2) tag.toNat false (p.drop 1), .later (.tunnelled (fieldOf (p.getD 0 0) 4 2)) []) := by
  unfold commitTunnel
  dsimp only
  rw [hport, hno]
  rfl

/-- A packet leaves in one frame for each 13 words, all on one port. -/
theorem State.oblTunnel_sent (s : State) (q seat token : Nat) (reply : Bool) (ws : List Word) :
    (s.oblTunnel q seat token reply ws).obl.sent.map Prod.fst
      = s.obl.sent.map Prod.fst ++ List.replicate ((ws.length + 12) / 13) q := by
  have hall : ∀ (l : List (Nat × Nat)) (f : State → Nat × Nat → State) (u : State),
      (∀ u e, ∃ b, f u e = u.oblPut q b) →
      (l.foldl f u).obl.sent.map Prod.fst = u.obl.sent.map Prod.fst ++ List.replicate l.length q := fun l f => by
    induction l with
    | nil => exact fun u _ => (List.append_nil _).symm
    | cons e l ih =>
      intro u hput
      obtain ⟨b, hb⟩ := hput u e
      rw [List.foldl_cons, ih _ hput, hb, State.oblPut_sent]
      simp [List.replicate_succ]
  refine (hall _ _ s fun u e => State.oblSend_put ..).trans ?_
  simp [tunnelParts]

/-- A packet leaves for its Seat, and its command waits for the inner reply. -/
theorem tunnel_leaves (hb : begins 0x68 k s = true) (hf : cascadeForm k.params = 1) (hr : s.role = 1)
    (hport : s.portTo (fieldOf (k.params.getD 0 0) 4 2) = some q) (hno : s.obl.conflict = false) :
    ∃ t f, exec (.cascadeConfig k) s = .next t ∧ t.cmd.flights = [f] ∧ f.fin = .tunnelled (fieldOf (k.params.getD 0 0) 4 2)
      ∧ f.phase = .committed ∧ f.tag = k.tag
      ∧ t.obl.sent.map Prod.fst = List.replicate ((k.params.length + 11) / 13) q := by
  have hc := (commitOp_tunnel hb hf hr).trans (commitTunnel_leaves (s := begun 0x68 k s) hport hno)
  have hcmd : ((begun 0x68 k s).oblTunnel q (fieldOf (k.params.getD 0 0) 4 2) k.tag.toNat false (k.params.drop 1)).cmd
      = (begun 0x68 k s).cmd := congrArg (fun r => r.2.2.2.2) (State.oblTunnel_replyPath ..)
  refine ⟨_, _, exec_commit_later_kept rfl hb (by decide) Fin.noConfusion hc hcmd, inFlight_flights, rfl, rfl, rfl, ?_⟩
  rw [inFlight, settle_obl]
  refine (State.oblTunnel_sent ..).trans ?_
  rw [List.length_drop, show (k.params.length - 1 + 12) / 13 = (k.params.length + 11) / 13 from by omega]
  rfl

/-! ## LANES (R616, R632) -/

/-- Lanes that are all given one owner have it, where it is a position. -/
theorem tget_setOwners_replicate (t : Table Nat) (first n o : Nat) {l : Nat} (h : first ≤ l) (hl : l < first + n) :
    tget (setOwners t first (List.replicate n o)) l = if o < 8 then some o else none := by
  have hall : ∀ m, m ≤ n → l < first + m → tget ((List.range m).foldl (fun t i =>
      let o' := (List.replicate n o).getD i 15
      if o' < 8 then tset t (first + i) o' else terase t (first + i)) t) l = if o < 8 then some o else none := fun m => by
    induction m with
    | zero => intro _ hl; omega
    | succ m ih =>
      intro hm hl
      have howner : (List.replicate n o).getD m 15 = o := by simp [List.getD, show m < n from hm]
      rw [List.range_succ, List.foldl_append, List.foldl_cons, List.foldl_nil]
      dsimp only
      rw [howner]
      by_cases hlm : l = first + m
      · subst hlm
        split
        · exact tget_tset_self ..
        · exact tget_terase_self ..
      · have hbefore := ih (by omega) (by omega)
        rw [← hbefore]
        split
        · exact tget_tset_ne _ _ hlm
        · exact tget_terase_ne _ hlm
  unfold setOwners
  rw [List.length_replicate]
  exact hall n le_rfl hl

/-- With the grid stopped the owners are set at once. -/
theorem lanes_stopped (hb : begins 0x68 k s = true) (hf : cascadeForm k.params = 2) (hr : s.role = 1) (hg : s.mck.grid = false) :
    ∃ t r, exec (.cascadeConfig k) s = .next t ∧ t.cmd.held = s.cmd.held ++ [r] ∧ r.status = .ok ∧ r.body = [0]
      ∧ t.obl.sent = []
      ∧ ∀ l, fieldOf (k.params.getD 1 0) 8 0 ≤ l → l < fieldOf (k.params.getD 1 0) 8 0 + fieldOf (k.params.getD 1 0) 18 9 →
          tget t.obl.owners l
            = (if fieldOf (k.params.getD 1 0) 22 19 < 8 then some (fieldOf (k.params.getD 1 0) 22 19) else none) := by
  have hc := commitOp_lanes hb hf hr
  have hstopped : ¬ (begun 0x68 k s).mck.grid = true := by
    show ¬ s.mck.grid = true
    rw [hg]
    exact Bool.false_ne_true
  unfold commitLanes at hc
  extract_lets w2 os first changed at hc
  rw [if_neg hstopped] at hc
  refine ⟨_, _, exec_commit_ok_kept rfl hb (by decide) hc rfl, replied_held, rfl, rfl, ?_, fun l h1 h2 => ?_⟩
  · rw [replied, settle_obl]
    rfl
  · rw [replied, settle_obl]
    exact tget_setOwners_replicate _ _ _ _ h1 h2

/-- With the grid running the owners apply later, and complete the command. -/
theorem lanes_running (hb : begins 0x68 k s = true) (hf : cascadeForm k.params = 2) (hr : s.role = 1) (hg : s.mck.grid = true) :
    ∃ t f, exec (.cascadeConfig k) s = .next t ∧ t.cmd.flights = [f] ∧ f.fin = .lanes ∧ f.phase = .committed ∧ f.tag = k.tag
      ∧ t.cmd.held = s.cmd.held ∧ t.obl.owners = s.obl.owners
      ∧ t.obl.ownersNext = s.obl.ownersNext ++ [(s.laneWait, fieldOf (k.params.getD 1 0) 8 0,
          List.replicate (fieldOf (k.params.getD 1 0) 18 9) (fieldOf (k.params.getD 1 0) 22 19))] := by
  have hc := commitOp_lanes hb hf hr
  have hrunning : (begun 0x68 k s).mck.grid = true := hg
  unfold commitLanes at hc
  extract_lets w2 os first changed at hc
  rw [if_pos hrunning] at hc
  refine ⟨_, _, exec_commit_later_kept rfl hb (by decide) (by decide) hc rfl, inFlight_flights, rfl, rfl, rfl,
    inFlight_held, ?_⟩
  rw [inFlight, settle_obl]
  exact ⟨rfl, rfl⟩

/-! ## WAKE (R625) -/

/-- A port is named for the wake pattern and is not in RUN. -/
def State.wakes (s : State) (w : Word) (q : Nat) : Bool := bitOf w (2 + q) && !(s.oblRun q)

/-- The pattern leaves on port `q` where it is to. -/
def State.wakeOn (s : State) (w : Word) (q : Nat) : State := if s.wakes w q then s.oblWake q else s

theorem State.wakeOn_eq (s : State) (w : Word) (q : Nat) : s.wakeOn w q
    = { s with obl := { s.obl with
        waked := if s.wakes w q then s.obl.waked ||| ((1 : BitVec 2) <<< q) else s.obl.waked } } := by
  unfold State.wakeOn
  split
  next h =>
    have hrun : ¬ s.oblRun q = true := by
      unfold State.wakes at h
      simp only [Bool.and_eq_true, Bool.not_eq_true'] at h
      rw [h.2]
      exact Bool.false_ne_true
    exact if_neg hrun
  next => rfl

theorem commitWake_solo {p : List Word} (hr : s.role = 0) : commitWake p s = (s, .fail .refused 0 [3]) := if_pos hr

theorem commitWake_wakes {p : List Word} (hr : s.role ≠ 0) :
    ∃ t, commitWake p s = (t, .ok [w32 (b2n (s.wakes (p.getD 0 0) 0) + 2 * b2n (s.wakes (p.getD 0 0) 1))]) ∧ t.cmd = s.cmd
      ∧ t.obl.waked = (if s.wakes (p.getD 0 0) 1 then
          (if s.wakes (p.getD 0 0) 0 then s.obl.waked ||| 1 else s.obl.waked) ||| 2
        else if s.wakes (p.getD 0 0) 0 then s.obl.waked ||| 1 else s.obl.waked) := by
  have hc : commitWake p s = ((s.wakeOn (p.getD 0 0) 0).wakeOn (p.getD 0 0) 1,
      .ok [w32 (b2n (s.wakes (p.getD 0 0) 0) + 2 * b2n (s.wakes (p.getD 0 0) 1))]) := by
    have h1 : (s.wakeOn (p.getD 0 0) 0).wakes (p.getD 0 0) 1 = s.wakes (p.getD 0 0) 1 := by
      rw [State.wakeOn_eq]
      rfl
    unfold State.wakeOn at h1 ⊢
    rw [h1]
    exact if_neg hr
  refine ⟨_, hc, ?_, ?_⟩
  · rw [State.wakeOn_eq, State.wakeOn_eq]
  · rw [State.wakeOn_eq, State.wakeOn_eq]
    rfl

/-- WAKE completes, and the wake pattern is on the ports named that are not in RUN. -/
theorem wake_completes (hb : begins 0x68 k s = true) (hf : cascadeForm k.params = 3) (hr : s.role ≠ 0) :
    ∃ t r, exec (.cascadeConfig k) s = .next t ∧ t.cmd.held = s.cmd.held ++ [r] ∧ r.status = .ok
      ∧ r.body = [w32 (b2n (s.wakes (k.params.getD 0 0) 0) + 2 * b2n (s.wakes (k.params.getD 0 0) 1))]
      ∧ t.obl.waked.getLsbD 0 = s.wakes (k.params.getD 0 0) 0 ∧ t.obl.waked.getLsbD 1 = s.wakes (k.params.getD 0 0) 1 := by
  obtain ⟨u, hc, hcmd, hwaked⟩ := commitWake_wakes (s := begun 0x68 k s) (p := k.params) hr
  refine ⟨_, _, exec_commit_ok_kept rfl hb (by decide) ((commitOp_wake hb hf).trans hc) hcmd, replied_held, rfl, rfl, ?_⟩
  rw [replied, settle_obl]
  have h0 : (begun 0x68 k s).obl.waked = 0 := rfl
  have hgo : ∀ i, (begun 0x68 k s).wakes (k.params.getD 0 0) i = s.wakes (k.params.getD 0 0) i := fun _ => rfl
  rw [h0, hgo, hgo] at hwaked
  dsimp only
  rw [hwaked]
  generalize s.wakes (k.params.getD 0 0) 0 = a
  generalize s.wakes (k.params.getD 0 0) 1 = b
  revert a b
  decide

/-! ## CASCADE_STATUS (R634) -/

theorem commitOp_cascadeStatus (hb : begins 0x69 k s = true) (h : k.x = true → s.role = 1) :
    commitOp s.cmd.nextOrd 0x69 k.tag k.x k.params (begun 0x69 k s) = commitCascadeStatus k.x k.params (begun 0x69 k s) :=
  commitOp_high (show modeRefuses 0x69 (begun 0x69 k s).mode = false from begins_mode (s := s) hb) (by decide)
    (fun h => absurd h (by decide)) (fun _ => h)

/-- The expert form, elsewhere than at a Cox. -/
theorem exec_cascadeStatus_notCox (hb : begins 0x69 k s = true) (hx : k.x = true) (hr : s.role ≠ 1) :
    exec (.cascadeStatus k) s = .next (replied 0x69 k .notCox 0 [] false s (fresh s)) := by
  refine exec_commit_fail (t := fresh s) rfl hb (by decide) (by decide) (by decide) ?_
  have hmode : modeRefuses 0x69 (begun 0x69 k s).mode = false := begins_mode (s := s) hb
  have hcox : decide ((begun 0x69 k s).role ≠ 1) = true := decide_eq_true hr
  unfold commitOp
  rw [hmode, hx, hcox]
  rfl

theorem exec_cascadeStatus_expert (hb : begins 0x69 k s = true) (hx : k.x = true) (hr : s.role = 1) :
    exec (.cascadeStatus k) s = .next (replied 0x69 k .ok 0 [s.seatStatus (fieldOf (k.params.getD 0 0) 2 0),
        w32 ((tgetD s.obl.seatInfo (fieldOf (k.params.getD 0 0) 2 0) {}).die / 2 ^ 32),
        w32 (tgetD s.obl.seatInfo (fieldOf (k.params.getD 0 0) 2 0) {}).die] false s (fresh s)) :=
  exec_commit_ok (t := fresh s) rfl hb (by decide) ((commitOp_cascadeStatus hb fun _ => hr).trans (if_pos hx))

theorem exec_cascadeStatus_basic (hb : begins 0x69 k s = true) (hx : k.x = false) :
    exec (.cascadeStatus k) s = .next (replied 0x69 k .ok 0 [s.oblStatus, s.oblPortStatus 0, s.oblPortStatus 1,
        satWord (s.oblDelay 0), satWord (s.oblDelay 1), s.oblHopErr, w32 (s.oblCoxId / 2 ^ 32), w32 s.oblCoxId] false s
      (fresh s)) :=
  exec_commit_ok (t := fresh s) rfl hb (by decide)
    ((commitOp_cascadeStatus hb fun h => absurd (hx.symm.trans h) Bool.false_ne_true).trans
      (if_neg (by rw [hx]; exact Bool.false_ne_true)))

end Sys2Proof.Machine
end

section
/-! SUPPORT. Frames as the receiver of an Obien port takes them, and packets that travel in TUNNEL frames. -/
namespace Sys2Proof.Machine

variable {s t : State} {q : Nat} {bs : List Byte} {f : OblFrame}

/-! ## The receiver without loopbacks (R607, R663) -/

theorem nearLoop_none (h : ∀ i, s.tst.points.getD i 0 = 0) (i : Nat) : s.nearLoop i = false := by
  unfold State.nearLoop
  dsimp only
  rw [h]
  rfl

theorem oblReceive_plain (h : ∀ i, s.tst.points.getD i 0 = 0) (g : List Byte → State → State) : oblReceive q bs g s = g bs s := by
  unfold oblReceive
  rw [nearLoop_none h, if_neg Bool.false_ne_true, h, if_neg (by decide)]

/-- Port `q` once a frame with a good CRC has come. -/
def State.crcGood (s : State) (q : Nat) : State := s.onObl q fun p => { p with crcRun := 0 }

theorem State.crcGood_port (h : q < s.obl.ports.length) : (s.crcGood q).oblPort q = { s.oblPort q with crcRun := 0 } :=
  State.oblPort_onObl_self _ h

theorem State.crcGood_run (h : q < s.obl.ports.length) (h4 : (s.oblPort q).state = 4) : (s.crcGood q).oblRun q = true := by
  unfold State.oblRun
  rw [State.crcGood_port h]
  exact decide_eq_true h4

section
variable (hr : s.role ≠ 0) (hq : q < 2) (h2 : 2 ≤ (s.oblPort q).state)
include hr hq h2

/-- A port of a Cox or a Seat that is past training hears frames. -/
theorem oblPort_hears : ¬ (s.role = 0 || decide (2 ≤ q) || decide ((s.oblPort q).state < 2)) = true := by
  simp only [Bool.or_eq_true, decide_eq_true_eq]
  omega

theorem oblArrives_plain (h : ∀ i, s.tst.points.getD i 0 = 0) : oblArrives q bs s = oblFrameIn q bs s :=
  (if_neg (oblPort_hears hr hq h2)).trans (oblReceive_plain h _)

theorem oblFrameIn_broken (hread : readObl bs = none) : oblFrameIn q bs s
    = if 16 ≤ (((s.bump (Reg.OBL_CRC_ERR q)).onObl q fun p => { p with crcRun := p.crcRun + 1 }).oblPort q).crcRun then
        oblLoss q false ((s.bump (Reg.OBL_CRC_ERR q)).onObl q fun p => { p with crcRun := p.crcRun + 1 })
      else (s.bump (Reg.OBL_CRC_ERR q)).onObl q fun p => { p with crcRun := p.crcRun + 1 } := by
  unfold oblFrameIn
  rw [if_neg (oblPort_hears hr hq h2), hread]

variable (hread : readObl bs = some f)
include hread

theorem oblFrameIn_bad (hok : oblFieldsOk f = false) : oblFrameIn q bs s = (s.crcGood q).bump Reg.OBL_BAD := by
  unfold oblFrameIn
  rw [if_neg (oblPort_hears hr hq h2), hread]
  dsimp only
  rw [hok]
  rfl

variable (hok : oblFieldsOk f = true)
include hok

theorem oblFrameIn_sync (h : f.typ = 1) : oblFrameIn q bs s = syncIn q f (s.crcGood q) := by
  unfold oblFrameIn
  rw [if_neg (oblPort_hears hr hq h2), hread]
  dsimp only
  rw [hok, h]
  rfl

theorem oblFrameIn_link (h : f.typ = 2) : oblFrameIn q bs s = linkIn q f (s.crcGood q) := by
  unfold oblFrameIn
  rw [if_neg (oblPort_hears hr hq h2), hread]
  dsimp only
  rw [hok, h]
  rfl

theorem oblFrameIn_delay (h : f.typ = 3) : oblFrameIn q bs s = delayIn q f (s.crcGood q) := by
  unfold oblFrameIn
  rw [if_neg (oblPort_hears hr hq h2), hread]
  dsimp only
  rw [hok, h]
  rfl

theorem oblFrameIn_lane (h : f.typ = 4) : oblFrameIn q bs s = laneIn q f (s.crcGood q) := by
  unfold oblFrameIn
  rw [if_neg (oblPort_hears hr hq h2), hread]
  dsimp only
  rw [hok, h]
  rfl

theorem oblFrameIn_relayUp (h : f.typ = 5) : oblFrameIn q bs s = relayUpIn q f (s.crcGood q) := by
  unfold oblFrameIn
  rw [if_neg (oblPort_hears hr hq h2), hread]
  dsimp only
  rw [hok, h]
  rfl

theorem oblFrameIn_relayDn (h : f.typ = 6) : oblFrameIn q bs s = relayDnIn q f (s.crcGood q) := by
  unfold oblFrameIn
  rw [if_neg (oblPort_hears hr hq h2), hread]
  dsimp only
  rw [hok, h]
  rfl

theorem oblFrameIn_tunnel (h : f.typ = 7) : oblFrameIn q bs s = s.crcGood q := by
  unfold oblFrameIn
  rw [if_neg (oblPort_hears hr hq h2), hread]
  dsimp only
  rw [hok, h]
  rfl
end

/-! ## TUNNEL frames (R621 to R623) -/

/-- The packets that are being received, without the one that frame `f` belongs to. -/
def State.tunnelDone (s : State) (f : OblFrame) : State :=
  { s with obl := { s.obl with
    tunnels := s.obl.tunnels.filter fun t => !(sameTunnel (f.index / 8192) f.stroke (f.flags.testBit 1) t) } }

/-- A frame that begins and ends its packet. -/
theorem tunnelGather_one (hfirst : f.index / 128 % 64 = 0) (hlast : f.flags % 2 = 1) :
    tunnelGather q f s = (s.tunnelDone f, some (tunnelWords f)) := by
  unfold tunnelGather
  simp only [hfirst, hlast]
  rfl

section
variable (hrun : s.oblRun q = true) (hno : s.obl.conflict = false) (hfirst : f.index / 128 % 64 = 0)
include hrun hno hfirst

theorem tunnelFrame_seat (hr : s.role = 2) (hside : q = s.coxSide) (hpv : s.obl.posValid = true)
    (hpos : f.index / 8192 = s.obl.pos) (hflags : f.flags = 1) :
    tunnelFrame q f s = (s.tunnelDone f, some (f.stroke, tunnelWords f)) := by
  have hgather := tunnelGather_one (s := s) (q := q) hfirst (show f.flags % 2 = 1 by rw [hflags])
  have hnotcox : s.role ≠ 1 := by omega
  have hreply : f.flags.testBit 1 = false := by
    rw [hflags]
    rfl
  unfold tunnelFrame
  extract_lets seat reply
  rw [show reply = false from hreply, hrun, hno, if_neg (by decide), if_neg hnotcox, if_neg Bool.false_ne_true,
    if_neg (not_not.mpr hside), hpv, Bool.true_and, if_pos (decide_eq_true hpos), hgather]
  rfl

theorem tunnelFrame_cox {g : Flight} (hr : s.role = 1) (hflags : f.flags = 3)
    (hg : s.outerFlight (f.index / 8192) f.stroke = some g) :
    tunnelFrame q f s = ((s.tunnelDone f).answer g .ok 0 (outerBody (tunnelWords f)), none) := by
  have hgather := tunnelGather_one (s := s) (q := q) hfirst (show f.flags % 2 = 1 by rw [hflags])
  have hreply : f.flags.testBit 1 = true := by
    rw [hflags]
    rfl
  unfold tunnelFrame
  extract_lets seat reply
  rw [show reply = true from hreply, hrun, hno, if_neg (by decide), if_pos hr, if_neg (by decide),
    show s.outerFlight seat f.stroke = some g from hg]
  dsimp only
  rw [hgather]
end

theorem tunnelOf_frame (hread : readObl bs = some f) (hok : oblFieldsOk f = true) (h7 : f.typ = 7) : tunnelOf bs = some f := by
  unfold tunnelOf
  rw [hread]
  dsimp only
  rw [hok, h7]
  rfl

/-- A Command Processor that takes no commands leaves the packets from the Cox where they wait. -/
theorem drainTunnel_untaken (h : s.takes = false) : ∀ n, drainTunnel n s = s := by
  intro n
  cases n with
  | zero => rfl
  | succ n =>
    unfold drainTunnel
    split
    · rfl
    · rw [h]
      rfl

/-- A frame that a port in RUN without loopbacks hears goes to the packets that are being received. -/
theorem exec_oblTunnelFrame (hr : s.role ≠ 0) (hq : q < 2) (h4 : (s.oblPort q).state = 4)
    (hpoints : ∀ i, s.tst.points.getD i 0 = 0) (hread : readObl bs = some f) (hok : oblFieldsOk f = true) (h7 : f.typ = 7) :
    exec (.oblTunnelFrame q bs) s = .next (settle (tunnelArrives q bs ((fresh s).crcGood q))) := by
  have hheard : (decide ((fresh s).role ≠ 0) && decide (q < 2) && decide (2 ≤ ((fresh s).oblPort q).state)) = true := by
    show (decide (s.role ≠ 0) && decide (q < 2) && decide (2 ≤ (s.oblPort q).state)) = true
    simp [hr, hq, h4]
  have hframe := oblFrameIn_tunnel (s := fresh s) hr hq (show 2 ≤ (s.oblPort q).state by omega) hread hok h7
  have hin : oblReceive q bs (fun bs s => tunnelArrives q bs (oblFrameIn q bs s)) (fresh s)
      = tunnelArrives q bs ((fresh s).crcGood q) :=
    (oblReceive_plain (s := fresh s) hpoints _).trans (congrArg (tunnelArrives q bs) hframe)
  exact congrArg (fun t => Host.Outcome.next (settle t)) ((if_pos hheard).trans hin)

/-- A packet of one frame for this Seat waits for the Command Processor. -/
theorem tunnel_toSeat (hq : q < 2) (hl : q < s.obl.ports.length) (h4 : (s.oblPort q).state = 4)
    (hpoints : ∀ i, s.tst.points.getD i 0 = 0) (hread : readObl bs = some f) (hok : oblFieldsOk f = true) (h7 : f.typ = 7)
    (hno : s.obl.conflict = false) (hfirst : f.index / 128 % 64 = 0) (hr : s.role = 2) (hside : q = s.coxSide)
    (hpv : s.obl.posValid = true) (hpos : f.index / 8192 = s.obl.pos) (hflags : f.flags = 1) (htakes : s.takes = false) :
    ∃ t, exec (.oblTunnelFrame q bs) s = .next t
      ∧ t.cmd.tunnelIn = s.cmd.tunnelIn ++ [(f.stroke, tunnelWords f)] ∧ t.regs = s.regs := by
  let u := (fresh s).crcGood q
  let v : State := { u.tunnelDone f with cmd := { s.cmd with tunnelIn := s.cmd.tunnelIn ++ [(f.stroke, tunnelWords f)] } }
  have hframe : tunnelFrame q f u = (u.tunnelDone f, some (f.stroke, tunnelWords f)) :=
    tunnelFrame_seat (State.crcGood_run (s := fresh s) hl h4) hno hfirst hr hside hpv hpos hflags
  have harrives : tunnelArrives q bs u = v := by
    unfold tunnelArrives
    rw [tunnelOf_frame hread hok h7]
    dsimp only
    rw [hframe]
    exact drainTunnel_untaken (s := v) htakes _
  refine ⟨_, exec_oblTunnelFrame (by omega) hq h4 hpoints hread hok h7, ?_⟩
  rw [harrives, settle_cmd, settle_regs]
  exact ⟨rfl, rfl⟩

/-- A reply of one frame answers the command that awaits it. -/
theorem tunnel_toCox {g : Flight} {p : Path} (hq : q < 2) (hl : q < s.obl.ports.length) (h4 : (s.oblPort q).state = 4)
    (hpoints : ∀ i, s.tst.points.getD i 0 = 0) (hread : readObl bs = some f) (hok : oblFieldsOk f = true) (h7 : f.typ = 7)
    (hno : s.obl.conflict = false) (hfirst : f.index / 128 % 64 = 0) (hr : s.role = 1) (hflags : f.flags = 3)
    (hfl : s.cmd.flights = [g]) (hph : g.phase = .committed) (hfin : g.fin = .tunnelled (f.index / 8192))
    (htag : g.tag.toNat = f.stroke) (hsrc : g.src = .path p) (hrest : s.cmd.restarting = false) :
    ∃ t r, exec (.oblTunnelFrame q bs) s = .next t ∧ t.cmd.flights = [] ∧ t.cmd.held = s.cmd.held ++ [r] ∧ r.tag = g.tag
      ∧ r.status = .ok ∧ r.body = outerBody (tunnelWords f) := by
  let u := (fresh s).crcGood q
  have houter : u.outerFlight (f.index / 8192) f.stroke = some g := by
    show s.cmd.flights.find? _ = some g
    rw [hfl]
    simp [hph, hfin, htag]
  have hframe := tunnelFrame_cox (State.crcGood_run (s := fresh s) hl h4) hno hfirst hr hflags houter
  have harrives : tunnelArrives q bs u = (u.tunnelDone f).answer g .ok 0 (outerBody (tunnelWords f)) := by
    unfold tunnelArrives
    rw [tunnelOf_frame hread hok h7]
    dsimp only
    rw [hframe]
  have hanswer := answer_ok_alone (s := u.tunnelDone f) hfl hsrc hrest (outerBody (tunnelWords f))
  refine ⟨_, answerOf s.cmd.gen g .ok 0 (outerBody (tunnelWords f)),
    exec_oblTunnelFrame (by omega) hq h4 hpoints hread hok h7, ?_⟩
  rw [harrives, settle_cmd, hanswer]
  exact ⟨rfl, rfl, rfl, rfl, rfl⟩

/-- No inner reply has come: the command is refused. -/
theorem tunnelWait_expires {g : Flight} {p : Path} {seat : Nat} (hfl : s.cmd.flights = [g]) (hph : g.phase = .committed)
    (hfin : g.fin = .tunnelled seat) (hsrc : g.src = .path p) (hrest : s.cmd.restarting = false) :
    ∃ t r, exec (.tunnelWaitExpired g.tag) s = .next t ∧ t.cmd.flights = [] ∧ t.cmd.held = s.cmd.held ++ [r] ∧ r.tag = g.tag
      ∧ r.status = .refused ∧ r.body = [2] := by
  have hexec : exec (.tunnelWaitExpired g.tag) s = .next (settle ((fresh s).answer g .refused 0 [2])) := by
    show execTunnelWaitExpired g.tag s = _
    unfold execTunnelWaitExpired
    simp [hfl, hph, hfin]
  have hnone : [g].filter (fun h => decide (h.ord ≠ g.ord)) = [] := by simp
  refine ⟨_, answerOf s.cmd.gen g .refused 0 [2], hexec, ?_⟩
  rw [settle_cmd, answer_path (s := fresh s) hsrc hrest (by decide) (by decide)]
  exact ⟨(congrArg _ hfl).trans hnone, rfl, rfl, rfl, rfl⟩

/-! ## A conflict that has gone (R604, R623) -/

/-- The state in which a conflict has gone. -/
def State.agreed (s : State) : State := { s with obl := { s.obl with conflict := false } }

theorem exec_oblConflictClear : exec .oblConflictClear s = .next (settle (oblFlushReplies (fresh s).agreed)) := rfl

/-- With no replies held nothing else changes. -/
theorem conflictClear_none (h : s.obl.heldReplies = []) : exec .oblConflictClear s = .next (settle (fresh s).agreed) := by
  have hflush : oblFlushReplies (fresh s).agreed = (fresh s).agreed := by
    unfold oblFlushReplies
    rw [show (fresh s).agreed.obl.heldReplies = [] from h]
    have heta : { (fresh s).agreed.obl with heldReplies := (fresh s).agreed.obl.heldReplies } = (fresh s).agreed.obl := rfl
    rw [show (fresh s).agreed.obl.heldReplies = [] from h] at heta
    rw [heta]
    rfl
  rw [exec_oblConflictClear, hflush]

/-- On a Cox side in RUN the held replies leave. -/
theorem conflictClear_leaves (h : s.oblRun s.coxSide = true) :
    ∃ t, exec .oblConflictClear s = .next t ∧ t.obl.conflict = false ∧ t.obl.heldReplies = [] ∧ t.cmd = s.cmd := by
  refine ⟨_, exec_oblConflictClear, ?_⟩
  rw [settle_obl, settle_cmd]
  exact oblFlushReplies_leave (s := (fresh s).agreed) ⟨h, rfl⟩

/-- A Seat that moves its Cox side. -/
theorem coxSide_moves (h : coxSideSwitch (fresh s) = (fresh s).coxSideTo q) : ∃ t, exec .oblCoxSideSwitch s = .next t
    ∧ t.obl.coxDn = (!s.obl.coxDn) ∧ t.obl.frozen = true ∧ t.obl.coxId = (s.oblPort q).peer.cox
    ∧ t.bit Reg.OBL_EVENT 6 = true := by
  refine ⟨_, congrArg (fun t => Host.Outcome.next (settle t)) h, ?_⟩
  rw [settle_obl, settle_bit, State.coxSideTo_obl]
  exact ⟨rfl, rfl, rfl, State.coxSideTo_event _ _⟩

end Sys2Proof.Machine
end

section
/-! The statement of the cascade commands and the events of the link. -/
open Sys2Proof Sys2Proof.Machine

/-- Settles O52: a command at its commit point has the form that its packet names, and a Seat's or a Cox's ports change as the
rules of one operation on a port give it (put a frame, leave a state, hear a frame). -/
theorem oblLinkComplete : Obligations.OblLinkComplete := by
  unfold Obligations.OblLinkComplete
  refine ⟨fun k s => ?_, fun q s hq hlen => ?_⟩
  · intro p w
    refine ⟨fun hb => ⟨fun hf hr => ?_, fun hf hr h => setup_completes hb hf hr h, fun hf hr h2 hen => ?_, fun hf hr => ?_,
      fun hf hr => ⟨fun h => ?_, fun q hport hno => tunnel_leaves hb hf hr hport hno⟩, fun hf hr => ?_, fun hf hr => ?_,
      fun hf hr => ?_⟩, fun hb => ?_⟩
    · exact exec_commit_fail (t := fresh s) rfl hb (by decide) (by decide) (by decide)
        ((commitOp_setup hb hf).trans (commitSetup_solo hr))
    · exact exec_commit_fail (t := fresh s) rfl hb (by decide) (by decide) (by decide)
        ((commitOp_setup hb hf).trans (commitSetup_stale hr h2 hen))
    · refine exec_cascadeConfig_notCox hb ?_
      unfold cascadeNotCox
      rw [decide_eq_true hr, Bool.and_true, Bool.or_eq_true, decide_eq_true_eq, decide_eq_true_eq]
      exact hf
    · exact exec_commit_fail (t := fresh s) rfl hb (by decide) (by decide) (by decide)
        ((commitOp_tunnel hb hf hr).trans (commitTunnel_none h))
    · intro first count owner
      exact ⟨lanes_stopped hb hf hr, lanes_running hb hf hr⟩
    · exact exec_commit_fail (t := fresh s) rfl hb (by decide) (by decide) (by decide)
        ((commitOp_wake hb hf).trans (commitWake_solo hr))
    · exact wake_completes hb hf hr
    · exact ⟨exec_cascadeStatus_notCox hb, exec_cascadeStatus_expert hb, exec_cascadeStatus_basic hb⟩
  · have hl : q < s.obl.ports.length := by omega
    refine ⟨oblTrained hq hl, exec_oblBlockedClear, exec_oblDelayTimer_silent, oblAsked hl,
      fun leaving => ⟨fun h0 => ?_, fun h0 => ?_⟩, conflictClear_none, conflictClear_leaves, fun hr => ⟨fun hdn hring hup h1 => ?_, fun hdn h0 hup hcox => ?_⟩,
      fun bs f hread hok h7 h4 hno hfirst hpoints => ⟨?_, ?_⟩, fun f p seat => tunnelWait_expires⟩
    · exact congrArg (fun t => Host.Outcome.next (settle t)) (if_pos h0)
    · obtain ⟨htrains, -, hcount, hrun⟩ := oblLoss_trains (s := fresh s) hq hl h0 leaving
      refine ⟨_, rfl, ?_⟩
      rw [settle_oblPort, settle_reg, settle_bit]
      exact ⟨htrains, hcount, hrun⟩
    · obtain ⟨t, hexec, hside, hrest⟩ := coxSide_moves (coxSideSwitch_toDn (s := fresh s) hr hdn hring hup h1)
      exact ⟨t, hexec, by rw [hside, hdn]; rfl, hrest⟩
    · obtain ⟨t, hexec, hside, hrest⟩ := coxSide_moves (coxSideSwitch_toUp (s := fresh s) hr hdn h0 hup hcox)
      exact ⟨t, hexec, by rw [hside, hdn]; rfl, hrest⟩
    · exact tunnel_toSeat hq hl h4 hpoints hread hok h7 hno hfirst
    · intro g p hr hflags hfl hph hfin htag hsrc hrest
      exact tunnel_toCox hq hl h4 hpoints hread hok h7 hno hfirst hr hflags hfl hph hfin htag hsrc hrest
end

section
/-! SUPPORT. What the Obien frames of links, delays, time, lanes and totals do. -/
namespace Sys2Proof.Machine

variable {s t : State} {q : Nat} {bs : List Byte} {f : OblFrame}

/-! ## Time, and the Obien unit -/

theorem role_of_pmu (h : t.pmu = s.pmu) : t.role = s.role := by
  unfold State.role
  rw [h]

theorem oblPort_of_obl (h : t.obl = s.obl) (j : Nat) : t.oblPort j = s.oblPort j := by
  unfold State.oblPort
  rw [h]

theorem nearLoop_of_tst (h : t.tst = s.tst) (i : Nat) : t.nearLoop i = s.nearLoop i := by
  unfold State.nearLoop
  rw [h]

/-- The state in which a frame that comes `dt` ns later is received. -/
def State.oblLater (s : State) (dt : Nat) : State := (fresh s).advance dt

theorem State.oblLater_obl (s : State) (dt : Nat) : (s.oblLater dt).obl = (fresh s).obl := State.advance_obl (s := fresh s) dt

theorem State.oblLater_role (s : State) (dt : Nat) : (s.oblLater dt).role = s.role :=
  role_of_pmu (State.advance_pmu (s := fresh s) dt)

theorem State.oblLater_port (s : State) (dt j : Nat) : (s.oblLater dt).oblPort j = s.oblPort j :=
  oblPort_of_obl (s.oblLater_obl dt) j

theorem State.oblLater_tst (s : State) (dt : Nat) : (s.oblLater dt).tst = s.tst := State.advance_tst (s := fresh s) dt

/-! ## Loopbacks (R663) -/

theorem oblReceive_empty (h : s.nearLoop (2 + q) = true) (hloop : (s.oblPort q).loop = []) (g : List Byte → State → State) :
    oblReceive q bs g s = s := by
  unfold oblReceive
  rw [if_pos h, hloop]

theorem oblReceive_returned {b : List Byte} {rest : List (List Byte)} (h : s.nearLoop (2 + q) = true)
    (hloop : (s.oblPort q).loop = b :: rest) (g : List Byte → State → State) :
    oblReceive q bs g s = g b (s.onObl q fun p => { p with loop := rest }) := by
  unfold oblReceive
  rw [if_pos h, hloop]

/-! ## Frames with a bad CRC, and with bad fields (R605, R607) -/

/-- Port `q` once a frame with a bad CRC has come. -/
def State.crcBad (s : State) (q : Nat) : State := (s.bump (Reg.OBL_CRC_ERR q)).onObl q fun p => { p with crcRun := p.crcRun + 1 }

theorem State.crcBad_port (h : q < s.obl.ports.length) :
    (s.crcBad q).oblPort q = { s.oblPort q with crcRun := (s.oblPort q).crcRun + 1 } :=
  State.oblPort_onObl_self (s := s.bump (Reg.OBL_CRC_ERR q)) _ h

section
variable (hr : s.role ≠ 0) (hq : q < 2) (hl : q < s.obl.ports.length) (h2 : 2 ≤ (s.oblPort q).state)
  (hread : readObl bs = none)
include hr hq hl h2 hread

theorem oblFrameIn_crcRun (hrun : (s.oblPort q).crcRun < 15) : oblFrameIn q bs s = s.crcBad q := by
  refine (oblFrameIn_broken hr hq h2 hread).trans (if_neg ?_)
  rw [show ((s.bump (Reg.OBL_CRC_ERR q)).onObl q fun p => { p with crcRun := p.crcRun + 1 }) = s.crcBad q from rfl,
    State.crcBad_port hl]
  exact Nat.not_le.mpr (by show _ + 1 < 16; omega)

/-- The sixteenth frame with a bad CRC in succession ends the link. -/
theorem oblFrameIn_crcEnds (hrun : 15 ≤ (s.oblPort q).crcRun) : oblFrameIn q bs s = oblLoss q false (s.crcBad q) := by
  refine (oblFrameIn_broken hr hq h2 hread).trans (if_pos ?_)
  rw [show ((s.bump (Reg.OBL_CRC_ERR q)).onObl q fun p => { p with crcRun := p.crcRun + 1 }) = s.crcBad q from rfl,
    State.crcBad_port hl]
  exact Nat.succ_le_succ hrun
end

theorem otherObl_crcBad (hq : q < 2) (s : State) : otherObl q s (s.crcBad q) :=
  (otherObl_of_ports (t := s.bump (Reg.OBL_CRC_ERR q)) q rfl).trans (otherObl_onObl hq _ _)

theorem State.crcBad_downCount (s : State) (q : Nat) : (s.crcBad q).reg (Reg.OBL_DOWN_COUNT q) = s.reg (Reg.OBL_DOWN_COUNT q) :=
  State.reg_setReg_ne s _ (by unfold Reg.OBL_DOWN_COUNT Reg.OBL_CRC_ERR; omega)

/-! ## LINK frames (R603, R605, R608) -/

/-- A Seat that its UP peer's LINK frame has placed beside the Cox, with the port in TIME. -/
def State.placed (s : State) (f : OblFrame) : State :=
  let s1 := s.onObl 0 fun p => { p with peer := linkInfo f, agree := 4, peerUp := f.upw }
  let s2 := { s1 with obl := { s1.obl with pos := 1, posValid := true } }
  s2.onObl 0 fun p => { p with state := 3, delays := [] }

/-- A Seat that has a Cox. -/
def State.coxKnown (s : State) (f : OblFrame) : State :=
  let s1 := s.coxPath (decide ((linkInfo f).cox = 0) || f.upw)
  { s1 with obl := { s1.obl with coxId := (linkInfo f).cox, ring := (linkInfo f).ring } }

theorem State.placed_port (f : OblFrame) (h : 0 < s.obl.ports.length) :
    ((s.placed f).oblPort 0).state = 3 ∧ (s.placed f).oblPort 1 = s.oblPort 1 := by
  let s1 := s.onObl 0 fun p => { p with peer := linkInfo f, agree := 4, peerUp := f.upw }
  let s2 : State := { s1 with obl := { s1.obl with pos := 1, posValid := true } }
  have h2 : 0 < s2.obl.ports.length := (s.onObl_length 0 _).symm ▸ h
  refine ⟨congrArg OblPort.state (State.oblPort_onObl_self (s := s2) _ h2), ?_⟩
  exact (s2.oblPort_onObl_ne _ (by decide)).trans (s.oblPort_onObl_ne _ (by decide))

/-- The ports and the position of a Seat. -/
def State.seatPlace (s : State) : List OblPort × Nat × Bool := (s.obl.ports, s.obl.pos, s.obl.posValid)

theorem State.coxPath_seatPlace (s : State) (lost : Bool) : (s.coxPath lost).seatPlace = s.seatPlace := by
  unfold State.coxPath
  extract_lets cut _ s1 s2
  have h2 : s2.seatPlace = s.seatPlace := by
    unfold s2
    split
    · rfl
    · rfl
  split
  · exact h2
  · refine Eq.trans ?_ h2
    unfold State.seatPlace
    rw [State.trackRefs_obl]

theorem State.takeOwners_link (s : State) (f : OblFrame) :
    (s.takeOwners f).seatPlace = s.seatPlace ∧ (s.takeOwners f).obl.coxId = s.obl.coxId := by
  unfold State.takeOwners
  dsimp only
  split
  · exact ⟨rfl, rfl⟩
  · exact ⟨rfl, rfl⟩

section
variable (hr : s.role = 2) (hdn : s.obl.coxDn = false) (hl : 0 < s.obl.ports.length) (h2 : (s.oblPort 0).state = 2)
  (hagree : (s.oblPort 0).agree = 3) (h1 : (s.oblPort 1).state = 0) (hpv : s.obl.posValid = false)
  (hcox : (linkInfo f).role = 1) (hrole : (linkInfo f).role = (s.oblPort 0).peer.role)
  (hpos : (linkInfo f).pos = (s.oblPort 0).peer.pos) (hid : (linkInfo f).cox = (s.oblPort 0).peer.cox)
include hr hdn hl h2 hagree h1 hpv hcox hrole hpos hid

/-- The fourth LINK frame in succession that agrees, from the Cox. -/
theorem linkFromPeer_places : linkFromPeer 0 f (linkInfo f) s = ((s.placed f).coxKnown f).takeOwners f := by
  let s1 := s.onObl 0 fun p => { p with peer := linkInfo f, agree := 4, peerUp := f.upw }
  have hother : s1.oblPort 1 = s.oblPort 1 := s.oblPort_onObl_ne _ (by decide)
  have hrole1 : s1.role = 2 := hr
  have hconflict : s1.linkConflict 0 (linkInfo f) = false := by
    unfold State.linkConflict
    rw [if_neg (by omega), hother]
    simp [h1]
  have hcause : s1.posCause 0 (linkInfo f) = 0 := by
    have hpv1 : s1.obl.posValid = false := hpv
    simp [State.posCause, hrole1, impliedPos, hcox, hpv1]
  have hlearn : s1.learnPos 0 (linkInfo f) = { s1 with obl := { s1.obl with pos := 1, posValid := true } } := by
    have hpv1 : s1.obl.posValid = false := hpv
    simp [State.learnPos, hrole1, impliedPos, hcox, hpv1]
  have hside : ((s.placed f).role = 2 && decide (0 = (s.placed f).coxSide) && decide (3 ≤ ((s.placed f).oblPort 0).state)
      && decide (((s.placed f).oblPort 0).state ≠ 5)) = true := by
    have hside0 : (s.placed f).coxSide = 0 := if_neg (by show ¬ s.obl.coxDn = true; simp [hdn])
    rw [(State.placed_port f hl).1, hside0, show (s.placed f).role = 2 from hr]
    rfl
  unfold linkFromPeer
  simp only [hagree, h2, ← hrole, ← hpos, ← hid, decide_true, Bool.and_self, if_true]
  rw [show (s.onObl 0 fun p => { p with peer := linkInfo f, agree := 3 + 1, peerUp := f.upw }) = s1 from rfl, hconflict, hcause,
    hlearn, if_neg Bool.false_ne_true, if_neg (by decide), if_neg (by decide)]
  exact if_pos hside

theorem linkIn_places (hflags : f.flags % 2 = 0) : linkIn 0 f s = ((s.placed f).coxKnown f).takeOwners f := by
  have hfrom := linkFromPeer_places hr hdn hl h2 hagree h1 hpv hcox hrole hpos hid
  have hplace : (((s.placed f).coxKnown f).takeOwners f).seatPlace = (s.placed f).seatPlace :=
    (State.takeOwners_link _ f).1.trans (State.coxPath_seatPlace _ _)
  have hrun : (((s.placed f).coxKnown f).takeOwners f).oblRun 0 = false := by
    have hports : (((s.placed f).coxKnown f).takeOwners f).oblPort 0 = (s.placed f).oblPort 0 :=
      congrArg (fun r : List OblPort × Nat × Bool => r.1.getD 0 {}) hplace
    unfold State.oblRun
    rw [hports, (State.placed_port f hl).1]
    rfl
  have hhear : ∀ p i, (((s.placed f).coxKnown f).takeOwners f).oblHear 0 p i = ((s.placed f).coxKnown f).takeOwners f :=
    fun p i => if_pos (by rw [hrun]; rfl)
  have hfar : s.farSide = 1 := by
    unfold State.farSide State.coxSide
    rw [hdn]
    rfl
  unfold linkIn
  simp [h2, hflags, hfar, hfrom, hhear]
end

/-- The state that a Seat has once it is placed. -/
theorem State.placed_known (f : OblFrame) (h : 0 < s.obl.ports.length) :
    ((((s.placed f).coxKnown f).takeOwners f).oblPort 0).state = 3 ∧ (((s.placed f).coxKnown f).takeOwners f).obl.pos = 1
      ∧ (((s.placed f).coxKnown f).takeOwners f).obl.posValid = true
      ∧ (((s.placed f).coxKnown f).takeOwners f).obl.coxId = (linkInfo f).cox
      ∧ (((s.placed f).coxKnown f).takeOwners f).oblPort 1 = s.oblPort 1 := by
  have hplace : (((s.placed f).coxKnown f).takeOwners f).seatPlace = (s.placed f).seatPlace :=
    (State.takeOwners_link _ f).1.trans (State.coxPath_seatPlace _ _)
  have hport : ∀ j, (((s.placed f).coxKnown f).takeOwners f).oblPort j = (s.placed f).oblPort j := fun j =>
    congrArg (fun r : List OblPort × Nat × Bool => r.1.getD j {}) hplace
  obtain ⟨hstate, hother⟩ := State.placed_port f h
  rw [hport, hport]
  exact ⟨hstate, congrArg (fun r => r.2.1) hplace, congrArg (fun r => r.2.2) hplace, (State.takeOwners_link _ f).2, hother⟩

/-! ## DELAY exchanges (R610) -/

theorem delayIn_answers (h4 : (s.oblPort q).state = 4) (hflags : f.flags % 2 = 0) : delayIn q f s
    = s.oblSend q 3 1 f.index 0 (beBytes 8 (s.oblRx q) ++ beBytes 8 (s.oblTx q)) := by
  unfold delayIn
  simp [h4, hflags]

/-- The hop delay of an exchange: asked at `t1`, and answered by frame `f` now. -/
def State.hopDelay (s : State) (q t1 : Nat) (f : OblFrame) : Int :=
  (((s.oblRx q : Int) - t1) - ((beAt f.payload 8 8 : Int) - beAt f.payload 0 8)) * 500

theorem delayIn_measures {t1 : Nat} (h4 : (s.oblPort q).state = 4) (hflags : f.flags % 2 = 1)
    (hasked : (s.oblPort q).asked = some (f.index, t1)) : delayIn q f s
    = s.onObl q fun p => { p with asked := none, delays := (s.hopDelay q t1 f :: (s.oblPort q).delays).take 16 } := by
  unfold delayIn
  simp [h4, hflags, hasked, State.hopDelay]

/-! ## SYNC frames (R611, R612) -/

theorem sameButEntries.obl_eq (h : sameButEntries s t) : t.obl = s.obl := by
  obtain ⟨_, _, _, rfl⟩ := h
  rfl

theorem stepDone_obl (old : Nat) (s : State) : (stepDone old s).obl = s.obl := by
  unfold stepDone slReevaluate
  dsimp only
  refine (sameButEntries_slEvaluate _ _).obl_eq.trans ?_
  split
  · rfl
  · rfl

theorem stepBy_obl (d : Int) (s : State) : (stepBy d s).obl = s.obl := stepDone_obl _ _

theorem syncGrid_obl (f : OblFrame) (tb : Int) (s : State) :
    ∃ h, (syncGrid f tb s).obl = { s.obl with hopErr := h } := by
  unfold syncGrid
  dsimp only
  split
  · exact ⟨_, rfl⟩
  · exact ⟨_, rfl⟩

theorem syncTime_coxRate (f : OblFrame) (tb : Int) (s : State) : (syncTime f tb s).obl.coxRate = s.obl.coxRate := by
  unfold syncTime
  extract_lets tick b20 size epoch goal off x s1
  split_ifs
  · rfl
  · rw [stepBy_obl]
  · rw [stepBy_obl]
  · rw [stepBy_obl]
  · rw [stepBy_obl]
  · rfl

/-- The first SYNC with valid time. -/
theorem syncTime_first (tb : Int) (hseen : s.obl.syncSeen = false) (hvalid : (beAt f.payload 20 1).testBit 3 = true) :
    (syncTime f tb s).obl.syncSeen = true ∧ (syncTime f tb s).obl.coxEpoch = beAt f.payload 20 1 / 16 := by
  unfold syncTime
  simp only [hvalid, hseen]
  rw [if_neg (by decide), if_pos (by decide), stepBy_obl]
  exact ⟨rfl, rfl⟩

theorem State.coxRates_sync (s : State) (rate : Nat) (s16 : Bool) :
    (s.coxRates rate s16).obl.coxRate = rate ∧ (s.coxRates rate s16).obl.syncSeen = s.obl.syncSeen
      ∧ (s.coxRates rate s16).replyPath = s.replyPath ∧ (s.coxRates rate s16).pmu = s.pmu
      ∧ (s.coxRates rate s16).reg Reg.OBL_CFG = s.reg Reg.OBL_CFG := by
  unfold State.coxRates
  extract_lets bad _ s1
  split
  · exact ⟨rfl, rfl, rfl, rfl, (State.reg_flag (s := s1) ..).trans (if_neg (by decide))⟩
  · exact ⟨rfl, rfl, rfl, rfl, rfl⟩

/-- A SYNC frame with a delay added to its CORR. -/
def OblFrame.corrected (f : OblFrame) (add : Int) : OblFrame :=
  { f with payload := f.payload.take 40 ++ beBytes 4 (unsgn 32 ((beAt f.payload 40 4 : Int) + add)) ++ f.payload.drop 44 }

/-- The Seat once SYNC has been passed on, and its rates are taken. -/
def State.synced (s : State) (q : Nat) (f : OblFrame) : State :=
  (if s.oblRun s.farSide then s.oblForward s.farSide (OblFrame.corrected f (s.oblApplied q)) else s).coxRates
    (beAt f.payload 20 1 % 8) (beAt f.payload 21 1 / 128 = 1)

theorem State.synced_kept (s : State) (q : Nat) (f : OblFrame) :
    (s.synced q f).obl.coxRate = beAt f.payload 20 1 % 8 ∧ (s.synced q f).obl.syncSeen = s.obl.syncSeen
      ∧ (s.synced q f).timeFollow = s.timeFollow := by
  let s1 := if s.oblRun s.farSide then s.oblForward s.farSide (OblFrame.corrected f (s.oblApplied q)) else s
  have h1 : s1.obl.syncSeen = s.obl.syncSeen ∧ s1.replyPath = s.replyPath ∧ s1.pmu = s.pmu
      ∧ s1.reg Reg.OBL_CFG = s.reg Reg.OBL_CFG := by
    unfold s1
    split
    · unfold State.oblForward
      refine ⟨?_, State.oblPut_replyPath .., ?_, ?_⟩
      · rw [State.oblPut_eq]
      · rw [State.oblPut_eq]
      · rw [State.oblPut_eq]
        rfl
    · exact ⟨rfl, rfl, rfl, rfl⟩
  obtain ⟨hseen, hpath, hpmu, hcfg⟩ := h1
  obtain ⟨hrate, hseen', hpath', hpmu', hcfg'⟩ := s1.coxRates_sync (beAt f.payload 20 1 % 8) (beAt f.payload 21 1 / 128 = 1)
  refine ⟨hrate, hseen'.trans hseen, ?_⟩
  have hrole : (s.synced q f).role = s.role := role_of_pmu (hpmu'.trans hpmu)
  have hbit : (s.synced q f).bit Reg.OBL_CFG 2 = s.bit Reg.OBL_CFG 2 := congrArg (fun w => bitOf w 2) (hcfg'.trans hcfg)
  have hrun : (s.synced q f).oblRun (s.synced q f).coxSide = s.oblRun s.coxSide :=
    oblRun_coxSide_of_replyPath (hpath'.trans hpath)
  unfold State.timeFollow
  rw [hrole, hbit, hrun]

/-- What SYNC leaves of the Seat where it does not follow Cox time, and where it does. -/
theorem syncIn_cases (hr : s.role = 2) (hside : q = s.coxSide) (hrun : s.oblRun q = true) :
    (s.timeFollow = false → syncIn q f s = s.synced q f)
      ∧ (s.timeFollow = true → ∃ tb phase move ds, syncIn q f s
        = { syncTime f tb (syncGrid f tb { s.synced q f with obl := { (s.synced q f).obl with frozen := false } }) with
            tdm := ds, obl := { (syncTime f tb (syncGrid f tb
              { s.synced q f with obl := { (s.synced q f).obl with frozen := false } })).obl with
              coxPhase := phase, move := move } }) := by
  have hgo : ¬ (decide (s.role ≠ 2) || decide (q ≠ s.coxSide) || !(s.oblRun q)) = true := by simp [hr, hside, hside ▸ hrun]
  have hfollow := (s.synced_kept q f).2.2
  refine ⟨fun h => ?_, fun h => ?_⟩
  · refine (if_neg hgo).trans (if_pos ?_)
    show (!(s.synced q f).timeFollow) = true
    rw [hfollow, h]
    rfl
  · refine ⟨_, _, _, _, (if_neg hgo).trans (if_neg ?_)⟩
    show ¬ (!(s.synced q f).timeFollow) = true
    rw [hfollow, h]
    exact Bool.false_ne_true

theorem syncIn_follows (hr : s.role = 2) (hside : q = s.coxSide) (hrun : s.oblRun q = true) :
    (syncIn q f s).obl.coxRate = beAt f.payload 20 1 % 8
      ∧ (s.bit Reg.OBL_CFG 2 = true → s.obl.syncSeen = false → (beAt f.payload 20 1).testBit 3 = true →
          (syncIn q f s).obl.syncSeen = true ∧ (syncIn q f s).obl.coxEpoch = beAt f.payload 20 1 / 16) := by
  obtain ⟨hrate, hseen, -⟩ := s.synced_kept q f
  obtain ⟨hwithout, hwith⟩ := syncIn_cases (f := f) hr hside hrun
  have hfollow : s.timeFollow = s.bit Reg.OBL_CFG 2 := by
    unfold State.timeFollow
    rw [← hside, hrun, hr]
    simp
  cases hon : s.timeFollow with
  | false =>
    rw [hwithout hon]
    exact ⟨hrate, fun hbit => absurd ((hfollow.symm.trans hon).symm.trans hbit) Bool.false_ne_true⟩
  | true =>
    obtain ⟨tb, phase, move, ds, hsync⟩ := hwith hon
    obtain ⟨e, hgrid⟩ := syncGrid_obl f tb { s.synced q f with obl := { (s.synced q f).obl with frozen := false } }
    rw [hsync]
    refine ⟨?_, fun _ hnew hvalid => ?_⟩
    · refine (syncTime_coxRate ..).trans ?_
      rw [hgrid]
      exact hrate
    · refine syncTime_first tb ?_ hvalid
      rw [hgrid]
      exact hseen.trans hnew

/-! ## LANE frames (R617, R618) -/

/-- What a LANE frame of one lane brings. -/
def State.laneEntry (s : State) (f : OblFrame) : LaneIn :=
  let bs := slice f.payload 0 (21 * s.strokeGroups + 4)
  { stroke := f.stroke, groups := groupsAt bs 0 s.strokeGroups, pair := f.flags.testBit 2,
    good := crc32c (bs.take (21 * s.strokeGroups)) = beAt bs (21 * s.strokeGroups) 4 }

/-- The lane's entry waits for the Catch. -/
def State.laneTaken (s : State) (f : OblFrame) : State :=
  { s with obl := { s.obl with lanes := tset s.obl.lanes (2 * f.index + f.stroke % 2) (s.laneEntry f) } }

/-- A LANE frame of one lane, of the lane's owner. -/
theorem laneIn_one (hrun : s.oblRun q = true) (hno : s.obl.conflict = false) (hr : s.role ≠ 0) (horigin : f.origin ≠ s.oblPos)
    (hone : f.flags % 4 = 1) (howner : tget s.obl.owners f.index = some f.origin) :
    ∃ e, tget (laneIn q f s).obl.lanes (2 * f.index + f.stroke % 2) = some e ∧ e.stroke = f.stroke
      ∧ e.groups = groupsAt (slice f.payload 0 (21 * s.strokeGroups + 4)) 0 s.strokeGroups := by
  have hin : laneIn q f s = s.laneTaken f ∨ laneIn q f s = (s.laneTaken f).oblForward (1 - q) f := by
    have hgo : ¬ (!(s.oblRun q) || s.obl.conflict || decide (s.role = 0) || decide (f.origin = s.oblPos)) = true := by
      simp [hrun, hno, hr, horigin]
    have hsize : ¬ (s.s16 && decide (f.flags % 4 ≠ 1)) = true := by simp [hone]
    unfold laneIn
    rw [if_neg hgo]
    extract_lets g size n lanes _ s1 through
    rw [if_neg hsize]
    have hone' : lanes = tset s.obl.lanes (2 * f.index + f.stroke % 2) (s.laneEntry f) := by
      unfold lanes n
      rw [hone, List.range_one, List.foldl_cons, List.foldl_nil]
      dsimp only
      rw [Nat.zero_mul, if_neg (by simp [howner])]
      rfl
    have hs1 : s1 = s.laneTaken f := by
      unfold s1
      rw [hone']
      rfl
    rw [hs1]
    split
    · exact .inr rfl
    · exact .inl rfl
  have hlanes : (laneIn q f s).obl.lanes = (s.laneTaken f).obl.lanes := by
    obtain h | h := hin
    · rw [h]
    · rw [h, State.oblForward, State.oblPut_eq]
  refine ⟨s.laneEntry f, ?_, rfl, rfl⟩
  rw [hlanes]
  exact tget_tset_self ..

/-! ## Relay frames (R562, R619) -/

/-- A total that is put has its stroke and its count. -/
theorem State.putTotal_total (s : State) (b h stroke : Nat) (sums : List Int) (n : Nat) (mask : BitVec 8) :
    ∃ x, tget (s.putTotal b h stroke sums n mask).obl.totals b = some x ∧ x.stroke = stroke ∧ x.n = n := by
  refine ⟨_, tget_tset_self .., ?_, rfl⟩
  dsimp only
  split
  · split
    next h => exact h
    next => rfl
  · rfl

/-- What a relay frame brings. -/
def relayOf (f : OblFrame) : RelaySum :=
  { stroke := f.stroke, sums := (List.range 8).map (sum48 f.payload), n := beAt f.payload 48 3,
    mask := BitVec.ofNat 8 (beAt f.payload 51 1) }

/-- The place of a relay frame of port `q` among those that the Cox gathers. -/
def relayKey (q : Nat) (f : OblFrame) : Nat := 1024 * q + 2 * f.index + f.flags % 2

/-- The Cox has a relay frame of port `q`. -/
def State.gathered (s : State) (q : Nat) (f : OblFrame) : State :=
  { s with obl := { s.obl with gather := tset s.obl.gather (relayKey q f) (relayOf f) } }

theorem relayUpIn_gathers (hrun : s.oblRun q = true) (hno : s.obl.conflict = false) (hr : s.role = 1)
    (hstroke : f.stroke = s.relayStroke) (harm : s.isArm q = true) (hbus : s.isCascade f.index = true) :
    relayUpIn q f s = coxTotal f.index (f.flags % 2) (s.gathered q f) := by
  unfold relayUpIn
  rw [hrun, hno, if_neg (by simp [hstroke]), if_pos hr, harm, hbus]
  rfl

theorem coxTotal_oneArm (harms : [0, 1].filter s.isArm = [q])
    (hg : tget s.obl.gather (relayKey q f) = some (relayOf f)) (hstroke : f.stroke = s.relayStroke) :
    ∃ u sums mask, coxTotal f.index (f.flags % 2) s = State.putTotal u f.index (f.flags % 2) s.relayStroke sums
      ((s.ownPartial f.index (f.flags % 2)).2.1 + beAt f.payload 48 3) mask := by
  have hkey : tget s.obl.gather (1024 * q + 2 * f.index + f.flags % 2) = some (relayOf f) := hg
  have hall : decide ((relayOf f).stroke = s.relayStroke) = true := decide_eq_true hstroke
  unfold coxTotal
  simp only [harms, List.all_cons, List.all_nil, List.foldl_cons, List.foldl_nil, hkey, hall]
  exact ⟨_, _, _, rfl⟩

/-- A RELAY_UP frame at a Cox with one arm makes the total. -/
theorem relayUpIn_totals (hq : q < 2) (hrun : s.oblRun q = true) (hno : s.obl.conflict = false) (hr : s.role = 1)
    (hstroke : f.stroke = s.relayStroke) (harm : s.isArm q = true) (hother : s.isArm (1 - q) = false)
    (hbus : s.isCascade f.index = true) :
    ∃ x, tget (relayUpIn q f s).obl.totals f.index = some x ∧ x.stroke = f.stroke
      ∧ x.n = (s.ownPartial f.index (f.flags % 2)).2.1 + beAt f.payload 48 3 := by
  have harms : [0, 1].filter (s.gathered q f).isArm = [q] := by
    rw [show (s.gathered q f).isArm = s.isArm from rfl]
    obtain rfl | rfl : q = 0 ∨ q = 1 := by omega
    · simp [harm, show s.isArm 1 = false from hother]
    · simp [harm, show s.isArm 0 = false from hother]
  obtain ⟨u, sums, mask, htotal⟩ := coxTotal_oneArm (f := f) harms (tget_tset_self ..) hstroke
  rw [relayUpIn_gathers hrun hno hr hstroke harm hbus, htotal, hstroke]
  exact State.putTotal_total ..

/-- A RELAY_DN frame gives a Seat the total. -/
theorem relayDnIn_totals (hrun : s.oblRun q = true) (hno : s.obl.conflict = false) (hr : s.role = 2) (hside : q = s.coxSide) :
    ∃ x, tget (relayDnIn q f s).obl.totals f.index = some x ∧ x.stroke = f.stroke ∧ x.n = beAt f.payload 48 3 := by
  let u := s.putTotal f.index (f.flags % 2) f.stroke ((List.range 8).map (sum48 f.payload)) (beAt f.payload 48 3)
    (BitVec.ofNat 8 (beAt f.payload 51 1))
  have hgo : ¬ (decide (s.role ≠ 2) || decide (q ≠ s.coxSide) || !(s.oblRun q) || s.obl.conflict) = true := by
    simp [hr, hside, hside ▸ hrun, hno]
  have htotals : (relayDnIn q f s).obl.totals = u.obl.totals := by
    unfold relayDnIn
    rw [if_neg hgo]
    dsimp only
    split
    · rw [State.oblForward, State.oblPut_eq]
    · rfl
  rw [htotals]
  exact State.putTotal_total ..

end Sys2Proof.Machine
end

section
/-! SUPPORT. The rows of Obien frames. -/
namespace Sys2Proof.Machine

variable {s t : State} {q dt : Nat} {bs : List Byte} {f : OblFrame}

/-! ## With a near-end loopback (R663) -/
section
variable (hr : s.role ≠ 0) (hq : q < 2) (h2 : 2 ≤ (s.oblPort q).state) (hloop : s.nearLoop (2 + q) = true)
include hr hq h2 hloop

theorem oblArrives_empty (h : (s.oblPort q).loop = []) : oblArrives q bs s = s :=
  (if_neg (oblPort_hears hr hq h2)).trans (oblReceive_empty hloop h _)

theorem oblArrives_returned {b : List Byte} {rest : List (List Byte)} (h : (s.oblPort q).loop = b :: rest) :
    oblArrives q bs s = oblFrameIn q b (s.onObl q fun p => { p with loop := rest }) :=
  (if_neg (oblPort_hears hr hq h2)).trans (oblReceive_returned hloop h _)

/-- Nothing was sent, so nothing is received. -/
theorem exec_loop_empty (h : (s.oblPort q).loop = []) : exec (.oblLinkFrame q bs) s = .next (settle (fresh s))
    ∧ exec (.oblDelayFrame dt q bs) s = .next (settle (s.oblLater dt)) := by
  refine ⟨congrArg (fun t => Host.Outcome.next (settle t)) (oblArrives_empty (s := fresh s) hr hq h2 hloop h),
    congrArg (fun t => Host.Outcome.next (settle t)) (oblArrives_empty (s := s.oblLater dt) ?_ hq ?_ ?_ ?_)⟩
  · rwa [State.oblLater_role]
  · rwa [State.oblLater_port]
  · rwa [nearLoop_of_tst (s.oblLater_tst dt)]
  · rwa [State.oblLater_port]
end

/-! ## Without loopbacks (R605 to R610) -/
section
variable (hr : s.role ≠ 0) (hq : q < 2) (hl : q < s.obl.ports.length) (h2 : 2 ≤ (s.oblPort q).state)
  (hpoints : ∀ i, s.tst.points.getD i 0 = 0)
include hr hq h2 hpoints

theorem exec_oblLinkFrame : exec (.oblLinkFrame q bs) s = .next (settle (oblFrameIn q bs (fresh s))) :=
  congrArg (fun t => Host.Outcome.next (settle t)) (oblArrives_plain (s := fresh s) hr hq h2 hpoints)

theorem oblArrives_later : oblArrives q bs (s.oblLater dt) = oblFrameIn q bs (s.oblLater dt) := by
  refine oblArrives_plain ?_ hq ?_ ?_
  · rwa [State.oblLater_role]
  · rwa [State.oblLater_port]
  · rwa [State.oblLater_tst]

include hl

/-- The sixteenth frame with a bad CRC. -/
theorem crc_ends (hread : readObl bs = none) (hrun : 15 ≤ (s.oblPort q).crcRun) :
    ∃ t, exec (.oblLinkFrame q bs) s = .next t ∧ (t.oblPort q).state = 1
      ∧ t.reg (Reg.OBL_DOWN_COUNT q) = w32 (satNat 0xFFFFFFFF ((s.reg (Reg.OBL_DOWN_COUNT q)).toNat + 1)) := by
  have hstate : ((fresh s).crcBad q).oblPort q = _ := State.crcBad_port (s := fresh s) hl
  obtain ⟨htrains, -, hcount, -⟩ := oblLoss_trains (s := (fresh s).crcBad q) hq ((otherObl_crcBad hq (fresh s)).1 ▸ hl)
    (by rw [hstate]; exact Nat.ne_of_gt (Nat.lt_of_lt_of_le Nat.two_pos h2)) false
  rw [State.crcBad_downCount, fresh_reg] at hcount
  refine ⟨_, exec_oblLinkFrame hr hq h2 hpoints, ?_⟩
  rw [oblFrameIn_crcEnds (s := fresh s) hr hq hl h2 hread hrun, settle_oblPort, settle_reg]
  exact ⟨htrains, hcount⟩

/-- A frame with a bad CRC before it. -/
theorem crc_counts (hread : readObl bs = none) (hrun : (s.oblPort q).crcRun < 15) :
    ∃ t, exec (.oblLinkFrame q bs) s = .next t ∧ (t.oblPort q).crcRun = (s.oblPort q).crcRun + 1
      ∧ (t.oblPort q).state = (s.oblPort q).state ∧ t.oblPort (1 - q) = s.oblPort (1 - q) := by
  refine ⟨_, exec_oblLinkFrame hr hq h2 hpoints, ?_⟩
  rw [oblFrameIn_crcRun (s := fresh s) hr hq hl h2 hread hrun, settle_oblPort, settle_oblPort,
    State.crcBad_port (s := fresh s) hl]
  exact ⟨rfl, rfl, (otherObl_crcBad hq (fresh s)).2⟩

variable (hread : readObl bs = some f)
include hread

theorem fields_count (hok : oblFieldsOk f = false) : ∃ t, exec (.oblLinkFrame q bs) s = .next t
    ∧ t.reg Reg.OBL_BAD = w32 (satNat 0xFFFFFFFF ((s.reg Reg.OBL_BAD).toNat + 1)) ∧ (t.oblPort q).crcRun = 0 := by
  refine ⟨_, exec_oblLinkFrame hr hq h2 hpoints, ?_⟩
  rw [oblFrameIn_bad (s := fresh s) hr hq h2 hread hok, settle_oblPort, settle_reg]
  exact ⟨State.reg_setReg_self .., congrArg OblPort.crcRun (State.crcGood_port (s := fresh s) hl)⟩

variable (hok : oblFieldsOk f = true)
include hok

/-- A LINK frame of the Cox that places a Seat. -/
theorem link_places (htyp : f.typ = 2) (hflags : f.flags % 2 = 0) (hq0 : q = 0) (hrole : s.role = 2) (hdn : s.obl.coxDn = false)
    (hstate : (s.oblPort 0).state = 2) (hagree : (s.oblPort 0).agree = 3) (hoff : (s.oblPort 1).state = 0)
    (hpv : s.obl.posValid = false) (hcox : (linkInfo f).role = 1) (hsame : (linkInfo f).role = (s.oblPort 0).peer.role)
    (hpos : (linkInfo f).pos = (s.oblPort 0).peer.pos) (hid : (linkInfo f).cox = (s.oblPort 0).peer.cox) :
    ∃ t, exec (.oblLinkFrame q bs) s = .next t ∧ (t.oblPort 0).state = 3 ∧ t.obl.pos = 1 ∧ t.obl.posValid = true
      ∧ t.obl.coxId = (linkInfo f).cox ∧ t.oblPort 1 = s.oblPort 1 := by
  subst hq0
  let u := (fresh s).crcGood 0
  have hport : u.oblPort 0 = { s.oblPort 0 with crcRun := 0 } := State.crcGood_port (s := fresh s) hl
  have hother : u.oblPort 1 = s.oblPort 1 := State.oblPort_onObl_ne (fresh s) _ (by decide)
  have hlu : 0 < u.obl.ports.length := ((fresh s).onObl_length 0 _).symm ▸ hl
  have hin := linkIn_places (s := u) hrole hdn hlu (by rw [hport]; exact hstate) (by rw [hport]; exact hagree)
    (by rw [hother]; exact hoff) hpv hcox (by rw [hport]; exact hsame) (by rw [hport]; exact hpos) (by rw [hport]; exact hid) hflags
  obtain ⟨h3, hplaced, hvalid, hknown, hkept⟩ := State.placed_known f hlu
  refine ⟨_, exec_oblLinkFrame hr hq h2 hpoints, ?_⟩
  rw [oblFrameIn_link (s := fresh s) hr hq h2 hread hok htyp, hin, settle_oblPort, settle_oblPort, settle_obl]
  exact ⟨h3, hplaced, hvalid, hknown, hkept.trans hother⟩

variable (htyp : f.typ = 3) (h4 : (s.oblPort q).state = 4)
include htyp h4

omit hl h4 in
theorem exec_oblDelayFrame : exec (.oblDelayFrame dt q bs) s = .next (settle (delayIn q f ((s.oblLater dt).crcGood q))) := by
  refine congrArg (fun t => Host.Outcome.next (settle t)) ((oblArrives_later hr hq h2 hpoints).trans ?_)
  refine oblFrameIn_delay ?_ hq ?_ hread hok htyp
  · rwa [State.oblLater_role]
  · rwa [State.oblLater_port]

omit hread hok htyp hr hq h2 hpoints h4 in
theorem State.oblLater_heard : ((s.oblLater dt).crcGood q).oblPort q = { s.oblPort q with crcRun := 0 } := by
  rw [State.crcGood_port (by rw [State.oblLater_obl]; exact hl), State.oblLater_port]

/-- A DELAY request is answered. -/
theorem delay_answered (hflags : f.flags % 2 = 0) : ∃ t b, exec (.oblDelayFrame dt q bs) s = .next t
    ∧ t.obl.sent = [(q, b)] ∧ (t.oblPort q).delays = (s.oblPort q).delays := by
  let u := (s.oblLater dt).crcGood q
  have hheard : u.oblPort q = _ := State.oblLater_heard hl
  obtain ⟨b, hb⟩ := u.oblSend_put q 3 1 f.index 0 (beBytes 8 (u.oblRx q) ++ beBytes 8 (u.oblTx q))
  obtain ⟨l, hport⟩ := u.oblPut_port q b q
  refine ⟨_, b, exec_oblDelayFrame hr hq h2 hpoints hread hok htyp, ?_⟩
  rw [delayIn_answers (by rw [hheard]; exact h4) hflags, hb, settle_obl, settle_oblPort, State.oblPut_sent, hport, hheard]
  refine ⟨?_, rfl⟩
  rw [show u.obl.sent = (s.oblLater dt).obl.sent from rfl, State.oblLater_obl]
  rfl

/-- A DELAY response gives the hop delay. -/
theorem delay_measured {t1 : Nat} (hflags : f.flags % 2 = 1) (hasked : (s.oblPort q).asked = some (f.index, t1)) :
    ∃ t d, exec (.oblDelayFrame dt q bs) s = .next t ∧ (t.oblPort q).asked = none
      ∧ (t.oblPort q).delays = (d :: (s.oblPort q).delays).take 16 ∧ d = (s.oblLater dt).hopDelay q t1 f := by
  let u := (s.oblLater dt).crcGood q
  have hheard : u.oblPort q = _ := State.oblLater_heard hl
  have hlu : q < u.obl.ports.length := by
    rw [show u.obl.ports.length = (s.oblLater dt).obl.ports.length from State.onObl_length .., State.oblLater_obl]
    exact hl
  refine ⟨_, (s.oblLater dt).hopDelay q t1 f, exec_oblDelayFrame hr hq h2 hpoints hread hok htyp, ?_⟩
  rw [delayIn_measures (by rw [hheard]; exact h4) hflags (by rw [hheard]; exact hasked), settle_oblPort,
    State.oblPort_onObl_self _ hlu, hheard]
  exact ⟨rfl, rfl, rfl⟩
end

/-! ## Time and audio on a port in RUN (R607, R611 to R619) -/
section
variable (hq : q < 2) (hl : q < s.obl.ports.length) (h4 : (s.oblPort q).state = 4) (hread : readObl bs = some f)
  (hok : oblFieldsOk f = true) (hno : s.obl.conflict = false) (hpoints : ∀ i, s.tst.points.getD i 0 = 0)
include hq hl h4 hread hok hpoints

/-- SYNC from the Cox side. -/
theorem sync_followed (htyp : f.typ = 1) (hr : s.role = 2) (hside : q = s.coxSide) :
    ∃ t, exec (.oblSyncReceived dt q bs) s = .next t ∧ t.obl.coxRate = beAt f.payload 20 1 % 8
      ∧ (s.bit Reg.OBL_CFG 2 = true → s.obl.syncSeen = false → (beAt f.payload 20 1).testBit 3 = true →
          t.obl.syncSeen = true ∧ t.obl.coxEpoch = beAt f.payload 20 1 / 16) := by
  let v := s.oblLater dt
  have hlv : q < v.obl.ports.length := by
    rw [State.oblLater_obl]
    exact hl
  have h4v : (v.oblPort q).state = 4 := by rwa [State.oblLater_port]
  have hrv : v.role = 2 := (s.oblLater_role dt).trans hr
  have hsidev : q = (v.crcGood q).coxSide := by
    rw [show (v.crcGood q).coxSide = if v.obl.coxDn then 1 else 0 from rfl, State.oblLater_obl]
    exact hside
  have hframe : oblFrameIn q bs v = syncIn q f (v.crcGood q) :=
    oblFrameIn_sync (by omega) hq (by omega) hread hok htyp
  have hcfg : (v.crcGood q).bit Reg.OBL_CFG 2 = s.bit Reg.OBL_CFG 2 :=
    congrArg (fun w => bitOf w 2) ((fresh s).advance_reg dt (by decide) (by decide) (by decide))
  have hseen : (v.crcGood q).obl.syncSeen = s.obl.syncSeen := by
    rw [show (v.crcGood q).obl.syncSeen = (s.oblLater dt).obl.syncSeen from rfl, State.oblLater_obl]
    rfl
  obtain ⟨hrate, hfirst⟩ := syncIn_follows (f := f) (s := v.crcGood q) hrv hsidev (State.crcGood_run hlv h4v)
  rw [hcfg, hseen] at hfirst
  refine ⟨_, congrArg (fun t => Host.Outcome.next (settle t))
    ((oblArrives_later (by omega) hq (by omega) hpoints).trans hframe), ?_⟩
  rw [settle_obl]
  exact ⟨hrate, hfirst⟩

include hno

/-- A LANE frame of the lane's owner. -/
theorem lane_waits (htyp : f.typ = 4) (hr : s.role ≠ 0) (horigin : f.origin ≠ s.oblPos) (hone : f.flags % 4 = 1)
    (howner : tget s.obl.owners f.index = some f.origin) :
    ∃ t e, exec (.oblLaneFrame q bs) s = .next t ∧ tget t.obl.lanes (2 * f.index + f.stroke % 2) = some e
      ∧ e.stroke = f.stroke ∧ e.groups = groupsAt (slice f.payload 0 (21 * s.strokeGroups + 4)) 0 s.strokeGroups := by
  have h2 : 2 ≤ (s.oblPort q).state := by omega
  obtain ⟨e, hlane⟩ := laneIn_one (s := (fresh s).crcGood q) (State.crcGood_run (s := fresh s) hl h4) hno hr horigin hone howner
  refine ⟨_, e, congrArg (fun t => Host.Outcome.next (settle t)) ((oblArrives_plain (s := fresh s) hr hq h2 hpoints).trans
    (oblFrameIn_lane (s := fresh s) hr hq h2 hread hok htyp)), ?_⟩
  rw [settle_obl]
  exact hlane

omit hread hok hno hpoints hq in
theorem State.crcGood_isArm (j : Nat) : ((fresh s).crcGood q).isArm j = s.isArm j := by
  have hport : ∀ i, (((fresh s).crcGood q).oblPort i).state = (s.oblPort i).state
      ∧ (((fresh s).crcGood q).oblPort i).reach = (s.oblPort i).reach := fun i => by
    by_cases hi : i = q
    · subst hi
      rw [State.crcGood_port (s := fresh s) hl]
      exact ⟨rfl, rfl⟩
    · rw [show ((fresh s).crcGood q).oblPort i = s.oblPort i from State.oblPort_onObl_ne (fresh s) _ hi]
      exact ⟨rfl, rfl⟩
  unfold State.isArm State.oblRun
  rw [(hport j).1, (hport 0).2, (hport 1).2]

/-- A RELAY_UP frame at a Cox with this arm alone. -/
theorem relayUp_totals (htyp : f.typ = 5) (hr : s.role = 1) (hstroke : f.stroke = s.relayStroke) (harm : s.isArm q = true)
    (hother : s.isArm (1 - q) = false) (hbus : s.isCascade f.index = true) :
    ∃ t x, exec (.oblRelayUp q bs) s = .next t ∧ tget t.obl.totals f.index = some x ∧ x.stroke = f.stroke
      ∧ x.n = (s.ownPartial f.index (f.flags % 2)).2.1 + beAt f.payload 48 3 := by
  have h2 : 2 ≤ (s.oblPort q).state := by omega
  have hr0 : s.role ≠ 0 := by omega
  obtain ⟨x, htotal⟩ := relayUpIn_totals (s := (fresh s).crcGood q) hq (State.crcGood_run (s := fresh s) hl h4) hno hr hstroke
    (by rwa [State.crcGood_isArm hl h4]) (by rwa [State.crcGood_isArm hl h4]) hbus
  refine ⟨_, x, congrArg (fun t => Host.Outcome.next (settle t)) ((oblArrives_plain (s := fresh s) hr0 hq h2 hpoints).trans
    (oblFrameIn_relayUp (s := fresh s) hr0 hq h2 hread hok htyp)), ?_⟩
  rw [settle_obl]
  exact htotal

/-- A RELAY_DN frame on a Seat's Cox side. -/
theorem relayDn_totals (htyp : f.typ = 6) (hr : s.role = 2) (hside : q = s.coxSide) :
    ∃ t x, exec (.oblRelayDn q bs) s = .next t ∧ tget t.obl.totals f.index = some x ∧ x.stroke = f.stroke
      ∧ x.n = beAt f.payload 48 3 := by
  have h2 : 2 ≤ (s.oblPort q).state := by omega
  have hr0 : s.role ≠ 0 := by omega
  obtain ⟨x, htotal⟩ := relayDnIn_totals (f := f) (s := (fresh s).crcGood q) (State.crcGood_run (s := fresh s) hl h4) hno hr hside
  refine ⟨_, x, congrArg (fun t => Host.Outcome.next (settle t)) ((oblArrives_plain (s := fresh s) hr0 hq h2 hpoints).trans
    (oblFrameIn_relayDn (s := fresh s) hr0 hq h2 hread hok htyp)), ?_⟩
  rw [settle_obl]
  exact htotal
end

end Sys2Proof.Machine
end

section
/-! The statement of the Obien frames. -/
open Sys2Proof Sys2Proof.Machine

/-- Settles O53: each frame goes through the receiver of its port to the operation that its TYPE names, and that operation's
own lemma gives what it leaves. -/
theorem oblFramesComplete : Obligations.OblFramesComplete := by
  unfold Obligations.OblFramesComplete
  refine ⟨fun dt q bs s hq hr hlen h2 => ?_, fun dt q bs f s hq hlen h4 hread hok hno hpoints => ?_⟩
  · intro u
    have hl : q < s.obl.ports.length := by omega
    refine ⟨fun hloop => ⟨exec_loop_empty hr hq h2 hloop, fun b rest h => ?_⟩, fun hpoints =>
      ⟨crc_ends hr hq hl h2 hpoints, crc_counts hr hq hl h2 hpoints, fun f hread => ⟨fields_count hr hq hl h2 hpoints hread,
        fun hok => link_places hr hq hl h2 hpoints hread hok, fun hok htyp h4 => ⟨?_, fun t1 => ?_⟩⟩⟩⟩
    · exact congrArg (fun t => Host.Outcome.next (settle t)) (oblArrives_returned (s := fresh s) hr hq h2 hloop h)
    · exact delay_answered hr hq hl h2 hpoints hread hok htyp h4
    · exact delay_measured hr hq hl h2 hpoints hread hok htyp h4
  · have hl : q < s.obl.ports.length := by omega
    exact ⟨sync_followed hq hl h4 hread hok hpoints, lane_waits hq hl h4 hread hok hno hpoints,
      relayUp_totals hq hl h4 hread hok hno hpoints, relayDn_totals hq hl h4 hread hok hno hpoints⟩
end
